-- ==== Sys2Proof/Word.lean ====
section
/-! DEFINITION. Words, bytes, postmarks and bit fields of words (R4, R35). -/

namespace Sys2Proof

/-- A register word (R4). -/
abbrev Word := BitVec 32

/-- One byte of persistent memory or of a frame. -/
abbrev Byte := BitVec 8

/-- A postmark: 44-bit cycle count above a 20-bit angle (R35). -/
abbrev Postmark := BitVec 64

/-- Bits `hi:lo` of a word, as a number. -/
def Word.bits (w : Word) (hi lo : Nat) : Nat := w.toNat / 2 ^ lo % 2 ^ (hi + 1 - lo)

/-- The word with bits `hi:lo` replaced by `v` (taken modulo the field's size). -/
def Word.setBits (w : Word) (hi lo v : Nat) : Word :=
  BitVec.ofNat 32 (w.toNat / 2 ^ (hi + 1) * 2 ^ (hi + 1) + v % 2 ^ (hi + 1 - lo) * 2 ^ lo + w.toNat % 2 ^ lo)

/-- One bit of a word. -/
def Word.bit (w : Word) (n : Nat) : Bool := w.bits n n == 1

/-- A Boolean as a one-bit number. -/
def b2n (b : Bool) : Nat := if b then 1 else 0

/-- Addition that saturates at `top`. -/
def satAdd (top a b : Nat) : Nat := min top (a + b)

end Sys2Proof
end

