-- ==== Sys2Proof/Syntax.lean ====
section
/-! DEFINITION. The commands of the block: one constructor of `Instr` for each row of spec/opcode_table.json, with the
operands that the row's rule names, and the operand types. -/

namespace Sys2Proof

/-- Roles of R7 and R478. -/
inductive Role where
  | operator | installer | maker | tenant
  deriving DecidableEq, Repr

/-- The moment of a command as the three oscillators give it (assumption log 2): TCXO time in nanoseconds, the angle
of the postmark clock within its present cycle (R35), and the prescaler count of the RTC crystal (R538). -/
structure When where
  ns : Nat
  ang : BitVec 20
  sub : BitVec 15
  deriving DecidableEq, Repr

/-- The party behind a Counter access: its session's role, pigeonhole and session number (R478). -/
structure Who where
  role : Role
  ph : Nat
  session : Nat
  deriving DecidableEq, Repr

/-- A scan class that has rounds (R102), and class E, which has none. -/
inductive Scan where
  | f | n | s | e
  deriving DecidableEq, Repr

/-- A channel entry of an Aelzon segment (R121). -/
structure ChanEntry where
  ch : Nat
  bad : Bool
  value : Word
  deriving DecidableEq, Repr

/-- An Aelzon segment as it arrives (R119, R120): its header fields, whether its check passed (R118) and its length
fits its type and entry count, and its entries. -/
structure Segment where
  typ : Nat
  idx : Nat
  total : Nat
  tag : Nat
  stat : Nat
  ver : Nat
  crcOk : Bool
  lenOk : Bool
  entries : List ChanEntry
  deriving DecidableEq, Repr

/-- What a drive's response frame on the Dexjo link holds (R254). -/
structure DriveResp where
  addr : Nat
  seq : Nat
  pos : Int
  vel : Int
  force : Int
  status : BitVec 16
  deriving DecidableEq, Repr

/-- A difference between the two pipes in one sample (R221): the section and the two results that differ. -/
structure PipeDiff where
  section_ : Nat
  resA : Word
  resB : Word
  deriving DecidableEq, Repr

/-- The referee's verdict (R223). -/
inductive Verdict where
  | pipeA | pipeB | neither | agrees
  deriving DecidableEq, Repr

/-- The two lanes (R314). -/
inductive Lane where
  | a | b
  deriving DecidableEq, Repr

/-- Failure criteria of R318, numbered as in event 16#7001. -/
inductive Criterion where
  | heartbeat | selfTest | ecc | hwWatchdog
  deriving DecidableEq, Repr

/-- The two sources of a lease reply (R336). The partner's also says whether its lane tracks and it holds its grant for a
swap, and its armed REV (R334, R341). -/
inductive LeaseFrom where
  | witness
  | partner (ready : Bool) (rev : Word)
  deriving DecidableEq, Repr

/-- A lease request (R336): its number, whether a swap runs, and the sender's armed REV (R334, R341). -/
structure LeaseRequest where
  number : Nat
  swap : Bool
  rev : Word
  deriving DecidableEq, Repr

/-- The moment at which the witness grants a block, and whether for a swap (R337, R341). -/
structure GrantCase where
  w : When
  swap : Bool
  deriving DecidableEq, Repr

/-- What has stood for 1 ms at a moment: the supply in mV, and whether an internal rail was out of its limits (R372). -/
structure SupplyFault where
  w : When
  mv : Nat
  rails : Bool
  deriving DecidableEq, Repr

/-- What the governor's part of the lane firmware's checkpoint holds of one load (R297, R304, R305): its output point, the level
last sent in percent, why it is HELD, whether a guarantee break is running, and its last switch-on and switch-off. -/
structure LoadCk where
  outpt : Nat
  level : Rat
  cause : Nat
  below : Bool
  onPm : Option Postmark
  offPm : Option Postmark
  deriving DecidableEq, Repr

/-- A cycle that a pair swap hands over (R330, R341): its task, its release postmark and SKIP, where the abandoned cycle had
begun the postmark from which its watchdog counts, and of an event task the events lost before its own and that event's
value. -/
structure Rerun where
  task : Nat
  relpm : Postmark
  skip : Bool
  first : Option Postmark
  lost : Nat
  value : Word
  deriving DecidableEq, Repr

/-- What the pair stream carries (R335): one task's checkpoint as its header names it (R393), with the counters it carries
(R168), the station-state table, the checkpoint of the lane firmware with the governor (R603, R297), or at a pair swap the
cycles that are handed over (R341). -/
inductive PairItem where
  | checkpoint (task : Nat) (seq : Nat) (area : Bool) (relpm : Postmark) (frank : Word) (data : List (Nat × Byte))
      (cyc late maxexec : Word)
  | stations (online : List Nat)
  | firmware (area : Bool) (mode cause : Nat) (restarts frank : Word) (relpm : Postmark) (gmode : Nat) (held : List LoadCk)
  | handover (again : List Rerun)
  deriving DecidableEq, Repr

/-- One cell of a Registry group (R380): its offset in the array, its byte mask and its data bytes with their place. -/
structure CellWrite where
  offset : Nat
  bytes : List (Nat × Byte)
  deriving DecidableEq, Repr

/-- Diagnostics of the safety unit (R372). -/
inductive Diag where
  | rom | ram | alu | ramEcc | paramCopy | clock
  deriving DecidableEq, Repr

/-- An error that a CAN controller detects, by the codes of R451, and whether in the data phase. -/
structure CanErr where
  code : Nat
  dataPhase : Bool
  deriving DecidableEq, Repr

/-- What becomes of the frame that a CAN controller transmits (R430, R438): its start-of-frame bit at a postmark, its end
with the transmitter delay measured in data-phase quanta, the loss of arbitration, an error. -/
inductive CanTx where
  | sof (pm : Postmark) | sent (delay : Nat) | lost | error (e : CanErr)
  deriving DecidableEq, Repr

/-- What becomes of a frame, at a port group. -/
structure CanSend where
  group : Nat
  ev : CanTx
  deriving DecidableEq, Repr

/-- A CAN frame on the bus (R430, R432): the postmark of the sample point of its start-of-frame bit, and the error that
spoils it. -/
structure CanFrame where
  pm : Postmark
  err : Option CanErr
  id : Nat
  ext : Bool
  fdf : Bool
  brs : Bool
  remote : Bool
  esi : Bool
  dlc : Nat
  data : List Byte
  deriving DecidableEq, Repr

/-- A character on RXD (R441, R443): the silence before its start bit in ns, and the middle three samples of each bit after the
start bit. -/
structure UartChar where
  gap : Nat
  bits : List (BitVec 3)
  deriving DecidableEq, Repr

/-- What the lane firmware sends on a DALI-2 bus (R445, R447, R448, R449): the output that waits longest, a refresh, a
query, another frame of the standard, which may be a send-twice pair, or a step of the address search: an address given to a
device found, or its end. -/
inductive DaliSend where
  | output | refresh | query
  | other (wide : Bool) (frame : BitVec 24) (twice : Bool)
  | assign (device : Bool) (random : BitVec 24) (short : BitVec 6)
  | searchEnd
  deriving DecidableEq, Repr

/-- A backward window of DALI-2 (R446). -/
inductive DaliWindow where
  | none | valid (data : Byte) | framing
  deriving DecidableEq, Repr

/-- A received Ethernet frame (R453, R457). -/
structure EthFrame where
  dest : List Byte
  len : Nat
  fcsOk : Bool
  tag : Option (BitVec 16)
  etherType : Nat
  udpPort : Option Nat
  pauseOp : Option (Nat × Nat)
  srcIp : Word
  data : List Byte
  deriving DecidableEq, Repr

/-- Transports of the Counter (R473): SPI, or UDP on a MAC. -/
inductive Transport where
  | spi | mac (m : Nat)
  deriving DecidableEq, Repr

/-- The fields of a Counter request frame that the checks of R488 look at (R476): version, session, sequence number,
declared and true lengths, and whether the TAG verifies (R480). -/
structure Frame where
  ver : Nat
  session : Nat
  seq : Nat
  lenOk : Bool
  tagOk : Bool
  tp : Transport
  srcIp : Word
  srcPort : Nat
  deriving DecidableEq, Repr

/-- Tamper sources of R509, by their bit. -/
inductive Tamper where
  | lid | mesh | loopA | loopB | temp | vbak | clock
  deriving DecidableEq, Repr

/-- Masters of key slots (R498). -/
inductive Master where
  | lna | lnb | ref | fab | net
  deriving DecidableEq, Repr

/-- Power domains of R11. -/
inductive Dom where
  | bak | ref | pmm | mtr | fab | cle | net | lna | lnb
  deriving DecidableEq, Repr

/-- What wakes the module from a low rung (R580). -/
inductive Wake where
  | wakePin | alarm1 | alarm2 | spi | supply
  deriving DecidableEq, Repr

/-- The outcome of a start test of the safety unit (R365, R372). -/
structure SafStart where
  testsOk : Bool
  seals : BitVec 8
  deriving DecidableEq, Repr

/-- What a lane brings back from a lane-served station (R113, R114), with the TAG under which the fabric handed the request to
the lane: the values read, the points written without complaint, an exception code with the first object of the failed
request, or that the device does not support ReadPropertyMultiple. A Modbus answer brings its 16-bit registers as they follow
on the line; the values of a COV notification belong to no request. -/
inductive LaneAnswer where
  | values (tag : Nat) (vs : List (Nat × Word))
  | registers (tag : Nat) (vs : List (Nat × List (BitVec 16)))
  | changes (vs : List (Nat × Word))
  | written (tag : Nat) (addrs : List Nat)
  | exception (tag code first : Nat)
  | noMultiple (tag : Nat)
  deriving DecidableEq, Repr

/-- The commands of the block. -/
inductive Instr where
  -- registers (R6, R7, R9)
  | loRegisterRead (w : When) (who : Who) (addr : Nat)
  | readClearAccess (w : When) (who : Who) (addr : Nat)
  | registerWrite (w : When) (who : Who) (addr : Nat) (val : Word)
  -- postmark clock
  | referenceCycle (w : When) (peakUv freqUHz : Nat) (dev : Int)
  | clockCycleBoundary (w : When)
  | pmkCfgWrite (w : When) (src : Option Who) (val : Word)
  | pmkCorSeqRead (w : When) (who : Who)
  | rtcSecondBoundary (w : When)
  -- manifest
  | manVerify (w : When) (who : Who) (slot : Nat)
  | manArm (w : When) (who : Who) (slot : Nat)
  | manArmfb (w : When) (who : Who)
  | manClear (w : When) (who : Who) (slot : Nat)
  | manSlotWrite (w : When) (who : Who) (slot offset : Nat) (data : List Word)
  | classSSwitch (w : When)
  | classWSwitch (w : When)
  | programSwitchBoundary (w : When)
  | powerupManifestCheck (w : When)
  -- rounds, stations, points
  | roundStart (w : When) (cls : Scan)
  | inputPhaseClose (w : When) (cls : Scan)
  | outputPhaseOpen (w : When) (cls : Scan)
  | roundEnd (w : When) (cls : Scan)
  | aelzonInputReceived (w : When) (station : Nat) (seg : Segment)
  | aelzonChgReceived (w : When) (station : Nat) (seg : Segment)
  | aelzonIdaReceived (w : When) (station : Nat) (seg : Segment) (ident : BitVec 128) (sfrank fwver : Word)
  | aelzonAckReceived (w : When) (station : Nat) (seg : Segment) (sfrank : Word)
  | outputAckTimeout (w : When) (station : Nat)
  | aelzonFollowSend (w : When) (station : Nat)
  | laneProtocolResponse (w : When) (station : Nat) (ans : LaneAnswer)
  | stationDisableWrite (w : When) (who : Who) (station : Nat) (dis : Bool)
  | pointWord0Read (w : When) (who : Who) (p : Nat)
  | pointValueWrite (w : When) (who : Who) (p : Nat) (val : Word)
  | pointForceWrite (w : When) (who : Who) (p : Nat) (val : Word)
  -- program
  | taskRelease (w : When) (task : Nat)
  | taskDispatch (w : When) (task : Nat)
  | taskReturn (w : When) (task : Nat) (stores : List (Nat × Byte))
  | checkpointDurable (w : When) (task : Nat)
  | eventSourceFire (w : When) (source : Nat) (value : Word)
  | taskWatchdogExpiry (w : When) (task : Nat)
  | programStop (w : When) (who : Who)
  | programHold (w : When) (who : Who)
  | programResume (w : When) (who : Who)
  | programStep (w : When) (who : Who) (task : Nat)
  | programWarm (w : When) (who : Who) (inHold : Bool)
  | programCold (w : When) (who : Who) (inHold : Bool)
  | tskDoorbellWrite (w : When) (who : Who) (val : Word)
  | rtPostmark (w : When) (task : Nat)
  | rtRelease (w : When) (task : Nat)
  | rtRtc (w : When) (task : Nat)
  | rtEvent (w : When) (task : Nat)
  | rtTrigger (w : When) (task source : Nat) (val : Word)
  | rtAxisSet (w : When) (task axis : Nat) (target vlim alim : Word) (targetPos : Int)
  | rtAxisEnable (w : When) (task axis : Nat) (on : Bool)
  | rtAxisStop (w : When) (task axis : Nat)
  | rtAxisState (w : When) (task axis : Nat)
  | rtCmpSet (w : When) (task axis cmp : Nat) (pos : Int) (dir : Nat)
  | rtMtrRead (w : When) (task group qty : Nat)
  | rtSafStatus (w : When) (task : Nat)
  | rtMbSend (w : When) (task mb : Nat) (data : List Byte)
  | rtMbRecv (w : When) (task mb : Nat)
  | rtTrend (w : When) (task rec : Nat) (data : List Byte)
  | rtLog (w : When) (task code : Nat) (w1 w2 w3 w4 : Word)
  | rtTaskinfo (w : When) (task : Nat)
  -- online change
  | ocPreparationDone (w : When)
  | baseSwitch (w : When)
  -- control engine and axes
  | linkEvent (w : When) (link : Nat)
  | dexjoResponse (w : When) (axis : Nat) (frame : List Byte) (diff : Option PipeDiff)
  | dexjoResponseMiss (w : When) (axis : Nat)
  | refereeVerdict (w : When) (axis : Nat) (v : Verdict) (y s1 s2 : Int)
  | comparatorAction (w : When) (axis cmp : Nat)
  | axisEnableTimeout (w : When) (axis : Nat)
  | orphanStop (w : When)
  | axisStoEntry (w : When) (group : Nat)
  | coeffSwapCmd (w : When) (who : Who) (axis : Nat)
  | coeffCopyCmd (w : When) (who : Who) (axis : Nat)
  | tableEntryWrite (w : When) (who : Who) (axis entry : Nat) (val : Word)
  -- metering
  | meteringCycleEnd (w : When) (currents voltages : List (List Int))
  | meterTrimWrite (w : When) (who : Who) (addr : Nat) (val : Word)
  | windowClearingRead (w : When) (who : Who) (group reg : Nat)
  | pulseEmit (w : When) (p : Nat)
  | pulseWidthEnd (w : When) (p : Nat)
  -- governor
  | governorEvaluation (w : When)
  | switchingSend (w : When) (load : Nat)
  | govModeWrite (w : When) (who : Who) (mode : Nat)
  -- lanes and Postmaster
  | heartbeatSend (w : When)
  | heartbeatTimeout (w : When) (lane : Lane) (faultNs : Nat) (faultPm : Postmark)
  | faultLineReport (w : When) (lane : Lane) (crit : Criterion) (faultNs : Nat) (faultPm : Postmark)
  | spareTestStart (w : When)
  | spareTestDone (w : When) (lane : Lane) (failing : Nat)
  | pmsHandover (w : When) (who : Who) (img : Nat)
  | handoverSwitch (w : When)
  | pmsSparetest (w : When) (who : Who)
  | pmsRecover (w : When) (who : Who)
  | pmsPairjoin (w : When) (who : Who) (peerSite peerRev : Word) (reachable framesOk peerActive : Bool)
  | pmsPairleave (w : When) (who : Who)
  | pmsPairswap (w : When) (who : Who)
  | postmasterRestart (w : When) (cause : Nat)
  | postmasterRestartDone (w : When)
  | leaseRequestSend (w : When)
  | leaseReplyReceived (w : When) (from_ : LeaseFrom) (number : Nat) (isPartner noGrant : Bool)
  | selfFence (w : When)
  | grantRequest (w : When)
  | witnessGrant (gc : GrantCase)
  | grantReceived (w : When) (block : Nat)
  | pairStreamReceive (w : When) (item : PairItem)
  | pairRejoin (w : When)
  -- safety unit
  | safetyInputFilter (w : When) (pair : Nat) (aClosed bClosed : Bool)
  | testPulseWindow (w : When) (pair : Nat) (contactB : Bool) (passed : Bool)
  | discrepancyTimerExpiry (w : When) (pair : Nat)
  | degradedTimerExpiry (w : When) (pair : Nat)
  | outputOffPulse (w : When) (o : Nat) (passed : Bool)
  | outputReadbackMismatch (w : When) (o : Nat)
  | sealSwitchChange (w : When) (sw : BitVec 8)
  | closeRunEnd (w : When) (f : Nat)
  | clearTimeExpiry (w : When) (f : Nat)
  | stogrpDelayExpiry (w : When) (f : Nat)
  | thermoMinTimeExpiry (w : When) (f : Nat)
  | safConfirmWrite (w : When) (who : Who) (val : Word)
  | confirmLockoutExpiry (w : When)
  | safClearPair (w : When) (who : Who) (pair : Nat)
  | safClearLatch (w : When) (who : Who)
  | safetyDiagnosticRun (w : When) (d : Diag) (passed : Bool)
  | safetySupplyFault (sf : SupplyFault)
  | safetyWatchdogExpiry (w : When)
  | safetyStartDone (w : When) (r : SafStart)
  -- Registry and persistent memory
  | registryGroupSubmit (w : When) (rank : Nat) (cells : List CellWrite)
  | registryGroupDurable (w : When)
  | registryApply (w : When)
  | scrubPass (w : When) (corrected : Nat) (bad : List Nat)
  | protectLevelWrite (w : When) (who : Who) (level : Nat)
  | starvationCount (w : When) (rank wait : Nat)
  | perfSnapshot (w : When) (who : Who)
  | perfSnapshotDone (w : When)
  -- field ports
  | canFrameReceived (w : When) (group : Nat) (fr : CanFrame)
  | canFrameSent (w : When) (tx : CanSend)
  | canBusOff (w : When) (group : Nat)
  | canBusoffRecovered (w : When) (group : Nat)
  | canBorecCmd (w : When) (who : Who) (group : Nat)
  | canRestrWrite (w : When) (who : Who) (group : Nat) (restr : Bool)
  | canRestrictedChange (w : When) (group : Nat)
  | uartFrameSend (w : When) (group : Nat) (echo : List Byte)
  | uartFrameReceived (w : When) (group : Nat) (chars : List UartChar)
  | daliForwardFrameSend (w : When) (group : Nat) (what : DaliSend) (collision : Bool)
  | daliBackwardWindow (w : When) (group : Nat) (r : DaliWindow)
  | daliEventFrameReceived (w : When) (group : Nat) (frame : BitVec 24)
  | daliBackoffExpiry (w : When) (group : Nat) (collision : Bool)
  | daliPowerLost (w : When) (group : Nat)
  | daliPowerRestored (w : When) (group : Nat)
  | daliCommission (w : When) (who : Who) (group : Nat) (val : Word)
  -- Ethernet and mailbags
  | ethFrameReceived (w : When) (m : Nat) (fr : EthFrame)
  | pauseExpiry (w : When) (m : Nat)
  | ethFrameTxStart (w : When) (m : Nat)
  | ethFrameTxDone (w : When) (m : Nat)
  | ethLinkChange (w : When) (m : Nat) (up : Bool) (rate : Nat)
  | mailbagTailAdvance (w : When) (mb : Nat) (descs : List (BitVec 128))
  -- Counter
  | ctrIdent (w : When) (fr : Frame)
  | ctrHello (w : When) (fr : Frame) (binding : Nat) (nonceC : BitVec 128)
  | ctrOpen (w : When) (fr : Frame)
  | ctrClose (w : When) (fr : Frame)
  | ctrRead (w : When) (fr : Frame) (addr count : Nat)
  | ctrWrite (w : When) (fr : Frame) (addr : Nat) (data : List Word)
  | ctrSpiAnswerRead (w : When)
  | ctrQueueDispatch (w : When)
  | sessionPendingTimeout (w : When) (session : Nat)
  | sessionIdleTimeout (w : When) (session : Nat)
  | authfailLockoutExpiry (w : When) (binding : Nat)
  | ctrKillWrite (w : When) (who : Who) (session : Nat)
  -- keys and life cycle
  | keyWriteCmd (w : When) (who : Who) (slot : Nat)
  | keyErase (w : When) (who : Who) (slot : Nat)
  | keyAttest (w : When) (who : Who) (slot : Nat)
  | keyRekey (w : When) (who : Who)
  | keyZeroize (w : When) (who : Who) (zmask : Nat)
  | keyLoadwinTimeout (w : When)
  | lcAdvance (w : When) (who : Who)
  | lcService (w : When) (who : Who)
  | lcField (w : When) (who : Who)
  | lcRetire (w : When) (who : Who)
  | serviceTimerExpiry (w : When)
  | tamperDetect (w : When) (src : Tamper)
  | workingKeyRequest (w : When) (m : Master) (slot ph : Nat) (integrityOk : Bool)
  | workingKeyRelease (w : When)
  -- images
  | imgVerify (w : When) (who : Who) (slot : Nat)
  | imgApply (w : When) (who : Who) (src dst : Nat)
  | deltaApplyResume (w : When)
  | imgPmswitch (w : When) (who : Who) (src : Nat)
  | imgClear (w : When) (who : Who) (slot : Nat)
  | imgRecover (w : When) (who : Who)
  | imgBoot (w : When) (who : Who) (src : Nat)
  | imgSlotWrite (w : When) (who : Who) (slot offset : Nat) (data : List Word)
  -- RTC and backup domain
  | rtcHaltSet (w : When) (who : Who)
  | rtcHaltRelease (w : When) (who : Who)
  | rtcFieldWrite (w : When) (who : Who) (addr : Nat) (val : Word)
  | rtcDisciplineWrite (w : When) (val : Nat)
  | rtcCalendarRead (w : When) (lane : Bool) (addr : Nat)
  | rtcYearRead (w : When) (lane : Bool)
  | rtcFreezeExpiry (w : When) (lane : Bool)
  | rtcAlarmWrite (w : When) (who : Who) (addr : Nat) (val : Word)
  | pwronAssertCmd (w : When) (who : Who)
  | pwronDeassertCmd (w : When) (who : Who)
  | wakeEdge (w : When)
  | bakPowerOn (w : When)
  -- recorder
  | recorderRingWrite (w : When)
  | recorderResume (w : When)
  -- power
  | vinValid (w : When) (recovStrap : Bool)
  | domainStart (w : When) (d : Dom) (cleTest : Nat)
  | domainGoodTimeout (w : When) (d : Dom)
  | domainRetry (w : When) (d : Dom)
  | pwrRungCmd (w : When) (who : Who) (rung : Nat)
  | pwrResetCmd (w : When) (who : Who)
  | descentContinue (w : When)
  | axwaitReport (w : When)
  | wakeSource (w : When) (src : Wake)
  | supplyLoss (w : When)
  | supplyLossDelayExpiry (w : When) (second : Bool)
  | postponedDescentStart (w : When)
  | supplyRestore (w : When)
  | pfailDetect (w : When) (vinMv : Nat) (byPin : Bool)
  | pfailRestart (w : When)
  | vinCollapse (w : When)
  | rstNLow (w : When)
  | rstNRelease (w : When) (recovStrap : Bool)
  | thermalWarning (w : When) (temp : Int)
  -- later rows of the table
  | referenceCycleTimeout (w : When)
  | laneBootDone (w : When) (romOk : Bool)
  | longOperationEnd (w : When)
  | zeroizeResume (w : When)
  | tamperSourceCleared (w : When) (src : Tamper)
  | leaseRequestReceived (w : When) (rq : LeaseRequest)
  | pairStreamAck (w : When) (commits : Nat)
  | epochBlockRequest (w : When)
  | epochBlockReceived (w : When) (block : Nat)
  | thermalFallBelow90 (w : When)
  deriving DecidableEq, Repr

end Sys2Proof
end

