-- ==== Sys2Proof/Machine/Tab.lean ====
section
/-! DEFINITION. Sparse tables: lists of (key, value) pairs sorted by key, with lookup, insertion and removal. The
register file, persistent memory and the per-point, per-station and per-task tables are such lists. -/

namespace Sys2Proof.Machine

/-- A sparse table. -/
abbrev Tab (α : Type) := List (Nat × α)

/-- The value under a key. -/
def Tab.get? {α : Type} : Tab α → Nat → Option α
  | [], _ => none
  | (a, v) :: t, k => if a = k then some v else Tab.get? t k

/-- The value under a key, or a default. -/
def Tab.getD {α : Type} (t : Tab α) (k : Nat) (d : α) : α := (t.get? k).getD d

/-- The table with `v` under `k`. -/
def Tab.put {α : Type} : Tab α → Nat → α → Tab α
  | [], k, v => [(k, v)]
  | (a, b) :: t, k, v => if k < a then (k, v) :: (a, b) :: t else if a = k then (k, v) :: t else (a, b) :: Tab.put t k v

/-- The table without the key. -/
def Tab.del {α : Type} (t : Tab α) (k : Nat) : Tab α := t.filter fun e => !(e.1 == k)

/-- The table with `v` under `k`, where an entry equal to what an absent key reads as is not listed. -/
def Tab.set {α : Type} [BEq α] (t : Tab α) (dflt : α) (k : Nat) (v : α) : Tab α :=
  if v == dflt then t.del k else t.put k v

/-- The table with the entry under `k` changed by `f` (from `d` where absent). -/
def Tab.upd {α : Type} (t : Tab α) (d : α) (k : Nat) (f : α → α) : Tab α := t.put k (f (t.getD k d))

/-- Canonical form: keys strictly rising and no entry equal to what an absent key reads as. -/
def Tab.wf {α : Type} [BEq α] (dflt : Nat → α) : Tab α → Bool
  | [] => true
  | [(a, v)] => !(v == dflt a)
  | (a, v) :: (b, w) :: t => !(v == dflt a) && decide (a < b) && Tab.wf dflt ((b, w) :: t)

/-- Memory of bytes whose unlisted bytes read 16#00 (R388). -/
abbrev Mem := Tab Byte

/-- The byte at an offset. -/
def Mem.byte (m : Mem) (a : Nat) : Byte := Tab.getD m a 0

/-- Writes one byte, in canonical form. -/
def Mem.setByte (m : Mem) (a : Nat) (b : Byte) : Mem := Tab.set m 0 a b

/-- `n` bytes from an offset. -/
def Mem.bytes (m : Mem) (a n : Nat) : List Byte := (List.range n).map fun i => Mem.byte m (a + i)

/-- Writes bytes from an offset on. -/
def Mem.setBytes (m : Mem) (a : Nat) : List Byte → Mem
  | [] => m
  | b :: bs => Mem.setBytes (Mem.setByte m a b) (a + 1) bs

/-- Writes a list of (offset, byte) pairs, in order. -/
def Mem.setCells (m : Mem) (cs : List (Nat × Byte)) : Mem := cs.foldl (fun m c => Mem.setByte m c.1 c.2) m

/-- The number that bytes hold, little-endian. -/
def leNat : List Byte → Nat
  | [] => 0
  | b :: bs => b.toNat + 256 * leNat bs

/-- The `n` low bytes of a number, little-endian. -/
def leBytes : Nat → Nat → List Byte
  | 0, _ => []
  | n + 1, v => BitVec.ofNat 8 v :: leBytes n (v / 256)

/-- One record of a manifest section, as bytes (R67, R68). -/
abbrev Rec := List Byte

/-- An unsigned field of a record: `n` bytes at an offset. -/
def Rec.u (r : Rec) (off n : Nat) : Nat := leNat ((r.drop off).take n)

/-- An unsigned byte, 16-bit and 32-bit field, and a 32-bit word field. -/
def Rec.u8 (r : Rec) (off : Nat) : Nat := Rec.u r off 1
def Rec.u16 (r : Rec) (off : Nat) : Nat := Rec.u r off 2
def Rec.u32 (r : Rec) (off : Nat) : Nat := Rec.u r off 4
def Rec.w (r : Rec) (off : Nat) : Word := BitVec.ofNat 32 (Rec.u r off 4)

/-- A two's complement field of `n` bytes. -/
def Rec.i (r : Rec) (off n : Nat) : Int := (BitVec.ofNat (8 * n) (Rec.u r off n)).toInt

/-- Bit `b` of the byte at an offset. -/
def Rec.bit (r : Rec) (off b : Nat) : Bool := (Rec.u r off 1) / 2 ^ b % 2 == 1

/-- Bits `hi:lo` of a number. -/
def bitsOf (v hi lo : Nat) : Nat := v / 2 ^ lo % 2 ^ (hi + 1 - lo)

/-- A record's bytes with zeros up to `size`, from (offset, width, value) fields: how a test or a witness writes one. -/
def Rec.build (size : Nat) (fs : List (Nat × Nat × Nat)) : Rec :=
  let m : Mem := fs.foldl (fun m f => Mem.setBytes m f.1 (leBytes f.2.1 f.2.2)) []
  Mem.bytes m 0 size

end Sys2Proof.Machine
end

