-- ==== Sys2Proof/Machine/Hash.lean ====
section
/-! DEFINITION. Check values: CRC-32C (R381), CRC-32 and CRC-16, and SHA-256 (FIPS 180-4, used by R66, R67). -/

namespace Sys2Proof.Machine

/-- One bit of a reflected CRC with the reversed polynomial `poly`. -/
def crcBit (poly c : Nat) : Nat := if c % 2 == 1 then Nat.xor (c / 2) poly else c / 2

/-- One byte of a reflected CRC. -/
def crcByte (poly c : Nat) (b : Byte) : Nat :=
  (List.range 8).foldl (fun c _ => crcBit poly c) (Nat.xor c b.toNat)

/-- CRC-32C of R381: polynomial 16#1EDC_6F41, reflected, initial value and final XOR 16#FFFF_FFFF. -/
def crc32c (bs : List Byte) : Nat := Nat.xor (bs.foldl (crcByte 0x82F63B78) 0xFFFFFFFF) 0xFFFFFFFF

/-- CRC-32 of IEEE 802.3: polynomial 16#04C1_1DB7, reflected, initial value and final XOR 16#FFFF_FFFF. -/
def crc32 (bs : List Byte) : Nat := Nat.xor (bs.foldl (crcByte 0xEDB88320) 0xFFFFFFFF) 0xFFFFFFFF

/-- Right rotation of a 32-bit word. -/
def rotr (n : Nat) (w : Word) : Word := w.rotateRight n

/-- The `bits`-bit number whose `k`-th power is the largest that does not exceed `v`, found from its top bit down. -/
def rootOf (k v : Nat) : Nat → Nat → Nat
  | 0, r => r
  | bits + 1, r => rootOf k v bits (if (r + 2 ^ bits) ^ k ≤ v then r + 2 ^ bits else r)

/-- The primes below 312, of which SHA-256 takes its constants: the first 64. -/
def shaPrimes : List Nat := (List.range 312).filter fun n => decide (2 ≤ n) && (List.range 16).all fun i => n ≤ i + 2 || n % (i + 2) != 0

/-- A constant of SHA-256: the first 32 bits of the fraction of the `k`-th root of a prime. -/
def shaConst (k p : Nat) : Word := BitVec.ofNat 32 (rootOf k (p * 2 ^ (32 * k)) 40 0)

/-- The round constants of SHA-256, from the cube roots. -/
def shaK : List Word := shaPrimes.map (shaConst 3)

/-- The eight working words of SHA-256. -/
structure Sha where
  a : Word
  b : Word
  c : Word
  d : Word
  e : Word
  f : Word
  g : Word
  h : Word
  deriving DecidableEq, Repr

/-- One round of SHA-256. -/
def shaRound (s : Sha) (kw : Word × Word) : Sha :=
  let t1 := s.h + (rotr 6 s.e ^^^ rotr 11 s.e ^^^ rotr 25 s.e) + ((s.e &&& s.f) ^^^ (~~~s.e &&& s.g)) + kw.1 + kw.2
  let t2 := (rotr 2 s.a ^^^ rotr 13 s.a ^^^ rotr 22 s.a) + ((s.a &&& s.b) ^^^ (s.a &&& s.c) ^^^ (s.b &&& s.c))
  ⟨t1 + t2, s.a, s.b, s.c, s.d + t1, s.e, s.f, s.g⟩

/-- A word of the message schedule from the sixteen before it (oldest first). -/
def shaNext (w : List Word) : Word :=
  let x := w.getD 1 0
  let y := w.getD 14 0
  w.getD 0 0 + (rotr 7 x ^^^ rotr 18 x ^^^ (x >>> 3)) + w.getD 9 0 + (rotr 17 y ^^^ rotr 19 y ^^^ (y >>> 10))

/-- The message schedule: `n` further words after the sixteen of the block. -/
def shaSched : Nat → List Word → List Word
  | 0, _ => []
  | n + 1, w => w.headD 0 :: shaSched n (w.tail ++ [shaNext w])

/-- A big-endian word of four bytes. -/
def beWord (bs : List Byte) : Word := BitVec.ofNat 32 (bs.foldl (fun n b => n * 256 + b.toNat) 0)

/-- One block of 64 bytes. -/
def shaBlock (s : Sha) (bs : List Byte) : Sha :=
  let w := (List.range 16).map fun i => beWord ((bs.drop (4 * i)).take 4)
  let r := (shaK.zip (shaSched 64 w)).foldl shaRound s
  ⟨s.a + r.a, s.b + r.b, s.c + r.c, s.d + r.d, s.e + r.e, s.f + r.f, s.g + r.g, s.h + r.h⟩

/-- The blocks of a padded message. -/
def shaBlocks : Nat → List Byte → Sha → Sha
  | 0, _, s => s
  | n + 1, bs, s => shaBlocks n (bs.drop 64) (shaBlock s (bs.take 64))

/-- SHA-256 of a message, as 32 bytes. -/
def sha256 (bs : List Byte) : List Byte :=
  let n := bs.length
  let pad := (119 - n % 64) % 64
  let m := bs ++ [0x80] ++ List.replicate pad 0 ++ (leBytes 8 (8 * n)).reverse
  let i := fun n => shaConst 2 (shaPrimes.getD n 0)
  let s := shaBlocks (m.length / 64) m ⟨i 0, i 1, i 2, i 3, i 4, i 5, i 6, i 7⟩
  [s.a, s.b, s.c, s.d, s.e, s.f, s.g, s.h].flatMap fun w => (leBytes 4 w.toNat).reverse

/-! ## CRC-16 of the Dexjo link (R256) -/

/-- One byte of CRC-16 with polynomial 16#1021, not reflected. -/
def crc16Byte (c : Nat) (b : Byte) : Nat :=
  (List.range 8).foldl (fun c _ => if c < 0x8000 then c * 2 else Nat.xor (c * 2 % 65536) 0x1021) (Nat.xor c (b.toNat * 256))

/-- CRC-16 with initial value 16#FFFF and no final XOR. -/
def crc16 (bs : List Byte) : Nat := bs.foldl crc16Byte 0xFFFF

/-! ## HMAC (FIPS 198-1) and HKDF (RFC 5869) with SHA-256, for R479 -/

/-- HMAC-SHA-256. -/
def hmac (key msg : List Byte) : List Byte :=
  let k := if 64 < key.length then sha256 key else key
  let k := k ++ List.replicate (64 - k.length) 0
  sha256 (k.map (fun b => b ^^^ 0x5C) ++ sha256 (k.map (fun b => b ^^^ 0x36) ++ msg))

/-- The first `n` bytes of HKDF, up to 64. -/
def hkdf (ikm salt info : List Byte) (n : Nat) : List Byte :=
  let prk := hmac salt ikm
  let t1 := hmac prk (info ++ [1])
  (t1 ++ hmac prk (t1 ++ info ++ [2])).take n

end Sys2Proof.Machine
end

