-- ==== Sys2Proof/Config.lean ====
section
/-! DEFINITION. What the spec leaves open and no command decides: constants without a body, which no proof can see
into (free values), and the cryptographic and analog functions that the spec takes from standards or from physics. -/

namespace Sys2Proof.Config

/-- A free 32-bit value: the n-th value that the spec does not state (log 5). -/
opaque freeWord : Nat → Word

/-- A free natural number, for a value that the spec does not state and that is no register word (log 5). -/
opaque freeNat : Nat → Nat

/-- The number that the snapshot of an event gives to a party or unit where the spec states no numbering (log 5): event
code and item. -/
opaque snapNum : Nat → Nat → Word

/-- The UDP port of the pair and witness service, which the spec does not number (R457). -/
opaque pairPort : Nat

/-- Whether the level of a DALI-2 arc power, where it is no REAL32, is rounded up to one (R447). -/
opaque daliUp : Nat → Bool

/-- The settling time of IEC 62386-101 before a DALI-2 frame of a priority, in ns (R445); the spec names the standard and no
value. -/
opaque daliSettle : Nat → Nat

/-- The factory Ethernet address of CTR_FACTMAC (R495): a value of each module. -/
opaque factMac : BitVec 48

/-- Whether an SLH-DSA-SHA2-192s signature verifies (R69, R514): message, signature, key words. -/
opaque sigVerifies : List Byte → List Byte → List Word → Bool

/-- The SLH-DSA-SHA2-192s signature of a message under a key (R514, R515), 16,224 bytes. -/
opaque sign : List Byte → List Word → List Byte

/-- The n-th 32 bits of the module's random source (R479, R499, R512). -/
opaque randomWord : Nat → Word

/-- The wrapped or derived form of a key under the root secret, and whether an unwrap succeeds (R497 to R500). -/
opaque unwrapOk : List Word → List Word → Bool

/-- What the postmark broadcast reads while MTR does not run, by the moment in TCXO nanoseconds (log 6). -/
opaque noPostmark : Nat → Postmark

/-- The supply voltage in mV that the site gives, by the millisecond of its measurement (log 5). -/
opaque vin : Nat → BitVec 16

/-- The Ethernet address that a station answers at, by its IPv4 address: the spec does not say how the module learns it
(log 60). -/
opaque stationMac : Word → BitVec 48

/-- The fractional resampler of a metering channel (R263, R267) is a linear filter whose coefficients the spec does not
give: by the fraction of a sample in 1/1,024, coefficient 0 to 6 of 8 (log 18). -/
opaque resampleTap : Nat → Nat → Rat

/-- What the resampler gives where it needs a sample that no command has given: the samples known to it, DELAY, and the
number of the sample (log 18). -/
opaque resample : List Int → Int → Nat → Int

/-- Bytes that the staging assist moves over the trunk for one feeder in a cycle (R403): the spec gives no size (log 55). -/
opaque stagingBytes : Nat

/-- Bytes of persistent memory's write buffer beyond one burst of 256 (R408, log 55). -/
opaque writeBuffer : Nat

/-- Where a slot of a record that the module keeps lies in its region, and its bytes: the spec assigns no places (R378,
R393). By the kind of record and its number (log 74). -/
opaque recordAt : Nat → Nat → Nat × Nat

/-- Where the checkpoint slot of a task lies in its half of a checkpoint area, at an offset that Penbepol assigns (R393): by the
start of the half and the task. -/
opaque ckptAt : Nat → Nat → Nat

/-- A byte of a record whose layout the spec does not give, from the record's kind and number, the numbers it holds and the
place of the byte (log 74). -/
opaque recordByte : Nat → Nat → List Nat → Nat → Byte

/-- The factory key in the fuses of REF (R496): 32 bytes of each module. -/
opaque factoryKey : List Byte

end Sys2Proof.Config
end

