-- ==== Sys2Proof/Machine/RegMap.lean ====
section
/-! DEFINITION. The register map of the module: every register block of R27 and every register table of
the spec, word by word: address, repetition, and per field its bits, access code (R6), write roles (R7) and reset
value (R8). Reserved bits belong to no field (R5). A field whose reset the spec states as persisted, fused, factory
or manifest value carries here the value of a module as built (assumption log 4). -/

namespace Sys2Proof.Machine

/-- Access codes of R6. -/
inductive Access where
  | ro | rw | w1c | wo | rc
  deriving DecidableEq, Repr

/-- One field of a register table: bits, access, write roles, reset value, and whether it is persisted: a field that
keeps its value over a reset of its domain. -/
structure RegField where
  hi : Nat
  lo : Nat
  acc : Access
  roles : List Role
  reset : Nat
  keep : Bool
  deriving DecidableEq, Repr

/-- One register of a table: `n1 * n2` words at `base + i * s1 + j * s2`. -/
structure RegDesc where
  name : String
  base : Nat
  n1 : Nat
  s1 : Nat
  n2 : Nat
  s2 : Nat
  fields : List RegField
  deriving DecidableEq, Repr

/-- A field of a register word, by the word's address and its bits. -/
structure Fld where
  a : Nat
  hi : Nat
  lo : Nat
  deriving DecidableEq, Repr

/-! ## Addresses of the register words -/

namespace Reg

abbrev MOD_ID : Nat := 0x0
abbrev MOD_HWREV : Nat := 0x4
abbrev MOD_DOMAINS : Nat := 0x8
abbrev PMK_CFG : Nat := 0x30000
abbrev PMK_STATUS : Nat := 0x30004
abbrev PMK_EVT : Nat := 0x30008
abbrev PMK_NOW_LO : Nat := 0x30010
abbrev PMK_NOW_HI : Nat := 0x30014
abbrev PMK_FREQ : Nat := 0x30018
abbrev PMK_REFFREQ : Nat := 0x3001C
abbrev PMK_PHERR : Nat := 0x30020
abbrev PMK_LOSSCNT : Nat := 0x30024
abbrev PMK_COR_SEQ : Nat := 0x30030
abbrev PMK_COR_PM_LO : Nat := 0x30034
abbrev PMK_COR_PM_HI : Nat := 0x30038
abbrev PMK_COR_SEC : Nat := 0x3003C
abbrev PMK_COR_DELTA : Nat := 0x30040
abbrev PMK_COR_FLAGS : Nat := 0x30044
abbrev MOD_MAN_CTRL : Nat := 0x100
abbrev MOD_MAN_STATUS : Nat := 0x104
abbrev MOD_MAN_RESULT : Nat := 0x108
abbrev MOD_MAN_REV : Nat := 0x10C
abbrev MOD_MAN_SLOT (i : Nat) : Nat := 0x110 + 4 * i
abbrev FPT_STA (i : Nat) : Nat := 0x580000 + 8 * i
abbrev FPT_STAAGE (i : Nat) : Nat := 0x580004 + 8 * i
abbrev FPT_RNDCNT (i : Nat) : Nat := 0x584000 + 4 * i
abbrev FPT_EDEFER : Nat := 0x58400C
abbrev TSK_CTRL : Nat := 0x2000000
abbrev TSK_STATUS : Nat := 0x2000004
abbrev TSK_RESTARTS : Nat := 0x2000008
abbrev TSK_DOORBELL : Nat := 0x200000C
abbrev TSK_CYC (i : Nat) : Nat := 0x2001000 + 16 * i
abbrev TSK_LATE (i : Nat) : Nat := 0x2001004 + 16 * i
abbrev TSK_EXEC (i : Nat) : Nat := 0x2001008 + 16 * i
abbrev TSK_MAXEXEC (i : Nat) : Nat := 0x200100C + 16 * i
abbrev TSK_OC_STATUS : Nat := 0x2000040
abbrev TSK_OC_PEND_LO : Nat := 0x2000044
abbrev TSK_OC_PEND_HI : Nat := 0x2000048
abbrev TSK_OC_PM_LO : Nat := 0x200004C
abbrev TSK_OC_PM_HI : Nat := 0x2000050
abbrev TSK_OC_COUNT : Nat := 0x2000054
abbrev CLE_AX_CTRL (i : Nat) : Nat := 0x200000 + 4096 * i
abbrev CLE_AX_STATUS (i : Nat) : Nat := 0x200004 + 4096 * i
abbrev CLE_AX_EXPCNT (i : Nat) : Nat := 0x200008 + 4096 * i
abbrev CLE_AX_SATCNT (i : Nat) : Nat := 0x20000C + 4096 * i
abbrev CLE_AX_SKIPCNT (i : Nat) : Nat := 0x200010 + 4096 * i
abbrev CLE_AX_MISCNT (i : Nat) : Nat := 0x200014 + 4096 * i
abbrev CLE_AX_OUT (i : Nat) (j : Nat) : Nat := 0x200020 + 4096 * i + 4 * j
abbrev CLE_AX_ERR (i : Nat) (j : Nat) : Nat := 0x200030 + 4096 * i + 4 * j
abbrev CLE_AX_SEC_Y (i : Nat) (j : Nat) : Nat := 0x200100 + 4096 * i + 16 * j
abbrev CLE_AX_SEC_S1 (i : Nat) (j : Nat) : Nat := 0x200104 + 4096 * i + 16 * j
abbrev CLE_AX_SEC_S2 (i : Nat) (j : Nat) : Nat := 0x200108 + 4096 * i + 16 * j
abbrev CLE_AX_SEC_ES (i : Nat) (j : Nat) : Nat := 0x20010C + 4096 * i + 16 * j
abbrev CLE_AX_SHADOW (i : Nat) (j : Nat) : Nat := 0x200200 + 4096 * i + 4 * j
abbrev CLE_AX_ACTIVE (i : Nat) (j : Nat) : Nat := 0x200400 + 4096 * i + 4 * j
abbrev CLE_ENG_STATUS : Nat := 0x200F00
abbrev CLE_ENG_LOSS : Nat := 0x200F04
abbrev CLE_ENG_MISM : Nat := 0x200F08
abbrev CLE_ENG_LOAD : Nat := 0x200F0C
abbrev CLE_AX_MCTRL (i : Nat) : Nat := 0x200600 + 4096 * i
abbrev CLE_AX_POS_LO (i : Nat) : Nat := 0x200604 + 4096 * i
abbrev CLE_AX_POS_HI (i : Nat) : Nat := 0x200608 + 4096 * i
abbrev CLE_AX_RAMPV (i : Nat) : Nat := 0x20060C + 4096 * i
abbrev CLE_AX_SDIST (i : Nat) : Nat := 0x200610 + 4096 * i
abbrev CLE_AX_DRV (i : Nat) : Nat := 0x200614 + 4096 * i
abbrev CLE_AX_LINKERR (i : Nat) : Nat := 0x200618 + 4096 * i
abbrev CLE_AX_CMP_POS_LO (i : Nat) (j : Nat) : Nat := 0x200700 + 4096 * i + 16 * j
abbrev CLE_AX_CMP_POS_HI (i : Nat) (j : Nat) : Nat := 0x200704 + 4096 * i + 16 * j
abbrev CLE_AX_CMP_DIR (i : Nat) (j : Nat) : Nat := 0x200708 + 4096 * i + 16 * j
abbrev CLE_AX_CMP_FIRES (i : Nat) (j : Nat) : Nat := 0x20070C + 4096 * i + 16 * j
abbrev CLE_LINK (i : Nat) : Nat := 0x200F40 + 4 * i
abbrev MTR_STATUS : Nat := 0x100000
abbrev MTR_I_RMS (i : Nat) : Nat := 0x101000 + 16 * i
abbrev MTR_I_ANGLE (i : Nat) : Nat := 0x101004 + 16 * i
abbrev MTR_I_GAIN (i : Nat) : Nat := 0x101008 + 16 * i
abbrev MTR_I_DELAY (i : Nat) : Nat := 0x10100C + 16 * i
abbrev MTR_V_RMS (i : Nat) : Nat := 0x101200 + 16 * i
abbrev MTR_V_ANGLE (i : Nat) : Nat := 0x101204 + 16 * i
abbrev MTR_V_GAIN (i : Nat) : Nat := 0x101208 + 16 * i
abbrev MTR_V_DELAY (i : Nat) : Nat := 0x10120C + 16 * i
abbrev MTR_FREQ (i : Nat) : Nat := 0x101280 + 4 * i
abbrev MTR_G_STATUS (i : Nat) : Nat := 0x102000 + 256 * i
abbrev MTR_G_P (i : Nat) : Nat := 0x102004 + 256 * i
abbrev MTR_G_Q (i : Nat) : Nat := 0x102008 + 256 * i
abbrev MTR_G_S (i : Nat) : Nat := 0x10200C + 256 * i
abbrev MTR_G_PF (i : Nat) : Nat := 0x102010 + 256 * i
abbrev MTR_G_GAPSTART (i : Nat) : Nat := 0x102014 + 256 * i
abbrev MTR_G_GAPEND (i : Nat) : Nat := 0x102018 + 256 * i
abbrev MTR_G_E_LO (i : Nat) (j : Nat) : Nat := 0x102040 + 256 * i + 16 * j
abbrev MTR_G_E_HI (i : Nat) (j : Nat) : Nat := 0x102044 + 256 * i + 16 * j
abbrev MTR_G_WIN (i : Nat) (j : Nat) : Nat := 0x102048 + 256 * i + 16 * j
abbrev MTR_G_WINSTAT (i : Nat) (j : Nat) : Nat := 0x10204C + 256 * i + 16 * j
abbrev MTR_PULSE_CFG (i : Nat) : Nat := 0x103000 + 16 * i
abbrev MTR_PULSE_UPP (i : Nat) : Nat := 0x103004 + 16 * i
abbrev MTR_PULSE_CNT (i : Nat) : Nat := 0x103008 + 16 * i
abbrev MTR_PULSE_BACK (i : Nat) : Nat := 0x10300C + 16 * i
abbrev GOV_CTRL : Nat := 0x400000
abbrev GOV_FDR_STATUS (i : Nat) : Nat := 0x400100 + 32 * i
abbrev GOV_FDR_DF (i : Nat) : Nat := 0x400104 + 32 * i
abbrev GOV_FDR_LAST (i : Nat) : Nat := 0x400108 + 32 * i
abbrev GOV_FDR_OPT (i : Nat) : Nat := 0x40010C + 32 * i
abbrev GOV_RTS0 (i : Nat) : Nat := 0x401000 + 8 * i
abbrev GOV_RTS1 (i : Nat) : Nat := 0x401004 + 8 * i
abbrev GOV_LD0 (i : Nat) : Nat := 0x404000 + 8 * i
abbrev GOV_LD1 (i : Nat) : Nat := 0x404004 + 8 * i
abbrev PMS_CTRL : Nat := 0x50000
abbrev PMS_STATUS : Nat := 0x50004
abbrev PMS_LANE (i : Nat) : Nat := 0x50008 + 4 * i
abbrev PMS_FRANK : Nat := 0x50010
abbrev PMS_TOCNT : Nat := 0x50014
abbrev PMS_LASTTO : Nat := 0x50018
abbrev PMS_PMRST : Nat := 0x5001C
abbrev PMS_STALE (i : Nat) : Nat := 0x50020 + 4 * i
abbrev PMS_SPARECFG : Nat := 0x50040
abbrev PMS_PAIRCFG : Nat := 0x50050
abbrev PMS_PAIR_PEER : Nat := 0x50054
abbrev PMS_PAIR_WIT : Nat := 0x50058
abbrev PMS_PAIRSTAT : Nat := 0x5005C
abbrev PMS_PAIRCNT : Nat := 0x50060
abbrev SAF_CTRL : Nat := 0x60000
abbrev SAF_STATUS : Nat := 0x60004
abbrev SAF_SEAL : Nat := 0x60008
abbrev SAF_CHECK : Nat := 0x6000C
abbrev SAF_CONFIRM : Nat := 0x60010
abbrev SAF_CONFSTAT : Nat := 0x60014
abbrev SAF_PAIR (i : Nat) : Nat := 0x60100 + 4 * i
abbrev SAF_FUNC (i : Nat) : Nat := 0x60200 + 4 * i
abbrev SAF_OUT (i : Nat) : Nat := 0x60300 + 4 * i
abbrev PMC_STATUS : Nat := 0xB0000
abbrev PMC_PROTCTL : Nat := 0xB0004
abbrev PMC_RECOV : Nat := 0xB0008
abbrev PMC_RECTIME : Nat := 0xB000C
abbrev PMC_JFILL : Nat := 0xB0010
abbrev PMC_GROUPS_LO : Nat := 0xB0018
abbrev PMC_GROUPS_HI : Nat := 0xB001C
abbrev PMC_TWIN : Nat := 0xB0020
abbrev PMC_ECC : Nat := 0xB0024
abbrev PMC_ECCADDR : Nat := 0xB0028
abbrev PMC_SCRUB : Nat := 0xB002C
abbrev ARB_STATUS : Nat := 0xA0000
abbrev ARB_STARVLIM : Nat := 0xA0004
abbrev ARB_WLOAD : Nat := 0xA0008
abbrev ARB_WLOAD7 : Nat := 0xA000C
abbrev ARB_RANK_WAIT (i : Nat) : Nat := 0xA0100 + 8 * i
abbrev ARB_RANK_STARVE (i : Nat) : Nat := 0xA0104 + 8 * i
abbrev PRF_CTRL : Nat := 0x90000
abbrev PRF_STATUS : Nat := 0x90004
abbrev PRF_SNAPPM_LO : Nat := 0x90008
abbrev PRF_SNAPPM_HI : Nat := 0x9000C
abbrev PRF_U_CFG (i : Nat) (j : Nat) : Nat := 0x90100 + 256 * i + 4 * j
abbrev PRF_U_CYC_LO (i : Nat) : Nat := 0x90120 + 256 * i
abbrev PRF_U_CYC_HI (i : Nat) : Nat := 0x90124 + 256 * i
abbrev PRF_U_STATUS (i : Nat) : Nat := 0x90128 + 256 * i
abbrev PRF_U_CNT_LO (i : Nat) (j : Nat) : Nat := 0x90140 + 256 * i + 8 * j
abbrev PRF_U_CNT_HI (i : Nat) (j : Nat) : Nat := 0x90144 + 256 * i + 8 * j
abbrev FPT_PG_STATUS (i : Nat) : Nat := 0x500000 + 4096 * i
abbrev FPT_PG_RXCNT (i : Nat) : Nat := 0x500004 + 4096 * i
abbrev FPT_PG_TXCNT (i : Nat) : Nat := 0x500008 + 4096 * i
abbrev FPT_PG_LOST (i : Nat) : Nat := 0x50000C + 4096 * i
abbrev FPT_PG_CANCTRL (i : Nat) : Nat := 0x500100 + 4096 * i
abbrev FPT_PG_CANERR (i : Nat) : Nat := 0x500104 + 4096 * i
abbrev FPT_PG_CANSTAT (i : Nat) : Nat := 0x500108 + 4096 * i
abbrev FPT_PG_UARTERR (i : Nat) : Nat := 0x500200 + 4096 * i
abbrev FPT_PG_DALISTAT (i : Nat) : Nat := 0x500300 + 4096 * i
abbrev FPT_PG_DALICTRL (i : Nat) : Nat := 0x500304 + 4096 * i
abbrev ETH_STATUS (i : Nat) : Nat := 0x600000 + 4096 * i
abbrev ETH_DROP (i : Nat) : Nat := 0x600004 + 4096 * i
abbrev ETH_PAUSE (i : Nat) : Nat := 0x600008 + 4096 * i
abbrev ETH_CREDIT (i : Nat) (j : Nat) : Nat := 0x600020 + 4096 * i + 4 * j
abbrev MBG_HEAD (i : Nat) : Nat := 0x608000 + 16 * i
abbrev MBG_TAIL (i : Nat) : Nat := 0x608004 + 16 * i
abbrev MBG_CNT (i : Nat) : Nat := 0x608008 + 16 * i
abbrev MBG_DROP (i : Nat) : Nat := 0x60800C + 16 * i
abbrev CTR_STATUS : Nat := 0x10000
abbrev CTR_LONGOP : Nat := 0x10004
abbrev CTR_SELF : Nat := 0x10008
abbrev CTR_KILL : Nat := 0x1000C
abbrev CTR_ERR : Nat := 0x10010
abbrev CTR_AUTHCNT : Nat := 0x10014
abbrev CTR_FACTMAC_LO : Nat := 0x10020
abbrev CTR_FACTMAC_HI : Nat := 0x10024
abbrev CTR_DEFIP : Nat := 0x10028
abbrev CTR_SESS0 (i : Nat) : Nat := 0x10100 + 8 * i
abbrev CTR_SESS1 (i : Nat) : Nat := 0x10104 + 8 * i
abbrev KEY_STATUS : Nat := 0x70000
abbrev KEY_CTRL : Nat := 0x70004
abbrev KEY_LCCTRL : Nat := 0x70008
abbrev KEY_TAMPER : Nat := 0x7000C
abbrev KEY_TAMPCFG : Nat := 0x70010
abbrev KEY_LOADATTR (i : Nat) : Nat := 0x70020 + 4 * i
abbrev KEY_NONCE (i : Nat) : Nat := 0x70040 + 4 * i
abbrev KEY_LOADWIN (i : Nat) : Nat := 0x70080 + 4 * i
abbrev KEY_SLOT0 (i : Nat) : Nat := 0x70100 + 16 * i
abbrev KEY_SLOT1 (i : Nat) : Nat := 0x70104 + 16 * i
abbrev KEY_SLOT2 (i : Nat) : Nat := 0x70108 + 16 * i
abbrev KEY_SLOT3 (i : Nat) : Nat := 0x7010C + 16 * i
abbrev KEY_TLOG0 (i : Nat) : Nat := 0x70400 + 8 * i
abbrev KEY_TLOG1 (i : Nat) : Nat := 0x70404 + 8 * i
abbrev KEY_ATTBUF (i : Nat) : Nat := 0x78000 + 4 * i
abbrev MOD_IMG_CTRL : Nat := 0x200
abbrev MOD_IMG_USE : Nat := 0x204
abbrev MOD_IMG_SLOT0 (i : Nat) : Nat := 0x210 + 8 * i
abbrev MOD_IMG_SLOT1 (i : Nat) : Nat := 0x214 + 8 * i
abbrev MOD_IMG_PROG : Nat := 0x230
abbrev RTC_CTRL : Nat := 0x40000
abbrev RTC_STATUS : Nat := 0x40004
abbrev RTC_TRIM : Nat := 0x40008
abbrev RTC_SUBSEC : Nat := 0x40010
abbrev RTC_SEC : Nat := 0x40014
abbrev RTC_MIN : Nat := 0x40018
abbrev RTC_HOUR : Nat := 0x4001C
abbrev RTC_WDAY : Nat := 0x40020
abbrev RTC_DATE : Nat := 0x40024
abbrev RTC_MONTH : Nat := 0x40028
abbrev RTC_YEAR : Nat := 0x4002C
abbrev RTC_ALM_CTRL (i : Nat) : Nat := 0x40040 + 16 * i
abbrev RTC_ALM_TIME (i : Nat) : Nat := 0x40044 + 16 * i
abbrev RTC_ALM_DATE (i : Nat) : Nat := 0x40048 + 16 * i
abbrev RTC_ALM_LAST (i : Nat) : Nat := 0x4004C + 16 * i
abbrev BAK_CHG : Nat := 0x40080
abbrev BAK_PWRON : Nat := 0x40084
abbrev BAK_STATUS : Nat := 0x40088
abbrev EVR_STATUS : Nat := 0x80000
abbrev EVR_NEWEST : Nat := 0x80004
abbrev EVR_OLDEST : Nat := 0x80008
abbrev EVR_DROPPED : Nat := 0x8000C
abbrev EVR_SUPPRESSED : Nat := 0x80010
abbrev EVR_HIGHFILL : Nat := 0x80014
abbrev PWR_CTRL : Nat := 0x20000
abbrev PWR_STATUS : Nat := 0x20004
abbrev PWR_DOMRUNG : Nat := 0x20008
abbrev PWR_LADCFG : Nat := 0x2000C
abbrev PWR_WAKE : Nat := 0x20010
abbrev PWR_RSTCAUSE : Nat := 0x20014
abbrev PWR_VIN : Nat := 0x20018
abbrev PWR_STARTT : Nat := 0x2001C
abbrev PWR_PFCNT : Nat := 0x20020

end Reg

/-! ## Fields by name -/

namespace F

abbrev MOD_HWREV_MAJOR : Fld := ⟨Reg.MOD_HWREV, 15, 8⟩
abbrev MOD_HWREV_MINOR : Fld := ⟨Reg.MOD_HWREV, 7, 0⟩
abbrev MOD_DOMAINS_DECL : Fld := ⟨Reg.MOD_DOMAINS, 24, 16⟩
abbrev MOD_DOMAINS_GOOD : Fld := ⟨Reg.MOD_DOMAINS, 8, 0⟩
abbrev PMK_CFG_VMIN : Fld := ⟨Reg.PMK_CFG, 23, 16⟩
abbrev PMK_CFG_QUAL : Fld := ⟨Reg.PMK_CFG, 15, 8⟩
abbrev PMK_CFG_REFCH : Fld := ⟨Reg.PMK_CFG, 6, 4⟩
abbrev PMK_CFG_NOMF : Fld := ⟨Reg.PMK_CFG, 2, 2⟩
abbrev PMK_CFG_MODE : Fld := ⟨Reg.PMK_CFG, 0, 0⟩
abbrev PMK_STATUS_QCNT : Fld := ⟨Reg.PMK_STATUS, 23, 16⟩
abbrev PMK_STATUS_CNTEST : Fld := ⟨Reg.PMK_STATUS, 8, 8⟩
abbrev PMK_STATUS_LOSS : Fld := ⟨Reg.PMK_STATUS, 7, 5⟩
abbrev PMK_STATUS_REFOK : Fld := ⟨Reg.PMK_STATUS, 4, 4⟩
abbrev PMK_STATUS_FRAMP : Fld := ⟨Reg.PMK_STATUS, 3, 3⟩
abbrev PMK_STATUS_SLEW : Fld := ⟨Reg.PMK_STATUS, 2, 2⟩
abbrev PMK_STATUS_STATE : Fld := ⟨Reg.PMK_STATUS, 1, 0⟩
abbrev PMK_EVT_RTCSET : Fld := ⟨Reg.PMK_EVT, 4, 4⟩
abbrev PMK_EVT_SLEWDONE : Fld := ⟨Reg.PMK_EVT, 3, 3⟩
abbrev PMK_EVT_JUMP : Fld := ⟨Reg.PMK_EVT, 2, 2⟩
abbrev PMK_EVT_LOCK : Fld := ⟨Reg.PMK_EVT, 1, 1⟩
abbrev PMK_EVT_LOST : Fld := ⟨Reg.PMK_EVT, 0, 0⟩
abbrev PMK_NOW_LO_CYCLE_L : Fld := ⟨Reg.PMK_NOW_LO, 31, 20⟩
abbrev PMK_NOW_LO_ANGLE : Fld := ⟨Reg.PMK_NOW_LO, 19, 0⟩
abbrev PMK_LOSSCNT_RELOCKS : Fld := ⟨Reg.PMK_LOSSCNT, 31, 16⟩
abbrev PMK_LOSSCNT_LOSSES : Fld := ⟨Reg.PMK_LOSSCNT, 15, 0⟩
abbrev PMK_COR_FLAGS_CNTEST : Fld := ⟨Reg.PMK_COR_FLAGS, 4, 4⟩
abbrev PMK_COR_FLAGS_SET : Fld := ⟨Reg.PMK_COR_FLAGS, 3, 3⟩
abbrev PMK_COR_FLAGS_SLEW : Fld := ⟨Reg.PMK_COR_FLAGS, 2, 2⟩
abbrev PMK_COR_FLAGS_STATE : Fld := ⟨Reg.PMK_COR_FLAGS, 1, 0⟩
abbrev MOD_MAN_CTRL_SLOT : Fld := ⟨Reg.MOD_MAN_CTRL, 9, 8⟩
abbrev MOD_MAN_CTRL_CMD : Fld := ⟨Reg.MOD_MAN_CTRL, 2, 0⟩
abbrev MOD_MAN_STATUS_STEP : Fld := ⟨Reg.MOD_MAN_STATUS, 19, 16⟩
abbrev MOD_MAN_STATUS_FBUSED : Fld := ⟨Reg.MOD_MAN_STATUS, 8, 8⟩
abbrev MOD_MAN_STATUS_FBVALID : Fld := ⟨Reg.MOD_MAN_STATUS, 7, 7⟩
abbrev MOD_MAN_STATUS_FB : Fld := ⟨Reg.MOD_MAN_STATUS, 5, 4⟩
abbrev MOD_MAN_STATUS_ARMVALID : Fld := ⟨Reg.MOD_MAN_STATUS, 3, 3⟩
abbrev MOD_MAN_STATUS_ARMED : Fld := ⟨Reg.MOD_MAN_STATUS, 1, 0⟩
abbrev MOD_MAN_RESULT_CLASS : Fld := ⟨Reg.MOD_MAN_RESULT, 29, 28⟩
abbrev MOD_MAN_RESULT_SLOT : Fld := ⟨Reg.MOD_MAN_RESULT, 25, 24⟩
abbrev MOD_MAN_RESULT_SECTV : Fld := ⟨Reg.MOD_MAN_RESULT, 22, 22⟩
abbrev MOD_MAN_RESULT_MISSING : Fld := ⟨Reg.MOD_MAN_RESULT, 21, 21⟩
abbrev MOD_MAN_RESULT_SECT : Fld := ⟨Reg.MOD_MAN_RESULT, 20, 16⟩
abbrev MOD_MAN_RESULT_STEP : Fld := ⟨Reg.MOD_MAN_RESULT, 11, 8⟩
abbrev MOD_MAN_RESULT_REASON : Fld := ⟨Reg.MOD_MAN_RESULT, 7, 0⟩
abbrev MOD_MAN_SLOT_CLASS (i : Nat) : Fld := ⟨Reg.MOD_MAN_SLOT i, 9, 8⟩
abbrev MOD_MAN_SLOT_SIGNER (i : Nat) : Fld := ⟨Reg.MOD_MAN_SLOT i, 5, 4⟩
abbrev MOD_MAN_SLOT_STATE (i : Nat) : Fld := ⟨Reg.MOD_MAN_SLOT i, 2, 0⟩
abbrev FPT_STA_DIS (i : Nat) : Fld := ⟨Reg.FPT_STA i, 31, 31⟩
abbrev FPT_STA_MISS (i : Nat) : Fld := ⟨Reg.FPT_STA i, 28, 24⟩
abbrev FPT_STA_STATE (i : Nat) : Fld := ⟨Reg.FPT_STA i, 18, 16⟩
abbrev FPT_STA_OFFCNT (i : Nat) : Fld := ⟨Reg.FPT_STA i, 15, 0⟩
abbrev FPT_STAAGE_AGE (i : Nat) : Fld := ⟨Reg.FPT_STAAGE i, 23, 0⟩
abbrev TSK_CTRL_INHOLD : Fld := ⟨Reg.TSK_CTRL, 16, 16⟩
abbrev TSK_CTRL_TASK : Fld := ⟨Reg.TSK_CTRL, 13, 8⟩
abbrev TSK_CTRL_CMD : Fld := ⟨Reg.TSK_CTRL, 3, 0⟩
abbrev TSK_STATUS_STEPBUSY : Fld := ⟨Reg.TSK_STATUS, 24, 24⟩
abbrev TSK_STATUS_WTASK : Fld := ⟨Reg.TSK_STATUS, 21, 16⟩
abbrev TSK_STATUS_AREA : Fld := ⟨Reg.TSK_STATUS, 8, 8⟩
abbrev TSK_STATUS_CAUSE : Fld := ⟨Reg.TSK_STATUS, 7, 4⟩
abbrev TSK_STATUS_MODE : Fld := ⟨Reg.TSK_STATUS, 1, 0⟩
abbrev TSK_RESTARTS_COLDS : Fld := ⟨Reg.TSK_RESTARTS, 31, 16⟩
abbrev TSK_RESTARTS_WARMS : Fld := ⟨Reg.TSK_RESTARTS, 15, 0⟩
abbrev TSK_LATE_EVLOST (i : Nat) : Fld := ⟨Reg.TSK_LATE i, 31, 16⟩
abbrev TSK_LATE_LATE (i : Nat) : Fld := ⟨Reg.TSK_LATE i, 15, 0⟩
abbrev TSK_OC_STATUS_PHASE : Fld := ⟨Reg.TSK_OC_STATUS, 17, 16⟩
abbrev TSK_OC_STATUS_POSTP : Fld := ⟨Reg.TSK_OC_STATUS, 8, 8⟩
abbrev TSK_OC_STATUS_PENDN : Fld := ⟨Reg.TSK_OC_STATUS, 6, 0⟩
abbrev CLE_AX_CTRL_COPY (i : Nat) : Fld := ⟨Reg.CLE_AX_CTRL i, 1, 1⟩
abbrev CLE_AX_CTRL_SWAP (i : Nat) : Fld := ⟨Reg.CLE_AX_CTRL i, 0, 0⟩
abbrev CLE_AX_STATUS_SWAPPEND (i : Nat) : Fld := ⟨Reg.CLE_AX_STATUS i, 11, 11⟩
abbrev CLE_AX_STATUS_LIMACT (i : Nat) : Fld := ⟨Reg.CLE_AX_STATUS i, 10, 8⟩
abbrev CLE_AX_STATUS_SKIP (i : Nat) : Fld := ⟨Reg.CLE_AX_STATUS i, 7, 7⟩
abbrev CLE_AX_STATUS_SAT (i : Nat) : Fld := ⟨Reg.CLE_AX_STATUS i, 6, 6⟩
abbrev CLE_AX_STATUS_FDEV (i : Nat) : Fld := ⟨Reg.CLE_AX_STATUS i, 5, 5⟩
abbrev CLE_AX_STATUS_TUNED (i : Nat) : Fld := ⟨Reg.CLE_AX_STATUS i, 4, 4⟩
abbrev CLE_AX_STATUS_BANK (i : Nat) : Fld := ⟨Reg.CLE_AX_STATUS i, 3, 3⟩
abbrev CLE_AX_STATUS_STATE (i : Nat) : Fld := ⟨Reg.CLE_AX_STATUS i, 2, 0⟩
abbrev CLE_ENG_STATUS_REFFAIL : Fld := ⟨Reg.CLE_ENG_STATUS, 4, 4⟩
abbrev CLE_ENG_STATUS_FENCEB : Fld := ⟨Reg.CLE_ENG_STATUS, 3, 3⟩
abbrev CLE_ENG_STATUS_FENCEA : Fld := ⟨Reg.CLE_ENG_STATUS, 2, 2⟩
abbrev CLE_ENG_STATUS_MODE : Fld := ⟨Reg.CLE_ENG_STATUS, 1, 0⟩
abbrev CLE_ENG_LOSS_LOSSB : Fld := ⟨Reg.CLE_ENG_LOSS, 31, 16⟩
abbrev CLE_ENG_LOSS_LOSSA : Fld := ⟨Reg.CLE_ENG_LOSS, 15, 0⟩
abbrev CLE_ENG_MISM_NONE : Fld := ⟨Reg.CLE_ENG_MISM, 31, 16⟩
abbrev CLE_ENG_MISM_TOTAL : Fld := ⟨Reg.CLE_ENG_MISM, 15, 0⟩
abbrev CLE_AX_MCTRL_FREEZE (i : Nat) : Fld := ⟨Reg.CLE_AX_MCTRL i, 0, 0⟩
abbrev CLE_AX_DRV_CTRL (i : Nat) : Fld := ⟨Reg.CLE_AX_DRV i, 31, 16⟩
abbrev CLE_AX_DRV_STATUS (i : Nat) : Fld := ⟨Reg.CLE_AX_DRV i, 15, 0⟩
abbrev CLE_AX_LINKERR_DCRC (i : Nat) : Fld := ⟨Reg.CLE_AX_LINKERR i, 31, 16⟩
abbrev CLE_AX_LINKERR_MISS (i : Nat) : Fld := ⟨Reg.CLE_AX_LINKERR i, 15, 0⟩
abbrev CLE_AX_CMP_DIR_HYSW (i : Nat) (j : Nat) : Fld := ⟨Reg.CLE_AX_CMP_DIR i j, 2, 2⟩
abbrev CLE_AX_CMP_DIR_DIR (i : Nat) (j : Nat) : Fld := ⟨Reg.CLE_AX_CMP_DIR i j, 1, 0⟩
abbrev CLE_LINK_NLINK (i : Nat) : Fld := ⟨Reg.CLE_LINK i, 23, 16⟩
abbrev CLE_LINK_DRVS (i : Nat) : Fld := ⟨Reg.CLE_LINK i, 15, 8⟩
abbrev CLE_LINK_DOWNSEEN (i : Nat) : Fld := ⟨Reg.CLE_LINK i, 1, 1⟩
abbrev CLE_LINK_UP (i : Nat) : Fld := ⟨Reg.CLE_LINK i, 0, 0⟩
abbrev MTR_STATUS_SAVELATE : Fld := ⟨Reg.MTR_STATUS, 31, 16⟩
abbrev MTR_STATUS_RUN : Fld := ⟨Reg.MTR_STATUS, 0, 0⟩
abbrev MTR_I_GAIN_GAIN (i : Nat) : Fld := ⟨Reg.MTR_I_GAIN i, 23, 0⟩
abbrev MTR_V_GAIN_GAIN (i : Nat) : Fld := ⟨Reg.MTR_V_GAIN i, 23, 0⟩
abbrev MTR_G_STATUS_CREEP (i : Nat) : Fld := ⟨Reg.MTR_G_STATUS i, 5, 5⟩
abbrev MTR_G_STATUS_HOLD (i : Nat) : Fld := ⟨Reg.MTR_G_STATUS i, 4, 4⟩
abbrev MTR_G_STATUS_GAP (i : Nat) : Fld := ⟨Reg.MTR_G_STATUS i, 3, 3⟩
abbrev MTR_G_STATUS_FLYSEEN (i : Nat) : Fld := ⟨Reg.MTR_G_STATUS i, 2, 2⟩
abbrev MTR_G_STATUS_FLY (i : Nat) : Fld := ⟨Reg.MTR_G_STATUS i, 1, 1⟩
abbrev MTR_G_STATUS_EN (i : Nat) : Fld := ⟨Reg.MTR_G_STATUS i, 0, 0⟩
abbrev MTR_G_WINSTAT_WRAPSAT (i : Nat) (j : Nat) : Fld := ⟨Reg.MTR_G_WINSTAT i j, 9, 9⟩
abbrev MTR_G_WINSTAT_WRAP (i : Nat) (j : Nat) : Fld := ⟨Reg.MTR_G_WINSTAT i j, 8, 8⟩
abbrev MTR_G_WINSTAT_WRAPCNT (i : Nat) (j : Nat) : Fld := ⟨Reg.MTR_G_WINSTAT i j, 7, 0⟩
abbrev MTR_PULSE_CFG_EN (i : Nat) : Fld := ⟨Reg.MTR_PULSE_CFG i, 31, 31⟩
abbrev MTR_PULSE_CFG_WIDTH (i : Nat) : Fld := ⟨Reg.MTR_PULSE_CFG i, 19, 12⟩
abbrev MTR_PULSE_CFG_SRCREG (i : Nat) : Fld := ⟨Reg.MTR_PULSE_CFG i, 6, 4⟩
abbrev MTR_PULSE_CFG_SRCGRP (i : Nat) : Fld := ⟨Reg.MTR_PULSE_CFG i, 3, 0⟩
abbrev MTR_PULSE_BACK_OVF (i : Nat) : Fld := ⟨Reg.MTR_PULSE_BACK i, 31, 16⟩
abbrev MTR_PULSE_BACK_BACK (i : Nat) : Fld := ⟨Reg.MTR_PULSE_BACK i, 15, 0⟩
abbrev GOV_CTRL_MODE : Fld := ⟨Reg.GOV_CTRL, 1, 0⟩
abbrev GOV_FDR_STATUS_HELDN (i : Nat) : Fld := ⟨Reg.GOV_FDR_STATUS i, 31, 16⟩
abbrev GOV_FDR_STATUS_GAP (i : Nat) : Fld := ⟨Reg.GOV_FDR_STATUS i, 3, 3⟩
abbrev GOV_FDR_STATUS_SHORT (i : Nat) : Fld := ⟨Reg.GOV_FDR_STATUS i, 2, 2⟩
abbrev GOV_FDR_STATUS_ABOVE (i : Nat) : Fld := ⟨Reg.GOV_FDR_STATUS i, 1, 1⟩
abbrev GOV_FDR_STATUS_DECL (i : Nat) : Fld := ⟨Reg.GOV_FDR_STATUS i, 0, 0⟩
abbrev GOV_RTS0_GUAR (i : Nat) : Fld := ⟨Reg.GOV_RTS0 i, 31, 16⟩
abbrev GOV_RTS0_MINON (i : Nat) : Fld := ⟨Reg.GOV_RTS0 i, 15, 0⟩
abbrev GOV_RTS1_CONTRACT (i : Nat) : Fld := ⟨Reg.GOV_RTS1 i, 15, 0⟩
abbrev GOV_LD0_CAUSE (i : Nat) : Fld := ⟨Reg.GOV_LD0 i, 7, 4⟩
abbrev GOV_LD0_STATE (i : Nat) : Fld := ⟨Reg.GOV_LD0 i, 1, 0⟩
abbrev PMS_CTRL_IMG : Fld := ⟨Reg.PMS_CTRL, 9, 8⟩
abbrev PMS_CTRL_CMD : Fld := ⟨Reg.PMS_CTRL, 2, 0⟩
abbrev PMS_STATUS_NOCAUSE : Fld := ⟨Reg.PMS_STATUS, 11, 9⟩
abbrev PMS_STATUS_NOCOVER : Fld := ⟨Reg.PMS_STATUS, 8, 8⟩
abbrev PMS_STATUS_HOLDER : Fld := ⟨Reg.PMS_STATUS, 7, 7⟩
abbrev PMS_STATUS_PHASE : Fld := ⟨Reg.PMS_STATUS, 6, 4⟩
abbrev PMS_STATUS_ACTIVE : Fld := ⟨Reg.PMS_STATUS, 1, 0⟩
abbrev PMS_LANE_FAILS (i : Nat) : Fld := ⟨Reg.PMS_LANE i, 31, 16⟩
abbrev PMS_LANE_CAUSE (i : Nat) : Fld := ⟨Reg.PMS_LANE i, 7, 4⟩
abbrev PMS_LANE_STATE (i : Nat) : Fld := ⟨Reg.PMS_LANE i, 2, 0⟩
abbrev PMS_FRANK_EPOCH : Fld := ⟨Reg.PMS_FRANK, 31, 8⟩
abbrev PMS_FRANK_MEMBER : Fld := ⟨Reg.PMS_FRANK, 7, 4⟩
abbrev PMS_FRANK_LANE : Fld := ⟨Reg.PMS_FRANK, 3, 0⟩
abbrev PMS_TOCNT_HANDOVERS : Fld := ⟨Reg.PMS_TOCNT, 31, 16⟩
abbrev PMS_TOCNT_TAKEOVERS : Fld := ⟨Reg.PMS_TOCNT, 15, 0⟩
abbrev PMS_PMRST_CAUSE : Fld := ⟨Reg.PMS_PMRST, 19, 16⟩
abbrev PMS_PMRST_COUNT : Fld := ⟨Reg.PMS_PMRST, 15, 0⟩
abbrev PMS_SPARECFG_HOURS : Fld := ⟨Reg.PMS_SPARECFG, 7, 0⟩
abbrev PMS_PAIRCFG_WITNESS : Fld := ⟨Reg.PMS_PAIRCFG, 3, 3⟩
abbrev PMS_PAIRCFG_MAC : Fld := ⟨Reg.PMS_PAIRCFG, 2, 2⟩
abbrev PMS_PAIRCFG_MEMBER : Fld := ⟨Reg.PMS_PAIRCFG, 1, 1⟩
abbrev PMS_PAIRSTAT_LAG : Fld := ⟨Reg.PMS_PAIRSTAT, 31, 16⟩
abbrev PMS_PAIRSTAT_WITOK : Fld := ⟨Reg.PMS_PAIRSTAT, 5, 5⟩
abbrev PMS_PAIRSTAT_PEEROK : Fld := ⟨Reg.PMS_PAIRSTAT, 4, 4⟩
abbrev PMS_PAIRSTAT_ROLE : Fld := ⟨Reg.PMS_PAIRSTAT, 2, 0⟩
abbrev PMS_PAIRCNT_FENCES : Fld := ⟨Reg.PMS_PAIRCNT, 31, 16⟩
abbrev PMS_PAIRCNT_GRANTS : Fld := ⟨Reg.PMS_PAIRCNT, 15, 0⟩
abbrev SAF_CTRL_PAIR : Fld := ⟨Reg.SAF_CTRL, 11, 8⟩
abbrev SAF_CTRL_CMD : Fld := ⟨Reg.SAF_CTRL, 1, 0⟩
abbrev SAF_STATUS_ANYTRIP : Fld := ⟨Reg.SAF_STATUS, 25, 25⟩
abbrev SAF_STATUS_ANYDEGR : Fld := ⟨Reg.SAF_STATUS, 24, 24⟩
abbrev SAF_STATUS_RB : Fld := ⟨Reg.SAF_STATUS, 23, 16⟩
abbrev SAF_STATUS_ON : Fld := ⟨Reg.SAF_STATUS, 15, 8⟩
abbrev SAF_STATUS_LCAUSE : Fld := ⟨Reg.SAF_STATUS, 7, 4⟩
abbrev SAF_STATUS_STATE : Fld := ⟨Reg.SAF_STATUS, 2, 0⟩
abbrev SAF_SEAL_MOVED : Fld := ⟨Reg.SAF_SEAL, 8, 8⟩
abbrev SAF_SEAL_SW : Fld := ⟨Reg.SAF_SEAL, 7, 0⟩
abbrev SAF_CONFSTAT_FAILS : Fld := ⟨Reg.SAF_CONFSTAT, 31, 16⟩
abbrev SAF_CONFSTAT_OK : Fld := ⟨Reg.SAF_CONFSTAT, 0, 0⟩
abbrev SAF_PAIR_DEGREM (i : Nat) : Fld := ⟨Reg.SAF_PAIR i, 26, 16⟩
abbrev SAF_PAIR_INB (i : Nat) : Fld := ⟨Reg.SAF_PAIR i, 5, 5⟩
abbrev SAF_PAIR_INA (i : Nat) : Fld := ⟨Reg.SAF_PAIR i, 4, 4⟩
abbrev SAF_PAIR_PSTATE (i : Nat) : Fld := ⟨Reg.SAF_PAIR i, 2, 0⟩
abbrev SAF_FUNC_TRIPS (i : Nat) : Fld := ⟨Reg.SAF_FUNC i, 31, 16⟩
abbrev SAF_FUNC_TMPL (i : Nat) : Fld := ⟨Reg.SAF_FUNC i, 15, 8⟩
abbrev SAF_FUNC_STATE (i : Nat) : Fld := ⟨Reg.SAF_FUNC i, 2, 0⟩
abbrev SAF_OUT_FAULT (i : Nat) : Fld := ⟨Reg.SAF_OUT i, 7, 6⟩
abbrev SAF_OUT_OMODE (i : Nat) : Fld := ⟨Reg.SAF_OUT i, 5, 4⟩
abbrev SAF_OUT_RB (i : Nat) : Fld := ⟨Reg.SAF_OUT i, 1, 1⟩
abbrev SAF_OUT_ON (i : Nat) : Fld := ⟨Reg.SAF_OUT i, 0, 0⟩
abbrev PMC_STATUS_ECCFLT : Fld := ⟨Reg.PMC_STATUS, 5, 5⟩
abbrev PMC_STATUS_TWIN : Fld := ⟨Reg.PMC_STATUS, 4, 4⟩
abbrev PMC_STATUS_PROTBUSY : Fld := ⟨Reg.PMC_STATUS, 3, 3⟩
abbrev PMC_STATUS_RECOVD : Fld := ⟨Reg.PMC_STATUS, 2, 2⟩
abbrev PMC_STATUS_LEVEL : Fld := ⟨Reg.PMC_STATUS, 1, 0⟩
abbrev PMC_PROTCTL_LEVEL : Fld := ⟨Reg.PMC_PROTCTL, 1, 0⟩
abbrev PMC_RECOV_REDONE : Fld := ⟨Reg.PMC_RECOV, 31, 16⟩
abbrev PMC_RECOV_DISCARD : Fld := ⟨Reg.PMC_RECOV, 0, 0⟩
abbrev PMC_JFILL_HIGH : Fld := ⟨Reg.PMC_JFILL, 31, 16⟩
abbrev PMC_JFILL_NOW : Fld := ⟨Reg.PMC_JFILL, 15, 0⟩
abbrev PMC_TWIN_CONFL : Fld := ⟨Reg.PMC_TWIN, 31, 16⟩
abbrev PMC_TWIN_LOST : Fld := ⟨Reg.PMC_TWIN, 15, 0⟩
abbrev PMC_ECC_CORR : Fld := ⟨Reg.PMC_ECC, 31, 16⟩
abbrev PMC_ECC_UNCORR : Fld := ⟨Reg.PMC_ECC, 15, 0⟩
abbrev PMC_ECCADDR_CELL : Fld := ⟨Reg.PMC_ECCADDR, 25, 0⟩
abbrev ARB_STATUS_WBFULL : Fld := ⟨Reg.ARB_STATUS, 4, 4⟩
abbrev ARB_STATUS_PARKV : Fld := ⟨Reg.ARB_STATUS, 3, 3⟩
abbrev ARB_STATUS_PARK : Fld := ⟨Reg.ARB_STATUS, 2, 0⟩
abbrev PRF_CTRL_SNAP : Fld := ⟨Reg.PRF_CTRL, 0, 0⟩
abbrev PRF_STATUS_SNAPBUSY : Fld := ⟨Reg.PRF_STATUS, 16, 16⟩
abbrev PRF_STATUS_SNAPCNT : Fld := ⟨Reg.PRF_STATUS, 15, 0⟩
abbrev PRF_U_CFG_EN (i : Nat) (j : Nat) : Fld := ⟨Reg.PRF_U_CFG i j, 31, 31⟩
abbrev PRF_U_CFG_SAT (i : Nat) (j : Nat) : Fld := ⟨Reg.PRF_U_CFG i j, 30, 30⟩
abbrev PRF_U_CFG_CORE (i : Nat) (j : Nat) : Fld := ⟨Reg.PRF_U_CFG i j, 19, 16⟩
abbrev PRF_U_CFG_EVENT (i : Nat) (j : Nat) : Fld := ⟨Reg.PRF_U_CFG i j, 7, 0⟩
abbrev PRF_U_STATUS_VALID (i : Nat) : Fld := ⟨Reg.PRF_U_STATUS i, 8, 8⟩
abbrev PRF_U_STATUS_OVF (i : Nat) : Fld := ⟨Reg.PRF_U_STATUS i, 7, 0⟩
abbrev PRF_U_CNT_HI_COUNT (i : Nat) (j : Nat) : Fld := ⟨Reg.PRF_U_CNT_HI i j, 15, 0⟩
abbrev FPT_PG_STATUS_IDX (i : Nat) : Fld := ⟨Reg.FPT_PG_STATUS i, 19, 16⟩
abbrev FPT_PG_STATUS_USE (i : Nat) : Fld := ⟨Reg.FPT_PG_STATUS i, 10, 8⟩
abbrev FPT_PG_STATUS_STATE (i : Nat) : Fld := ⟨Reg.FPT_PG_STATUS i, 2, 0⟩
abbrev FPT_PG_CANCTRL_BOREC (i : Nat) : Fld := ⟨Reg.FPT_PG_CANCTRL i, 1, 1⟩
abbrev FPT_PG_CANCTRL_RESTR (i : Nat) : Fld := ⟨Reg.FPT_PG_CANCTRL i, 0, 0⟩
abbrev FPT_PG_CANERR_BUSOFFS (i : Nat) : Fld := ⟨Reg.FPT_PG_CANERR i, 31, 24⟩
abbrev FPT_PG_CANERR_TXERR (i : Nat) : Fld := ⟨Reg.FPT_PG_CANERR i, 23, 16⟩
abbrev FPT_PG_CANERR_RXPASS (i : Nat) : Fld := ⟨Reg.FPT_PG_CANERR i, 8, 8⟩
abbrev FPT_PG_CANERR_RXERR (i : Nat) : Fld := ⟨Reg.FPT_PG_CANERR i, 7, 0⟩
abbrev FPT_PG_CANSTAT_DELAY (i : Nat) : Fld := ⟨Reg.FPT_PG_CANSTAT i, 30, 24⟩
abbrev FPT_PG_CANSTAT_DERR (i : Nat) : Fld := ⟨Reg.FPT_PG_CANSTAT i, 18, 16⟩
abbrev FPT_PG_CANSTAT_AERR (i : Nat) : Fld := ⟨Reg.FPT_PG_CANSTAT i, 10, 8⟩
abbrev FPT_PG_CANSTAT_LEVEL (i : Nat) : Fld := ⟨Reg.FPT_PG_CANSTAT i, 1, 0⟩
abbrev FPT_PG_UARTERR_CRC (i : Nat) : Fld := ⟨Reg.FPT_PG_UARTERR i, 31, 24⟩
abbrev FPT_PG_UARTERR_FRAME (i : Nat) : Fld := ⟨Reg.FPT_PG_UARTERR i, 23, 16⟩
abbrev FPT_PG_UARTERR_PARITY (i : Nat) : Fld := ⟨Reg.FPT_PG_UARTERR i, 15, 8⟩
abbrev FPT_PG_UARTERR_COLL (i : Nat) : Fld := ⟨Reg.FPT_PG_UARTERR i, 7, 0⟩
abbrev FPT_PG_DALISTAT_COLL (i : Nat) : Fld := ⟨Reg.FPT_PG_DALISTAT i, 31, 24⟩
abbrev FPT_PG_DALISTAT_FAILED (i : Nat) : Fld := ⟨Reg.FPT_PG_DALISTAT i, 23, 16⟩
abbrev FPT_PG_DALISTAT_SEARCH (i : Nat) : Fld := ⟨Reg.FPT_PG_DALISTAT i, 2, 2⟩
abbrev FPT_PG_DALISTAT_PWR (i : Nat) : Fld := ⟨Reg.FPT_PG_DALISTAT i, 1, 1⟩
abbrev FPT_PG_DALISTAT_PSU (i : Nat) : Fld := ⟨Reg.FPT_PG_DALISTAT i, 0, 0⟩
abbrev FPT_PG_DALICTRL_CMD (i : Nat) : Fld := ⟨Reg.FPT_PG_DALICTRL i, 1, 0⟩
abbrev ETH_STATUS_RATE (i : Nat) : Fld := ⟨Reg.ETH_STATUS i, 9, 8⟩
abbrev ETH_STATUS_PAUSED (i : Nat) : Fld := ⟨Reg.ETH_STATUS i, 1, 1⟩
abbrev ETH_STATUS_LINK (i : Nat) : Fld := ⟨Reg.ETH_STATUS i, 0, 0⟩
abbrev ETH_DROP_NOMATCH (i : Nat) : Fld := ⟨Reg.ETH_DROP i, 31, 16⟩
abbrev ETH_DROP_CRC (i : Nat) : Fld := ⟨Reg.ETH_DROP i, 15, 0⟩
abbrev MBG_HEAD_INDEX (i : Nat) : Fld := ⟨Reg.MBG_HEAD i, 11, 0⟩
abbrev MBG_TAIL_INDEX (i : Nat) : Fld := ⟨Reg.MBG_TAIL i, 11, 0⟩
abbrev CTR_STATUS_OPID : Fld := ⟨Reg.CTR_STATUS, 31, 24⟩
abbrev CTR_STATUS_OPKIND : Fld := ⟨Reg.CTR_STATUS, 23, 20⟩
abbrev CTR_STATUS_SESSIONS : Fld := ⟨Reg.CTR_STATUS, 19, 16⟩
abbrev CTR_STATUS_BUSY : Fld := ⟨Reg.CTR_STATUS, 0, 0⟩
abbrev CTR_LONGOP_OPID : Fld := ⟨Reg.CTR_LONGOP, 31, 24⟩
abbrev CTR_LONGOP_OPKIND : Fld := ⟨Reg.CTR_LONGOP, 23, 20⟩
abbrev CTR_LONGOP_RESUMED : Fld := ⟨Reg.CTR_LONGOP, 16, 16⟩
abbrev CTR_LONGOP_RESULT : Fld := ⟨Reg.CTR_LONGOP, 7, 0⟩
abbrev CTR_SELF_SESSION : Fld := ⟨Reg.CTR_SELF, 31, 16⟩
abbrev CTR_SELF_BINDING : Fld := ⟨Reg.CTR_SELF, 15, 8⟩
abbrev CTR_SELF_ROLE : Fld := ⟨Reg.CTR_SELF, 7, 6⟩
abbrev CTR_SELF_PH : Fld := ⟨Reg.CTR_SELF, 5, 0⟩
abbrev CTR_KILL_SESSION : Fld := ⟨Reg.CTR_KILL, 15, 0⟩
abbrev CTR_ERR_QFULL : Fld := ⟨Reg.CTR_ERR, 31, 16⟩
abbrev CTR_ERR_FORMAT : Fld := ⟨Reg.CTR_ERR, 15, 0⟩
abbrev CTR_FACTMAC_HI_ADDR : Fld := ⟨Reg.CTR_FACTMAC_HI, 15, 0⟩
abbrev CTR_SESS0_SESSION (i : Nat) : Fld := ⟨Reg.CTR_SESS0 i, 31, 16⟩
abbrev CTR_SESS0_BINDING (i : Nat) : Fld := ⟨Reg.CTR_SESS0 i, 15, 8⟩
abbrev CTR_SESS0_ROLE (i : Nat) : Fld := ⟨Reg.CTR_SESS0 i, 7, 6⟩
abbrev CTR_SESS0_PH (i : Nat) : Fld := ⟨Reg.CTR_SESS0 i, 5, 0⟩
abbrev CTR_SESS1_STATE (i : Nat) : Fld := ⟨Reg.CTR_SESS1 i, 17, 16⟩
abbrev CTR_SESS1_TRANSPORT (i : Nat) : Fld := ⟨Reg.CTR_SESS1 i, 15, 12⟩
abbrev CTR_SESS1_IDLE (i : Nat) : Fld := ⟨Reg.CTR_SESS1 i, 11, 0⟩
abbrev KEY_STATUS_SVCREM : Fld := ⟨Reg.KEY_STATUS, 31, 16⟩
abbrev KEY_STATUS_WKOWNER : Fld := ⟨Reg.KEY_STATUS, 10, 8⟩
abbrev KEY_STATUS_TACTIVE : Fld := ⟨Reg.KEY_STATUS, 6, 6⟩
abbrev KEY_STATUS_FACTORY : Fld := ⟨Reg.KEY_STATUS, 5, 5⟩
abbrev KEY_STATUS_ROOTOK : Fld := ⟨Reg.KEY_STATUS, 4, 4⟩
abbrev KEY_STATUS_LC : Fld := ⟨Reg.KEY_STATUS, 2, 0⟩
abbrev KEY_CTRL_ZMASK : Fld := ⟨Reg.KEY_CTRL, 18, 16⟩
abbrev KEY_CTRL_SLOT : Fld := ⟨Reg.KEY_CTRL, 12, 8⟩
abbrev KEY_CTRL_CMD : Fld := ⟨Reg.KEY_CTRL, 3, 0⟩
abbrev KEY_LCCTRL_SVCHOURS : Fld := ⟨Reg.KEY_LCCTRL, 15, 8⟩
abbrev KEY_LCCTRL_CMD : Fld := ⟨Reg.KEY_LCCTRL, 2, 0⟩
abbrev KEY_TAMPER_TCOUNT : Fld := ⟨Reg.KEY_TAMPER, 31, 16⟩
abbrev KEY_TAMPER_SRC : Fld := ⟨Reg.KEY_TAMPER, 6, 0⟩
abbrev KEY_TAMPCFG_LOOPBEN : Fld := ⟨Reg.KEY_TAMPCFG, 1, 1⟩
abbrev KEY_TAMPCFG_LOOPAEN : Fld := ⟨Reg.KEY_TAMPCFG, 0, 0⟩
abbrev KEY_SLOT0_LCMASK (i : Nat) : Fld := ⟨Reg.KEY_SLOT0 i, 18, 16⟩
abbrev KEY_SLOT0_MASTERS (i : Nat) : Fld := ⟨Reg.KEY_SLOT0 i, 12, 8⟩
abbrev KEY_SLOT0_KIND (i : Nat) : Fld := ⟨Reg.KEY_SLOT0 i, 7, 4⟩
abbrev KEY_SLOT0_STATE (i : Nat) : Fld := ⟨Reg.KEY_SLOT0 i, 2, 0⟩
abbrev KEY_TLOG1_SEQ (i : Nat) : Fld := ⟨Reg.KEY_TLOG1 i, 31, 16⟩
abbrev KEY_TLOG1_VALID (i : Nat) : Fld := ⟨Reg.KEY_TLOG1 i, 15, 15⟩
abbrev KEY_TLOG1_LC (i : Nat) : Fld := ⟨Reg.KEY_TLOG1 i, 10, 8⟩
abbrev KEY_TLOG1_SRC (i : Nat) : Fld := ⟨Reg.KEY_TLOG1 i, 6, 0⟩
abbrev MOD_IMG_CTRL_DST : Fld := ⟨Reg.MOD_IMG_CTRL, 13, 12⟩
abbrev MOD_IMG_CTRL_SRC : Fld := ⟨Reg.MOD_IMG_CTRL, 9, 8⟩
abbrev MOD_IMG_CTRL_CMD : Fld := ⟨Reg.MOD_IMG_CTRL, 3, 0⟩
abbrev MOD_IMG_USE_RECOV : Fld := ⟨Reg.MOD_IMG_USE, 8, 8⟩
abbrev MOD_IMG_USE_PM : Fld := ⟨Reg.MOD_IMG_USE, 5, 4⟩
abbrev MOD_IMG_USE_LANE : Fld := ⟨Reg.MOD_IMG_USE, 1, 0⟩
abbrev MOD_IMG_SLOT0_PMUSE (i : Nat) : Fld := ⟨Reg.MOD_IMG_SLOT0 i, 17, 17⟩
abbrev MOD_IMG_SLOT0_LANEUSE (i : Nat) : Fld := ⟨Reg.MOD_IMG_SLOT0 i, 16, 16⟩
abbrev MOD_IMG_SLOT0_REASON (i : Nat) : Fld := ⟨Reg.MOD_IMG_SLOT0 i, 15, 8⟩
abbrev MOD_IMG_SLOT0_STATE (i : Nat) : Fld := ⟨Reg.MOD_IMG_SLOT0 i, 2, 0⟩
abbrev MOD_IMG_PROG_BLOCKS : Fld := ⟨Reg.MOD_IMG_PROG, 31, 16⟩
abbrev MOD_IMG_PROG_TOTAL : Fld := ⟨Reg.MOD_IMG_PROG, 15, 0⟩
abbrev RTC_CTRL_HALT : Fld := ⟨Reg.RTC_CTRL, 0, 0⟩
abbrev RTC_STATUS_SKIP2 : Fld := ⟨Reg.RTC_STATUS, 7, 7⟩
abbrev RTC_STATUS_SKIP1 : Fld := ⟨Reg.RTC_STATUS, 6, 6⟩
abbrev RTC_STATUS_AF2 : Fld := ⟨Reg.RTC_STATUS, 5, 5⟩
abbrev RTC_STATUS_AF1 : Fld := ⟨Reg.RTC_STATUS, 4, 4⟩
abbrev RTC_STATUS_WERR : Fld := ⟨Reg.RTC_STATUS, 3, 3⟩
abbrev RTC_STATUS_FRZLOST : Fld := ⟨Reg.RTC_STATUS, 2, 2⟩
abbrev RTC_STATUS_HALTED : Fld := ⟨Reg.RTC_STATUS, 1, 1⟩
abbrev RTC_STATUS_VALID : Fld := ⟨Reg.RTC_STATUS, 0, 0⟩
abbrev RTC_TRIM_TRIM : Fld := ⟨Reg.RTC_TRIM, 11, 0⟩
abbrev RTC_SUBSEC_SUBSEC : Fld := ⟨Reg.RTC_SUBSEC, 14, 0⟩
abbrev RTC_SEC_SEC : Fld := ⟨Reg.RTC_SEC, 5, 0⟩
abbrev RTC_MIN_MIN : Fld := ⟨Reg.RTC_MIN, 5, 0⟩
abbrev RTC_HOUR_HOUR : Fld := ⟨Reg.RTC_HOUR, 4, 0⟩
abbrev RTC_WDAY_WDAY : Fld := ⟨Reg.RTC_WDAY, 2, 0⟩
abbrev RTC_DATE_DATE : Fld := ⟨Reg.RTC_DATE, 4, 0⟩
abbrev RTC_MONTH_MONTH : Fld := ⟨Reg.RTC_MONTH, 3, 0⟩
abbrev RTC_YEAR_YEAR : Fld := ⟨Reg.RTC_YEAR, 11, 0⟩
abbrev RTC_ALM_CTRL_EN (i : Nat) : Fld := ⟨Reg.RTC_ALM_CTRL i, 7, 7⟩
abbrev RTC_ALM_CTRL_PWR (i : Nat) : Fld := ⟨Reg.RTC_ALM_CTRL i, 6, 6⟩
abbrev RTC_ALM_CTRL_KIND (i : Nat) : Fld := ⟨Reg.RTC_ALM_CTRL i, 2, 0⟩
abbrev RTC_ALM_TIME_HOUR (i : Nat) : Fld := ⟨Reg.RTC_ALM_TIME i, 20, 16⟩
abbrev RTC_ALM_TIME_MIN (i : Nat) : Fld := ⟨Reg.RTC_ALM_TIME i, 13, 8⟩
abbrev RTC_ALM_TIME_SEC (i : Nat) : Fld := ⟨Reg.RTC_ALM_TIME i, 5, 0⟩
abbrev RTC_ALM_DATE_YEAR (i : Nat) : Fld := ⟨Reg.RTC_ALM_DATE i, 31, 20⟩
abbrev RTC_ALM_DATE_MONTH (i : Nat) : Fld := ⟨Reg.RTC_ALM_DATE i, 19, 16⟩
abbrev RTC_ALM_DATE_WDAY (i : Nat) : Fld := ⟨Reg.RTC_ALM_DATE i, 10, 8⟩
abbrev RTC_ALM_DATE_DATE (i : Nat) : Fld := ⟨Reg.RTC_ALM_DATE i, 4, 0⟩
abbrev BAK_CHG_ILIM : Fld := ⟨Reg.BAK_CHG, 3, 2⟩
abbrev BAK_CHG_VLIM : Fld := ⟨Reg.BAK_CHG, 1, 1⟩
abbrev BAK_CHG_EN : Fld := ⟨Reg.BAK_CHG, 0, 0⟩
abbrev BAK_PWRON_CAUSE : Fld := ⟨Reg.BAK_PWRON, 11, 8⟩
abbrev BAK_PWRON_STATE : Fld := ⟨Reg.BAK_PWRON, 4, 4⟩
abbrev BAK_PWRON_CMD : Fld := ⟨Reg.BAK_PWRON, 1, 0⟩
abbrev BAK_STATUS_VBAK : Fld := ⟨Reg.BAK_STATUS, 31, 16⟩
abbrev BAK_STATUS_CHARGING : Fld := ⟨Reg.BAK_STATUS, 1, 1⟩
abbrev BAK_STATUS_ONVBAK : Fld := ⟨Reg.BAK_STATUS, 0, 0⟩
abbrev EVR_STATUS_FILL : Fld := ⟨Reg.EVR_STATUS, 26, 16⟩
abbrev EVR_STATUS_DROPPING : Fld := ⟨Reg.EVR_STATUS, 2, 2⟩
abbrev EVR_STATUS_WRAPPED : Fld := ⟨Reg.EVR_STATUS, 1, 1⟩
abbrev EVR_STATUS_RUN : Fld := ⟨Reg.EVR_STATUS, 0, 0⟩
abbrev EVR_HIGHFILL_FILL : Fld := ⟨Reg.EVR_HIGHFILL, 10, 0⟩
abbrev PWR_CTRL_RUNGSEL : Fld := ⟨Reg.PWR_CTRL, 10, 8⟩
abbrev PWR_CTRL_CMD : Fld := ⟨Reg.PWR_CTRL, 1, 0⟩
abbrev PWR_STATUS_DOMFAIL : Fld := ⟨Reg.PWR_STATUS, 11, 11⟩
abbrev PWR_STATUS_AXWAIT : Fld := ⟨Reg.PWR_STATUS, 10, 10⟩
abbrev PWR_STATUS_SUPLOST : Fld := ⟨Reg.PWR_STATUS, 9, 9⟩
abbrev PWR_STATUS_MOVING : Fld := ⟨Reg.PWR_STATUS, 8, 8⟩
abbrev PWR_STATUS_TARGET : Fld := ⟨Reg.PWR_STATUS, 6, 4⟩
abbrev PWR_STATUS_RUNG : Fld := ⟨Reg.PWR_STATUS, 2, 0⟩
abbrev PWR_DOMRUNG_DOM : Fld := ⟨Reg.PWR_DOMRUNG, 26, 0⟩
abbrev PWR_LADCFG_DLY2 : Fld := ⟨Reg.PWR_LADCFG, 31, 24⟩
abbrev PWR_LADCFG_RUNG2 : Fld := ⟨Reg.PWR_LADCFG, 18, 16⟩
abbrev PWR_LADCFG_DLY1 : Fld := ⟨Reg.PWR_LADCFG, 15, 8⟩
abbrev PWR_LADCFG_RUNG1 : Fld := ⟨Reg.PWR_LADCFG, 6, 4⟩
abbrev PWR_LADCFG_SUPSRC : Fld := ⟨Reg.PWR_LADCFG, 1, 0⟩
abbrev PWR_WAKE_SUPPLY : Fld := ⟨Reg.PWR_WAKE, 4, 4⟩
abbrev PWR_WAKE_SPI : Fld := ⟨Reg.PWR_WAKE, 3, 3⟩
abbrev PWR_WAKE_ALM2 : Fld := ⟨Reg.PWR_WAKE, 2, 2⟩
abbrev PWR_WAKE_ALM1 : Fld := ⟨Reg.PWR_WAKE, 1, 1⟩
abbrev PWR_WAKE_WAKEPIN : Fld := ⟨Reg.PWR_WAKE, 0, 0⟩
abbrev PWR_RSTCAUSE_LASTFLUSH : Fld := ⟨Reg.PWR_RSTCAUSE, 8, 8⟩
abbrev PWR_RSTCAUSE_CAUSE : Fld := ⟨Reg.PWR_RSTCAUSE, 3, 0⟩
abbrev PWR_VIN_MIN : Fld := ⟨Reg.PWR_VIN, 31, 16⟩
abbrev PWR_VIN_NOW : Fld := ⟨Reg.PWR_VIN, 15, 0⟩
abbrev PWR_PFCNT_SHORT : Fld := ⟨Reg.PWR_PFCNT, 31, 16⟩
abbrev PWR_PFCNT_PFAILS : Fld := ⟨Reg.PWR_PFCNT, 15, 0⟩

end F

/-! ## The tables -/

/-- Registers of the MOD tables (01_module_architecture.md R29, 03_manifest.md R93, 19_images_and_update.md R537). -/
def mapMOD : List RegDesc :=
  [
  ⟨"MOD_ID", 0x0, 1, 4294967296, 1, 4294967296,
    [⟨31, 0, .ro, [], 25619, false⟩]⟩,
  ⟨"MOD_HWREV", 0x4, 1, 4294967296, 1, 4294967296,
    [⟨15, 8, .ro, [], 1, false⟩, ⟨7, 0, .ro, [], 0, false⟩]⟩,
  ⟨"MOD_DOMAINS", 0x8, 1, 4294967296, 1, 4294967296,
    [⟨24, 16, .ro, [], 0, false⟩, ⟨8, 0, .ro, [], 3, false⟩]⟩,
  ⟨"MOD_MAN_CTRL", 0x100, 1, 4294967296, 1, 4294967296,
    [⟨9, 8, .wo, [.installer, .maker], 0, false⟩, ⟨2, 0, .wo, [.installer, .maker], 0, false⟩]⟩,
  ⟨"MOD_MAN_STATUS", 0x104, 1, 4294967296, 1, 4294967296,
    [⟨19, 16, .ro, [], 0, false⟩, ⟨8, 8, .w1c, [.installer, .maker], 0, false⟩, ⟨7, 7, .ro, [], 0, false⟩, ⟨5, 4, .ro, [], 0, false⟩, ⟨3, 3, .ro, [], 0, false⟩, ⟨1, 0, .ro, [], 0, false⟩]⟩,
  ⟨"MOD_MAN_RESULT", 0x108, 1, 4294967296, 1, 4294967296,
    [⟨29, 28, .ro, [], 0, false⟩, ⟨25, 24, .ro, [], 0, false⟩, ⟨22, 22, .ro, [], 0, false⟩, ⟨21, 21, .ro, [], 0, false⟩, ⟨20, 16, .ro, [], 0, false⟩, ⟨11, 8, .ro, [], 0, false⟩, ⟨7, 0, .ro, [], 0, false⟩]⟩,
  ⟨"MOD_MAN_REV", 0x10C, 1, 4294967296, 1, 4294967296,
    [⟨31, 0, .ro, [], 0, false⟩]⟩,
  ⟨"MOD_MAN_SLOT", 0x110, 4, 4, 1, 4,
    [⟨9, 8, .ro, [], 0, true⟩, ⟨5, 4, .ro, [], 0, true⟩, ⟨2, 0, .ro, [], 0, true⟩]⟩,
  ⟨"MOD_IMG_CTRL", 0x200, 1, 4294967296, 1, 4294967296,
    [⟨13, 12, .wo, [.maker], 0, false⟩, ⟨9, 8, .wo, [.maker], 0, false⟩, ⟨3, 0, .wo, [.maker], 0, false⟩]⟩,
  ⟨"MOD_IMG_USE", 0x204, 1, 4294967296, 1, 4294967296,
    [⟨8, 8, .ro, [], 0, false⟩, ⟨5, 4, .ro, [], 0, true⟩, ⟨1, 0, .ro, [], 0, true⟩]⟩,
  ⟨"MOD_IMG_SLOT0", 0x210, 4, 8, 1, 8,
    [⟨17, 17, .ro, [], 0, true⟩, ⟨16, 16, .ro, [], 0, true⟩, ⟨15, 8, .ro, [], 0, true⟩, ⟨2, 0, .ro, [], 0, true⟩]⟩,
  ⟨"MOD_IMG_SLOT1", 0x214, 4, 8, 1, 8,
    [⟨31, 0, .ro, [], 0, true⟩]⟩
  ] ++
  [
  ⟨"MOD_IMG_PROG", 0x230, 1, 4294967296, 1, 4294967296,
    [⟨31, 16, .ro, [], 0, true⟩, ⟨15, 0, .ro, [], 0, true⟩]⟩
  ]

/-- Registers of the PMK tables (02_postmark_timebase.md R64). -/
def mapPMK : List RegDesc :=
  [
  ⟨"PMK_CFG", 0x30000, 1, 4294967296, 1, 4294967296,
    [⟨23, 16, .rw, [.installer, .maker], 20, false⟩, ⟨15, 8, .rw, [.installer, .maker], 10, false⟩, ⟨6, 4, .rw, [.installer, .maker], 0, false⟩, ⟨2, 2, .rw, [.installer, .maker], 0, false⟩, ⟨0, 0, .rw, [.installer, .maker], 0, false⟩]⟩,
  ⟨"PMK_STATUS", 0x30004, 1, 4294967296, 1, 4294967296,
    [⟨23, 16, .ro, [], 0, false⟩, ⟨8, 8, .ro, [], 0, false⟩, ⟨7, 5, .ro, [], 0, false⟩, ⟨4, 4, .ro, [], 0, false⟩, ⟨3, 3, .ro, [], 0, false⟩, ⟨2, 2, .ro, [], 0, false⟩, ⟨1, 0, .ro, [], 0, false⟩]⟩,
  ⟨"PMK_EVT", 0x30008, 1, 4294967296, 1, 4294967296,
    [⟨4, 4, .w1c, [.operator, .installer, .maker], 0, false⟩, ⟨3, 3, .w1c, [.operator, .installer, .maker], 0, false⟩, ⟨2, 2, .w1c, [.operator, .installer, .maker], 0, false⟩, ⟨1, 1, .w1c, [.operator, .installer, .maker], 0, false⟩, ⟨0, 0, .w1c, [.operator, .installer, .maker], 0, false⟩]⟩,
  ⟨"PMK_NOW_LO", 0x30010, 1, 4294967296, 1, 4294967296,
    [⟨31, 20, .ro, [], 0, false⟩, ⟨19, 0, .ro, [], 0, false⟩]⟩,
  ⟨"PMK_NOW_HI", 0x30014, 1, 4294967296, 1, 4294967296,
    [⟨31, 0, .ro, [], 0, false⟩]⟩,
  ⟨"PMK_FREQ", 0x30018, 1, 4294967296, 1, 4294967296,
    [⟨31, 0, .ro, [], 50000000, false⟩]⟩,
  ⟨"PMK_REFFREQ", 0x3001C, 1, 4294967296, 1, 4294967296,
    [⟨31, 0, .ro, [], 0, false⟩]⟩,
  ⟨"PMK_PHERR", 0x30020, 1, 4294967296, 1, 4294967296,
    [⟨31, 0, .ro, [], 0, false⟩]⟩,
  ⟨"PMK_LOSSCNT", 0x30024, 1, 4294967296, 1, 4294967296,
    [⟨31, 16, .ro, [], 0, false⟩, ⟨15, 0, .ro, [], 0, false⟩]⟩,
  ⟨"PMK_COR_SEQ", 0x30030, 1, 4294967296, 1, 4294967296,
    [⟨31, 0, .ro, [], 0, false⟩]⟩,
  ⟨"PMK_COR_PM_LO", 0x30034, 1, 4294967296, 1, 4294967296,
    [⟨31, 0, .ro, [], 0, false⟩]⟩,
  ⟨"PMK_COR_PM_HI", 0x30038, 1, 4294967296, 1, 4294967296,
    [⟨31, 0, .ro, [], 0, false⟩]⟩
  ] ++
  [
  ⟨"PMK_COR_SEC", 0x3003C, 1, 4294967296, 1, 4294967296,
    [⟨31, 0, .ro, [], 0, false⟩]⟩,
  ⟨"PMK_COR_DELTA", 0x30040, 1, 4294967296, 1, 4294967296,
    [⟨31, 0, .ro, [], 0, false⟩]⟩,
  ⟨"PMK_COR_FLAGS", 0x30044, 1, 4294967296, 1, 4294967296,
    [⟨4, 4, .ro, [], 0, false⟩, ⟨3, 3, .ro, [], 0, false⟩, ⟨2, 2, .ro, [], 0, false⟩, ⟨1, 0, .ro, [], 0, false⟩]⟩
  ]

/-- Registers of the FPT tables (04_point_engine.md R142, 15_field_ports.md R451). -/
def mapFPT : List RegDesc :=
  [
  ⟨"FPT_STA", 0x580000, 2048, 8, 1, 8,
    [⟨31, 31, .rw, [.installer, .maker], 0, false⟩, ⟨28, 24, .ro, [], 0, false⟩, ⟨18, 16, .ro, [], 0, false⟩, ⟨15, 0, .ro, [], 0, false⟩]⟩,
  ⟨"FPT_STAAGE", 0x580004, 2048, 8, 1, 8,
    [⟨23, 0, .ro, [], 0, false⟩]⟩,
  ⟨"FPT_RNDCNT", 0x584000, 3, 4, 1, 4,
    [⟨31, 0, .ro, [], 0, false⟩]⟩,
  ⟨"FPT_EDEFER", 0x58400C, 1, 4294967296, 1, 4294967296,
    [⟨31, 0, .rc, [], 0, false⟩]⟩,
  ⟨"FPT_PG_STATUS", 0x500000, 24, 4096, 1, 4096,
    [⟨19, 16, .ro, [], 0, false⟩, ⟨10, 8, .ro, [], 0, false⟩, ⟨2, 0, .ro, [], 0, false⟩]⟩,
  ⟨"FPT_PG_RXCNT", 0x500004, 24, 4096, 1, 4096,
    [⟨31, 0, .ro, [], 0, false⟩]⟩,
  ⟨"FPT_PG_TXCNT", 0x500008, 24, 4096, 1, 4096,
    [⟨31, 0, .ro, [], 0, false⟩]⟩,
  ⟨"FPT_PG_LOST", 0x50000C, 24, 4096, 1, 4096,
    [⟨31, 0, .ro, [], 0, false⟩]⟩,
  ⟨"FPT_PG_CANCTRL", 0x500100, 24, 4096, 1, 4096,
    [⟨1, 1, .wo, [.installer, .maker], 0, false⟩, ⟨0, 0, .rw, [.installer, .maker], 0, false⟩]⟩,
  ⟨"FPT_PG_CANERR", 0x500104, 24, 4096, 1, 4096,
    [⟨31, 24, .ro, [], 0, false⟩, ⟨23, 16, .ro, [], 0, false⟩, ⟨8, 8, .ro, [], 0, false⟩, ⟨7, 0, .ro, [], 0, false⟩]⟩,
  ⟨"FPT_PG_CANSTAT", 0x500108, 24, 4096, 1, 4096,
    [⟨30, 24, .ro, [], 0, false⟩, ⟨18, 16, .rc, [], 0, false⟩, ⟨10, 8, .rc, [], 0, false⟩, ⟨1, 0, .ro, [], 0, false⟩]⟩,
  ⟨"FPT_PG_UARTERR", 0x500200, 24, 4096, 1, 4096,
    [⟨31, 24, .rc, [], 0, false⟩, ⟨23, 16, .rc, [], 0, false⟩, ⟨15, 8, .rc, [], 0, false⟩, ⟨7, 0, .rc, [], 0, false⟩]⟩
  ] ++
  [
  ⟨"FPT_PG_DALISTAT", 0x500300, 24, 4096, 1, 4096,
    [⟨31, 24, .rc, [], 0, false⟩, ⟨23, 16, .rc, [], 0, false⟩, ⟨2, 2, .ro, [], 0, false⟩, ⟨1, 1, .ro, [], 0, false⟩, ⟨0, 0, .ro, [], 0, false⟩]⟩,
  ⟨"FPT_PG_DALICTRL", 0x500304, 24, 4096, 1, 4096,
    [⟨1, 0, .wo, [.installer, .maker], 0, false⟩]⟩
  ]

/-- Registers of the TSK tables (05_cyclic_program.md R179, 06_online_change.md R197). -/
def mapTSK : List RegDesc :=
  [
  ⟨"TSK_CTRL", 0x2000000, 1, 4294967296, 1, 4294967296,
    [⟨16, 16, .wo, [.installer, .maker], 0, false⟩, ⟨13, 8, .wo, [.installer, .maker], 0, false⟩, ⟨3, 0, .wo, [.installer, .maker], 0, false⟩]⟩,
  ⟨"TSK_STATUS", 0x2000004, 1, 4294967296, 1, 4294967296,
    [⟨24, 24, .ro, [], 0, false⟩, ⟨21, 16, .ro, [], 0, false⟩, ⟨8, 8, .ro, [], 0, false⟩, ⟨7, 4, .ro, [], 3, false⟩, ⟨1, 0, .ro, [], 0, false⟩]⟩,
  ⟨"TSK_RESTARTS", 0x2000008, 1, 4294967296, 1, 4294967296,
    [⟨31, 16, .ro, [], 0, false⟩, ⟨15, 0, .ro, [], 0, false⟩]⟩,
  ⟨"TSK_DOORBELL", 0x200000C, 1, 4294967296, 1, 4294967296,
    [⟨31, 0, .wo, [.operator, .installer, .maker], 0, false⟩]⟩,
  ⟨"TSK_CYC", 0x2001000, 64, 16, 1, 16,
    [⟨31, 0, .ro, [], 0, false⟩]⟩,
  ⟨"TSK_LATE", 0x2001004, 64, 16, 1, 16,
    [⟨31, 16, .ro, [], 0, false⟩, ⟨15, 0, .ro, [], 0, false⟩]⟩,
  ⟨"TSK_EXEC", 0x2001008, 64, 16, 1, 16,
    [⟨31, 0, .ro, [], 0, false⟩]⟩,
  ⟨"TSK_MAXEXEC", 0x200100C, 64, 16, 1, 16,
    [⟨31, 0, .rc, [], 0, false⟩]⟩,
  ⟨"TSK_OC_STATUS", 0x2000040, 1, 4294967296, 1, 4294967296,
    [⟨17, 16, .ro, [], 0, false⟩, ⟨8, 8, .w1c, [.installer, .maker], 0, false⟩, ⟨6, 0, .ro, [], 0, false⟩]⟩,
  ⟨"TSK_OC_PEND_LO", 0x2000044, 1, 4294967296, 1, 4294967296,
    [⟨31, 0, .ro, [], 0, false⟩]⟩,
  ⟨"TSK_OC_PEND_HI", 0x2000048, 1, 4294967296, 1, 4294967296,
    [⟨31, 0, .ro, [], 0, false⟩]⟩,
  ⟨"TSK_OC_PM_LO", 0x200004C, 1, 4294967296, 1, 4294967296,
    [⟨31, 0, .ro, [], 0, false⟩]⟩
  ] ++
  [
  ⟨"TSK_OC_PM_HI", 0x2000050, 1, 4294967296, 1, 4294967296,
    [⟨31, 0, .ro, [], 0, false⟩]⟩,
  ⟨"TSK_OC_COUNT", 0x2000054, 1, 4294967296, 1, 4294967296,
    [⟨31, 0, .ro, [], 0, false⟩]⟩
  ]

/-- Registers of the CLE tables (07_control_engine.md R231, 08_axes_and_moving_media.md R261). -/
def mapCLE : List RegDesc :=
  [
  ⟨"CLE_AX_CTRL", 0x200000, 64, 4096, 1, 4096,
    [⟨1, 1, .wo, [.installer, .maker], 0, false⟩, ⟨0, 0, .wo, [.installer, .maker], 0, false⟩]⟩,
  ⟨"CLE_AX_STATUS", 0x200004, 64, 4096, 1, 4096,
    [⟨11, 11, .ro, [], 0, false⟩, ⟨10, 8, .ro, [], 0, false⟩, ⟨7, 7, .w1c, [.installer, .maker], 0, false⟩, ⟨6, 6, .w1c, [.installer, .maker], 0, false⟩, ⟨5, 5, .ro, [], 0, false⟩, ⟨4, 4, .ro, [], 0, false⟩, ⟨3, 3, .ro, [], 0, false⟩, ⟨2, 0, .ro, [], 0, false⟩]⟩,
  ⟨"CLE_AX_EXPCNT", 0x200008, 64, 4096, 1, 4096,
    [⟨31, 0, .ro, [], 0, false⟩]⟩,
  ⟨"CLE_AX_SATCNT", 0x20000C, 64, 4096, 1, 4096,
    [⟨31, 0, .ro, [], 0, false⟩]⟩,
  ⟨"CLE_AX_SKIPCNT", 0x200010, 64, 4096, 1, 4096,
    [⟨31, 0, .ro, [], 0, false⟩]⟩,
  ⟨"CLE_AX_MISCNT", 0x200014, 64, 4096, 1, 4096,
    [⟨31, 0, .ro, [], 0, false⟩]⟩,
  ⟨"CLE_AX_OUT", 0x200020, 64, 4096, 3, 4,
    [⟨31, 0, .ro, [], 0, false⟩]⟩,
  ⟨"CLE_AX_ERR", 0x200030, 64, 4096, 3, 4,
    [⟨31, 0, .ro, [], 0, false⟩]⟩,
  ⟨"CLE_AX_SEC_Y", 0x200100, 64, 4096, 12, 16,
    [⟨31, 0, .ro, [], 0, false⟩]⟩,
  ⟨"CLE_AX_SEC_S1", 0x200104, 64, 4096, 12, 16,
    [⟨31, 0, .ro, [], 0, false⟩]⟩,
  ⟨"CLE_AX_SEC_S2", 0x200108, 64, 4096, 12, 16,
    [⟨31, 0, .ro, [], 0, false⟩]⟩,
  ⟨"CLE_AX_SEC_ES", 0x20010C, 64, 4096, 12, 16,
    [⟨31, 0, .ro, [], 0, false⟩]⟩
  ] ++
  [
  ⟨"CLE_AX_SHADOW", 0x200200, 64, 4096, 128, 4,
    [⟨31, 0, .rw, [.installer, .maker], 0, false⟩]⟩,
  ⟨"CLE_AX_ACTIVE", 0x200400, 64, 4096, 128, 4,
    [⟨31, 0, .ro, [], 0, false⟩]⟩,
  ⟨"CLE_ENG_STATUS", 0x200F00, 1, 4294967296, 1, 4294967296,
    [⟨4, 4, .ro, [], 0, false⟩, ⟨3, 3, .ro, [], 0, false⟩, ⟨2, 2, .ro, [], 0, false⟩, ⟨1, 0, .ro, [], 0, false⟩]⟩,
  ⟨"CLE_ENG_LOSS", 0x200F04, 1, 4294967296, 1, 4294967296,
    [⟨31, 16, .ro, [], 0, false⟩, ⟨15, 0, .ro, [], 0, false⟩]⟩,
  ⟨"CLE_ENG_MISM", 0x200F08, 1, 4294967296, 1, 4294967296,
    [⟨31, 16, .ro, [], 0, false⟩, ⟨15, 0, .ro, [], 0, false⟩]⟩,
  ⟨"CLE_ENG_LOAD", 0x200F0C, 1, 4294967296, 1, 4294967296,
    [⟨31, 0, .ro, [], 0, false⟩]⟩,
  ⟨"CLE_AX_MCTRL", 0x200600, 64, 4096, 1, 4096,
    [⟨0, 0, .rw, [.installer, .maker], 0, false⟩]⟩,
  ⟨"CLE_AX_POS_LO", 0x200604, 64, 4096, 1, 4096,
    [⟨31, 0, .ro, [], 0, false⟩]⟩,
  ⟨"CLE_AX_POS_HI", 0x200608, 64, 4096, 1, 4096,
    [⟨31, 0, .ro, [], 0, false⟩]⟩,
  ⟨"CLE_AX_RAMPV", 0x20060C, 64, 4096, 1, 4096,
    [⟨31, 0, .ro, [], 0, false⟩]⟩,
  ⟨"CLE_AX_SDIST", 0x200610, 64, 4096, 1, 4096,
    [⟨31, 0, .ro, [], 0, false⟩]⟩,
  ⟨"CLE_AX_DRV", 0x200614, 64, 4096, 1, 4096,
    [⟨31, 16, .ro, [], 0, false⟩, ⟨15, 0, .ro, [], 0, false⟩]⟩
  ] ++
  [
  ⟨"CLE_AX_LINKERR", 0x200618, 64, 4096, 1, 4096,
    [⟨31, 16, .ro, [], 0, false⟩, ⟨15, 0, .ro, [], 0, false⟩]⟩,
  ⟨"CLE_AX_CMP_POS_LO", 0x200700, 64, 4096, 16, 16,
    [⟨31, 0, .ro, [], 0, false⟩]⟩,
  ⟨"CLE_AX_CMP_POS_HI", 0x200704, 64, 4096, 16, 16,
    [⟨31, 0, .ro, [], 0, false⟩]⟩,
  ⟨"CLE_AX_CMP_DIR", 0x200708, 64, 4096, 16, 16,
    [⟨2, 2, .ro, [], 0, false⟩, ⟨1, 0, .ro, [], 0, false⟩]⟩,
  ⟨"CLE_AX_CMP_FIRES", 0x20070C, 64, 4096, 16, 16,
    [⟨31, 0, .ro, [], 0, false⟩]⟩,
  ⟨"CLE_LINK", 0x200F40, 24, 4, 1, 4,
    [⟨23, 16, .ro, [], 0, false⟩, ⟨15, 8, .ro, [], 0, false⟩, ⟨1, 1, .w1c, [.installer, .maker], 0, false⟩, ⟨0, 0, .ro, [], 0, false⟩]⟩
  ]

/-- Registers of the MTR tables (09_metering.md R296). -/
def mapMTR : List RegDesc :=
  [
  ⟨"MTR_STATUS", 0x100000, 1, 4294967296, 1, 4294967296,
    [⟨31, 16, .ro, [], 0, false⟩, ⟨0, 0, .ro, [], 0, false⟩]⟩,
  ⟨"MTR_I_RMS", 0x101000, 32, 16, 1, 16,
    [⟨31, 0, .ro, [], 0, false⟩]⟩,
  ⟨"MTR_I_ANGLE", 0x101004, 32, 16, 1, 16,
    [⟨31, 0, .ro, [], 0, false⟩]⟩,
  ⟨"MTR_I_GAIN", 0x101008, 32, 16, 1, 16,
    [⟨23, 0, .rw, [.installer, .maker], 0, false⟩]⟩,
  ⟨"MTR_I_DELAY", 0x10100C, 32, 16, 1, 16,
    [⟨31, 0, .rw, [.installer, .maker], 0, false⟩]⟩,
  ⟨"MTR_V_RMS", 0x101200, 8, 16, 1, 16,
    [⟨31, 0, .ro, [], 0, false⟩]⟩,
  ⟨"MTR_V_ANGLE", 0x101204, 8, 16, 1, 16,
    [⟨31, 0, .ro, [], 0, false⟩]⟩,
  ⟨"MTR_V_GAIN", 0x101208, 8, 16, 1, 16,
    [⟨23, 0, .rw, [.installer, .maker], 0, false⟩]⟩,
  ⟨"MTR_V_DELAY", 0x10120C, 8, 16, 1, 16,
    [⟨31, 0, .rw, [.installer, .maker], 0, false⟩]⟩,
  ⟨"MTR_FREQ", 0x101280, 8, 4, 1, 4,
    [⟨31, 0, .ro, [], 0, false⟩]⟩,
  ⟨"MTR_G_STATUS", 0x102000, 16, 256, 1, 256,
    [⟨5, 5, .ro, [], 0, false⟩, ⟨4, 4, .w1c, [.operator, .installer, .maker], 0, false⟩, ⟨3, 3, .w1c, [.operator, .installer, .maker], 0, false⟩, ⟨2, 2, .w1c, [.operator, .installer, .maker], 0, false⟩, ⟨1, 1, .ro, [], 0, false⟩, ⟨0, 0, .ro, [], 0, false⟩]⟩,
  ⟨"MTR_G_P", 0x102004, 16, 256, 1, 256,
    [⟨31, 0, .ro, [], 0, false⟩]⟩
  ] ++
  [
  ⟨"MTR_G_Q", 0x102008, 16, 256, 1, 256,
    [⟨31, 0, .ro, [], 0, false⟩]⟩,
  ⟨"MTR_G_S", 0x10200C, 16, 256, 1, 256,
    [⟨31, 0, .ro, [], 0, false⟩]⟩,
  ⟨"MTR_G_PF", 0x102010, 16, 256, 1, 256,
    [⟨31, 0, .ro, [], 0, false⟩]⟩,
  ⟨"MTR_G_GAPSTART", 0x102014, 16, 256, 1, 256,
    [⟨31, 0, .ro, [], 0, true⟩]⟩,
  ⟨"MTR_G_GAPEND", 0x102018, 16, 256, 1, 256,
    [⟨31, 0, .ro, [], 0, true⟩]⟩,
  ⟨"MTR_G_E_LO", 0x102040, 16, 256, 6, 16,
    [⟨31, 0, .ro, [], 0, true⟩]⟩,
  ⟨"MTR_G_E_HI", 0x102044, 16, 256, 6, 16,
    [⟨31, 0, .ro, [], 0, true⟩]⟩,
  ⟨"MTR_G_WIN", 0x102048, 16, 256, 6, 16,
    [⟨31, 0, .ro, [], 0, false⟩]⟩,
  ⟨"MTR_G_WINSTAT", 0x10204C, 16, 256, 6, 16,
    [⟨9, 9, .ro, [], 0, false⟩, ⟨8, 8, .ro, [], 0, false⟩, ⟨7, 0, .ro, [], 0, false⟩]⟩,
  ⟨"MTR_PULSE_CFG", 0x103000, 8, 16, 1, 16,
    [⟨31, 31, .ro, [], 0, false⟩, ⟨19, 12, .ro, [], 0, false⟩, ⟨6, 4, .ro, [], 0, false⟩, ⟨3, 0, .ro, [], 0, false⟩]⟩,
  ⟨"MTR_PULSE_UPP", 0x103004, 8, 16, 1, 16,
    [⟨31, 0, .ro, [], 0, false⟩]⟩,
  ⟨"MTR_PULSE_CNT", 0x103008, 8, 16, 1, 16,
    [⟨31, 0, .ro, [], 0, false⟩]⟩
  ] ++
  [
  ⟨"MTR_PULSE_BACK", 0x10300C, 8, 16, 1, 16,
    [⟨31, 16, .ro, [], 0, false⟩, ⟨15, 0, .ro, [], 0, false⟩]⟩
  ]

/-- Registers of the GOV tables (10_demand_governor.md R313). -/
def mapGOV : List RegDesc :=
  [
  ⟨"GOV_CTRL", 0x400000, 1, 4294967296, 1, 4294967296,
    [⟨1, 0, .rw, [.installer, .maker], 0, false⟩]⟩,
  ⟨"GOV_FDR_STATUS", 0x400100, 16, 32, 1, 32,
    [⟨31, 16, .ro, [], 0, false⟩, ⟨3, 3, .ro, [], 0, false⟩, ⟨2, 2, .ro, [], 0, false⟩, ⟨1, 1, .ro, [], 0, false⟩, ⟨0, 0, .ro, [], 0, false⟩]⟩,
  ⟨"GOV_FDR_DF", 0x400104, 16, 32, 1, 32,
    [⟨31, 0, .ro, [], 0, false⟩]⟩,
  ⟨"GOV_FDR_LAST", 0x400108, 16, 32, 1, 32,
    [⟨31, 0, .ro, [], 0, false⟩]⟩,
  ⟨"GOV_FDR_OPT", 0x40010C, 16, 32, 1, 32,
    [⟨31, 0, .rw, [.operator, .installer, .maker], 0, false⟩]⟩,
  ⟨"GOV_RTS0", 0x401000, 64, 8, 1, 8,
    [⟨31, 16, .ro, [], 0, false⟩, ⟨15, 0, .ro, [], 0, false⟩]⟩,
  ⟨"GOV_RTS1", 0x401004, 64, 8, 1, 8,
    [⟨15, 0, .ro, [], 0, false⟩]⟩,
  ⟨"GOV_LD0", 0x404000, 4080, 8, 1, 8,
    [⟨7, 4, .ro, [], 0, false⟩, ⟨1, 0, .ro, [], 0, false⟩]⟩,
  ⟨"GOV_LD1", 0x404004, 4080, 8, 1, 8,
    [⟨31, 0, .ro, [], 0, false⟩]⟩
  ]

/-- Registers of the PMS tables (11_lanes_and_franks.md R344). -/
def mapPMS : List RegDesc :=
  [
  ⟨"PMS_CTRL", 0x50000, 1, 4294967296, 1, 4294967296,
    [⟨9, 8, .wo, [.installer, .maker], 0, false⟩, ⟨2, 0, .wo, [.installer, .maker], 0, false⟩]⟩,
  ⟨"PMS_STATUS", 0x50004, 1, 4294967296, 1, 4294967296,
    [⟨11, 9, .ro, [], 0, false⟩, ⟨8, 8, .ro, [], 0, false⟩, ⟨7, 7, .ro, [], 0, false⟩, ⟨6, 4, .ro, [], 0, false⟩, ⟨1, 0, .ro, [], 0, false⟩]⟩,
  ⟨"PMS_LANE", 0x50008, 2, 4, 1, 4,
    [⟨31, 16, .ro, [], 0, false⟩, ⟨7, 4, .ro, [], 0, false⟩, ⟨2, 0, .ro, [], 0, false⟩]⟩,
  ⟨"PMS_FRANK", 0x50010, 1, 4294967296, 1, 4294967296,
    [⟨31, 8, .ro, [], 0, false⟩, ⟨7, 4, .ro, [], 0, false⟩, ⟨3, 0, .ro, [], 0, false⟩]⟩,
  ⟨"PMS_TOCNT", 0x50014, 1, 4294967296, 1, 4294967296,
    [⟨31, 16, .ro, [], 0, false⟩, ⟨15, 0, .ro, [], 0, false⟩]⟩,
  ⟨"PMS_LASTTO", 0x50018, 1, 4294967296, 1, 4294967296,
    [⟨31, 0, .ro, [], 0, false⟩]⟩,
  ⟨"PMS_PMRST", 0x5001C, 1, 4294967296, 1, 4294967296,
    [⟨19, 16, .ro, [], 0, false⟩, ⟨15, 0, .ro, [], 0, false⟩]⟩,
  ⟨"PMS_STALE", 0x50020, 4, 4, 1, 4,
    [⟨31, 0, .ro, [], 0, false⟩]⟩,
  ⟨"PMS_SPARECFG", 0x50040, 1, 4294967296, 1, 4294967296,
    [⟨7, 0, .rw, [.installer, .maker], 24, true⟩]⟩,
  ⟨"PMS_PAIRCFG", 0x50050, 1, 4294967296, 1, 4294967296,
    [⟨3, 3, .rw, [.maker], 0, true⟩, ⟨2, 2, .rw, [.maker], 0, true⟩, ⟨1, 1, .rw, [.maker], 0, true⟩]⟩,
  ⟨"PMS_PAIR_PEER", 0x50054, 1, 4294967296, 1, 4294967296,
    [⟨31, 0, .rw, [.maker], 0, true⟩]⟩,
  ⟨"PMS_PAIR_WIT", 0x50058, 1, 4294967296, 1, 4294967296,
    [⟨31, 0, .rw, [.maker], 0, true⟩]⟩
  ] ++
  [
  ⟨"PMS_PAIRSTAT", 0x5005C, 1, 4294967296, 1, 4294967296,
    [⟨31, 16, .ro, [], 0, false⟩, ⟨5, 5, .ro, [], 0, false⟩, ⟨4, 4, .ro, [], 0, false⟩, ⟨2, 0, .ro, [], 0, true⟩]⟩,
  ⟨"PMS_PAIRCNT", 0x50060, 1, 4294967296, 1, 4294967296,
    [⟨31, 16, .ro, [], 0, true⟩, ⟨15, 0, .ro, [], 0, true⟩]⟩
  ]

/-- Registers of the SAF tables (12_safety_unit.md R375). -/
def mapSAF : List RegDesc :=
  [
  ⟨"SAF_CTRL", 0x60000, 1, 4294967296, 1, 4294967296,
    [⟨11, 8, .wo, [.installer, .maker], 0, false⟩, ⟨1, 0, .wo, [.installer, .maker], 0, false⟩]⟩,
  ⟨"SAF_STATUS", 0x60004, 1, 4294967296, 1, 4294967296,
    [⟨25, 25, .ro, [], 0, false⟩, ⟨24, 24, .ro, [], 0, false⟩, ⟨23, 16, .ro, [], 0, false⟩, ⟨15, 8, .ro, [], 0, false⟩, ⟨7, 4, .ro, [], 0, false⟩, ⟨2, 0, .ro, [], 1, false⟩]⟩,
  ⟨"SAF_SEAL", 0x60008, 1, 4294967296, 1, 4294967296,
    [⟨8, 8, .ro, [], 0, false⟩, ⟨7, 0, .ro, [], 0, false⟩]⟩,
  ⟨"SAF_CHECK", 0x6000C, 1, 4294967296, 1, 4294967296,
    [⟨31, 0, .ro, [], 0, false⟩]⟩,
  ⟨"SAF_CONFIRM", 0x60010, 1, 4294967296, 1, 4294967296,
    [⟨31, 0, .wo, [.installer], 0, false⟩]⟩,
  ⟨"SAF_CONFSTAT", 0x60014, 1, 4294967296, 1, 4294967296,
    [⟨31, 16, .ro, [], 0, false⟩, ⟨0, 0, .ro, [], 0, false⟩]⟩,
  ⟨"SAF_PAIR", 0x60100, 16, 4, 1, 4,
    [⟨26, 16, .ro, [], 0, false⟩, ⟨5, 5, .ro, [], 0, false⟩, ⟨4, 4, .ro, [], 0, false⟩, ⟨2, 0, .ro, [], 0, false⟩]⟩,
  ⟨"SAF_FUNC", 0x60200, 16, 4, 1, 4,
    [⟨31, 16, .ro, [], 0, false⟩, ⟨15, 8, .ro, [], 0, false⟩, ⟨2, 0, .ro, [], 0, false⟩]⟩,
  ⟨"SAF_OUT", 0x60300, 8, 4, 1, 4,
    [⟨7, 6, .ro, [], 0, false⟩, ⟨5, 4, .ro, [], 0, false⟩, ⟨1, 1, .ro, [], 0, false⟩, ⟨0, 0, .ro, [], 0, false⟩]⟩
  ]

/-- Registers of the PMC tables (13_persistent_memory.md R402). -/
def mapPMC : List RegDesc :=
  [
  ⟨"PMC_STATUS", 0xB0000, 1, 4294967296, 1, 4294967296,
    [⟨5, 5, .w1c, [.installer, .maker], 0, false⟩, ⟨4, 4, .w1c, [.installer, .maker], 0, false⟩, ⟨3, 3, .ro, [], 0, false⟩, ⟨2, 2, .ro, [], 0, false⟩, ⟨1, 0, .ro, [], 2, true⟩]⟩,
  ⟨"PMC_PROTCTL", 0xB0004, 1, 4294967296, 1, 4294967296,
    [⟨1, 0, .wo, [.installer, .maker], 0, false⟩]⟩,
  ⟨"PMC_RECOV", 0xB0008, 1, 4294967296, 1, 4294967296,
    [⟨31, 16, .ro, [], 0, false⟩, ⟨0, 0, .ro, [], 0, false⟩]⟩,
  ⟨"PMC_RECTIME", 0xB000C, 1, 4294967296, 1, 4294967296,
    [⟨31, 0, .ro, [], 0, false⟩]⟩,
  ⟨"PMC_JFILL", 0xB0010, 1, 4294967296, 1, 4294967296,
    [⟨31, 16, .rc, [], 0, false⟩, ⟨15, 0, .ro, [], 0, false⟩]⟩,
  ⟨"PMC_GROUPS_LO", 0xB0018, 1, 4294967296, 1, 4294967296,
    [⟨31, 0, .ro, [], 0, true⟩]⟩,
  ⟨"PMC_GROUPS_HI", 0xB001C, 1, 4294967296, 1, 4294967296,
    [⟨31, 0, .ro, [], 0, true⟩]⟩,
  ⟨"PMC_TWIN", 0xB0020, 1, 4294967296, 1, 4294967296,
    [⟨31, 16, .ro, [], 0, false⟩, ⟨15, 0, .ro, [], 0, false⟩]⟩,
  ⟨"PMC_ECC", 0xB0024, 1, 4294967296, 1, 4294967296,
    [⟨31, 16, .ro, [], 0, false⟩, ⟨15, 0, .ro, [], 0, false⟩]⟩,
  ⟨"PMC_ECCADDR", 0xB0028, 1, 4294967296, 1, 4294967296,
    [⟨25, 0, .ro, [], 0, false⟩]⟩,
  ⟨"PMC_SCRUB", 0xB002C, 1, 4294967296, 1, 4294967296,
    [⟨31, 0, .ro, [], 0, false⟩]⟩
  ]

/-- Registers of the ARB tables (14_trunk_arbiter_counters.md R418). -/
def mapARB : List RegDesc :=
  [
  ⟨"ARB_STATUS", 0xA0000, 1, 4294967296, 1, 4294967296,
    [⟨4, 4, .ro, [], 0, false⟩, ⟨3, 3, .ro, [], 0, false⟩, ⟨2, 0, .ro, [], 0, false⟩]⟩,
  ⟨"ARB_STARVLIM", 0xA0004, 1, 4294967296, 1, 4294967296,
    [⟨31, 0, .rw, [.installer, .maker], 40000, false⟩]⟩,
  ⟨"ARB_WLOAD", 0xA0008, 1, 4294967296, 1, 4294967296,
    [⟨31, 0, .ro, [], 0, false⟩]⟩,
  ⟨"ARB_WLOAD7", 0xA000C, 1, 4294967296, 1, 4294967296,
    [⟨31, 0, .ro, [], 0, false⟩]⟩,
  ⟨"ARB_RANK_WAIT", 0xA0100, 8, 8, 1, 8,
    [⟨31, 0, .rc, [], 0, false⟩]⟩,
  ⟨"ARB_RANK_STARVE", 0xA0104, 8, 8, 1, 8,
    [⟨31, 0, .ro, [], 0, false⟩]⟩
  ]

/-- Registers of the PRF tables (14_trunk_arbiter_counters.md R419). -/
def mapPRF : List RegDesc :=
  [
  ⟨"PRF_CTRL", 0x90000, 1, 4294967296, 1, 4294967296,
    [⟨0, 0, .wo, [.operator, .installer, .maker], 0, false⟩]⟩,
  ⟨"PRF_STATUS", 0x90004, 1, 4294967296, 1, 4294967296,
    [⟨16, 16, .ro, [], 0, false⟩, ⟨15, 0, .ro, [], 0, false⟩]⟩,
  ⟨"PRF_SNAPPM_LO", 0x90008, 1, 4294967296, 1, 4294967296,
    [⟨31, 0, .ro, [], 0, false⟩]⟩,
  ⟨"PRF_SNAPPM_HI", 0x9000C, 1, 4294967296, 1, 4294967296,
    [⟨31, 0, .ro, [], 0, false⟩]⟩,
  ⟨"PRF_U_CFG", 0x90100, 4, 256, 8, 4,
    [⟨31, 31, .rw, [.installer, .maker], 0, false⟩, ⟨30, 30, .rw, [.installer, .maker], 0, false⟩, ⟨19, 16, .rw, [.installer, .maker], 0, false⟩, ⟨7, 0, .rw, [.installer, .maker], 0, false⟩]⟩,
  ⟨"PRF_U_CYC_LO", 0x90120, 4, 256, 1, 256,
    [⟨31, 0, .ro, [], 0, false⟩]⟩,
  ⟨"PRF_U_CYC_HI", 0x90124, 4, 256, 1, 256,
    [⟨31, 0, .ro, [], 0, false⟩]⟩,
  ⟨"PRF_U_STATUS", 0x90128, 4, 256, 1, 256,
    [⟨8, 8, .ro, [], 0, false⟩, ⟨7, 0, .w1c, [.installer, .maker], 0, false⟩]⟩,
  ⟨"PRF_U_CNT_LO", 0x90140, 4, 256, 8, 8,
    [⟨31, 0, .ro, [], 0, false⟩]⟩,
  ⟨"PRF_U_CNT_HI", 0x90144, 4, 256, 8, 8,
    [⟨15, 0, .ro, [], 0, false⟩]⟩
  ]

/-- Registers of the ETH tables (16_frame_macs_mailbags.md R472). -/
def mapETH : List RegDesc :=
  [
  ⟨"ETH_STATUS", 0x600000, 7, 4096, 1, 4096,
    [⟨9, 8, .ro, [], 0, false⟩, ⟨1, 1, .ro, [], 0, false⟩, ⟨0, 0, .ro, [], 0, false⟩]⟩,
  ⟨"ETH_DROP", 0x600004, 7, 4096, 1, 4096,
    [⟨31, 16, .rc, [], 0, false⟩, ⟨15, 0, .rc, [], 0, false⟩]⟩,
  ⟨"ETH_PAUSE", 0x600008, 7, 4096, 1, 4096,
    [⟨31, 0, .ro, [], 0, false⟩]⟩,
  ⟨"ETH_CREDIT", 0x600020, 7, 4096, 8, 4,
    [⟨31, 0, .ro, [], 0, false⟩]⟩
  ]

/-- Registers of the MBG tables (16_frame_macs_mailbags.md R472). -/
def mapMBG : List RegDesc :=
  [
  ⟨"MBG_HEAD", 0x608000, 128, 16, 1, 16,
    [⟨11, 0, .ro, [], 0, false⟩]⟩,
  ⟨"MBG_TAIL", 0x608004, 128, 16, 1, 16,
    [⟨11, 0, .ro, [], 0, false⟩]⟩,
  ⟨"MBG_CNT", 0x608008, 128, 16, 1, 16,
    [⟨31, 0, .ro, [], 0, false⟩]⟩,
  ⟨"MBG_DROP", 0x60800C, 128, 16, 1, 16,
    [⟨31, 0, .ro, [], 0, false⟩]⟩
  ]

/-- Registers of the CTR tables (17_counter_port_roles.md R495). -/
def mapCTR : List RegDesc :=
  [
  ⟨"CTR_STATUS", 0x10000, 1, 4294967296, 1, 4294967296,
    [⟨31, 24, .ro, [], 0, false⟩, ⟨23, 20, .ro, [], 0, false⟩, ⟨19, 16, .ro, [], 0, false⟩, ⟨0, 0, .ro, [], 0, false⟩]⟩,
  ⟨"CTR_LONGOP", 0x10004, 1, 4294967296, 1, 4294967296,
    [⟨31, 24, .ro, [], 0, true⟩, ⟨23, 20, .ro, [], 0, true⟩, ⟨16, 16, .ro, [], 0, true⟩, ⟨7, 0, .ro, [], 0, true⟩]⟩,
  ⟨"CTR_SELF", 0x10008, 1, 4294967296, 1, 4294967296,
    [⟨31, 16, .ro, [], 0, false⟩, ⟨15, 8, .ro, [], 0, false⟩, ⟨7, 6, .ro, [], 0, false⟩, ⟨5, 0, .ro, [], 0, false⟩]⟩,
  ⟨"CTR_KILL", 0x1000C, 1, 4294967296, 1, 4294967296,
    [⟨15, 0, .wo, [.maker], 0, false⟩]⟩,
  ⟨"CTR_ERR", 0x10010, 1, 4294967296, 1, 4294967296,
    [⟨31, 16, .rc, [], 0, false⟩, ⟨15, 0, .rc, [], 0, false⟩]⟩,
  ⟨"CTR_AUTHCNT", 0x10014, 1, 4294967296, 1, 4294967296,
    [⟨31, 0, .ro, [], 0, false⟩]⟩,
  ⟨"CTR_FACTMAC_LO", 0x10020, 1, 4294967296, 1, 4294967296,
    [⟨31, 0, .ro, [], 0, true⟩]⟩,
  ⟨"CTR_FACTMAC_HI", 0x10024, 1, 4294967296, 1, 4294967296,
    [⟨15, 0, .ro, [], 0, true⟩]⟩,
  ⟨"CTR_DEFIP", 0x10028, 1, 4294967296, 1, 4294967296,
    [⟨31, 0, .rw, [.maker], 2852012096, true⟩]⟩,
  ⟨"CTR_SESS0", 0x10100, 8, 8, 1, 8,
    [⟨31, 16, .ro, [], 0, false⟩, ⟨15, 8, .ro, [], 0, false⟩, ⟨7, 6, .ro, [], 0, false⟩, ⟨5, 0, .ro, [], 0, false⟩]⟩,
  ⟨"CTR_SESS1", 0x10104, 8, 8, 1, 8,
    [⟨17, 16, .ro, [], 0, false⟩, ⟨15, 12, .ro, [], 0, false⟩, ⟨11, 0, .ro, [], 0, false⟩]⟩
  ]

/-- Registers of the KEY tables (18_keys_lifecycle.md R517). -/
def mapKEY : List RegDesc :=
  [
  ⟨"KEY_STATUS", 0x70000, 1, 4294967296, 1, 4294967296,
    [⟨31, 16, .ro, [], 0, false⟩, ⟨10, 8, .ro, [], 0, false⟩, ⟨6, 6, .ro, [], 0, false⟩, ⟨5, 5, .ro, [], 0, false⟩, ⟨4, 4, .ro, [], 0, false⟩, ⟨2, 0, .ro, [], 0, true⟩]⟩,
  ⟨"KEY_CTRL", 0x70004, 1, 4294967296, 1, 4294967296,
    [⟨18, 16, .wo, [.maker], 0, false⟩, ⟨12, 8, .wo, [.installer, .maker], 0, false⟩, ⟨3, 0, .wo, [.installer, .maker], 0, false⟩]⟩,
  ⟨"KEY_LCCTRL", 0x70008, 1, 4294967296, 1, 4294967296,
    [⟨15, 8, .rw, [.installer, .maker], 8, true⟩, ⟨2, 0, .wo, [.installer, .maker], 0, false⟩]⟩,
  ⟨"KEY_TAMPER", 0x7000C, 1, 4294967296, 1, 4294967296,
    [⟨31, 16, .ro, [], 0, true⟩, ⟨6, 0, .w1c, [.maker], 0, true⟩]⟩,
  ⟨"KEY_TAMPCFG", 0x70010, 1, 4294967296, 1, 4294967296,
    [⟨1, 1, .rw, [.maker], 0, true⟩, ⟨0, 0, .rw, [.maker], 0, true⟩]⟩,
  ⟨"KEY_LOADATTR", 0x70020, 3, 4, 1, 4,
    [⟨31, 0, .rw, [.maker], 0, false⟩]⟩,
  ⟨"KEY_NONCE", 0x70040, 8, 4, 1, 4,
    [⟨31, 0, .rw, [.installer, .maker], 0, false⟩]⟩,
  ⟨"KEY_LOADWIN", 0x70080, 24, 4, 1, 4,
    [⟨31, 0, .wo, [.maker], 0, false⟩]⟩,
  ⟨"KEY_SLOT0", 0x70100, 32, 16, 1, 16,
    [⟨18, 16, .ro, [], 0, true⟩, ⟨12, 8, .ro, [], 0, true⟩, ⟨7, 4, .ro, [], 0, true⟩, ⟨2, 0, .ro, [], 0, true⟩]⟩,
  ⟨"KEY_SLOT1", 0x70104, 32, 16, 1, 16,
    [⟨31, 0, .ro, [], 0, true⟩]⟩,
  ⟨"KEY_SLOT2", 0x70108, 32, 16, 1, 16,
    [⟨31, 0, .ro, [], 0, true⟩]⟩,
  ⟨"KEY_SLOT3", 0x7010C, 32, 16, 1, 16,
    [⟨31, 0, .ro, [], 0, true⟩]⟩
  ] ++
  [
  ⟨"KEY_TLOG0", 0x70400, 16, 8, 1, 8,
    [⟨31, 0, .ro, [], 0, true⟩]⟩,
  ⟨"KEY_TLOG1", 0x70404, 16, 8, 1, 8,
    [⟨31, 16, .ro, [], 0, true⟩, ⟨15, 15, .ro, [], 0, true⟩, ⟨10, 8, .ro, [], 0, true⟩, ⟨6, 0, .ro, [], 0, true⟩]⟩,
  ⟨"KEY_ATTBUF", 0x78000, 4100, 4, 1, 4,
    [⟨31, 0, .ro, [], 0, false⟩]⟩
  ]

/-- Registers of the RTC tables (20_rtc_backup_domain.md R555). -/
def mapRTC : List RegDesc :=
  [
  ⟨"RTC_CTRL", 0x40000, 1, 4294967296, 1, 4294967296,
    [⟨0, 0, .rw, [.operator, .installer, .maker], 0, false⟩]⟩,
  ⟨"RTC_STATUS", 0x40004, 1, 4294967296, 1, 4294967296,
    [⟨7, 7, .w1c, [.operator, .installer, .maker], 0, false⟩, ⟨6, 6, .w1c, [.operator, .installer, .maker], 0, false⟩, ⟨5, 5, .w1c, [.operator, .installer, .maker], 0, false⟩, ⟨4, 4, .w1c, [.operator, .installer, .maker], 0, false⟩, ⟨3, 3, .rc, [], 0, false⟩, ⟨2, 2, .rc, [], 0, false⟩, ⟨1, 1, .ro, [], 0, false⟩, ⟨0, 0, .ro, [], 0, false⟩]⟩,
  ⟨"RTC_TRIM", 0x40008, 1, 4294967296, 1, 4294967296,
    [⟨11, 0, .rw, [.installer, .maker], 0, false⟩]⟩,
  ⟨"RTC_SUBSEC", 0x40010, 1, 4294967296, 1, 4294967296,
    [⟨14, 0, .ro, [], 0, false⟩]⟩,
  ⟨"RTC_SEC", 0x40014, 1, 4294967296, 1, 4294967296,
    [⟨5, 0, .rw, [.operator, .installer, .maker], 0, false⟩]⟩,
  ⟨"RTC_MIN", 0x40018, 1, 4294967296, 1, 4294967296,
    [⟨5, 0, .rw, [.operator, .installer, .maker], 0, false⟩]⟩,
  ⟨"RTC_HOUR", 0x4001C, 1, 4294967296, 1, 4294967296,
    [⟨4, 0, .rw, [.operator, .installer, .maker], 0, false⟩]⟩,
  ⟨"RTC_WDAY", 0x40020, 1, 4294967296, 1, 4294967296,
    [⟨2, 0, .ro, [], 6, false⟩]⟩,
  ⟨"RTC_DATE", 0x40024, 1, 4294967296, 1, 4294967296,
    [⟨4, 0, .rw, [.operator, .installer, .maker], 1, false⟩]⟩,
  ⟨"RTC_MONTH", 0x40028, 1, 4294967296, 1, 4294967296,
    [⟨3, 0, .rw, [.operator, .installer, .maker], 1, false⟩]⟩,
  ⟨"RTC_YEAR", 0x4002C, 1, 4294967296, 1, 4294967296,
    [⟨11, 0, .rw, [.operator, .installer, .maker], 2000, false⟩]⟩,
  ⟨"RTC_ALM_CTRL", 0x40040, 2, 16, 1, 16,
    [⟨7, 7, .rw, [.operator, .installer, .maker], 0, false⟩, ⟨6, 6, .rw, [.operator, .installer, .maker], 0, false⟩, ⟨2, 0, .rw, [.operator, .installer, .maker], 0, false⟩]⟩
  ] ++
  [
  ⟨"RTC_ALM_TIME", 0x40044, 2, 16, 1, 16,
    [⟨20, 16, .rw, [.operator, .installer, .maker], 0, false⟩, ⟨13, 8, .rw, [.operator, .installer, .maker], 0, false⟩, ⟨5, 0, .rw, [.operator, .installer, .maker], 0, false⟩]⟩,
  ⟨"RTC_ALM_DATE", 0x40048, 2, 16, 1, 16,
    [⟨31, 20, .rw, [.operator, .installer, .maker], 0, false⟩, ⟨19, 16, .rw, [.operator, .installer, .maker], 0, false⟩, ⟨10, 8, .rw, [.operator, .installer, .maker], 0, false⟩, ⟨4, 0, .rw, [.operator, .installer, .maker], 0, false⟩]⟩,
  ⟨"RTC_ALM_LAST", 0x4004C, 2, 16, 1, 16,
    [⟨31, 0, .ro, [], 0, false⟩]⟩
  ]

/-- Registers of the BAK tables (20_rtc_backup_domain.md R555). -/
def mapBAK : List RegDesc :=
  [
  ⟨"BAK_CHG", 0x40080, 1, 4294967296, 1, 4294967296,
    [⟨3, 2, .rw, [.installer, .maker], 0, false⟩, ⟨1, 1, .rw, [.installer, .maker], 0, false⟩, ⟨0, 0, .rw, [.installer, .maker], 0, false⟩]⟩,
  ⟨"BAK_PWRON", 0x40084, 1, 4294967296, 1, 4294967296,
    [⟨11, 8, .ro, [], 0, false⟩, ⟨4, 4, .ro, [], 1, false⟩, ⟨1, 0, .wo, [.installer, .maker], 0, false⟩]⟩,
  ⟨"BAK_STATUS", 0x40088, 1, 4294967296, 1, 4294967296,
    [⟨31, 16, .ro, [], 0, false⟩, ⟨1, 1, .ro, [], 0, false⟩, ⟨0, 0, .rc, [], 0, false⟩]⟩
  ]

/-- Registers of the EVR tables (21_event_recorder.md R569). -/
def mapEVR : List RegDesc :=
  [
  ⟨"EVR_STATUS", 0x80000, 1, 4294967296, 1, 4294967296,
    [⟨26, 16, .ro, [], 0, false⟩, ⟨2, 2, .ro, [], 0, false⟩, ⟨1, 1, .ro, [], 0, false⟩, ⟨0, 0, .ro, [], 0, false⟩]⟩,
  ⟨"EVR_NEWEST", 0x80004, 1, 4294967296, 1, 4294967296,
    [⟨31, 0, .ro, [], 4294967295, true⟩]⟩,
  ⟨"EVR_OLDEST", 0x80008, 1, 4294967296, 1, 4294967296,
    [⟨31, 0, .ro, [], 0, true⟩]⟩,
  ⟨"EVR_DROPPED", 0x8000C, 1, 4294967296, 1, 4294967296,
    [⟨31, 0, .ro, [], 0, false⟩]⟩,
  ⟨"EVR_SUPPRESSED", 0x80010, 1, 4294967296, 1, 4294967296,
    [⟨31, 0, .ro, [], 0, false⟩]⟩,
  ⟨"EVR_HIGHFILL", 0x80014, 1, 4294967296, 1, 4294967296,
    [⟨10, 0, .rc, [], 0, false⟩]⟩
  ]

/-- Registers of the PWR tables (22_power_ladder_reset.md R590). -/
def mapPWR : List RegDesc :=
  [
  ⟨"PWR_CTRL", 0x20000, 1, 4294967296, 1, 4294967296,
    [⟨10, 8, .wo, [.installer, .maker], 0, false⟩, ⟨1, 0, .wo, [.installer, .maker], 0, false⟩]⟩,
  ⟨"PWR_STATUS", 0x20004, 1, 4294967296, 1, 4294967296,
    [⟨11, 11, .w1c, [.installer, .maker], 0, false⟩, ⟨10, 10, .ro, [], 0, false⟩, ⟨9, 9, .ro, [], 0, false⟩, ⟨8, 8, .ro, [], 0, false⟩, ⟨6, 4, .ro, [], 0, false⟩, ⟨2, 0, .ro, [], 0, false⟩]⟩,
  ⟨"PWR_DOMRUNG", 0x20008, 1, 4294967296, 1, 4294967296,
    [⟨26, 0, .ro, [], 115043712, false⟩]⟩,
  ⟨"PWR_LADCFG", 0x2000C, 1, 4294967296, 1, 4294967296,
    [⟨31, 24, .rw, [.installer, .maker], 0, true⟩, ⟨18, 16, .rw, [.installer, .maker], 0, true⟩, ⟨15, 8, .rw, [.installer, .maker], 0, true⟩, ⟨6, 4, .rw, [.installer, .maker], 0, true⟩, ⟨1, 0, .rw, [.installer, .maker], 0, true⟩]⟩,
  ⟨"PWR_WAKE", 0x20010, 1, 4294967296, 1, 4294967296,
    [⟨4, 4, .rw, [.installer, .maker], 0, true⟩, ⟨3, 3, .rw, [.installer, .maker], 0, true⟩, ⟨2, 2, .rw, [.installer, .maker], 0, true⟩, ⟨1, 1, .rw, [.installer, .maker], 0, true⟩, ⟨0, 0, .rw, [.installer, .maker], 0, true⟩]⟩,
  ⟨"PWR_RSTCAUSE", 0x20014, 1, 4294967296, 1, 4294967296,
    [⟨8, 8, .ro, [], 0, false⟩, ⟨3, 0, .ro, [], 0, false⟩]⟩,
  ⟨"PWR_VIN", 0x20018, 1, 4294967296, 1, 4294967296,
    [⟨31, 16, .rc, [], 0, false⟩, ⟨15, 0, .ro, [], 0, false⟩]⟩,
  ⟨"PWR_STARTT", 0x2001C, 1, 4294967296, 1, 4294967296,
    [⟨31, 0, .ro, [], 0, false⟩]⟩,
  ⟨"PWR_PFCNT", 0x20020, 1, 4294967296, 1, 4294967296,
    [⟨31, 16, .ro, [], 0, true⟩, ⟨15, 0, .ro, [], 0, true⟩]⟩
  ]

/-- All register tables of the spec. -/
def regMap : List RegDesc :=
  mapMOD ++ mapPMK ++ mapFPT ++ mapTSK ++ mapCLE ++ mapMTR ++ mapGOV ++ mapPMS ++ mapSAF ++ mapPMC ++ mapARB ++ mapPRF ++ mapETH ++ mapMBG ++ mapCTR ++ mapKEY ++ mapRTC ++ mapBAK ++ mapEVR ++ mapPWR

/-! ## Blocks of the address map (R27) -/

/-- The register blocks and windows of R27. -/
inductive Blk where
  | mod | ctr | pwr | pmk | rtc | pms | saf | key | evr | prf | arb | pmc | mtr | cle | cleTab | gov | fpt | eth
  | pts | tsk | pmw
  deriving DecidableEq, Repr

/-- The block of R27 in which an address lies. -/
def blockOf (a : Nat) : Option Blk :=
  if a < 0x10000 then some .mod else if a < 0x20000 then some .ctr else if a < 0x30000 then some .pwr
  else if a < 0x40000 then some .pmk else if a < 0x50000 then some .rtc else if a < 0x60000 then some .pms
  else if a < 0x70000 then some .saf else if a < 0x80000 then some .key else if a < 0x90000 then some .evr
  else if a < 0xA0000 then some .prf else if a < 0xB0000 then some .arb else if a < 0xC0000 then some .pmc
  else if a < 0x100000 then none else if a < 0x200000 then some .mtr else if a < 0x240000 then some .cle
  else if a < 0x300000 then none else if a < 0x400000 then some .cleTab else if a < 0x500000 then some .gov
  else if a < 0x600000 then some .fpt else if a < 0x700000 then some .eth else if a < 0x1000000 then none
  else if a < 0x1200000 then some .pts else if a < 0x2000000 then none else if a < 0x3000000 then some .tsk
  else if a < 0x100000000 then none else if a < 0x200000000 then some .pmw else none

/-- The register tables that a block holds. -/
def tablesOf : Blk → List RegDesc
  | .mod => mapMOD | .ctr => mapCTR | .pwr => mapPWR | .pmk => mapPMK | .rtc => mapRTC ++ mapBAK | .pms => mapPMS
  | .saf => mapSAF | .key => mapKEY | .evr => mapEVR | .prf => mapPRF | .arb => mapARB | .pmc => mapPMC
  | .mtr => mapMTR | .cle => mapCLE | .cleTab => [] | .gov => mapGOV | .fpt => mapFPT | .eth => mapETH ++ mapMBG
  | .pts => [] | .tsk => mapTSK | .pmw => []

/-- The address under which a register word is kept: the engine and link registers of CLE, offsets 16#0F00 and above,
are the same words in every axis window (R231). -/
def canonAddr (a : Nat) : Nat :=
  if 0x200000 ≤ a ∧ a < 0x240000 ∧ 0xF00 ≤ a % 0x1000 then 0x200000 + a % 0x1000 else a

/-- Whether address `a` is one of the words that a table row describes. -/
def RegDesc.hit (d : RegDesc) (a : Nat) : Bool :=
  decide (d.base ≤ a) && decide ((a - d.base) / d.s1 < d.n1)
    && ((a - d.base) % d.s1 % d.s2 == 0) && decide ((a - d.base) % d.s1 / d.s2 < d.n2)

/-- The register at an address, if the map defines one. -/
def findReg (a : Nat) : Option RegDesc :=
  (blockOf a).bind fun b => (tablesOf b).find? fun d => d.hit (canonAddr a)

/-- The reset value of a register word (R8). -/
def RegDesc.resetWord (d : RegDesc) : Word :=
  d.fields.foldl (fun w f => w.setBits f.hi f.lo f.reset) 0

/-- The word a register address holds at reset; 0 where no register lies. -/
def resetOf (a : Nat) : Word :=
  match findReg a with
  | some d => d.resetWord
  | none => 0

end Sys2Proof.Machine
end

