-- ==== Sys2Proof/Machine/State.lean ====
section
/-! DEFINITION. The state of the module, as plain data: the queue of waiting commands, the register words, and what
each unit keeps that no register shows. -/

namespace Sys2Proof.Machine

/-- What stops the block. -/
inductive Fault where
  /-- A Registry group names a cell outside the 4 GiB array of R376. Raised by REGISTRY_GROUP_SUBMIT. Safe: the model
  stops where the spec gives the address no meaning. -/
  | outsideArray (offset : Nat)
  deriving DecidableEq, Repr

/-- Why a command has no meaning. -/
inductive Refusal where
  /-- A row of the command table whose meaning is not modelled yet. Raised by the dispatch only. Safe. -/
  | notModelled (mnemonic : String)
  deriving DecidableEq, Repr

/-! ## Twin records (R388) -/

/-- One slot of a twin record: blank, invalid (with what its header still tells, where its own check passes), or valid
with its 64-bit sequence and contents. -/
inductive TSlot (α : Type) where
  | blank
  | invalid (header : Option α)
  | valid (seq : Nat) (c : α)
  deriving DecidableEq, Repr

/-- A twin record: slot A at the lower offset, slot B at the higher. -/
structure Twin (α : Type) where
  a : TSlot α
  b : TSlot α
  deriving DecidableEq, Repr

/-! ## Event recorder (chapter 21) -/

/-- One record before it is laid out in its 128 bytes (R557); `seq` is none until the recorder has resumed (R566). -/
structure EvRec where
  seq : Option Nat
  code : Nat
  flags : Nat
  pm : Postmark
  sec : Nat
  subsec : Nat
  role : Nat
  ph : Nat
  suppr : Nat
  session : Nat
  frank : Word
  snap : List Word
  drops : Nat
  deriving DecidableEq, Repr

/-- A token bucket of R561: its code and key, tokens in 1/3,600,000,000,000 parts, the moment they were counted, and the
suppressed count. -/
structure Bucket where
  code : Nat
  key : Nat
  tokens : Nat
  ns : Nat
  suppr : Nat
  deriving DecidableEq, Repr

/-- The recorder engine of REF (R562 to R566); `cfg` is the RECORDER section in force (R559). -/
structure Evr where
  buf : List EvRec
  next : Nat
  resumed : Bool
  dropping : Bool
  dropgap : Bool
  dropCount : Nat
  dropFirst : Postmark
  dropLast : Postmark
  dropped : Nat
  suppressed : Nat
  highfill : Nat
  newest : Nat
  oldest : Nat
  wrapped : Bool
  run : Bool
  buckets : List Bucket
  cfg : List Rec
  saved : Twin Nat
  deriving DecidableEq, Repr

/-! ## Postmark clock (chapter 2) -/

/-- A correlation record (R61 and the table before it). -/
structure Cor where
  seq : Nat
  pm : Postmark
  sec : Nat
  delta : Nat
  state : Nat
  slew : Nat
  set : Nat
  cntest : Nat
  deriving DecidableEq, Repr

/-- The postmark clock of MTR: what its registers do not show. Frequencies are exact, in microhertz. `goods` are the
frequencies of the good reference cycles since qualification began, at most 4, newest first; `hist` the frequencies of
the last complete clock cycles, at most 50, newest first; `zc` the last zero crossing (ns) and the frequency measured
up to it; `cfg` the PMK_CFG in force and `cfgNew` a write that waits for the cycle boundary, with its source role. -/
structure Clock where
  cycle : BitVec 44
  angle : BitVec 20
  f : Rat
  c : Int
  goods : List Nat
  hist : List Rat
  fly : Rat
  slewCycles : Nat
  slewEnd : Bool
  zc : Option (Nat × Nat)
  cfg : Word
  cfgNew : Option (Word × Nat)
  cor : Option Cor
  frozen : Option Cor
  stateChanged : Bool
  setSince : Bool
  saved : Twin (Nat × Nat)
  deriving DecidableEq, Repr

/-! ## Persistent memory and the Registry (chapter 13) -/

/-- A save of the energy store (R283, R395): sequence, end postmark, RTC seconds, FLUSH, HOLD of the clock state, and
the energy words: per group and register, the value in units of 2^-32, the group flags, and the pulse residues. -/
structure EnergySave where
  seq : Nat
  pm : Postmark
  sec : Nat
  secValid : Bool
  flush : Bool
  energy : List (Nat × Nat)
  flags : List (Nat × Nat)
  residues : List (Nat × Nat)
  deriving DecidableEq, Repr

/-- The contents of a checkpoint slot (R393, R168): area, frank, release postmark, instance data with its length, the committed
outputs, and the counters it carries. -/
structure Ckpt where
  area : Nat
  frank : Word
  relpm : Postmark
  len : Nat
  data : Mem
  outs : List (Nat × Word)
  cyc : Word
  late : Word
  maxexec : Word
  deriving DecidableEq, Repr

/-- The checkpoint slots of one task (R393): a twin record in the lower halves of the two checkpoint areas, for program area 0,
and one in the upper halves, for program area 1. -/
structure CkSlots where
  low : Twin Ckpt
  high : Twin Ckpt
  deriving DecidableEq, Repr

/-- The checkpoint of the lane firmware with the governor (R392, R393, R297): the program area, the program mode with CAUSE,
the restart counts, the frank and postmark of its header, the governor's mode, and the governed loads. -/
structure Fw where
  area : Nat
  mode : Nat
  cause : Nat
  restarts : Word
  frank : Word
  relpm : Postmark
  gmode : Nat
  held : List LoadCk
  deriving DecidableEq, Repr

/-- What a journal entry writes when it becomes durable (R379, R385, R392): marked bytes of cells, an energy save, a
task's header, the saved cycle count with the RTC time, the frank epoch, the last active lane, the manifest slot states,
the block-protect level, persisted register words, the records of the point-store mirror, the recorder's next SEQ, the
confirmed check value and the latch record of the safety unit, a checkpoint slot of the pair replication buffer (R394), the
epoch block that this module grants as witness (R337), the checkpoints of tasks that switch to a new program together with the
slot states (R191), and the BACKUP record (R573). -/
inductive Payload where
  | bytes (cells : List (Nat × Byte))
  | energy (e : EnergySave)
  | header (task : Nat)
  | clock (cycle sec : Nat)
  | epoch (n : Nat)
  | lastLane (l : Nat)
  | slots (words : List Word)
  | level (n : Nat)
  | counters (words : List (Nat × Word))
  | mirror (records : List (Nat × List Word))
  | evrNext (n : Nat)
  | confirmed (v : Word)
  | latch (cause : Nat) (degraded : List (Nat × Nat))
  | repl (task : Nat) (c : Ckpt)
  | replFw (f : Fw)
  | block (n : Nat)
  | switch_ (cks : List (Nat × Ckpt)) (slots : List Word)
  | backup (mode : Option Nat)
  deriving DecidableEq, Repr

/-- An entry of the Registry journal (R381): group sequence, number of cells, data bytes, its place in the journal, what it
writes, whether its commit record is complete. -/
structure JEntry where
  seq : Nat
  cells : Nat
  data : Nat
  pos : Nat
  load : Payload
  durable : Bool
  deriving DecidableEq, Repr

/-- A group that waits for room in the journal (R384): rank, its requester's place in the rank (R403), cells, data bytes,
what it writes. -/
structure Waiting where
  rank : Nat
  who : Nat
  cells : Nat
  data : Nat
  load : Payload
  deriving DecidableEq, Repr

/-- Persistent memory: home cells, the journal's unapplied entries in group order and the place of the next one, groups that
wait for room (R384), the offsets of 64-bit words with an uncorrectable error, the energy store, the point-store mirror by
point, the block-protect level, and the persisted register words by address. -/
structure PMem where
  home : Mem
  journal : List JEntry
  next : Nat
  waiting : List Waiting
  bad : List Nat
  energy : List EnergySave
  mirror : Tab (List Word)
  level : Twin Nat
  words : Tab Word
  deriving DecidableEq, Repr

/-! ## Manifest (chapter 3) -/

/-- An arm in progress: slot, class (0 first arm, 1 P, 2 S, 3 W), whether it is ARMFB, whether the structure switch is
done or not needed, whether the program differs, postponements of R87, and the requester. -/
structure Arm where
  slot : Nat
  cls : Nat
  fb : Bool
  structDone : Bool
  progDiffers : Bool
  postponed : Nat
  who : Who
  deriving DecidableEq, Repr

/-- Manifest state: the sections in force in the units, by section type; the arm in progress; the fabric plane in use
and whether the idle plane is loaded; the twin record of the slot states; a GOVERNOR section that waits for the
next cycle boundary (R82); and POINTS records that take effect at the next round of their class (R86). -/
structure Man where
  cfg : Tab (List Rec)
  arm : Option Arm
  plane : Nat
  idleLoaded : Bool
  quiesced : List (Nat × Nat)
  slots : Twin (List Word)
  late : Option (List Rec)
  pts : List Rec
  deriving DecidableEq, Repr

/-! ## Points, stations and rounds (chapter 4) -/

/-- A point record (R94, R96, R98), with the MIRRORED mark of R131. -/
structure Point where
  value : Word
  qual : BitVec 8
  pm : Postmark
  mirrored : Bool
  deriving DecidableEq, Repr

/-- A switching of the governor (R309, R310): load, feeder, new level in word0 form of OUTPT, ZXEST, cause. -/
structure Switching where
  load : Nat
  feeder : Nat
  level : Word
  zxest : Bool
  cause : Nat
  deriving DecidableEq, Repr

/-- An output message on its way to a station (R111, R125): TAG, attempts sent, the points it carries, whether it is
the IMAGE of an admission, its target postmark, the switching it carries, the moment at which its last segment left the
module (none: some still wait), the channels that ACK segments have listed so far, its segments as sent, and the values sent,
point by point. -/
structure OutMsg where
  tag : Nat
  attempts : Nat
  pts : List Nat
  image : Bool
  tpm : Postmark
  sw : Option Switching
  cls : Nat
  ns : Option Nat
  segs : List Nat
  badch : List Nat
  bytes : List (List Byte)
  vals : List Word
  deriving DecidableEq, Repr

/-- A POLL, or an IDQ when `ident`, that went to a station in an input phase of a class (R123, R124): TAG, moment, and
whether the station has delivered in that phase; of a Modbus or BACnet station the requests (R113). -/
structure Poll where
  cls : Nat
  tag : Nat
  ns : Nat
  ident : Bool
  delivered : Bool
  reqs : List (List Byte)
  deriving DecidableEq, Repr

/-- What the fabric keeps of a station beside FPT_STA: the postmark AGE counts from (R130), its polls of the running rounds,
whether an IMAGE is due (R116), its firmware version (R120), messages in flight, target postmarks it holds (R128), the TAG
of a SYNC whose FOLLOW is due, with the postmark and the moment of its departure (R127), the outputs that a commit has
changed since they were last sent (class E, R108) or delivered (lane-served, R630), the classes in whose running round it
went OFFLINE (R106), whether it has delivered in the latest input phase of its poll class (R130), whether it is to be
admitted again after its port was quiesced (R83), and of a BACnet device whether it has turned ReadPropertyMultiple down and
whether the COV notifications of its class-E points have been subscribed to (R113). -/
structure Station where
  ageBase : Postmark
  polls : List Poll
  imageDue : Bool
  fwver : Word
  out : List OutMsg
  tpms : List Postmark
  syncTag : Option Nat
  syncPm : Postmark
  syncNs : Option Nat
  dirty : List Nat
  lostIn : List Nat
  fresh : Bool
  readmit : Bool
  single : Bool
  cov : Bool
  deriving DecidableEq, Repr

/-- The phase of a class's round (R106). -/
inductive RPhase where
  | idle | input | closed | output
  deriving DecidableEq, Repr

/-- A round of one class: its phase, the period that it runs with (R631), the postmarks at which its input and
output phases began, the points received in its input phase, and the class-E entries taken and deferred. -/
structure Round where
  phase : RPhase
  period : Nat
  start : Postmark
  outStart : Postmark
  recv : List Nat
  eTaken : Nat
  eDefer : Nat
  deriving DecidableEq, Repr

/-- A class-E report entry that waits for an input phase (R108): station, channel, BAD, value, receive postmark. -/
structure ERep where
  station : Nat
  ch : Nat
  bad : Bool
  value : Word
  pm : Postmark
  deriving DecidableEq, Repr

/-- The point engine of FAB, from the postmark `start` on (R130). `image` is, per class, the latest published image of the
points (R106, R154). -/
structure Fab where
  start : Postmark
  points : Tab Point
  stations : Tab Station
  rounds : Tab Round
  image : Tab (Tab (Word × Word))
  eQueue : List ERep
  tag : Nat
  deriving DecidableEq, Repr

/-! ## Program (chapters 5 and 6) -/

/-- An event for a task (R159). -/
structure TEvent where
  source : Nat
  skip : Bool
  lost : Nat
  pm : Postmark
  value : Word
  deriving DecidableEq, Repr

/-- A runtime call queued for the commit (R172). -/
inductive Call where
  | trigger (source : Nat) (val : Word)
  | axisSet (axis : Nat) (target vlim alim : Word) (pos : Int)
  | axisEnable (axis : Nat) (on : Bool)
  | axisStop (axis : Nat)
  | cmpSet (axis cmp : Nat) (pos : Int) (dir : Nat)
  | mbSend (mb : Nat) (data : List Byte)
  | mbAdvance (mb n : Nat)
  | trend (rec : Nat) (data : List Byte)
  deriving DecidableEq, Repr

/-- Where a task's cycle stands (R153). -/
inductive TPhase where
  | idle | ready | running | committing
  deriving DecidableEq, Repr

/-- One task: its program area, cycle, buffers, queued calls, event queue, calendar memory and checkpoint slots; `again`
is the postmark from which the watchdog of a cycle that is re-run counts (R330), and `last` that of the last release of its
postmark schedule, made or skipped (R55). -/
structure Task where
  area : Nat
  phase : TPhase
  rel : Postmark
  disp : Postmark
  relNs : Nat
  again : Option Postmark
  last : Option Postmark
  seqNo : Nat
  skip : Bool
  stepped : Bool
  data : Mem
  work : Mem
  outs : Option (List (Nat × Word))
  calls : List Call
  ev : Option TEvent
  queue : List TEvent
  lost : Nat
  burst : Bool
  calIdx : Option Int
  pend : Option Ckpt
  ck : CkSlots
  deriving DecidableEq, Repr

/-- A program as an area holds it: its TASKS records, its OBJECTS container and its INSTMAP (R146, R170, R180). -/
structure Program where
  tasks : List Rec
  objects : List Byte
  instmap : List Rec
  deriving DecidableEq, Repr

/-- The runtime of the active lane: tasks, the two program areas, whether HOLD waits for commits with the role and session
that asked for it (R164), the mode remembered over a stop for power, whether INSTMAP applies to the change in preparation
(R182), how many cycles the base task has still to commit before the base switch (R88, R195), the status and data that the
last runtime call returned, the count of releases, tasks switched by a STOP under R194, the postmark of the last base
switch, and the lane firmware's checkpoint slots, with the checkpoints on their way into them and the snapshot of the
16#3001 that each records when it is durable (R594). -/
structure Prog where
  tasks : Tab Task
  area0 : Program
  area1 : Program
  holdReq : Bool
  holdBy : Nat × Nat
  remembered : Nat
  useMap : Bool
  firstCycle : Nat
  ret : Nat
  retData : List Word
  relCount : Nat
  stopSwitched : Nat
  swPm : Postmark
  fw : Twin Fw
  fwPend : List (Fw × List Word)
  deriving DecidableEq, Repr

/-! ## Real-time clock and backup domain (chapter 20) -/

/-- What BAK keeps beside its registers: the prescaler (R538), T_old in RTC seconds and as an alarm reference (R542),
the trim accumulator in 10^-7 counts (R546), the shadows of the two readers while their freezes hold (R540), whether a
set was made while MTR was not running (R62), T_old of the first set since the last second boundary (R150), and the
moment of the last 16#100A. -/
structure Rtc where
  sub : BitVec 15
  told : Nat
  trimAcc : Int
  shadowC : Option (List Word)
  shadowL : Option (List Word)
  frzC : Nat
  frzL : Nat
  setWhileOff : Bool
  stepped : Option Nat
  werrNs : Option Nat
  deriving DecidableEq, Repr

/-! ## Power (chapter 22) -/

/-- The supply state of a domain (R570 to R574). -/
inductive DomSt where
  | off | starting | good | retention | retry | failed
  deriving DecidableEq, Repr

/-- A descent or ascent of the ladder (R576 to R578): its step, the cause and the requester, and the classes whose
output phase still has to carry the SAFE commit. -/
structure Move where
  step : Nat
  cause : Nat
  role : Nat
  session : Nat
  classes : List Nat
  waitNs : Nat
  deriving DecidableEq, Repr

/-- The power unit: domain supply states, attempts of a start (R572), whether a staged start runs, the moments of VIN valid
and of the start of REF, the last measurement of VIN that a read of PWR_VIN has taken (in ms), the moment of the last domain
start, whether the manifest checks have ended (R570), the RST_N and VIN conditions, the move in progress, the supply-loss
policy (R581, R597), PFAIL (R583 to R587), the BACKUP record (R573), the arming of 16#D007 (R628), whether VIN is valid,
whether the module drives PFAIL_N low (R583), the cause that the next power-up takes (0: by R588), and recovery mode (R533). -/
structure Power where
  dom : Tab DomSt
  tries : Tab Nat
  staged : Bool
  vinNs : Nat
  refNs : Nat
  vinRead : Nat
  lastStartNs : Nat
  manDone : Bool
  rstLow : Bool
  recovStrap : Bool
  move : Option Move
  lostNs : Option Nat
  stage : Nat
  postponed : Option Nat
  pfail : Bool
  flushed : Bool
  flushLost : Bool
  backup : Option Nat
  thermArmed : Bool
  started : Bool
  pfailLow : Bool
  next : Nat
  recovery : Bool
  deriving DecidableEq, Repr

/-! ## The Counter (chapter 17) -/

/-- An answer of the Counter (R476, R481): response code, data words, whether it carries a TAG. -/
structure Answer where
  code : Nat
  data : List Word
  auth : Bool
  deriving DecidableEq, Repr

/-- A session of the table of 8 (R478 to R482): number, binding, role, pigeonhole, OPEN or still PENDING, transport and
source, the last SEQ consumed with its stored answer, the moment of the last request, IDLE seconds, TFLAGS and KSLOT, and the
36 bytes that R479 derives: session key and nonce salt. -/
structure Session where
  num : Nat
  binding : Nat
  role : Role
  ph : Nat
  opened : Bool
  tp : Transport
  ip : Word
  port : Nat
  seq : Nat
  stored : Option Answer
  lastNs : Nat
  idle : Nat
  tflags : Nat
  kslot : Nat
  key : List Byte
  deriving DecidableEq, Repr

/-- What a long operation does when it ends (R484): a validation puts its result into the slot (a REASON, step and
section word as MOD_MAN_RESULT holds them, with CLASS and SIGNER of the slot); an arm ends at its switch point; the
others carry their own answer code. -/
inductive LongWork where
  | manVerify (slot : Nat) (result : Word) (cls signer : Nat)
  | manArm (slot : Nat)
  | delta (src dst : Nat)
  | attest (slot : Nat)
  | keyWrite (slot code : Nat)
  | zero (mask : Nat) (retire : Bool)
  | safConfirm (value : Word)
  | protect (level : Nat)
  | imgVerify (slot reason : Nat)
  deriving DecidableEq, Repr

/-- The long operation that runs (R484): OPKIND, OPID, start, requester, result so far, work. -/
structure LongOp where
  kind : Nat
  id : Nat
  startNs : Nat
  session : Nat
  role : Nat
  work : LongWork
  deriving DecidableEq, Repr

/-- The Counter engine: sessions by table entry, the next session number, AUTHFAIL moments and lockouts by binding
(R479), the queue of requests and the end of the executing transaction (R483), the long operation, a pending ABORTED
report (R486: OPKIND, OPID, resumes), the last answer and the SPI answer that waits to be read (R474). -/
structure Ctr where
  sessions : Tab Session
  nextSession : Nat
  fails : Tab (List Nat)
  lockout : Tab Nat
  queue : List Instr
  txEnd : Nat
  long : Option LongOp
  aborted : Option (Nat × Nat × Bool)
  answer : Option Answer
  spi : Option Answer
  spiWait : Bool
  draws : Nat
  deriving DecidableEq, Repr

/-! ## Lanes, the Postmaster and pair mode (chapter 11) -/

/-- A takeover or handover in progress (R326, R329): the incoming and the outgoing lane (1 A, 2 B), the fault in TCXO
nanoseconds and as a postmark, the frank before, the image slot of a handover, whether the lane has booted but no frank
could be issued (R323), and the role and session that asked for a handover. -/
structure Change where
  incoming : Nat
  outgoing : Nat
  faultNs : Nat
  faultPm : Postmark
  oldFrank : Word
  img : Nat
  ready : Bool
  by_ : Nat × Nat
  deriving DecidableEq, Repr

/-- Pair mode (R334 to R341): the number and moment of the last lease requests sent, the newest confirmed one, the last
moments the witness and the partner confirmed, the epoch block, the last request heard, whether a grant was asked, the last
block this module granted as witness, the partner's replication buffer with the stations streamed as ONLINE, whether a swap
runs, the partner's armed REV, since when commits wait for their acknowledgement, the next epoch block and whether it was
asked for (R338), and of a swap (R341) whether the partner tracks and holds its grant, the block granted to this module, and
the abandoned cycles handed to it. -/
structure Pair where
  leaseNo : Nat
  sent : List (Nat × Nat)
  confNo : Nat
  confNs : Nat
  witNs : Option Nat
  peerNs : Option Nat
  block : Option Nat
  heardNs : Nat
  asked : Bool
  granted : Nat
  repl : Tab CkSlots
  online : List Nat
  swap : Bool
  peerRev : Word
  lagNs : Option Nat
  more : Option Nat
  asksBlock : Bool
  peerReady : Bool
  grant : Option Nat
  again : Option (List Rerun)
  deriving DecidableEq, Repr

/-- The Postmaster: the current-frank registers of the port multiplexer, the set-point inputs and the pulse stage (R22,
R324), the frank-epoch and last-lane twin records (R392), the takeover or handover in progress, the moments of the takeovers
of the last 600 s (R328), when the main path lost its holder (R237), the restart in progress and its latch (R332), the
moments at which spare tests of lanes are due, and at which their last ones ended (R316), the last heartbeat, the lane whose
ROM waits for a VERIFIED image slot (R535; 0 none), and pair mode. -/
structure Pms where
  frMux : Word
  frCle : Word
  frPulse : Word
  epoch : Twin Nat
  lastLane : Twin Nat
  change : Option Change
  tos : List Nat
  noHolderNs : Option Nat
  restart : Option (Nat × Nat)
  latch : List (Nat × Nat × Nat × Postmark)
  testDue : Tab Nat
  testEnd : Tab Nat
  hbNs : Nat
  romWait : Nat
  pair : Pair
  deriving DecidableEq, Repr

/-! ## Trunk and performance counters (chapter 14) -/

/-- The programmable counters by 8 × unit + i (R412), the moment each unit's domain reported good, and the
persistent-memory bytes written in the running RTC second by ranks 0 to 6 and by rank 7 (ARB_WLOAD). -/
structure Perf where
  cnt : Tab Nat
  start : Tab Nat
  wb : Nat
  wb7 : Nat
  deriving DecidableEq, Repr

/-- What a transfer on the trunk is: a read, a write, or a write to persistent memory (R408). -/
inductive Xfer where
  | read | write | store
  deriving DecidableEq, Repr

/-- A request on the trunk that is not yet served whole (R403, R405): its rank, the place of its requester in the rank's
list, what it is, the bytes still to move, the trunk clock in which it was made, and that from which its
next burst waits. -/
structure TReq where
  rank : Nat
  who : Nat
  xfer : Xfer
  bytes : Nat
  asked : Nat
  since : Nat
  deriving DecidableEq, Repr

/-- The trunk arbiter (R405 to R410): the waiting requests in the order made, per rank the requester served last, the last
owner (rank and requester), the trunk clock at which the last burst ends, the bytes in the write buffer of
persistent memory at a trunk clock, per rank the longest wait since it was last read and the starved requests, and the bursts
and waits that the performance counters have not yet counted, by 16 × rank + requester: read bursts, write bursts, clocks. -/
structure Arb where
  reqs : List TReq
  last : Tab Nat
  owner : Option (Nat × Nat)
  free : Nat
  wb : Nat
  wbAt : Nat
  waits : Tab Nat
  starves : Tab Nat
  counts : Tab (Nat × Nat × Nat)
  deriving DecidableEq, Repr
/-! ## The control engine (chapters 7 and 8) -/

/-- A block floating-point value of R207: mantissa and exponent. -/
structure Bfp where
  m : Int
  e : Int
  deriving DecidableEq, Repr

/-- The states of a section (R207): mantissas of y, s1, s2 at the shared exponent E_s. -/
structure Sec where
  y : Int
  s1 : Int
  s2 : Int
  es : Int
  deriving DecidableEq, Repr

/-- A position comparator (R247, R248): position, direction, waiting out its hysteresis. -/
structure Comparator where
  pos : Int
  dir : Nat
  hysw : Bool
  deriving DecidableEq, Repr

/-- A pending swap (R215): source 1 arm or 2 Counter, role, session. -/
structure Swap where
  source : Nat
  role : Nat
  session : Nat
  deriving DecidableEq, Repr

/-- An axis of CLE: section states, the exponents of its junction signals, feedback fields and table terms, the ramp
position in 2^-32 increments, ramp velocity and acceleration, target position in the same unit, velocity or force target,
the force target in force, the limits of the last request, the feedback of the last valid response and of the one before,
CMD last computed, CTRL to be sent, what a request in progress waits for (R234), consecutive misses, skips and
safe-torque-off discrepancies, the two coefficient banks, the friction and cogging tables, the comparators, a mismatch that
waits for its verdict (section and both results), the REAL32 fields of the active bank and of MOTION as they were normalised
when they were loaded (R212, R232: both limits of each loop, KVFF, KAFF, OUTSCALE; VMAX, AMAX, SDEC, FGAIN, FRATE), and the
last command frame (R254). -/
structure Axis where
  secs : List Sec
  sig : List Int
  r : Int
  v : Bfp
  a : Bfp
  pT : Int
  vT : Bfp
  fT : Bfp
  vlim : Word
  alim : Word
  pos : Int
  vel : Int
  force : Int
  seen : Nat
  prevPos : Int
  samplePm : Postmark
  cmd : Int
  ctrl : Nat
  enPm : Option Postmark
  enNs : Nat
  newTarget : Option (Int × Word)
  stopReq : Bool
  disabling : Bool
  clearing : Bool
  miss : Nat
  skips : Nat
  stoDiff : Nat
  bank0 : List Byte
  bank1 : List Byte
  swap : Option Swap
  fric : List Bfp
  cog : List Bfp
  cmps : List Comparator
  mism : Option (Nat × Word × Word)
  coef : List Bfp
  mot : List Bfp
  frame : List Byte
  deriving DecidableEq, Repr

/-- A Dexjo link (R253, R259): event number and postmark, axes sampled in this event, those whose response was valid and
those missed, DOWN, the consecutive misses of each axis, and the events spent DOWN. -/
structure Link where
  j : Nat
  pm : Postmark
  sampled : List Nat
  ok : List Nat
  missed : List Nat
  down : Bool
  streaks : Tab Nat
  downFor : Nat
  deriving DecidableEq, Repr

/-- A comparator action on its way to the fabric (R60): axis, comparator, crossing postmark, the postmark it is due. -/
structure CmpAct where
  axis : Nat
  cmp : Nat
  pm : Postmark
  due : Postmark
  deriving DecidableEq, Repr

/-- The control engine: axes, links, last loss of pipes A and B (R224), the section the referee checks next in DEGRADED
(R225), sections computed in the running mains cycle, and comparator actions on their way. -/
structure Cle where
  axes : Tab Axis
  links : Tab Link
  lossA : Option (Nat × Postmark)
  lossB : Option (Nat × Postmark)
  rot : Nat
  load : Nat
  acts : List CmpAct
  deriving DecidableEq, Repr

/-! ## Port groups, MACs and mailbags (chapters 15 and 16) -/

/-- A message object of a CAN FD controller (R432). -/
structure CanObj where
  cfg : Word
  id : Word
  dlc : Nat
  flags : Nat
  pm : Postmark
  data : List Byte
  deriving DecidableEq, Repr

/-- A CAN FD controller: its message memory (R431 to R435), segments of the fabric that wait for their object, with the
class of their round, and the class of the segment in each object, the object whose frame is on the line with the postmark
of its start-of-frame bit (R430), a write of RESTR on its way to the next bus idle or recovery (role and session of its
writer), bus-off since, BOREC asked, the moment of the last 16#A005. -/
structure Can where
  std : List Word
  ext : List (Word × Word × Word)
  objs : List CanObj
  segs : Tab (List (Nat × List Byte))
  cls : Tab Nat
  cur : Option (Nat × Postmark)
  restrBy : Option (Nat × Nat)
  boNs : Nat
  borec : Bool
  lostNs : Option Nat
  deriving DecidableEq, Repr

/-- A submitted transmit descriptor: ring index, the frank stamped on it (R470), its place in the order of submission,
the class of the round it belongs to, whether it has started on the line. -/
structure TxD where
  idx : Nat
  frank : Word
  seq : Nat
  cls : Nat
  started : Bool
  deriving DecidableEq, Repr

/-- A mailbag beside its registers: the reader's next index, transmit descriptors not completed, the moment of the last
16#A00B. -/
structure Mbag where
  rd : Nat
  tx : List TxD
  dropNs : Option Nat
  deriving DecidableEq, Repr

/-- The credit of a shaped queue (R463): its value in bits at a moment, and whether the queue then is idle (0), holds a
frame (1) or transmits (2). -/
structure Credit where
  v : Rat
  mode : Nat
  ns : Nat
  deriving DecidableEq, Repr

/-- The frame a MAC transmits: its mailbag, ring index, queue, the postmark of its SFD, and its bytes as they go out (R464). -/
structure MacTx where
  mb : Nat
  idx : Nat
  queue : Nat
  pm : Postmark
  bytes : List Byte
  deriving DecidableEq, Repr

/-- A MAC: the end of the pause in force, the frame on the line, queue credits. -/
structure MacSt where
  pausedTo : Option Nat
  cur : Option MacTx
  credits : Tab Credit
  deriving DecidableEq, Repr

/-- A DALI-2 transaction (R445 to R449): its frame of 16 bits or, if `wide`, of 24, its priority, the frank under which the
lane sent it, the output it carries or the input it queries, whether the second frame of a send-twice pair is still to come,
and the random address with the short address that it gives in a search, or whether it ends the search (R449). -/
structure DaliTx where
  frame : BitVec 24
  wide : Bool
  prio : Nat
  frank : Word
  point : Option Nat
  query : Bool
  twice : Bool
  assign : Option (BitVec 24 × BitVec 6)
  last : Bool
  deriving DecidableEq, Repr

/-- A DALI-2 group: the transaction in progress, repeats made, whether it waits for its back-off, when the last frame on the
bus ended, the changed outputs that an output phase has opened for sending, oldest change first, the output refreshed and
the input queried last (R448), and the last short address that the search has given (R449). -/
structure Dali where
  tx : Option DaliTx
  repeats : Nat
  backoff : Bool
  endNs : Nat
  due : List Nat
  refreshed : Option Nat
  queried : Option Nat
  assigned : Option Nat
  deriving DecidableEq, Repr

/-- The UART of a group (R426, R441 to R444): until when DE is high, when the last frame received ended, until when a Modbus
request is outstanding, and as an MS/TP node the frames that the token still allows, whether a poll for the master is to be
answered, the next master known, and the address polled last. -/
structure Uart where
  deNs : Nat
  rxNs : Nat
  askedTo : Nat
  token : Option Nat
  reply : Bool
  next : Option Nat
  polled : Nat
  deriving DecidableEq, Repr

/-- NET: the shared SRAM, mailbags, MACs, CAN FD controllers by group, DALI-2 groups, the PORTS, NETWORK and MAILBAGS
records in force, the order of submissions, the class whose phase opened last, the moments of the last 16#A007 by group,
UARTs by group, and the groups whose use or parameters the last switch point changed (R427). -/
structure Net where
  sram : Mem
  mbs : Tab Mbag
  macs : Tab MacSt
  cans : Tab Can
  dalis : Tab Dali
  ports : Tab Rec
  seq : Nat
  cls : Nat
  uartNs : Tab Nat
  uarts : Tab Uart
  hiz : List Nat
  deriving DecidableEq, Repr

/-! ## Metering (chapter 9) -/

/-- A window view (R280): whole units by which it has advanced since the last clearing read, and the live WRAP and
WRAPSAT. -/
structure View where
  adv : Nat
  wrap : Bool
  sat : Bool
  deriving DecidableEq, Repr

/-- A pulse output (R291 to R294): residue in 2^-32 register units, the pulses of the running cycle's schedule that are
still due, how many it began with, the postmark of its first one, pin high, the width in ms of the pulse that runs or ran
last, the moment at which the next pulse may start (TCXO ns), and a backlog that overflows. -/
structure Pulse where
  residue : Nat
  due : Nat
  count : Nat
  base : Postmark
  high : Bool
  width : Nat
  readyNs : Nat
  burst : Bool
  deriving DecidableEq, Repr

/-- The metering DSP: energy registers by 6 × group + register in units of 2^-32 (96-bit two's complement), window views by
the same key, sums and counts of the samples of the last complete cycles per channel (R265: 0 to 31 current, 32 to 39
voltage), trims in force (GAIN and DELAY by channel), the angles of the voltage fundamentals in the last cycle (R275, in
degrees), pulse outputs, a METERING section that waits for the cycle boundary (R271), the TCXO moment at which the running
cycle began, the cycle that has ended and is not yet metered (duration in ns, end postmark), and the last save's sequence,
the trims that the ended cycle ran with, and whether the boundary that a waiting section waits for has passed; the last
samples of the cycle before per channel (R267), the phase angle of each element by 4 × group + element in degrees (R272),
and a gap that ends with the next metered cycle: its start in RTC seconds and HOLD (R285). -/
structure Mtr where
  energy : Tab Nat
  views : Tab View
  sums : Tab (List (Int × Nat))
  trims : Tab (Word × Word)
  args : Tab Rat
  pulses : Tab Pulse
  next : Option (List Rec)
  startNs : Nat
  ended : Option (Nat × Postmark)
  saves : Nat
  was : Tab (Word × Word)
  due : Bool
  tails : Tab (List Int)
  phi : Tab Rat
  gap : Option (Nat × Bool)
  deriving DecidableEq, Repr

/-! ## Demand governor and load staging (chapter 10) -/

/-- A feeder: interval energy E_f in J, the energy of the last RTC seconds (newest first, at most 3,600), that of the
running second, MAX(P, 0) of the last 50 cycles, the marks SHORT and GAP, whether the interval closes at the next second
boundary (R302), the RTC second at which it began, the second boundaries since a sliding interval was last judged (R308),
and the RTC second of the last boundary. -/
structure Fdr where
  e : Rat
  hist : List Rat
  secE : Rat
  ps : List Rat
  short : Bool
  gap : Bool
  close : Bool
  start : Nat
  ticks : Nat
  seen : Nat
  deriving DecidableEq, Repr

/-- A governed load, kept by its output point: the level last sent in percent, target postmarks of its last switch-on
and switch-off, why it is HELD (GOV_LDn.CAUSE), and whether a guarantee break of GUARLVL is running (R307). -/
structure Load where
  level : Rat
  onPm : Option Postmark
  offPm : Option Postmark
  cause : Nat
  below : Bool
  deriving DecidableEq, Repr

/-- A switching of the queue (R309): output point, feeder, old and new level, kind (0 off, 1 on, 2 dimming), whether an
inhibit asked for it, when it was decided, its target postmark, cause, and the load's inrush. -/
structure GSw where
  outpt : Nat
  feeder : Nat
  old : Rat
  level : Rat
  kind : Nat
  inhibit : Bool
  decided : Postmark
  target : Postmark
  cause : Nat
  watts : Rat
  inrush : Rat
  deriving DecidableEq, Repr

/-- The governor with the staging assist: feeders by metering group, loads by output point, the queue, switchings sent
in the last 50 cycles, MODE in force and as last written, the duration of a metered cycle whose energy is not yet added,
and the cycle of the last evaluation. -/
structure Gov where
  fdrs : Tab Fdr
  loads : Tab Load
  queue : List GSw
  past : List GSw
  mode : Nat
  saved : Nat
  fresh : Option Nat
  evalCycle : Option Nat
  deriving DecidableEq, Repr

/-! ## The safety unit (chapter 12) -/

/-- A contact pair (R348 to R353): each contact in its demand position after filtering, whether a discrepancy is opening,
each contact's move since it began, the moment its timer ends (none: not running), the end of the degraded time, consecutive
failed test windows, since when both contacts agree with their windows passed, since when the pair is OPEN, and how long it
last was. -/
structure SafPair where
  da : Bool
  db : Bool
  opening : Bool
  ra : Bool
  rb : Bool
  disc : Option Nat
  degNs : Option Nat
  missA : Nat
  missB : Nat
  agreeNs : Option Nat
  openNs : Option Nat
  openFor : Nat
  deriving DecidableEq, Repr

/-- A function's timers (R357, R358) by the moments at which they end: its close run, and its T1 (delay, minimum time) or T2
(clear time); none while one does not run. -/
structure SafFunc where
  run : Option Nat
  wait : Option Nat
  deriving DecidableEq, Repr

/-- The safety unit: the SAFETY record stored and the unit's own copy (empty: none armed), pairs and functions, the
confirmed check value, the degraded and latch record (LCAUSE, and the pairs degraded with their state), the moments of
failed confirms and the end of the lockout (R369), the self-tests passed since the latching, and whether the hardware
watchdog has cut the outputs or the unit is off with the ladder, whether the former is to be found at the next start,
whether START runs, and whether the falling supply after PFAIL has cut the outputs (R373). -/
structure Saf where
  stored : List Byte
  own : List Byte
  pairs : Tab SafPair
  funcs : Tab SafFunc
  confirmed : Twin Word
  latch : Twin (Nat × List (Nat × Nat))
  fails : List Nat
  lockNs : Option Nat
  passed : List Diag
  stopped : Bool
  wdog : Bool
  inStart : Bool
  cut : Bool
  deriving DecidableEq, Repr

/-! ## Keys, life cycle, tamper and images (chapters 18 and 19) -/

/-- A request for the working key register (R503): the master, its slot and pigeonhole, whether the unwrap passes its
integrity check. -/
structure WkReq where
  m : Master
  slot : Nat
  ph : Nat
  ok : Bool
  deriving DecidableEq, Repr

/-- The key unit: the root secret (none: zeroed), the keys by slot, the load window with the moment of its last write and
the session that wrote it, the holder of the working key register and the requests that wait, the tamper sources active
now, the source bits of tampers whose steps 3 to 7 wait for REF (R510), the entries of the tamper log ever made, the end of
SERVICE (R508), the attestation statement being signed and the finished result (R515), the points whose FORCED is to be
cleared (R598), the moment of the last 16#B004, and the zeroing in progress (R513: mask, RETIRE). -/
structure Keys where
  root : Option (List Word)
  store : Tab (List Word)
  win : List Word
  winNs : Nat
  winBy : Nat
  wk : Option WkReq
  wait : List WkReq
  active : List Tamper
  pend : Nat
  tlog : Nat
  svcEnd : Option Nat
  stmt : List Byte
  attbuf : List Byte
  unforce : List Nat
  denyNs : Option Nat
  zero : Option (Nat × Bool)
  deriving DecidableEq, Repr

/-- Images: per VERIFIED slot the hash of its lane firmware (R326), the hash of its Postmaster firmware (R523) and its
RTVER (R519); the delta apply in progress (source, target) and the moment it began. -/
structure Imgs where
  lane : Tab (List Byte)
  pm : Tab (List Byte)
  rtver : Tab Nat
  delta : Option (Nat × Nat)
  deltaNs : Nat
  deriving DecidableEq, Repr

/-- The instructions of the test access port (R623). -/
inductive TapInstr where
  | bypass | idcode | sample | extest
  deriving DecidableEq, Repr

/-! ## The whole module -/

/-- The state of the block: the commands that wait, first in first out; the TCXO time in nanoseconds; the register
words by address (a word not listed holds its reset value); latched words (R9) by address; the number of free values
taken so far (the model's own field); the units; and the instruction of the test access port. -/
structure State where
  pending : List Instr
  ns : Nat
  regs : Tab Word
  latch : Tab Word
  free : Nat
  evr : Evr
  clk : Clock
  pm : PMem
  man : Man
  fab : Fab
  prog : Prog
  rtc : Rtc
  pwr : Power
  ctr : Ctr
  pms : Pms
  perf : Perf
  arb : Arb
  cle : Cle
  net : Net
  mtr : Mtr
  gov : Gov
  saf : Saf
  keys : Keys
  img : Imgs
  tap : TapInstr
  deriving DecidableEq, Repr

/-- A blank twin record (R388). -/
def Twin.empty {α : Type} : Twin α := ⟨.blank, .blank⟩

/-- Blank checkpoint slots. -/
def CkSlots.empty : CkSlots := ⟨.empty, .empty⟩

/-- The program of an empty area. -/
def Program.empty : Program := ⟨[], [], []⟩

/-- The recorder at the start of REF in a module as built: an empty ring (R566, EVR_NEWEST). -/
def Evr.reset : Evr :=
  ⟨[], 0, false, false, false, 0, 0, 0, 0, 0, 0, 0xFFFFFFFF, 0, false, false, [], [], .empty⟩

/-- The clock before the first start of MTR: 50 Hz nominal (R49). -/
def Clock.reset : Clock :=
  ⟨0, 0, 50000000, 0, [], [], 50000000, 0, false, none, 0x00140A00, none, none, none, false, false, .empty⟩

/-- Persistent memory as it leaves the factory: every byte 16#00 (R388), nothing in the journal. -/
def PMem.reset : PMem := ⟨[], [], 0, [], [], [], [], .empty, []⟩

/-- No manifest (chapter 3). -/
def Man.reset : Man := ⟨[], none, 0, false, [], .empty, none, []⟩

/-- FAB without a structure. -/
def Fab.reset : Fab := ⟨0, [], [], [], [], [], 0⟩

/-- The runtime without a program. -/
def Prog.reset : Prog := ⟨[], .empty, .empty, false, (0, 0), 0, false, 0, 0, [], 0, 0, 0, .empty, []⟩

/-- The arbiter before its first request. -/
def Arb.reset : Arb := ⟨[], [], none, 0, 0, 0, [], [], []⟩

/-- BAK after its power-on reset (R539): counting from 2000-01-01 00:00:00. -/
def Rtc.reset : Rtc := ⟨0, 0, 0, none, none, 0, 0, false, none, none⟩

/-- The power unit with BAK and REF up and the staged start ahead (R570). -/
def Power.reset : Power :=
  ⟨[(0, .good), (1, .good)], [], true, 0, 0, 0, 0, false, false, false, none, none, 0, none, false, false, false, none, true,
    true, false, 0, false⟩

/-- The Counter without sessions. -/
def Ctr.reset : Ctr := ⟨[], 1, [], [], [], 0, none, none, none, none, false, 0⟩

/-- No pair. -/
def Pair.reset : Pair := ⟨0, [], 0, 0, none, none, none, 0, false, 0, [], [], false, 0, none, none, false, false, none, none⟩

/-- The Postmaster before the first frank (R324). -/
def Pms.reset : Pms := ⟨0, 0, 0, .empty, .empty, none, [], none, none, [], [], [], 0, 0, .reset⟩

/-- The module as built, at the moment REF leaves its first reset: BAK and REF report good (MOD_DOMAINS.GOOD reads
16#003), every register word holds its reset value but those of image slot 0, which holds the VERIFIED image of the
factory (R521; its VERSION is log 4), persistent memory reads 16#00, and no command waits. -/
def State.reset : State :=
  { pending := [], ns := 0, regs := [(0x210, 0x00030003), (0x214, 1)], latch := [], free := 0, evr := .reset, clk := .reset, pm := .reset,
    man := .reset, fab := .reset, prog := .reset,
    rtc := .reset, pwr := .reset, ctr := .reset, pms := .reset, perf := ⟨[], [], 0, 0⟩, arb := .reset, cle := ⟨[], [], none, none, 0, 0, []⟩,
    net := ⟨[], [], [], [], [], [], 0, 0, [], [], []⟩, mtr := ⟨[], [], [], [], [], [], none, 0, none, 0, [], false, [], [], none⟩,
    gov := ⟨[], [], [], [], 0, 0, none, none⟩, saf := ⟨[], [], [], [], .empty, .empty, [], none, [], false, false, false, false⟩,
    keys := ⟨none, [], [], 0, 0, none, [], [], 0, 0, none, [], [], [], none, none⟩, img := ⟨[], [], [(0, 1)], none, 0⟩,
    tap := .idcode }

end Sys2Proof.Machine
end

