-- ==== Sys2Proof/Machine/Num.lean ====
section
/-! DEFINITION. Number formats: REAL32 (IEEE 754 binary32), and the block floating point of the control engine (R207 to
R211). Arithmetic between roundings is exact, in rational numbers. -/

namespace Sys2Proof.Machine

/-! ## Rounding -/

/-- `a / d` rounded to the nearest integer, ties to even. -/
def evenDiv (a d : Int) : Int :=
  let f := a / d
  let r := a % d
  if 2 * r < d then f else if d < 2 * r then f + 1 else if f % 2 == 0 then f else f + 1

/-- A rational number rounded to the nearest integer, ties to even. -/
def roundEven (q : Rat) : Int := evenDiv q.num q.den

/-- 2 to an integer power. -/
def pow2 (e : Int) : Rat := if 0 ≤ e then ((2 ^ e.toNat : Nat) : Rat) else 1 / ((2 ^ (-e).toNat : Nat) : Rat)

/-- Absolute value and sign of a rational number. -/
def ratAbs (q : Rat) : Rat := if q < 0 then -q else q
def ratSign (q : Rat) : Rat := if q < 0 then -1 else if q == 0 then 0 else 1

/-- LIMIT(lo, x, hi). -/
def limQ (lo x hi : Rat) : Rat := if x < lo then lo else if hi < x then hi else x

/-- An integer clamped to a range. -/
def clampI (lo hi x : Int) : Int := if x < lo then lo else if hi < x then hi else x

/-- The integer square root. -/
def isqrt (n : Nat) : Nat :=
  (List.range 160).foldl (fun r i => let c := r + 2 ^ (159 - i); if c * c ≤ n then c else r) 0

/-- The square root of a number rounded to the nearest integer, ties to even. -/
def roundSqrt (x : Rat) : Int :=
  let m := isqrt x.floor.toNat
  let lim : Rat := ((2 * m + 1) ^ 2 : Nat)
  if lim < 4 * x then m + 1 else if 4 * x < lim then m else if m % 2 == 0 then m else m + 1

/-! ## REAL32 -/

/-- The value of a REAL32 word; none for an infinity or a NaN. -/
def real32 (w : Word) : Option Rat :=
  let ex := w.bits 30 23
  let fr := w.bits 22 0
  let sg : Rat := if w.bit 31 then -1 else 1
  if ex == 255 then none
  else if ex == 0 then some (sg * (fr : Rat) * pow2 (-149))
  else some (sg * ((fr + 2 ^ 23 : Nat) : Rat) * pow2 ((ex : Int) - 150))

/-- A finite REAL32, 0 for an infinity or a NaN. -/
def real32D (w : Word) : Rat := (real32 w).getD 0

/-- Whether a REAL32 is finite. -/
def finite32 (w : Word) : Bool := !(w.bits 30 23 == 255)

/-- The binary exponent of a positive number: the largest e with 2^e not above it, within REAL32's range. -/
def log2Q (q : Rat) : Int :=
  ((List.range 277).map fun i => 127 - (i : Int)).find? (fun e => pow2 e ≤ q) |>.getD (-149)

/-- A number as REAL32, rounded to nearest with ties to even; beyond the range it is an infinity. -/
def toReal32 (q : Rat) : Word :=
  if q == 0 then 0
  else
    let sg := if q < 0 then 2 ^ 31 else 0
    let a := ratAbs q
    let e := max (log2Q a) (-126)
    let m := (roundEven (a * pow2 (23 - e))).toNat
    let w := m + ((e + 126).toNat) * 2 ^ 23
    BitVec.ofNat 32 (sg + min w 0x7F800000)

/-! ## Block floating point -/

/-- The value of a signal (R207). -/
def Bfp.val (b : Bfp) : Rat := (b.m : Rat) * pow2 (b.e - 23)

def Bfp.zero : Bfp := ⟨0, 0⟩

/-- The exponents of R207, smallest first. -/
def bfpExps : List Int := (List.range 64).map fun i => (i : Int) - 32

/-- Normalisation of R208 of a value whose rounded mantissa at exponent E is `mant E`; `e0` is the exponent that a zero
keeps. Answers the value and whether it saturated. -/
def normWith (e0 : Int) (neg zero : Bool) (mant : Int → Int) : Bfp × Bool :=
  if zero then (⟨0, e0⟩, false)
  else
    match bfpExps.find? fun e => decide ((mant e).natAbs < 2 ^ 21) with
    | some e => (⟨mant e, e⟩, false)
    | none => (⟨if neg then -(2 ^ 23) else 2 ^ 23 - 1, 31⟩, true)

/-- Normalisation of an exact value (R208). -/
def norm (e0 : Int) (q : Rat) : Bfp × Bool :=
  normWith e0 (decide (q < 0)) (q == 0) fun e => roundEven (q * pow2 (23 - e))

/-- The normalised value of a quantity whose exponent was `e0`, without the saturation mark. -/
def normK (e0 : Int) (q : Rat) : Bfp := (norm e0 q).1

/-- Values normalised in place of older ones (R208): a 0 keeps the exponent of the value before it. -/
def renorm (old : List Bfp) (l : List Rat) : List Bfp :=
  (List.range l.length).map fun i => normK (old.getD i ⟨0, 0⟩).e (l.getD i 0)

/-- How many of some values saturate when they are normalised. -/
def satCount (l : List Rat) : Nat := (l.filter fun q => (norm 0 q).2).length

/-- The normalised square root of a value that is not negative, and whether it saturated. -/
def sqrtB (q : Rat) : Bfp × Bool := normWith 0 false (q == 0) fun e => roundSqrt (q * pow2 (2 * (23 - e)))

/-- A term at a junction (R203): its exact value and its effective exponent. -/
structure Term where
  q : Rat
  e : Int
  deriving DecidableEq, Repr

def Bfp.term (b : Bfp) : Term := ⟨b.val, b.e⟩
def Bfp.times (a b : Bfp) : Term := ⟨a.val * b.val, a.e + b.e⟩
def Term.neg (t : Term) : Term := ⟨-t.q, t.e⟩

/-- The sum at a junction (R203), normalised by R208: on a grid of 2^(E_max - 46), terms truncated toward minus infinity. -/
def junction (e0 : Int) (ts : List Term) : Bfp × Bool :=
  let emax := ts.foldl (fun m t => max m t.e) (-64)
  let lsb := pow2 (emax - 46)
  let sum := ts.foldl (fun (n : Int) t => n + (t.q / lsb).floor) 0
  norm e0 ((sum : Rat) * lsb)

/-! ## The accumulator of a section (R209, R210) -/

def acc60Hi : Int := 2 ^ 59 - 1
def acc60Lo : Int := -(2 ^ 59)

/-- A product shifted into the accumulator's grid: left when positive, arithmetically right when negative. -/
def shiftI (p sh : Int) : Int := if 0 ≤ sh then p * 2 ^ sh.toNat else p / 2 ^ (-sh).toNat

/-- Terms added in the 60-bit accumulator, with saturation, and how often it saturated. -/
def acc60 (ts : List Int) : Int × Nat :=
  ts.foldl (fun a t =>
    let v := a.1 + t
    if acc60Hi < v then (acc60Hi, a.2 + 1) else if v < acc60Lo then (acc60Lo, a.2 + 1) else (v, a.2)) (0, 0)

/-- A mantissa at E_s rounded from the accumulator (R210), and the saturations so far. -/
def round24 (a : Int × Nat) : Int × Nat :=
  let m := evenDiv a.1 (2 ^ 23)
  if m < -(2 ^ 23) then (-(2 ^ 23), a.2 + 1) else if 2 ^ 23 - 1 < m then (2 ^ 23 - 1, a.2 + 1) else (m, a.2)

/-- The exponent chosen for the next sample (R211), and whether it changed. -/
def reExp (x : Sec) : Sec × Bool :=
  let m := max x.y.natAbs (max x.s1.natAbs x.s2.natAbs)
  if 2 ^ 21 ≤ m ∧ x.es < 31 then
    (⟨evenDiv x.y 2, evenDiv x.s1 2, evenDiv x.s2 2, x.es + 1⟩, true)
  else if m < 2 ^ 20 ∧ m ≠ 0 ∧ -32 < x.es then (⟨x.y * 2, x.s1 * 2, x.s2 * 2, x.es - 1⟩, true)
  else (x, false)

/-- The fields of a section entry (R213): five coefficient mantissas, E_c, INTEG. -/
def coMant (r : Rec) (i : Nat) : Int := (BitVec.ofNat 24 (Rec.u r (4 * i) 3)).toInt
def coExp (r : Rec) : Int := Rec.i r 0x14 1
def coInteg (r : Rec) : Bool := Rec.bit r 0x15 0

/-- One sample of a section (R206, R209, R210), before the exponent is chosen again: y, s1 and s2 at E_s, and the
saturations. -/
def secStep (c : Rec) (x : Sec) (u : Bfp) : Sec × Nat :=
  let ec := coExp c
  let sx := ec + u.e - x.es
  let y := round24 (acc60 [shiftI (coMant c 0 * u.m) sx, x.s1 * 2 ^ 23])
  let s1 := round24 (acc60 [shiftI (coMant c 1 * u.m) sx, -(shiftI (coMant c 3 * y.1) ec), x.s2 * 2 ^ 23])
  let s2 := round24 (acc60 [shiftI (coMant c 2 * u.m) sx, -(shiftI (coMant c 4 * y.1) ec)])
  (⟨y.1, s1.1, s2.1, x.es⟩, y.2 + s1.2 + s2.2)

end Sys2Proof.Machine
end

