-- ==== Sys2Proof/Machine/Cal.lean ====
section
/-! DEFINITION. The calendar of the RTC (R538): Gregorian years 2000 to 2135, days and seconds since 2000-01-01. -/

namespace Sys2Proof.Machine

/-- Gregorian leap years; 2100 is none (R538). -/
def leapYear (y : Nat) : Bool := y % 4 == 0 && !(y % 100 == 0 && !(y % 400 == 0))

/-- Days of a month. -/
def monthDays (y m : Nat) : Nat :=
  if m == 2 then (if leapYear y then 29 else 28) else if m == 4 || m == 6 || m == 9 || m == 11 then 30 else 31

/-- Days from 2000-01-01 to the first day of a year. -/
def yearDays (y : Nat) : Nat := (List.range (y - 2000)).foldl (fun n i => n + (if leapYear (2000 + i) then 366 else 365)) 0

/-- Days from 2000-01-01 to a date. -/
def dayNumber (y m d : Nat) : Nat :=
  yearDays y + (List.range (m - 1)).foldl (fun n i => n + monthDays y (i + 1)) 0 + (d - 1)

/-- Whether fields form a date of the calendar (R538, R543). -/
def validDate (y m d : Nat) : Bool :=
  decide (2000 ≤ y) && decide (y ≤ 2135) && decide (1 ≤ m) && decide (m ≤ 12) && decide (1 ≤ d)
    && decide (d ≤ monthDays y m)

/-- The weekday of a day number, Monday 1 to Sunday 7: 2000-01-01 was a Saturday (RTC_WDAY). -/
def weekday (n : Nat) : Nat := (n + 5) % 7 + 1

/-- The year of a day number. -/
def yearOf (n : Nat) : Nat :=
  ((List.range 136).foldl (fun y i => if yearDays (2000 + i) ≤ n then 2000 + i else y) 2000)

/-- Month and day of a day number. -/
def monthOf (n : Nat) : Nat :=
  let y := yearOf n
  (List.range 12).foldl (fun m i => if dayNumber y (i + 1) 1 ≤ n then i + 1 else m) 1

def dateOf (n : Nat) : Nat := n - dayNumber (yearOf n) (monthOf n) 1 + 1

/-- RTC seconds of calendar fields. -/
def secondsOf (y m d h mi se : Nat) : Nat := ((dayNumber y m d * 24 + h) * 60 + mi) * 60 + se

end Sys2Proof.Machine
end

