-- ==== Sys2Proof/Machine/Ops.lean ====
section
/-! DEFINITION. The named operations that every meaning is built from: register words and fields, domains, the moment
of a command, the sections in force, free values, twin records, and the answer of a Counter transaction. -/

namespace Sys2Proof

/-- The number of a domain in MOD_DOMAINS. -/
def Dom.idx : Dom → Nat
  | .bak => 0 | .ref => 1 | .pmm => 2 | .mtr => 3 | .fab => 4 | .cle => 5 | .net => 6 | .lna => 7 | .lnb => 8

/-- Roles as R478 numbers them. -/
def Role.num : Role → Nat
  | .operator => 0 | .installer => 1 | .maker => 2 | .tenant => 3

def Role.ofNum : Nat → Role
  | 0 => .operator | 1 => .installer | 2 => .maker | _ => .tenant

/-- Installer or maker. -/
def Who.im (w : Who) : Bool := w.role == .installer || w.role == .maker

/-- Operator, installer or maker. -/
def Who.oim (w : Who) : Bool := !(w.role == .tenant)

end Sys2Proof

namespace Sys2Proof.Machine

/-- What a command ends in. -/
abbrev Out := Host.Outcome State Fault Refusal

/-! ## Register words -/

/-- The stored word of a register (R8: its reset value while nothing else was stored). -/
def State.rd (s : State) (a : Nat) : Word := (s.regs.get? a).getD (resetOf a)

/-- Stores a register word. -/
def State.wr (s : State) (a : Nat) (v : Word) : State := { s with regs := s.regs.set (resetOf a) a v }

/-- A field of a register. -/
def State.fld (s : State) (f : Fld) : Nat := (s.rd f.a).bits f.hi f.lo

/-- A one-bit field. -/
def State.flag (s : State) (f : Fld) : Bool := s.fld f == 1

/-- Stores a field, modulo its size. -/
def State.setFld (s : State) (f : Fld) (v : Nat) : State := s.wr f.a ((s.rd f.a).setBits f.hi f.lo v)

/-- Stores a one-bit field. -/
def State.setFlag (s : State) (f : Fld) (b : Bool) : State := s.setFld f (b2n b)

/-- The largest value of a field. -/
def Fld.top (f : Fld) : Nat := 2 ^ (f.hi + 1 - f.lo) - 1

/-- A count that saturates at the field's largest value. -/
def State.inc (s : State) (f : Fld) (n : Nat := 1) : State := s.setFld f (satAdd f.top (s.fld f) n)

/-- A count that wraps modulo 2^32. -/
def State.incWord (s : State) (a : Nat) : State := s.wr a (s.rd a + 1)

/-- A whole-word count that saturates at 2^32 - 1. -/
def State.satWord (s : State) (a : Nat) (n : Nat := 1) : State :=
  s.wr a (BitVec.ofNat 32 (satAdd 0xFFFFFFFF (s.rd a).toNat n))

/-- A 64-bit value in a _LO, _HI pair. -/
def State.wrPair (s : State) (lo hi : Nat) (v : Nat) : State :=
  (s.wr lo (BitVec.ofNat 32 v)).wr hi (BitVec.ofNat 32 (v / 2 ^ 32))

def State.rdPair (s : State) (lo hi : Nat) : Nat := (s.rd lo).toNat + (s.rd hi).toNat * 2 ^ 32

/-! ## Domains -/

/-- MOD_DOMAINS.GOOD of a domain, by number. -/
def State.goodN (s : State) (n : Nat) : Bool := (s.fld F.MOD_DOMAINS_GOOD) / 2 ^ n % 2 == 1

/-- Whether a domain is powered and reports good. -/
def State.good (s : State) (d : Dom) : Bool := s.goodN d.idx

/-- A bit of a number set or cleared. -/
def putBit (v n : Nat) (b : Bool) : Nat := v / 2 ^ (n + 1) * 2 ^ (n + 1) + b2n b * 2 ^ n + v % 2 ^ n

/-- Shows a domain good or not. -/
def State.setGood (s : State) (n : Nat) (b : Bool) : State :=
  s.setFld F.MOD_DOMAINS_GOOD (putBit (s.fld F.MOD_DOMAINS_GOOD) n b)

/-- Stores the power unit. -/
def State.setPwr (s : State) (p : Power) : State := { s with pwr := p }

/-- The supply state of a domain. -/
def State.domSt (s : State) (n : Nat) : DomSt := s.pwr.dom.getD n .off

/-- The rung that PWR_DOMRUNG shows for a domain. -/
def State.domRung (s : State) (n : Nat) : Nat := s.fld F.PWR_DOMRUNG_DOM / 2 ^ (3 * n) % 8

def State.setDomRung (s : State) (n r : Nat) : State :=
  s.wr Reg.PWR_DOMRUNG ((s.rd Reg.PWR_DOMRUNG).setBits (3 * n + 2) (3 * n) r)

/-- A domain takes a supply state, shown in MOD_DOMAINS.GOOD, at a rung. -/
def State.setDom (s : State) (n : Nat) (st : DomSt) (rung : Nat) : State :=
  let s := (s.setPwr { s.pwr with dom := s.pwr.dom.put n st }).setDomRung n rung
  s.setGood n (st == .good)

/-- Whether a domain is good and at rung RUN or IDLE: at a lower rung its units do not work (R29, R574). -/
def State.on (s : State) (d : Dom) : Bool := s.good d && decide (s.domRung d.idx ≤ 1)

/-- The active lane: 0 none, 1 lane A, 2 lane B (PMS_STATUS.ACTIVE). -/
def State.lane (s : State) : Nat := s.fld F.PMS_STATUS_ACTIVE

/-- Whether the active lane runs: it is ACTIVE and its domain reports good. -/
def State.laneUp (s : State) : Bool := s.lane != 0 && s.goodN (6 + s.lane)

/-- The domain that a block belongs to (R27), by number; the TSK block belongs to the active lane, and
to none (15) while no lane is active. -/
def State.blkDom (s : State) : Blk → Nat
  | .mod => 1 | .ctr => 1 | .pwr => 1 | .pmk => 3 | .rtc => 0 | .pms => 1 | .saf => 1 | .key => 1 | .evr => 1 | .prf => 1
  | .arb => 2 | .pmc => 2 | .mtr => 3 | .cle => 5 | .cleTab => 5 | .gov => 4 | .fpt => 6 | .eth => 6 | .pts => 4
  | .tsk => (if s.lane == 0 then 15 else 6 + s.lane) | .pmw => 2

/-- Whether the module is a member of a pair: ACTIVE, PARTNER or FENCED (R334). -/
def State.paired (s : State) : Bool := decide (1 ≤ s.fld F.PMS_PAIRSTAT_ROLE ∧ s.fld F.PMS_PAIRSTAT_ROLE ≤ 3)

/-- Whether the module may drive the field: a PARTNER and a FENCED module do not (R335, R336). -/
def State.drives (s : State) : Bool := !(s.fld F.PMS_PAIRSTAT_ROLE == 2) && !(s.fld F.PMS_PAIRSTAT_ROLE == 3)

/-! ## The reset of a domain's registers (R8, R574) -/

/-- Whether the register words at an address belong to a domain's reset: the blocks of R27, but the station and round
registers of R142 with FAB, and the TSK block with the lanes. -/
def domOwns (n a : Nat) : Bool :=
  match blockOf a with
  | none => false
  | some b =>
    match b with
    | .mod => n == 1 | .ctr => n == 1 | .pwr => n == 1 | .pms => n == 1 | .saf => n == 1 | .key => n == 1 | .evr => n == 1
    | .prf => n == 1 | .rtc => n == 0 | .arb => n == 2 | .pmc => n == 2 | .pmk => n == 3 | .mtr => n == 3
    | .gov => n == 4 | .cle => n == 5 | .cleTab => n == 5 | .eth => n == 6
    | .fpt => if 0x580000 ≤ a then n == 4 else n == 6
    | .pts => false | .tsk => n == 7 | .pmw => false

/-- The word of a register after a reset of its domain: persisted fields keep their value, every other takes its reset
value (R8). -/
def afterReset (a : Nat) (v : Word) : Word :=
  match findReg a with
  | none => 0
  | some d => d.fields.foldl (fun w f => if f.keep then w.setBits f.hi f.lo (v.bits f.hi f.lo) else w) (resetOf a)

/-- The register words of a domain take their reset values; latched words of the domain are dropped. -/
def State.resetRegs (s : State) (n : Nat) : State :=
  { s with
    regs := s.regs.filterMap fun (e : Nat × Word) =>
      if domOwns n e.1 then (let v := afterReset e.1 e.2; if v == resetOf e.1 then none else some (e.1, v)) else some e
    latch := s.latch.filter fun e => !(domOwns n e.1) }

/-! ## The moment of a command -/

/-- The clocks at the moment of a command (log 2): TCXO time and angle never run backwards, the angle counts only while
MTR runs (R37), the prescaler only outside HALT (R542). -/
def State.advance (w : When) (s : State) : State :=
  { s with
    ns := max s.ns w.ns
    clk := if s.good .mtr then { s.clk with angle := if s.clk.angle ≤ w.ang then w.ang else s.clk.angle } else s.clk
    rtc := if s.flag F.RTC_CTRL_HALT then s.rtc else { s.rtc with sub := w.sub } }

/-- The current postmark (R35, R38). -/
def State.pmNow (s : State) : Postmark :=
  if s.good .mtr then s.clk.cycle ++ s.clk.angle else Config.noPostmark s.ns

/-- The RTC time in seconds as every user but the Counter's calendar reads sees it: T_old during HALT (R543). -/
def State.rtcSec (s : State) : Nat :=
  if s.flag F.RTC_CTRL_HALT then s.rtc.told
  else secondsOf (s.fld F.RTC_YEAR_YEAR) (s.fld F.RTC_MONTH_MONTH) (s.fld F.RTC_DATE_DATE) (s.fld F.RTC_HOUR_HOUR)
    (s.fld F.RTC_MIN_MIN) (s.fld F.RTC_SEC_SEC)

/-! ## Sections in force, free values -/

/-- The records of a section in force (R70). -/
def State.recs (s : State) (t : Nat) : List Rec := s.man.cfg.getD t []

/-- Takes one free value. -/
def State.freeNext (s : State) : State := { s with free := s.free + 1 }

/-! ## Twin records -/

/-- The slot that R390 takes: its sequence and contents. -/
def Twin.use? {α : Type} (t : Twin α) : Option (Nat × α) :=
  match t.a, t.b with
  | .valid n c, .valid m d => if n < m then some (m, d) else some (n, c)
  | .valid n c, _ => some (n, c)
  | _, .valid m d => some (m, d)
  | _, _ => none

/-- The contents in use, or a default. -/
def Twin.get {α : Type} (t : Twin α) (d : α) : α := match t.use? with | some (_, c) => c | none => d

/-- The sequence of a new record (R391). -/
def Twin.nextSeq {α : Type} (t : Twin α) : Nat := match t.use? with | some (n, _) => n + 1 | none => 1

/-- Whether R391 names slot A for the next record: the lower of two sequences, the invalid slot, or A of two invalid ones. -/
def Twin.toA {α : Type} (t : Twin α) : Bool :=
  match t.a, t.b with
  | .valid n _, .valid m _ => decide (n < m)
  | .valid _ _, _ => false
  | _, _ => true

/-- The slot of a letter, A where the flag is true. -/
def Twin.slot {α : Type} (t : Twin α) (isA : Bool) : TSlot α := if isA then t.a else t.b
def Twin.setSlot {α : Type} (t : Twin α) (isA : Bool) (x : TSlot α) : Twin α :=
  if isA then { t with a := x } else { t with b := x }

/-- Writes a new record into the slot that R391 names. -/
def Twin.write {α : Type} (t : Twin α) (c : α) : Twin α := t.setSlot t.toA (.valid t.nextSeq c)

/-- The slot that the next write replaces is half written: its contents fail their check, its old header still tells what it
told (R394). -/
def TSlot.torn {α : Type} : TSlot α → TSlot α
  | .valid _ c => .invalid (some c)
  | .blank => .invalid none
  | x => x
def Twin.tear {α : Type} (t : Twin α) : Twin α := t.setSlot t.toA (t.slot t.toA).torn

/-- A slot with an uncorrectable word is invalid (R388, R396); its header still tells what it told unless the word is its. -/
def TSlot.spoil {α : Type} (inHeader : Bool) (x : TSlot α) : TSlot α :=
  match x with
  | .valid _ c => .invalid (if inHeader then none else some c)
  | .invalid (some c) => .invalid (if inHeader then none else some c)
  | _ => .invalid none

/-- Both slots valid with equal sequences and different contents (R390). -/
def Twin.conflict {α : Type} [DecidableEq α] (t : Twin α) : Bool :=
  match t.a, t.b with
  | .valid n c, .valid m d => n == m && !(decide (c = d))
  | _, _ => false

/-- Neither slot valid and not both blank (R390). -/
def Twin.lost {α : Type} (t : Twin α) : Bool :=
  match t.a, t.b with
  | .blank, .blank => false
  | .valid _ _, _ => false
  | _, .valid _ _ => false
  | _, _ => true

/-- Both slots blank: never written (R390). -/
def Twin.isBlank {α : Type} (t : Twin α) : Bool :=
  match t.a, t.b with
  | .blank, .blank => true
  | _, _ => false

/-- What the headers of both slots tell: the valid contents, and of an invalid slot what its own check still covers. -/
def TSlot.header {α : Type} : TSlot α → List α
  | .valid _ c => [c]
  | .invalid (some c) => [c]
  | _ => []
def Twin.headers {α : Type} (t : Twin α) : List α := t.a.header ++ t.b.header

/-! ## Checkpoint slots (R393)

A task has a slot in each checkpoint area for each program area. Checkpoint area A holds the slots that R391 calls A, and of the two
in it the one with the higher sequence stands for the letter. -/

/-- Of the two slots of a letter the one that counts: the higher sequence, else the valid one, else one that is not blank. -/
def TSlot.newer {α : Type} (x y : TSlot α) : TSlot α :=
  match x, y with
  | .valid n c, .valid m d => if n < m then .valid m d else .valid n c
  | .valid n c, _ => .valid n c
  | _, .valid m d => .valid m d
  | .blank, z => z
  | z, _ => z

/-- The slots of a task as one twin record. -/
def CkSlots.merge (k : CkSlots) : Twin Ckpt := ⟨k.low.a.newer k.high.a, k.low.b.newer k.high.b⟩

/-- The slots for one program area. -/
def CkSlots.half (k : CkSlots) (area : Nat) : Twin Ckpt := if area == 1 then k.high else k.low
def CkSlots.setHalf (k : CkSlots) (area : Nat) (t : Twin Ckpt) : CkSlots :=
  if area == 1 then { k with high := t } else { k with low := t }

/-- The checkpoint in use (R390). -/
def CkSlots.use? (k : CkSlots) : Option (Nat × Ckpt) := k.merge.use?

/-- The slot that the next checkpoint for a program area replaces (R391). -/
def CkSlots.older (k : CkSlots) (area : Nat) : TSlot Ckpt := (k.half area).slot k.merge.toA

/-- A new checkpoint goes into the older slot of its program area (R391, R394). -/
def CkSlots.write (k : CkSlots) (c : Ckpt) : CkSlots :=
  k.setHalf c.area ((k.half c.area).setSlot k.merge.toA (.valid k.merge.nextSeq c))

/-- The slot that the next checkpoint for a program area replaces is half written (R394). -/
def CkSlots.tear (k : CkSlots) (area : Nat) : CkSlots :=
  k.setHalf area ((k.half area).setSlot k.merge.toA (k.older area).torn)

/-- No slot has ever been written. -/
def CkSlots.isBlank (k : CkSlots) : Bool := k.merge.isBlank

/-- What the headers of all slots tell. -/
def CkSlots.headers (k : CkSlots) : List Ckpt := k.low.headers ++ k.high.headers

/-! ## The answer of a Counter transaction -/

/-- Answers a transaction (R481). -/
def State.answer (s : State) (code : Nat) (data : List Word := []) : State :=
  { s with ctr := { s.ctr with answer := some ⟨code, data, true⟩ } }

/-- Response codes of R488. -/
def ansOK : Nat := 0
def ansBUSY : Nat := 1
def ansDENIED : Nat := 2
def ansHIDDEN : Nat := 3
def ansPROTECTED : Nat := 4
def ansBADADDR : Nat := 5
def ansBADSTATE : Nat := 6
def ansAUTHFAIL : Nat := 7
def ansABORTED : Nat := 8
def ansSEQ : Nat := 9

/-- A REAL32 NaN. -/
def isNaN32 (w : Word) : Bool := w.bits 30 23 == 255 && !(w.bits 22 0 == 0)

/-- The two words of a postmark or other 64-bit item in a snapshot (R558). -/
def words64 (p : Postmark) : List Word := [BitVec.ofNat 32 p.toNat, BitVec.ofNat 32 (p.toNat / 2 ^ 32)]

end Sys2Proof.Machine
end

