-- ==== Sys2Proof/Machine/Trunk.lean ====
section
/-! DEFINITION. The trunk arbiter (R403 to R410): requests by rank, round-robin within a rank, bursts of at most 256 bytes, the
parked grant, the write buffer of persistent memory, and the waits. The arbiter runs when it is asked: `Arb.settle` brings it to the
present trunk clock. -/

namespace Sys2Proof.Machine

/-- The trunk clock of 2.5 ns at a TCXO moment (R38, R403). -/
def trunkClock (ns : Nat) : Nat := ns * 2 / 5

/-- Bytes of a burst at most (R405). -/
def burstBytes : Nat := 256

/-- The write buffer of persistent memory: room for one burst and what more the hardware gives it (log 55). -/
def bufferSize : Nat := burstBytes + Config.writeBuffer

/-- Bytes in the write buffer at a trunk clock: it drains 2 GB/s into the cells, 5 bytes a clock (R376, R408). -/
def Arb.buffered (a : Arb) (t : Nat) : Nat := a.wb - 5 * (t - a.wbAt)

/-- Whether the write buffer has no room for a burst (R408). -/
def Arb.full (a : Arb) (t : Nat) : Bool := decide (bufferSize < a.buffered t + burstBytes)

/-- The first trunk clock at or after `t` at which the write buffer has room for a burst. -/
def Arb.roomAt (a : Arb) (t : Nat) : Nat := t + (a.buffered t + burstBytes - bufferSize + 4) / 5

/-- The first trunk clock at which a request is eligible, once the burst in progress has ended (R408). -/
def Arb.readyAt (a : Arb) (r : TReq) : Nat :=
  let t := max a.free r.asked
  if r.xfer == .store then a.roomAt t else t

/-- Whether a request is eligible in a trunk clock (R408). -/
def Arb.eligible (a : Arb) (t : Nat) (r : TReq) : Bool := decide (r.asked ≤ t) && !(r.xfer == .store && a.full t)

/-- A requester's turn within its rank: 0 for the one listed next after the one served last (R405). -/
def Arb.turn (a : Arb) (r : TReq) : Nat :=
  match a.last.get? r.rank with
  | some w => (r.who + 15 - w) % 16
  | none => r.who % 16

/-- Whether `r` is granted before `q` among eligible requests: the lower rank number, then the earlier turn. -/
def Arb.before (a : Arb) (r q : TReq) : Bool :=
  decide (r.rank < q.rank) || (r.rank == q.rank && decide (a.turn r < a.turn q))

/-- The request that an arbitration grants; of one requester's the first made. -/
def Arb.best (a : Arb) (l : List TReq) : Option TReq :=
  l.foldl (fun (b : Option TReq) r =>
    match b with
    | none => some r
    | some q => if a.before r q then some r else some q) none

/-- Whether a request is the parked owner's (R407). -/
def Arb.owns (a : Arb) (r : TReq) : Bool := a.owner == some (r.rank, r.who)

/-- The next grant: the trunk clock that decides it, that of its first beat, and the request. A request that is eligible in the
last beat of the burst in progress follows without an idle clock (R406). On an idle trunk the parked owner's starts in the clock
in which it is made, any other after the clock of its arbitration (R407); that the parked owner's goes first when both are made
in one clock is DEDUCED (log 55). -/
def Arb.choose (a : Arb) : Option (Nat × Nat × TReq) :=
  match a.best (if a.free == 0 then [] else a.reqs.filter fun r => a.eligible (a.free - 1) r) with
  | some r => some (a.free - 1, a.free, r)
  | none =>
    match (a.reqs.map fun r => a.readyAt r).min? with
    | none => none
    | some t =>
      let now := a.reqs.filter fun r => decide (a.readyAt r ≤ t)
      match now.find? fun r => a.owns r with
      | some r => some (t, t, r)
      | none => (a.best now).map fun r => (t, t + 1, r)

/-- A request with `n` bytes moved by a burst that ends at `t`; one that has moved all is gone. -/
def TReq.moved (r : TReq) (n t : Nat) (l : List TReq) : List TReq :=
  if r.bytes ≤ n then l.erase r else l.map fun q => if q == r then { q with bytes := q.bytes - n, since := t } else q

/-- One grant: a burst of at most 256 bytes, 16 bytes a clock, from the clock `t` on. Its wait counts (R410). -/
def Arb.grant (a : Arb) (lim t : Nat) (r : TReq) : Arb :=
  let n := min burstBytes r.bytes
  let done := t + (n + 15) / 16
  let wait := t - r.since
  let key := 16 * r.rank + r.who
  let c := a.counts.getD key (0, 0, 0)
  { reqs := r.moved n done a.reqs
    last := a.last.put r.rank r.who
    owner := some (r.rank, r.who)
    free := done
    wb := if r.xfer == .store then a.buffered t + n else a.wb
    wbAt := if r.xfer == .store then t else a.wbAt
    waits := a.waits.put r.rank (max wait (a.waits.getD r.rank 0))
    starves := if lim < wait then a.starves.put r.rank (a.starves.getD r.rank 0 + 1) else a.starves
    counts := a.counts.put key (c.1 + b2n (r.xfer == .read), c.2.1 + b2n (!(r.xfer == .read)), c.2.2 + wait) }

/-- Grants that are decided before the present trunk clock. -/
def Arb.run (lim now : Nat) : Nat → Arb → Arb
  | 0, a => a
  | n + 1, a =>
    match a.choose with
    | some (d, t, r) => if d < now then Arb.run lim now n (a.grant lim t r) else a
    | none => a

/-- Bursts that the waiting requests still need. -/
def Arb.bursts (a : Arb) : Nat := (a.reqs.map fun r => (r.bytes + 255) / burstBytes).foldl (· + ·) 0

/-- The arbiter at a trunk clock; `lim` is ARB_STARVLIM. -/
def Arb.settle (a : Arb) (lim now : Nat) : Arb := Arb.run lim now a.bursts a

/-- A new request enters the arbiter; one of no bytes is none. -/
def Arb.ask (a : Arb) (lim now rank who bytes : Nat) (x : Xfer) : Arb :=
  let a := a.settle lim now
  if bytes == 0 then a else { a with reqs := a.reqs ++ [⟨rank, who, x, bytes, now, now⟩] }

/-- The rank of the parked owner, while no burst is in progress and no other requester is eligible (R407). -/
def Arb.parked (a : Arb) (now : Nat) : Option Nat :=
  if decide (a.free ≤ now) && a.reqs.all (fun r => !(a.eligible now r) || a.owns r) then a.owner.map (·.1) else none

/-- The arbiter as it stands now. -/
def State.arbNow (s : State) : Arb := s.arb.settle (s.rd Reg.ARB_STARVLIM).toNat (trunkClock s.ns)

/-- The arbiter is brought to the present clock. -/
def State.settleArb (s : State) : State := { s with arb := s.arbNow }

/-- ARB_STATUS (R418). -/
def State.arbStatus (s : State) : Word :=
  let now := trunkClock s.ns
  let full := 16 * b2n (s.arbNow.full now)
  match s.arbNow.parked now with
  | some r => BitVec.ofNat 32 (r % 8 + 8 + full)
  | none => BitVec.ofNat 32 full

/-- The ARB words: the state, and per rank the longest wait and the starved requests, those that STARVATION_COUNT has
brought and those of the arbiter's own grants (R410, R418). -/
def State.peekArb (s : State) (a : Nat) : Word :=
  let r := (a - Reg.ARB_RANK_WAIT 0) / 8
  if a == Reg.ARB_STATUS then s.arbStatus
  else if a < Reg.ARB_RANK_WAIT 0 ∨ Reg.ARB_RANK_WAIT 8 ≤ a then s.rd a
  else if a % 8 == 0 then BitVec.ofNat 32 (max (s.rd a).toNat (min 0xFFFFFFFF (s.arbNow.waits.getD r 0)))
  else BitVec.ofNat 32 (satAdd 0xFFFFFFFF (s.rd a).toNat (s.arbNow.starves.getD r 0))

/-- A read of ARB_RANKr_WAIT ends the wait that it shows. -/
def State.clearWait (s : State) (a : Nat) : State :=
  let s := (s.wr a 0).settleArb
  { s with arb := { s.arb with waits := s.arb.waits.del ((a - Reg.ARB_RANK_WAIT 0) / 8) } }

/-- A transfer on the trunk, by rank and by the requester's place in the rank's list (R403). Bytes written to persistent
memory count towards the running second (ARB_WLOAD). -/
def State.trunk (s : State) (rank who bytes : Nat) (x : Xfer := .store) : State :=
  let n := if x == .store then bytes else 0
  { s with
    arb := s.arb.ask (s.rd Reg.ARB_STARVLIM).toNat (trunkClock s.ns) rank who bytes x
    perf := if rank == 7 then { s.perf with wb7 := s.perf.wb7 + n } else { s.perf with wb := s.perf.wb + n } }

end Sys2Proof.Machine
end

