-- ==== Sys2Proof/Machine/Read.lean ====
section
/-! DEFINITION. What a register reads as, without the side effects of a read: the words that the module computes from
its state, and the stored words of every other register. -/

namespace Sys2Proof.Machine

/-! ## Points (R94 to R97) -/

/-- The POINTS record of a point (R100). -/
def State.ptRec (s : State) (p : Nat) : Option Rec := (s.recs 7).find? fun r => Rec.u32 r 0 == p

/-- The STATIONS record of a station (R110). -/
def State.staRec (s : State) (n : Nat) : Option Rec := (s.recs 8).find? fun r => Rec.u16 r 0 == n

/-- Fields of a POINTS record. -/
def ptStation (r : Rec) : Nat := Rec.u16 r 4
def ptInternal (r : Rec) : Bool := ptStation r == 0xFFFF
def ptType (r : Rec) : Nat := Rec.u8 r 6
/-- The CLASS of word1: 2 for internal points (R97). -/
def ptClass (r : Rec) : Nat := if ptInternal r then 2 else Rec.u8 r 7
def ptPh (r : Rec) : Nat := Rec.u8 r 8
def ptOut (r : Rec) : Bool := Rec.bit r 9 0
def ptTwr (r : Rec) : Bool := Rec.bit r 9 1
def ptSub (r : Rec) : Bool := Rec.bit r 9 2
def ptRange (r : Rec) : Bool := Rec.bit r 9 3

/-- A point record after the start of FAB: INIT only (rows I1, O1). -/
def Point.new : Point := ⟨0, 0x80, 0, false⟩

/-- The record of a point. -/
def State.point (s : State) (p : Nat) : Point := s.fab.points.getD p .new

/-- The state of a station by R115; 5 when it has no STATIONS record. -/
def State.staState (s : State) (n : Nat) : Nat :=
  match s.staRec n with
  | none => 5
  | some _ => s.fld (F.FPT_STA_STATE n)

/-- Word1 of a point (R94, R97). -/
def State.ptWord1 (s : State) (p : Nat) (r : Rec) : Word :=
  let st := if ptInternal r then 2 else s.staState (ptStation r)
  let offl := !(ptInternal r) && (st == 3 || st == 4)
  let adm := !(ptInternal r) && st == 1
  BitVec.ofNat 32 ((s.point p).qual.toNat + ptType r * 2 ^ 8 + ptPh r * 2 ^ 12 + b2n adm * 2 ^ 26 + b2n offl * 2 ^ 27
    + ptClass r * 2 ^ 28 + b2n (ptTwr r) * 2 ^ 30 + b2n (ptOut r) * 2 ^ 31)

/-- The four words of a point record (R94). -/
def State.ptWord (s : State) (p j : Nat) : Word :=
  match s.ptRec p with
  | none => 0
  | some r =>
    if j == 0 then (s.point p).value else if j == 1 then s.ptWord1 p r
    else if j == 2 then BitVec.ofNat 32 (s.point p).pm.toNat else BitVec.ofNat 32 ((s.point p).pm.toNat / 2 ^ 32)

/-- AGE of R131: whole cycles since the start of the last input phase in which the station delivered. -/
def State.ageCycles (s : State) (n : Nat) : Nat :=
  match s.fab.stations.get? n with
  | none => 0
  | some st => min 16777215 ((s.pmNow - st.ageBase).toNat / 2 ^ 20)

/-- FPT_STAAGE.AGE: 0 while the station delivers in every input phase of its poll class (R130). -/
def State.staAge (s : State) (n : Nat) : Nat :=
  match s.fab.stations.get? n with
  | none => 0
  | some st => if st.fresh then 0 else s.ageCycles n

/-! ## Units whose registers are computed -/

/-- The correlation record that the PMK_COR registers show: the frozen one, else the newest. -/
def State.corShown (s : State) : Cor :=
  match s.clk.frozen with
  | some c => c
  | none => s.clk.cor.getD ⟨0, 0, 0, 0, 0, 0, 0, 0⟩

/-- The PMK words that show the clock (R9, R61). -/
def State.peekPmk (s : State) (a : Nat) : Word :=
  let c := s.corShown
  if a == Reg.PMK_NOW_LO then BitVec.ofNat 32 s.pmNow.toNat
  else if a == Reg.PMK_NOW_HI then BitVec.ofNat 32 (s.pmNow.toNat / 2 ^ 32)
  else if a == Reg.PMK_COR_SEQ then BitVec.ofNat 32 (match s.clk.cor with | some n => n.seq | none => 0)
  else if a == Reg.PMK_COR_PM_LO then BitVec.ofNat 32 c.pm.toNat
  else if a == Reg.PMK_COR_PM_HI then BitVec.ofNat 32 (c.pm.toNat / 2 ^ 32)
  else if a == Reg.PMK_COR_SEC then BitVec.ofNat 32 c.sec
  else if a == Reg.PMK_COR_DELTA then BitVec.ofNat 32 c.delta
  else if a == Reg.PMK_COR_FLAGS then BitVec.ofNat 32 (c.state + 4 * c.slew + 8 * c.set + 16 * c.cntest)
  else s.rd a

/-- The EVR words, from the recorder engine (R569). -/
def State.peekEvr (s : State) (a : Nat) : Word :=
  let e := s.evr
  if a == Reg.EVR_STATUS then
    BitVec.ofNat 32 (b2n e.run + 2 * b2n e.wrapped + 4 * b2n e.dropping + e.buf.length * 2 ^ 16)
  else if a == Reg.EVR_NEWEST then BitVec.ofNat 32 e.newest
  else if a == Reg.EVR_OLDEST then BitVec.ofNat 32 e.oldest
  else if a == Reg.EVR_DROPPED then BitVec.ofNat 32 e.dropped
  else if a == Reg.EVR_SUPPRESSED then BitVec.ofNat 32 e.suppressed
  else if a == Reg.EVR_HIGHFILL then BitVec.ofNat 32 e.highfill
  else s.rd a

/-- The RTC words: RTC_SUBSEC shows the prescaler, 0 during HALT (R538, R542). -/
def State.peekRtc (s : State) (a : Nat) : Word :=
  if a == Reg.RTC_SUBSEC then (if s.flag F.RTC_CTRL_HALT then 0 else BitVec.ofNat 32 s.rtc.sub.toNat) else s.rd a

/-- The number of a transport in CTR_SESSk (R495): 0 SPI, 1 to 7 MAC 0 to 6. -/
def Transport.num : Transport → Nat
  | .spi => 0
  | .mac m => m + 1

/-- The CTR words that show sessions and factory values (R495). -/
def State.peekCtr (s : State) (a : Nat) : Word :=
  if a == Reg.CTR_STATUS then (s.rd a).setBits 19 16 s.ctr.sessions.length
  else if a == Reg.CTR_FACTMAC_LO then BitVec.ofNat 32 Config.factMac.toNat
  else if a == Reg.CTR_FACTMAC_HI then BitVec.ofNat 32 (Config.factMac.toNat / 2 ^ 32)
  else if Reg.CTR_SESS0 0 ≤ a ∧ a < Reg.CTR_SESS0 8 then
    let k := (a - Reg.CTR_SESS0 0) / 8
    match s.ctr.sessions.get? k with
    | none => 0
    | some e =>
      if a % 8 == 0 then BitVec.ofNat 32 (e.num * 2 ^ 16 + e.binding * 2 ^ 8 + e.role.num * 2 ^ 6 + e.ph)
      else BitVec.ofNat 32 ((if e.opened then 2 else 1) * 2 ^ 16 + Transport.num e.tp * 2 ^ 12
        + min 4095 ((s.ns - e.lastNs) / 1000000000))
  else s.rd a

/-- The FPT words of stations (R115, R130). -/
def State.peekFpt (s : State) (a : Nat) : Word :=
  if Reg.FPT_STA 0 ≤ a ∧ a < Reg.FPT_STA 2048 then
    let n := (a - Reg.FPT_STA 0) / 8
    if a % 8 == 0 then (s.rd a).setBits 18 16 (s.staState n) else BitVec.ofNat 32 (s.staAge n)
  else s.rd a

/-- Whether an axis has an AXES record. -/
def State.hasAx (s : State) (k : Nat) : Bool := (s.recs 14).any fun r => Rec.u8 r 0 == k

/-- The CLE words of an axis window that show its sections, banks, position, ramp and comparators (R231, R261). -/
def State.peekCle (s : State) (a : Nat) : Word :=
  let o := a % 0x1000
  match s.cle.axes.get? ((a - 0x200000) / 0x1000) with
  | none => s.rd (canonAddr a)
  | some x =>
    if 0x100 ≤ o ∧ o < 0x1C0 then
      let c := x.secs.getD ((o - 0x100) / 16) ⟨0, 0, 0, 0⟩
      BitVec.ofInt 32 (if o % 16 == 0 then c.y else if o % 16 == 4 then c.s1 else if o % 16 == 8 then c.s2 else c.es)
    else if 0x200 ≤ o ∧ o < 0x400 then
      Rec.w (if s.fld (F.CLE_AX_STATUS_BANK ((a - 0x200000) / 0x1000)) == 0 then x.bank1 else x.bank0) (o - 0x200)
    else if 0x400 ≤ o ∧ o < 0x600 then
      Rec.w (if s.fld (F.CLE_AX_STATUS_BANK ((a - 0x200000) / 0x1000)) == 0 then x.bank0 else x.bank1) (o - 0x400)
    else if o == 0x604 then BitVec.ofInt 32 x.pos
    else if o == 0x608 then BitVec.ofInt 32 (x.pos / 2 ^ 32)
    else if o == 0x60C then toReal32 x.v.val
    else if 0x700 ≤ o ∧ o < 0x800 ∧ o % 16 < 12 then
      let c := x.cmps.getD ((o - 0x700) / 16) ⟨0, 0, false⟩
      if o % 16 == 0 then BitVec.ofInt 32 c.pos else if o % 16 == 4 then BitVec.ofInt 32 (c.pos / 2 ^ 32)
      else BitVec.ofNat 32 (c.dir + 4 * b2n c.hysw)
    else s.rd (canonAddr a)

/-- The entries of the friction and cogging tables (R242), as REAL32 rounded to nearest. -/
def State.peekTab (s : State) (a : Nat) : Word :=
  let o := (a - 0x300000) % 0x2000 / 4
  match s.cle.axes.get? ((a - 0x300000) / 0x2000) with
  | none => 0
  | some x =>
    if o < 256 then toReal32 (x.fric.getD o ⟨0, 0⟩).val
    else if o < 1280 then toReal32 (x.cog.getD (o - 256) ⟨0, 0⟩).val else 0

/-- The NETWORK record of a MAC (R455), and the fields of the shaper of queue `q`. -/
def State.netRec (s : State) (m : Nat) : Option Rec := (s.recs 4).find? fun r => Rec.u8 r 0 == m
def nwIdle (r : Rec) (q : Nat) : Nat := Rec.u32 r (0x90 + 8 * q)
def nwHi (r : Rec) (q : Nat) : Int := Rec.i r (0x94 + 8 * q) 2 * 8
def nwLo (r : Rec) (q : Nat) : Int := Rec.i r (0x96 + 8 * q) 2 * 8

/-- A line rate in kbit/s by ETH_m_STATUS.RATE. -/
def macRate (code : Nat) : Nat := if code == 0 then 10000 else if code == 1 then 100000 else 1000000

def State.mac (s : State) (m : Nat) : MacSt := s.net.macs.getD m ⟨none, none, []⟩
def State.setMac (s : State) (m : Nat) (x : MacSt) : State := { s with net := { s.net with macs := s.net.macs.put m x } }

/-- The credit of a queue at this moment, in bits (R463); 0 for an unshaped queue. -/
def State.creditAt (s : State) (m q : Nat) : Rat :=
  match s.netRec m with
  | none => 0
  | some r =>
    if nwIdle r q == 0 then 0
    else
      let c := (s.mac m).credits.getD q ⟨0, 0, s.ns⟩
      let ms : Rat := ((s.ns - c.ns : Nat) : Rat) / 1000000
      let up := c.v + (nwIdle r q : Rat) * ms
      if c.mode == 2 then
        max (nwLo r q : Rat) (c.v + ((nwIdle r q : Rat) - (macRate (s.fld (F.ETH_STATUS_RATE m)) : Rat)) * ms)
      else if c.mode == 1 then min (nwHi r q : Rat) up
      else if 0 < c.v then 0 else min 0 up

/-- The ETH words that show credits; a credit between two bits shows the lower one (log 7). -/
def State.peekEth (s : State) (a : Nat) : Word :=
  if 0x600000 ≤ a ∧ a < 0x607000 ∧ 0x20 ≤ a % 0x1000 ∧ a % 0x1000 < 0x40 then
    BitVec.ofInt 32 (s.creditAt ((a - 0x600000) / 0x1000) ((a % 0x1000 - 0x20) / 4)).floor
  else s.rd a

/-- The message memory of CAN FD controller `i` (R431): the group with that controller. -/
def State.canOf (s : State) (i : Nat) : Option Can :=
  ((s.net.ports.find? fun e => Rec.u8 e.2 1 == 1 && Rec.u8 e.2 3 == i).bind fun e => s.net.cans.get? e.1)

/-- Offsets of the message memories inside FPT (R431). -/
def canWindow (a : Nat) : Bool := decide (0x520000 ≤ a) && decide (a < 0x540000) && decide ((a - 0x520000) % 0x4000 < 12544)

/-- The words of a message object (R432). -/
def CanObj.word (x : CanObj) (o : Nat) : Word :=
  if o == 0 then x.cfg else if o == 4 then x.id else if o == 8 then BitVec.ofNat 32 (x.dlc + x.flags * 2 ^ 8)
  else if o == 16 then BitVec.ofNat 32 x.pm.toNat else if o == 20 then BitVec.ofNat 32 (x.pm.toNat / 2 ^ 32)
  else if 24 ≤ o then Rec.w x.data (o - 24) else 0

/-- A word of a message memory. -/
def State.peekCan (s : State) (a : Nat) : Word :=
  let o := (a - 0x520000) % 0x4000
  match s.canOf ((a - 0x520000) / 0x4000) with
  | none => 0
  | some c =>
    if o < 0x200 then c.std.getD (o / 4) 0
    else if o < 0x500 then
      let e := c.ext.getD ((o - 0x200) / 12) (0, 0, 0)
      if (o - 0x200) % 12 == 0 then e.1 else if (o - 0x200) % 12 == 4 then e.2.1 else e.2.2
    else match c.objs[(o - 0x500) / 88]? with | some x => x.word ((o - 0x500) % 88) | none => 0

/-! ## Metering (R269, R276, R279, R296) -/

/-- Fields of a METERING record: EN, QTY and MODE of a register, WUNIT. -/
def meEn (r : Rec) : Bool := Rec.bit r 1 0
def meQty (r : Rec) (i : Nat) : Nat := Rec.u8 r (0x14 + 2 * i)
def meMode (r : Rec) (i : Nat) : Nat := Rec.u8 r (0x15 + 2 * i)
def meWunit (r : Rec) (i : Nat) : Nat := Rec.u8 r (0x20 + i)

/-- The METERING record of a group in force. -/
def State.meRec (s : State) (g : Nat) : Rec := ((s.recs 17).find? fun r => Rec.u8 r 0 == g).getD []

/-- An energy register as a 64-bit number, without its fraction. -/
def State.energy (s : State) (g i : Nat) : Nat := s.mtr.energy.getD (6 * g + i) 0 / 2 ^ 32 % 2 ^ 64

/-- The unit of a view in register units (R279). -/
def viewUnit (wunit : Nat) : Nat := 1000 * 10 ^ wunit

/-- A register's whole units, before the view takes its low 32 bits: signed for a SIGNED register (R279, R282). -/
def State.viewUnits (s : State) (g i : Nat) : Int :=
  let r := s.meRec g
  if meMode r i == 0 then (BitVec.ofNat 64 (s.energy g i)).toInt / (viewUnit (meWunit r i) : Int)
  else ((s.energy g i / viewUnit (meWunit r i) : Nat) : Int)

/-- The MTR words of a group (R296): those of a group with EN = 0 read 0, but for its energy registers, GAPSTART and
GAPEND. -/
def State.peekMtr (s : State) (a : Nat) : Word :=
  if 0x102000 ≤ a ∧ a < 0x103000 then
    let g := (a - 0x102000) / 0x100
    let o := a % 0x100
    if o == 0x14 || o == 0x18 then s.rd a
    else if 0x40 ≤ o ∧ o < 0xA0 ∧ o % 16 < 8 then
      BitVec.ofNat 32 (if o % 16 == 0 then s.energy g ((o - 0x40) / 16) else s.energy g ((o - 0x40) / 16) / 2 ^ 32)
    else if !(s.flag (F.MTR_G_STATUS_EN g)) then 0
    else if o == 0 then (s.rd a).setBits 2 2 (b2n (s.flag (F.MTR_G_STATUS_FLYSEEN g) || s.flag (F.MTR_G_STATUS_FLY g)))
    else if 0x40 ≤ o ∧ o < 0xA0 ∧ o % 16 == 8 then BitVec.ofInt 32 (s.viewUnits g ((o - 0x40) / 16))
    else s.rd a
  else s.rd a

/-- Whether a moment lies within the last 60 ms. -/
def State.recent (s : State) (t : Option Nat) : Bool := match t with | some n => decide (s.ns ≤ n + 60000000) | none => false

/-- PMS_PAIRSTAT shows whether the witness and the partner confirmed within the last 60 ms (R344). -/
def State.peekPms (s : State) (a : Nat) : Word :=
  if a == Reg.PMS_PAIRSTAT then
    ((s.rd a).setBits 5 5 (b2n (s.recent s.pms.pair.witNs))).setBits 4 4 (b2n (s.recent s.pms.pair.peerNs))
  else s.rd a

/-- SAF_PAIRn.DEGREM: whole minutes of degraded time left, rounded up (R375). -/
def State.peekSaf (s : State) (a : Nat) : Word :=
  if Reg.SAF_PAIR 0 ≤ a ∧ a < Reg.SAF_PAIR 16 then
    match (s.saf.pairs.get? ((a - Reg.SAF_PAIR 0) / 4)).bind SafPair.degNs with
    | some t => (s.rd a).setBits 26 16 ((t - s.ns + 59999999999) / 60000000000)
    | none => s.rd a
  else s.rd a

/-- A slot of a secret kind (R498). -/
def secretKind (k : Nat) : Bool := k == 1 || k == 2 || k == 6 || k == 7

/-- KEY_STATUS: minutes of SERVICE left, the holder of the working key register, TACTIVE, FACTORY (R511); and the finished
attestation (R515). -/
def State.peekKey (s : State) (a : Nat) : Word :=
  if a == Reg.KEY_STATUS then
    let w := s.rd a
    let rem := match s.keys.svcEnd with | some t => min 65535 ((t - s.ns + 59999999999) / 60000000000) | none => 0
    let own := match s.keys.wk with
      | some r => (match r.m with | .lna => 1 | .lnb => 2 | .ref => 3 | .fab => 4 | .net => 5)
      | none => 0
    let fac := !(w.bit 4) || w.bits 2 0 == 0 || !(s.fld (F.KEY_SLOT0_STATE 0) == 1)
    (((w.setBits 31 16 rem).setBits 10 8 own).setBits 6 6 (b2n (!(s.keys.active.isEmpty)))).setBits 5 5 (b2n fac)
  else if 0x78000 ≤ a ∧ a < 0x7C010 then Rec.w s.keys.attbuf (a - 0x78000)
  else s.rd a

/-- The lowest of the `n` measurements of the supply that end with the one of millisecond `ms`; 0 for none. -/
def lowestVin (ms : Nat) : Nat → Nat
  | 0 => 0
  | 1 => (Config.vin ms).toNat
  | n + 2 => min (Config.vin (ms - (n + 1))).toNat (lowestVin ms (n + 1))

/-- PWR_VIN: the supply, measured every 1 ms from the start of REF on, and the lowest measurement since the last read, 0
right after a read (R6). -/
def State.peekPwr (s : State) (a : Nat) : Word :=
  if a == Reg.PWR_VIN then
    let ms := s.ns / 1000000
    if s.pwr.refNs + 1000000 ≤ s.ns then
      BitVec.ofNat 32 (lowestVin ms (ms - s.pwr.vinRead) * 2 ^ 16 + (Config.vin ms).toNat)
    else 0
  else s.rd a

/-- What the word at an address reads as, with no effect of the read. -/
def State.peek (s : State) (a : Nat) : Word :=
  match blockOf a with
  | some .pmk => s.peekPmk a
  | some .evr => s.peekEvr a
  | some .rtc => s.peekRtc a
  | some .pwr => s.peekPwr a
  | some .ctr => s.peekCtr a
  | some .fpt => if canWindow a then s.peekCan a else s.peekFpt a
  | some .eth => s.peekEth a
  | some .mtr => s.peekMtr a
  | some .pms => s.peekPms a
  | some .saf => s.peekSaf a
  | some .key => s.peekKey a
  | some .pts => s.ptWord ((a - 0x1000000) / 16) (a % 16 / 4)
  | some .arb => s.peekArb a
  | some .cle => s.peekCle a
  | some .cleTab => s.peekTab a
  | _ => s.rd a

/-- Whether the domain of the block at an address reports good, and stands at RUN or IDLE (R29); the station and round
registers of R142 also need FAB. -/
def State.addrGood (s : State) (a : Nat) : Bool :=
  match blockOf a with
  | none => false
  | some b => s.goodN (s.blkDom b) && decide (s.domRung (s.blkDom b) ≤ 1) && (!(b == .fpt && decide (0x580000 ≤ a)) || s.good .fab)

/-- Whether the map defines a register at an address (R28, R231): the windows of undeclared axes define none. -/
def State.mapped (s : State) (a : Nat) : Bool :=
  match blockOf a with
  | some .cle => (findReg a).isSome && (decide (0xF00 ≤ a % 0x1000) || s.hasAx ((a - 0x200000) / 0x1000))
  | some .cleTab => a % 4 == 0 && s.hasAx ((a - 0x300000) / 0x2000) && decide ((a - 0x300000) % 0x2000 < 5120)
  | some .pts => a % 4 == 0 && (s.ptRec ((a - 0x1000000) / 16)).isSome
  | some .pmw => a % 4 == 0
  | some .fpt => (findReg a).isSome || (a % 4 == 0 && canWindow a)
  | _ => (findReg a).isSome

end Sys2Proof.Machine
end

