-- ==== Sys2Proof/Machine/Record.lean ====
section
/-! DEFINITION. The event recorder's acceptance of an event (R556 to R563): snapshot, RECORDER section, rate limit, drop
rule and buffer. Every unit records through `State.record`. -/

namespace Sys2Proof.Machine

/-- The default rate limit of 16#4005 as a RECORDER record (R560, chapter 7): KEYED by axis, 3,600 tokens per hour, a
bucket of 1. -/
def cleSatDefault : Rec := [0x05, 0x40, 2, 0, 0x10, 0x0E, 0, 0, 1, 0] ++ List.replicate 22 0

/-- The RECORDER record of a code (R559), or the default of its chapter (R560). -/
def State.recRec (s : State) (code : Nat) : Option Rec :=
  match s.evr.cfg.find? fun r => Rec.u16 r 0 == code with
  | some r => some r
  | none => if code == 0x4005 then some cleSatDefault else none

/-- The appended registers of a code (R559): words, and whether one could not be read (R558). -/
def State.appended (s : State) (r : Rec) : List Word × Bool :=
  (List.range (min 4 (Rec.u8 r 3))).foldl (fun acc i =>
    let a := Rec.u32 r (16 + 4 * i)
    if s.addrGood a then (acc.1 ++ [s.peek a], acc.2) else (acc.1 ++ [0], true)) ([], false)

/-- One token of a bucket, in the unit of `Bucket.tokens`: RATE tokens per hour gain RATE units per nanosecond. -/
def tokenUnit : Nat := 3600000000000

/-- The bucket of a code and key, full when it has not been used since the start of REF or the change of its record
(R561). -/
def Evr.bucket (e : Evr) (code key burst ns : Nat) : Bucket :=
  (e.buckets.find? fun b => b.code == code && b.key == key).getD ⟨code, key, burst * tokenUnit, ns, 0⟩

/-- Stores a bucket. -/
def Evr.putBucket (e : Evr) (b : Bucket) : Evr :=
  { e with buckets := b :: e.buckets.filter fun x => !(x.code == b.code && x.key == b.key) }

/-- The key of an event: snapshot word 0 modulo 64 for a KEYED code, else 0 (R559). -/
def recKey (r : Option Rec) (snap : List Word) : Nat :=
  match r with
  | some r => if Rec.bit r 2 1 then (snap.headD 0).toNat % 64 else 0
  | none => 0

/-- The rate limit of R561: none for a code without a record or with RATE 0. Answers the engine after the event and
the SUPPR count of the record, or none when the event is suppressed. -/
def Evr.limit (e : Evr) (r : Option Rec) (code ns : Nat) (snap : List Word) : Evr × Option Nat :=
  match r with
  | none => (e, some 0)
  | some r =>
    let rate := Rec.u32 r 4
    if rate == 0 then (e, some 0)
    else
      let burst := Rec.u16 r 8
      let b := e.bucket code (recKey (some r) snap) burst ns
      let have_ := min (burst * tokenUnit) (b.tokens + (ns - b.ns) * rate)
      if tokenUnit ≤ have_ then
        (e.putBucket { b with tokens := have_ - tokenUnit, ns := ns, suppr := 0 }, some b.suppr)
      else
        ({ (e.putBucket { b with tokens := have_, ns := ns, suppr := satAdd 65535 b.suppr 1 }) with
            suppressed := satAdd 0xFFFFFFFF e.suppressed 1 }, none)

/-- Codes 16#E001 to 16#E004, which use the last 64 entries (R563). -/
def auditCode (code : Nat) : Bool := decide (0xE001 ≤ code) && decide (code ≤ 0xE004)

/-- Whether the buffer takes an event (R563). -/
def Evr.room (e : Evr) (code : Nat) : Bool :=
  if auditCode code then decide (e.buf.length < 1024) else decide (e.buf.length < 960)

/-- The FLAGS of a record beside DROPGAP and SNAPPART (R557). -/
def State.recFlags (s : State) : Nat :=
  b2n (!(s.flag F.RTC_STATUS_VALID)) + 2 * b2n (!(s.good .mtr && s.fld F.PMK_STATUS_STATE == 1))
    + 4 * b2n (s.flag F.PMK_STATUS_CNTEST)

/-- An event that no room is left for (R563): audit events are refused, every other event is dropped and counted. -/
def Evr.drop (e : Evr) (code : Nat) (pm : Postmark) : Evr :=
  if auditCode code then e
  else { e with
    dropping := true, dropgap := true
    dropCount := e.dropCount + 1
    dropFirst := if e.dropCount == 0 then pm else e.dropFirst
    dropLast := pm
    dropped := satAdd 0xFFFFFFFF e.dropped 1 }

/-- An accepted event enters the buffer, with the next SEQ once the sequence has been resumed (R562, R566). -/
def Evr.accept (e : Evr) (r : EvRec) : Evr :=
  let rec_ := { r with
    seq := if e.resumed then some e.next else none
    flags := r.flags + 8 * b2n e.dropgap
    drops := e.dropped }
  { e with
    buf := e.buf ++ [rec_]
    next := if e.resumed then (e.next + 1) % 2 ^ 32 else e.next
    dropgap := false
    highfill := max e.highfill (e.buf.length + 1) }

/-- Records an event (R556 to R563) with its own snapshot words, role, pigeonhole and session. -/
def State.record (s : State) (code : Nat) (snap : List Word) (role : Nat := 0xFF) (ph : Nat := 0) (session : Nat := 0) :
    State :=
  let r := s.recRec code
  if (match r with | some r => Rec.bit r 2 0 | none => false) then s
  else
    match s.evr.limit r code s.ns snap with
    | (e, none) => { s with evr := e }
    | (e, some suppr) =>
      if e.room code then
        let app := match r with | some r => s.appended r | none => ([], false)
        let all := snap ++ app.1
        let er : EvRec := ⟨none, code, s.recFlags + 16 * b2n (app.2 || decide (16 < all.length)), s.pmNow, s.rtcSec,
          s.rtc.sub.toNat, role, ph, suppr, session, s.rd Reg.PMS_FRANK, all.take 16, 0⟩
        { s with evr := e.accept er }
      else { s with evr := e.drop code s.pmNow }

/-- Records an event of a Counter session. -/
def State.recordBy (s : State) (w : Who) (code : Nat) (snap : List Word) : State :=
  s.record code snap w.role.num w.ph w.session

end Sys2Proof.Machine
end

