-- ==== Sys2Proof/Machine/Fire.lean ====
section
/-! DEFINITION. Tasks as the task table gives them (R146), and lane event sources: how an event enters a task's queue
(R157 to R160). -/

namespace Sys2Proof.Machine

/-! ## Words -/

/-- A number as a snapshot word. -/
def n2w (n : Nat) : Word := BitVec.ofNat 32 n

/-- An integer as a two's complement word. -/
def i2w (i : Int) : Word := BitVec.ofInt 32 i

/-! ## Tasks -/

/-- A task that has not run: blank checkpoints. -/
def Task.new : Task :=
  { area := 0, phase := .idle, rel := 0, disp := 0, relNs := 0, again := none, last := none, seqNo := 0, skip := false, stepped := false, data := [],
    work := [], outs := none, calls := [], ev := none, queue := [], lost := 0, burst := false, calIdx := none,
    pend := none, ck := .empty }

/-- A task. -/
def State.task (s : State) (t : Nat) : Task := s.prog.tasks.getD t .new

/-- Stores a task. -/
def State.setTask (s : State) (t : Nat) (k : Task) : State :=
  { s with prog := { s.prog with tasks := s.prog.tasks.put t k } }

/-- The program of an area. -/
def Prog.area (p : Prog) (a : Nat) : Program := if a == 0 then p.area0 else p.area1

/-- The TASKS record of a task in a program. -/
def Program.rec? (p : Program) (t : Nat) : Option Rec := p.tasks.find? fun r => Rec.u8 r 0 == t

/-- The TASKS record of a task in the program that it runs. -/
def State.taskRec (s : State) (t : Nat) : Option Rec := (s.prog.area (s.task t).area).rec? t

/-- Fields of a TASKS record (R146). -/
def tkPrio (r : Rec) : Nat := Rec.u8 r 1
def tkCore (r : Rec) : Nat := Rec.u8 r 2
def tkKind (r : Rec) : Nat := Rec.u8 r 3
def tkK (r : Rec) : Nat := Rec.u8 r 4
def tkWdog (r : Rec) : Nat := Rec.u8 r 5
def tkQdepth (r : Rec) : Nat := Rec.u8 r 6
def tkSource (r : Rec) : Nat := Rec.u8 r 7
def tkPhase (r : Rec) : Nat := Rec.u32 r 8 % 2 ^ 20
def tkAnchor (r : Rec) : Nat := Rec.u32 r 12
def tkPeriod (r : Rec) : Nat := Rec.u32 r 16
def tkParam (r : Rec) : Word := Rec.w r 20
def tkObj (r : Rec) : Nat := Rec.u16 r 24

/-- The task numbers that the program of the active area or a task's own area declares, in ascending order. -/
def State.taskNums (s : State) : List Nat := (List.range 64).filter fun t => (s.taskRec t).isSome

/-- Program modes of TSK_STATUS.MODE. -/
def modeSTOP : Nat := 0
def modeRUN : Nat := 1
def modeHOLD : Nat := 2
def State.mode (s : State) : Nat := s.fld F.TSK_STATUS_MODE

/-! ## Event sources -/

/-- One event, fired at a postmark (R159), for a task's queue (R158): queued, or discarded and counted when the queue holds
QDEPTH events; the first discard of a burst records 16#3006. -/
def State.enqueue (s : State) (t : Nat) (r : Rec) (skip : Bool) (pm : Postmark) (val : Word) : State :=
  let k := s.task t
  if k.queue.length < tkQdepth r then
    let e : TEvent := ⟨tkSource r, skip, k.lost, pm, val⟩
    s.setTask t { k with queue := k.queue ++ [e], lost := 0, burst := false }
  else
    let s1 := s.inc (F.TSK_LATE_EVLOST t)
    let s2 := s1.setTask t { k with lost := satAdd 255 k.lost 1, burst := true }
    if k.burst then s2 else s2.record 0x3006 [n2w t, n2w (tkSource r), n2w (s2.fld (F.TSK_LATE_EVLOST t))]

/-- Fires the lane event sources that `hit` selects by SOURCE and PARAM: one event in the queue of each event task bound
to one of them, with the postmark at which it fired. While the program is in STOP, or no lane runs, the event is discarded
and not counted (R160). -/
def State.fireAt (s : State) (hit : Nat → Word → Bool) (skip : Bool) (pm : Postmark) (val : Word) : State :=
  if s.mode == modeSTOP || !s.laneUp then s
  else
    (List.range 32).foldl (fun s i =>
      let t := 32 + i
      match s.taskRec t with
      | some r => if tkKind r == 3 && hit (tkSource r) (tkParam r) then s.enqueue t r skip pm val else s
      | none => s) s

/-- Fires at the present moment. -/
def State.fireWhere (s : State) (hit : Nat → Word → Bool) (skip : Bool) (val : Word) : State := s.fireAt hit skip s.pmNow val

/-- Fires one source whose PARAM plays no part. -/
def State.fire (s : State) (source : Nat) (val : Word) : State := s.fireWhere (fun x _ => x == source) false val

end Sys2Proof.Machine
end

