-- ==== Sys2Proof/Machine/Flags.lean ====
section
/-! DEFINITION. Who may act on a register, and the checks that come before its effect: roles (R7), domains (R29), the
armed manifest (R92), and how the access codes of R6 take a written word. -/

namespace Sys2Proof.Machine

/-- Whether a role stands in the Write roles column of a field. -/
def RegField.lists (f : RegField) (r : Role) : Bool := f.roles.contains r

/-- Writable fields: those of access RW, W1C or WO (R7). -/
def RegField.writable (f : RegField) : Bool := f.acc == .rw || f.acc == .w1c || f.acc == .wo

/-- Whether writing `v` would act on a field whose word holds `old` (R7). -/
def RegField.acts (f : RegField) (old v : Word) : Bool :=
  match f.acc with
  | .rw => !(old.bits f.hi f.lo == v.bits f.hi f.lo)
  | .w1c => !(v.bits f.hi f.lo == 0)
  | .wo => !(v.bits f.hi f.lo == 0)
  | _ => false

/-- Check 6 of R488 for a write of a register word (R7): true when the role may make the write. -/
def RegDesc.mayWrite (d : RegDesc) (r : Role) (old v : Word) : Bool :=
  let w := d.fields.filter RegField.writable
  w.any (fun f => f.lists r) && w.all (fun f => f.lists r || !(f.acts old v))

/-- The word after a write by R6 and R7: an RW field for which the role is listed takes the value, a 1 clears a W1C
bit, and every other field and every reserved bit keeps its value. -/
def RegDesc.store (d : RegDesc) (r : Role) (old v : Word) : Word :=
  d.fields.foldl (fun w f =>
    if f.lists r then
      match f.acc with
      | .rw => w.setBits f.hi f.lo (v.bits f.hi f.lo)
      | .w1c => w.setBits f.hi f.lo (Nat.land (old.bits f.hi f.lo) (Nat.xor (v.bits f.hi f.lo) (2 ^ (f.hi + 1 - f.lo) - 1)))
      | _ => w
    else w) old

/-- The word without its RC fields, which take their reset values (R6). -/
def RegDesc.cleared (d : RegDesc) (old : Word) : Word :=
  d.fields.foldl (fun w f => if f.acc == .rc then w.setBits f.hi f.lo f.reset else w) old

/-- Whether a register holds an RC field. -/
def RegDesc.hasRC (d : RegDesc) : Bool := d.fields.any fun f => f.acc == .rc

/-- Whether a manifest is armed. -/
def State.armed (s : State) : Bool := s.flag F.MOD_MAN_STATUS_ARMVALID

/-- Blocks that the Counter writes while no manifest is armed (R92): CTR, PWR, RTC and BAK, KEY, PMC, the MOD registers
of manifests and images, and the slots in the persistent memory window. -/
def unarmedBlk : Blk → Bool
  | .ctr => true | .pwr => true | .rtc => true | .key => true | .pmc => true | .mod => true | .pmw => true
  | _ => false

/-- Check 7 of R488 for a write: the domain of the block reports good (R29) and a manifest is armed where R92 asks for
one; PMS is closed while the Postmaster restarts and TSK while a takeover runs (R30). -/
def State.gateWrite (s : State) (a : Nat) : Bool :=
  match blockOf a with
  | none => false
  | some b => s.addrGood a && (s.armed || unarmedBlk b)
      && !(b == .pms && s.pms.restart.isSome) && !(b == .tsk && s.fld F.PMS_STATUS_PHASE == 1)

/-- Whether a long operation runs, or one that a reset or a Postmaster restart ended is still to resume: every request is
then answered BUSY (R485, R486, R528). -/
def State.longBusy (s : State) : Bool := s.ctr.long.isSome || s.img.delta.isSome || s.keys.zero.isSome

/-- Values of command registers that their Meaning allows to the maker alone (R7): ARMFB, the pair commands, every value
of KEY_CTRL.CMD but ATTEST, ADVANCE and RETIRE, RESET, and a lowering of block protect. -/
def State.valueDenied (s : State) (who : Who) (a : Nat) (v : Word) : Bool :=
  !(who.role == .maker) &&
    (if a == Reg.MOD_MAN_CTRL then v.bits 2 0 == 3
    else if a == Reg.PMS_CTRL then decide (4 ≤ v.bits 2 0) && decide (v.bits 2 0 ≤ 6)
    else if a == Reg.KEY_CTRL then !(v.bits 3 0 == 3)
    else if a == Reg.KEY_LCCTRL then v.bits 2 0 == 1 || v.bits 2 0 == 4
    else if a == Reg.PWR_CTRL then v.bits 1 0 == 2
    else if a == Reg.PMC_PROTCTL then decide (v.bits 1 0 < s.fld F.PMC_STATUS_LEVEL)
    else false)

/-- In recovery mode the only registers written are those of images (R534). -/
def imgReg (a : Nat) : Bool := decide (0x200 ≤ a) && decide (a < 0x300)

/-- The answer that refuses a command register write by `who` (R485, R7, R29, R92, R534), if one does. -/
def State.refuse (s : State) (who : Who) (a : Nat) (v : Word) : Option Nat :=
  if s.longBusy then some ansBUSY else
  match findReg a with
  | none => some (if who.role == .tenant then ansHIDDEN else ansBADADDR)
  | some d =>
    if who.role == .tenant then some ansHIDDEN
    else if !(s.mapped a) then some ansBADADDR
    else if !(d.mayWrite who.role (s.peek a) v) || s.valueDenied who a v then some ansDENIED
    else if !(s.gateWrite a) || (s.pwr.recovery && !(imgReg a)) then some ansBADSTATE
    else none

end Sys2Proof.Machine
end

