-- ==== Sys2Proof/Machine/Clock.lean ====
section
/-! DEFINITION. The postmark clock (chapter 2): reference cycles, the three states, the frequency step and phase slew,
PMK_CFG and the correlation registers. -/

namespace Sys2Proof.Machine

/-- Values of PMK_STATUS.STATE (R42). -/
def stNOMINAL : Nat := 0
def stLOCKED : Nat := 1
def stFLYWHEEL : Nat := 2

/-- The nominal frequency of a PMK_CFG value, in microhertz (R42). -/
def nominalF (cfg : Word) : Rat := if cfg.bit 2 then 60000000 else 50000000

/-- Mean of exact frequencies; `d` for none (R45). -/
def meanRat (l : List Rat) (d : Rat) : Rat := if l.isEmpty then d else l.foldl (· + ·) 0 / (l.length : Rat)

/-- LIMIT(lo, x, hi). -/
def limRat (lo x hi : Rat) : Rat := if x < lo then lo else if hi < x then hi else x
def limInt (lo x hi : Int) : Int := if x < lo then lo else if hi < x then hi else x

/-- A clock update. -/
def State.setClk (s : State) (c : Clock) : State := { s with clk := c }

/-- The flywheel frequency at this moment (R45): mean over the last 50 complete cycles, or nominal with none. -/
def State.flyMean (s : State) : Rat := meanRat s.clk.hist (nominalF s.clk.cfg)

/-- The clock frequency as PMK_FREQ shows it, in whole microhertz (log 7). -/
def State.showFreq (s : State) : State := s.wr Reg.PMK_FREQ (BitVec.ofInt 32 s.clk.f.floor)

/-- Source 115 of the metering groups that `hit` selects: the new flags (R157). -/
def State.fireMtr (s : State) (hit : Nat → Bool) : State :=
  ((List.range 16).filter hit).foldl
    (fun s g => s.fireWhere (fun src param => src == 115 && param.toNat == g) false (s.peek (Reg.MTR_G_STATUS g))) s

/-- FLY of every enabled metering group follows the clock's state; each change records 16#5002, and FLYSEEN is set at both
ends of the time with FLY, during which it reads 1 (R278). -/
def State.showFly (s : State) : State :=
  let fly := !(s.fld F.PMK_STATUS_STATE == stLOCKED)
  let gs := (List.range 16).filter fun g => s.flag (F.MTR_G_STATUS_EN g) && !(s.flag (F.MTR_G_STATUS_FLY g) == fly)
  if gs.isEmpty then s
  else
    let s := gs.foldl (fun s g =>
      (s.setFlag (F.MTR_G_STATUS_FLY g) fly).setFld (F.MTR_G_STATUS_FLYSEEN g) 1) s
    (s.record 0x5002 [n2w (gs.foldl (fun n g => n + 2 ^ g) 0), s.rd Reg.PMK_STATUS]).fireMtr fun g => gs.contains g

/-- A change of the clock's state is done: the next correlation record is kept (R63), source 116 fires (R157), and the
metering groups' FLY follows (R278). -/
def State.clockStateChanged (s : State) : State :=
  let s := s.setClk { s.clk with stateChanged := true }
  (s.fire 116 (s.rd Reg.PMK_STATUS)).showFly

/-- LOCKED is left for FLYWHEEL: the flywheel frequency holds, no phase correction, SLEW ends (R47, R48, R51, R52). -/
def State.enterFly (s : State) : State :=
  let f := s.flyMean
  let s := s.setClk { s.clk with fly := f, f := f, c := 0, slewEnd := false, slewCycles := 0 }
  let s := (s.setFld F.PMK_STATUS_STATE stFLYWHEEL).setFld F.PMK_STATUS_SLEW 0
  ((s.setFld F.PMK_STATUS_FRAMP 0).inc F.PMK_LOSSCNT_LOSSES).showFreq

/-- A loss in LOCKED (R43, R47): cause, whether it is the phase jump alone, and the size of the jump. -/
def State.loseRef (s : State) (cause : Nat) (jumpOnly : Bool) (jump : Nat) : State :=
  let s := ((s.enterFly).setFld F.PMK_STATUS_LOSS cause).setFld F.PMK_EVT_LOST 1
  let s := s.record 0x1001 [s.rd Reg.PMK_STATUS, s.rd Reg.PMK_REFFREQ, BitVec.ofInt 32 s.clk.fly.floor]
  let s := if jumpOnly then (s.setFld F.PMK_EVT_JUMP 1).record 0x1007 [n2w jump] else s
  s.clockStateChanged

/-- A bad reference cycle (R43, R46): qualification starts again, and LOCKED is left at once (R47). -/
def State.badCycle (s : State) (cause : Nat) (jumpOnly : Bool) (jump : Nat) : State :=
  let s := (s.setFld F.PMK_STATUS_QCNT 0).setFld F.PMK_STATUS_REFOK 0
  let s := s.setClk { s.clk with goods := [] }
  if s.fld F.PMK_STATUS_STATE == stLOCKED then s.loseRef cause jumpOnly jump else s

/-- The loss causes of R43 that hold, lowest first. -/
def lossCauses (cfg : Word) (peakUv freqUHz : Nat) (dev : Int) : List Nat :=
  (if peakUv < cfg.bits 23 16 * 5000 then [1] else []) ++
  (if freqUHz < 42500000 ∨ 69000000 < freqUHz then [2] else []) ++
  (if 131072 < dev.natAbs then [3] else [])

/-- A reference cycle has ended (R43, R46). Good cycles count in PMK_STATUS.QCNT in every MODE: DESIGN CHOICE (log 56). -/
def State.refCycle (s : State) (peakUv freqUHz : Nat) (dev : Int) : State :=
  let causes := lossCauses s.clk.cfg peakUv freqUHz dev
  let s := s.setClk { s.clk with zc := some (s.ns, freqUHz) }
  match causes with
  | [] =>
    let s := (s.inc F.PMK_STATUS_QCNT).setFld F.PMK_STATUS_REFOK 1
    let s := s.wr Reg.PMK_REFFREQ (n2w freqUHz)
    s.setClk { s.clk with goods := (freqUHz :: s.clk.goods).take 4 }
  | c :: rest =>
    let s := s.wr Reg.PMK_REFFREQ (if c == 1 then 0 else n2w freqUHz)
    s.badCycle c (c == 3 && rest.isEmpty) dev.natAbs

/-- REFERENCE_CYCLE: at the end of a reference cycle the PLL judges it (R43 to R47). Without MTR there is no PLL. -/
def execReferenceCycle (w : When) (peakUv freqUHz : Nat) (dev : Int) (s : State) : Out :=
  let s := s.advance w
  .next (if s.good .mtr then s.refCycle peakUv freqUHz dev else s)

/-- Whether 2 cycles of the clock's frequency have passed since the last reference cycle ended (R44). Before the first
crossing no reference cycle has begun. -/
def State.refOverdue (s : State) : Bool :=
  match s.clk.zc with
  | some (z, _) => decide ((2000000000000000 : Rat) ≤ ((s.ns - z : Nat) : Rat) * s.clk.f)
  | none => false

/-- The reference is judged bad for want of a cycle. Which loss causes hold is not stated: a free value of 1 to 3 (log 8).
PMK_REFFREQ reads 0 for the amplitude; a phase jump alone exceeds 131,072 units by a free amount (R43, R47). -/
def State.refTimeout (s : State) : State :=
  let cause := 1 + Config.freeNat s.free % 3
  let jump := 131073 + Config.freeNat (s.free + 1)
  let s := s.freeNext.freeNext
  (if cause == 1 then s.wr Reg.PMK_REFFREQ 0 else s).badCycle cause (cause == 3) jump

/-- REFERENCE_CYCLE_TIMEOUT (R44): no reference cycle has completed within 2 cycles of the clock. -/
def execReferenceCycleTimeout (w : When) (s : State) : Out :=
  let s := s.advance w
  .next (if s.good .mtr && s.refOverdue then s.refTimeout else s)

/-- e[n] of R50 at the TCXO moment `ns`: the phase of the reference fundamental, wrapped to half a cycle each way. -/
def phaseErr (zc : Option (Nat × Nat)) (ns : Nat) : Int :=
  match zc with
  | none => 0
  | some (z, f) => (((ns - z) * f * 2 ^ 20 / 10 ^ 15 % 2 ^ 20 + 2 ^ 19) % 2 ^ 20 : Nat) - (2 ^ 19 : Int)

/-- A PMK_CFG write takes effect at the cycle boundary (R49, R47): one 16#1004 when the value differs; a changed REFCH
qualifies from zero, and leaves LOCKED for FLYWHEEL; MODE NOMINAL ends LOCKED and FLYWHEEL. These transitions fall on the
boundary at which the write takes effect: DESIGN CHOICE (log 56). -/
def State.applyCfg (s : State) : State :=
  match s.clk.cfgNew with
  | none => s
  | some (v, role) =>
    let old := s.clk.cfg
    let s := s.setClk { s.clk with cfg := v, cfgNew := none }
    if v == old then s
    else
      let s := s.record 0x1004 [old, v, n2w role] role
      let s :=
        if v.bits 6 4 == old.bits 6 4 then s
        else
          let s := ((s.setFld F.PMK_STATUS_QCNT 0).setFld F.PMK_STATUS_REFOK 0).setClk { s.clk with goods := [] }
          if s.fld F.PMK_STATUS_STATE == stLOCKED && v.bit 0 then s.enterFly.clockStateChanged else s
      if !(v.bit 0) && !(s.fld F.PMK_STATUS_STATE == stNOMINAL) then
        let s := s.setClk { s.clk with c := 0, slewEnd := false, slewCycles := 0 }
        let s := (s.setFld F.PMK_STATUS_STATE stNOMINAL).setFld F.PMK_STATUS_SLEW 0
        (s.wr Reg.PMK_PHERR 0).clockStateChanged
      else s

/-- The end of the finished cycle: its frequency, as it stands at the end, enters the history (R45; of a cycle in which a
loss falls that is the flywheel frequency: DESIGN CHOICE, log 56), and a slew that met its end is done (R52). -/
def State.endCycle (s : State) : State :=
  let done := s.clk.slewEnd
  let cycles := s.clk.slewCycles
  let s := s.setClk { s.clk with hist := (s.clk.f :: s.clk.hist).take 50, slewEnd := false }
  if done then
    ((s.setFld F.PMK_STATUS_SLEW 0).setFld F.PMK_EVT_SLEWDONE 1).record 0x1003 [n2w cycles]
  else s

/-- Whether LOCKED is entered at this boundary (R46, R47). -/
def State.locks (s : State) : Bool :=
  s.clk.cfg.bit 0 && !(s.fld F.PMK_STATUS_STATE == stLOCKED)
    && decide (max 1 (s.clk.cfg.bits 15 8) ≤ s.fld F.PMK_STATUS_QCNT)

/-- The law of R50 for the cycle that begins: f[n], e[n], c[n], FRAMP and the end condition of R52. -/
def State.lockedLaw (s : State) : State :=
  let f0 := s.clk.f
  let target := meanRat (s.clk.goods.map fun n => (n : Rat)) f0
  let step := limRat (-(f0 / 1000)) (target - f0) (f0 / 1000)
  let e := phaseErr s.clk.zc s.ns
  let slew := s.flag F.PMK_STATUS_SLEW
  let s := s.setClk { s.clk with
    f := f0 + step, c := limInt (-4096) e 4096
    slewCycles := if slew then s.clk.slewCycles + 1 else s.clk.slewCycles
    slewEnd := slew && decide (e.natAbs ≤ 4096) && step == 0 }
  (s.setFlag F.PMK_STATUS_FRAMP (!(step == target - f0))).wr Reg.PMK_PHERR (i2w e)

/-- Outside LOCKED (R51): NOMINAL moves towards the nominal frequency by at most 0.1 %, FLYWHEEL holds. -/
def State.unlockedLaw (s : State) : State :=
  if s.fld F.PMK_STATUS_STATE == stNOMINAL then
    let f0 := s.clk.f
    let d := nominalF s.clk.cfg - f0
    let step := limRat (-(f0 / 1000)) d (f0 / 1000)
    let s := s.setClk { s.clk with f := f0 + step, c := 0 }
    (s.setFlag F.PMK_STATUS_FRAMP (!(step == d))).wr Reg.PMK_PHERR 0
  else (s.setClk { s.clk with f := s.clk.fly, c := 0 }).setFld F.PMK_STATUS_FRAMP 0

/-- The boundary of a postmark cycle (R47 to R52). -/
def State.cycleBoundary (s : State) : State :=
  let s := s.endCycle
  let s := s.setClk { s.clk with cycle := s.clk.cycle + 1, angle := 0 }
  let s := s.applyCfg
  if s.locks then
    let fromFly := s.fld F.PMK_STATUS_STATE == stFLYWHEEL
    let s := (s.setFld F.PMK_STATUS_STATE stLOCKED).setFld F.PMK_STATUS_SLEW 1
    let s := s.setFld F.PMK_EVT_LOCK 1
    let s := if fromFly then s.inc F.PMK_LOSSCNT_RELOCKS else s
    let s := (s.setClk { s.clk with slewCycles := 0 }).lockedLaw.showFreq
    let s := s.record 0x1002 [s.rd Reg.PMK_PHERR, s.rd Reg.PMK_FREQ, s.rd Reg.PMK_REFFREQ]
    s.clockStateChanged
  else if s.fld F.PMK_STATUS_STATE == stLOCKED then s.lockedLaw.showFreq
  else s.unlockedLaw.showFreq

/-- The bits of PMK_CFG that belong to a field (R5). -/
def cfgMask : Word := 0x00FFFF75

/-- A write of PMK_CFG is stored, to take effect at the next cycle boundary (R49). Of several writes within one
cycle only the last takes effect, with one 16#1004 at most: DESIGN CHOICE (log 56). -/
def State.setPmkCfg (s : State) (v : Word) (role : Nat) : State :=
  let s := s.wr Reg.PMK_CFG (v &&& cfgMask)
  s.setClk { s.clk with cfgNew := some (v &&& cfgMask, role) }

/-- PMK_CFG_WRITE: from the Counter with the checks of R7, R29 and R92, or from the armed manifest (R49). -/
def execPmkCfgWrite (w : When) (src : Option Who) (v : Word) (s : State) : Out :=
  let s := s.advance w
  .next (match src with
    | none => if s.good .mtr then s.setPmkCfg v 0xFF else s
    | some who =>
      match s.refuse who Reg.PMK_CFG v with
      | some c => s.answer c
      | none => (s.setPmkCfg v who.role.num).answer ansOK)

/-- The effect of a read of PMK_COR_SEQ: the five correlation registers freeze at the newest record. -/
def State.freezeCor (s : State) : State := s.setClk { s.clk with frozen := s.clk.cor }

/-- PMK_COR_SEQ_READ. -/
def execPmkCorSeqRead (w : When) (who : Who) (s : State) : Out :=
  let s := s.advance w
  .next (if s.longBusy then s.answer ansBUSY
    else if who.role == .tenant then s.answer ansHIDDEN
    else if !(s.good .mtr) then s.answer ansBADSTATE
    else s.freezeCor.answer ansOK [s.peek Reg.PMK_COR_SEQ])

end Sys2Proof.Machine
end

