-- ==== Sys2Proof/Machine/Perf.lean ====
section
/-! DEFINITION. Trunk arbitration counts and performance counters (chapter 14). -/

namespace Sys2Proof.Machine

/-- The domain of a counting unit (R412): lanes A and B, fabric, control engine. -/
def perfDom (u : Nat) : Nat := if u == 0 then 7 else if u == 1 then 8 else if u == 2 then 4 else 5

/-- The unit's clock in MHz (R412). -/
def perfMHz (u : Nat) : Nat := if u < 2 then 1200 else if u == 2 then 250 else 400

/-- Advances one programmable counter by `n` events: WRAP passes 2^48 - 1 and sets OVF, SAT stops there and sets OVF
(R414). -/
def State.perfAdd (s : State) (u i n : Nat) : State :=
  let v := s.perf.cnt.getD (8 * u + i) 0 + n
  let ovf := decide (2 ^ 48 ≤ v)
  let v' := if ovf then (if (s.rd (Reg.PRF_U_CFG u i)).bit 30 then 2 ^ 48 - 1 else v % 2 ^ 48) else v
  let s := { s with perf := { s.perf with cnt := s.perf.cnt.put (8 * u + i) v' } }
  if ovf then s.setFld (F.PRF_U_STATUS_OVF u) (putBit (s.fld (F.PRF_U_STATUS_OVF u)) i true) else s

/-- `n` occurrences of an event of R415 in a unit: every enabled counter whose EVENT selects it counts them. For a lane,
`core` is the core at which it occurred, and CORE must select it. -/
def State.perfEvent (s : State) (u event core n : Nat) : State :=
  (List.range 8).foldl (fun s i =>
    let c := s.rd (Reg.PRF_U_CFG u i)
    if c.bit 31 && c.bits 7 0 == event && (decide (2 ≤ u) || c.bits 19 16 / 2 ^ core % 2 == 1) then s.perfAdd u i n
    else s) s

/-- An event of the active lane (unit 0 for lane A, 1 for lane B). -/
def State.perfLane (s : State) (event core n : Nat) : State :=
  if s.lane == 0 then s else s.perfEvent (s.lane - 1) event core n

/-- Events of R415 whose occurrences no command shows: instructions, cache misses, ECC corrections (log 9). -/
def perfHidden (u event : Nat) : Bool :=
  if u < 2 then decide (event ∈ [1, 2, 3, 4, 8]) else u == 2 && event == 8

/-- The unit whose requests a place in a rank makes (R403): the active and the incoming lane, the lane in TESTING or
TRACKING, the fabric, the control engine. -/
def State.perfUnit (s : State) (rank who : Nat) : Option Nat :=
  let other := if s.lane == 2 then 0 else 1
  if rank == 3 then (if who == 1 then some other else if s.lane == 0 then none else some (s.lane - 1))
  else if rank == 6 && who == 0 then some other
  else if rank == 2 then some 2
  else if rank == 1 then some 3
  else none

/-- The bursts and waits of one requester since they were last collected count in its unit; those of a lane at its core 0, a
DESIGN CHOICE (log 9). -/
def State.perfTrunk (s : State) (key : Nat) (c : Nat × Nat × Nat) : State :=
  match s.perfUnit (key / 16) (key % 16) with
  | none => s
  | some u =>
    let s := s.perfEvent u 7 0 c.2.2
    if u < 2 then (s.perfEvent u 5 0 c.1).perfEvent u 6 0 c.2.1 else s

/-- An enabled counter of an event that no command shows has counted a free number of it. -/
def State.perfFree (s : State) (u i : Nat) : State :=
  let c := s.rd (Reg.PRF_U_CFG u i)
  if c.bit 31 && perfHidden u (c.bits 7 0) then (s.perfAdd u i (Config.freeNat s.free)).freeNext else s

/-- The counters are brought to the present: by the arbiter's grants, and by what no command shows. -/
def State.perfCollect (s : State) : State :=
  let s := s.settleArb
  let s := s.arb.counts.foldl (fun (s : State) e => s.perfTrunk e.1 e.2) s
  let s : State := { s with arb := { s.arb with counts := [] } }
  (List.range 4).foldl (fun s u =>
    if s.goodN (perfDom u) then (List.range 8).foldl (fun s i => s.perfFree u i) s else s) s

/-- The counters of a unit are gone (R413). -/
def State.perfClear (s : State) (u : Nat) : State :=
  let s := s.perfCollect
  { s with perf := { s.perf with cnt := s.perf.cnt.filter fun e => !(e.1 / 8 == u) } }

/-- Counters of a unit start at 0 when its domain starts (R413). -/
def State.perfStart (s : State) (u : Nat) : State :=
  let s := s.perfClear u
  { s with perf := { s.perf with start := s.perf.start.put u s.ns } }

/-- The shadows of one unit at a snapshot (R416): the cycle counter and eight counters of a unit whose domain reports
good; otherwise the shadows keep their values and VALID reads 0. -/
def State.perfShadow (s : State) (u : Nat) : State :=
  if s.goodN (perfDom u) then
    let cyc := (s.ns - s.perf.start.getD u 0) * perfMHz u / 1000
    let s := s.wrPair (Reg.PRF_U_CYC_LO u) (Reg.PRF_U_CYC_HI u) (cyc % 2 ^ 64)
    let s := (List.range 8).foldl (fun s i =>
      s.wrPair (Reg.PRF_U_CNT_LO u i) (Reg.PRF_U_CNT_HI u i) (s.perf.cnt.getD (8 * u + i) 0)) s
    s.setFld (F.PRF_U_STATUS_VALID u) 1
  else s.setFld (F.PRF_U_STATUS_VALID u) 0

/-- PRF_CTRL.SNAP: every good unit copies its counters into its shadows in one trunk clock, whose postmark PRF_SNAPPM
holds. A SNAP during SNAPBUSY is ignored (R416, R417). -/
def State.perfSnap (s : State) : State :=
  if s.flag F.PRF_STATUS_SNAPBUSY then s
  else
    let s := s.perfCollect.wrPair Reg.PRF_SNAPPM_LO Reg.PRF_SNAPPM_HI s.pmNow.toNat
    ((List.range 4).foldl (fun s u => s.perfShadow u) s).setFld F.PRF_STATUS_SNAPBUSY 1

/-- PERF_SNAPSHOT: a write of 1 to PRF_CTRL.SNAP. -/
def execPerfSnapshot (w : When) (who : Who) (s : State) : Out :=
  let s := s.advance w
  .next (match s.refuse who Reg.PRF_CTRL 1 with
    | some c => s.answer c
    | none => s.perfSnap.answer ansOK)

/-- PERF_SNAPSHOT_DONE: the shadows are complete in REF and SNAPCNT rises by 1 (R416). -/
def execPerfSnapshotDone (w : When) (s : State) : Out :=
  let s := s.advance w
  .next (if s.flag F.PRF_STATUS_SNAPBUSY then
      (s.setFld F.PRF_STATUS_SNAPBUSY 0).setFld F.PRF_STATUS_SNAPCNT (s.fld F.PRF_STATUS_SNAPCNT + 1)
    else s)

/-- STARVATION_COUNT: a request of a rank that has waited `wait` trunk clocks is granted: the longest wait is kept, and
a wait beyond ARB_STARVLIM counts once (R410, ARB_RANKr_WAIT). -/
def execStarvationCount (w : When) (rank wait : Nat) (s : State) : Out :=
  let s := s.advance w
  .next (if s.good .pmm && decide (rank < 8) then
      let a := Reg.ARB_RANK_WAIT rank
      let s := s.wr a (n2w (max (s.rd a).toNat (min wait 0xFFFFFFFF)))
      if (s.rd Reg.ARB_STARVLIM).toNat < wait then s.satWord (Reg.ARB_RANK_STARVE rank) else s
    else s)

end Sys2Proof.Machine
end

