-- ==== Sys2Proof/Machine/Long.lean ====
section
/-! DEFINITION. Long operations of the Counter (R484 to R487): how one starts, how it shows, and how it ends. -/

namespace Sys2Proof.Machine

def State.setCtr (s : State) (c : Ctr) : State := { s with ctr := c }

/-- Starts a long operation: OPID one above the last, BUSY, and the answer OK of the write that starts it (R484). -/
def State.startLong (s : State) (kind : Nat) (who : Who) (work : LongWork) : State :=
  let id := (s.fld F.CTR_STATUS_OPID + 1) % 256
  let s := ((s.setFld F.CTR_STATUS_OPID id).setFld F.CTR_STATUS_OPKIND kind).setFld F.CTR_STATUS_BUSY 1
  { s with ctr := { s.ctr with long := some ⟨kind, id, s.ns, who.session, who.role.num, work⟩ } }.answer ansOK

/-- CTR_LONGOP takes the operation and its RESULT (R495). -/
def State.putLongop (s : State) (kind id : Nat) (resumed : Bool) (result : Nat) : State :=
  s.wr Reg.CTR_LONGOP (n2w (result + b2n resumed * 2 ^ 16 + kind * 2 ^ 20 + id * 2 ^ 24))

/-- The end of a long operation with a RESULT: BUSY ends, CTR_LONGOP holds it, 16#E005 is recorded (R494). -/
def State.endLong (s : State) (result : Nat) : State :=
  match s.ctr.long with
  | none => s
  | some o =>
    let resumed := match s.ctr.aborted with | some (k, i, r) => r && k == o.kind && i == o.id | none => false
    let s := (s.putLongop o.kind o.id resumed result).setFld F.CTR_STATUS_BUSY 0
    let s := { s with ctr := { s.ctr with long := none } }
    s.record 0xE005 [n2w o.kind, n2w o.id, n2w result, n2w ((s.ns - o.startNs) / 1000000), n2w o.session] 0xFF 0 o.session

/-- A long operation cut by a reset of REF or what counts as one (R486, R587): RESULT ABORTED, and the first request that
is not answered BUSY is told so. -/
def State.cutLong (s : State) (resumes : Bool) : State :=
  match s.ctr.long with
  | none => s
  | some o =>
    let s := s.endLong ansABORTED
    let s := s.putLongop o.kind o.id resumes ansABORTED
    { s with ctr := { s.ctr with aborted := some (o.kind, o.id, resumes) } }

end Sys2Proof.Machine
end

