-- ==== Sys2Proof/Machine/Persist.lean ====
section
/-! DEFINITION. Persistent memory and the Registry (chapter 13): the regions of the array, the journal, block protect,
scrubbing, twin-record recovery. -/

namespace Sys2Proof.Machine

/-! ## The array -/

/-- The regions of R378. -/
inductive Region where
  | user | ring | ckpt | repl | energy | journal | mirror | system | manifest (slot : Nat) | safety | keys
  | image (slot : Nat) | delta | reserve
  deriving DecidableEq, Repr

/-- The region of an offset (R378). -/
def regionOf (o : Nat) : Region :=
  if o < 0x40000000 then .user else if o < 0x50000000 then .ring else if o < 0x60000000 then .ckpt
  else if o < 0x70000000 then .repl else if o < 0x71000000 then .energy else if o < 0x72000000 then .journal
  else if o < 0x74000000 then .mirror else if o < 0x75000000 then .system else if o < 0x80000000 then .reserve
  else if o < 0xA0000000 then .manifest ((o - 0x80000000) / 0x8000000) else if o < 0xA0100000 then .safety
  else if o < 0xA0200000 then .keys else if o < 0xC0000000 then .reserve
  else if o < 0xD0000000 then .image ((o - 0xC0000000) / 0x4000000) else if o < 0xD4000000 then .delta else .reserve

/-- Regions that are written through the Registry (R379). -/
def Region.viaRegistry : Region → Bool
  | .user => true | .energy => true | .mirror => true | .system => true | .safety => true | .keys => true
  | _ => false

/-- The byte a journal entry writes at an offset, the last of its cells that names it. -/
def JEntry.byte? (e : JEntry) (o : Nat) : Option Byte :=
  match e.load with
  | .bytes cs => ((cs.filter fun c => c.1 == o).getLast?).map (·.2)
  | _ => none

/-- The byte that a read returns (R383): that of the newest durable group that wrote it, applied or not. -/
def PMem.read (m : PMem) (o : Nat) : Byte :=
  match (m.journal.reverse.filter fun e => e.durable).findSome? fun e => e.byte? o with
  | some b => b
  | none => Mem.byte m.home o

/-- `n` bytes as a read returns them. -/
def PMem.bytes (m : PMem) (o n : Nat) : List Byte := (List.range n).map fun i => m.read (o + i)

/-- A little-endian number as a read returns it. -/
def PMem.num (m : PMem) (o n : Nat) : Nat := leNat (m.bytes o n)

/-- Writes bytes into home cells at once: engines that do not use the Registry (R379). -/
def State.pmPut (s : State) (o : Nat) (bs : List Byte) : State :=
  { s with pm := { s.pm with home := Mem.setBytes s.pm.home o bs } }

/-- Applies the payload of a journal entry to the home cells. -/
def PMem.applyLoad (m : PMem) : Payload → PMem
  | .bytes cs => { m with home := Mem.setCells m.home cs }
  | _ => m

/-- Bytes of a journal entry with `n` cells and `d` data bytes (R381). -/
def entryLen (n d : Nat) : Nat := 128 + 16 * n + d

/-- The journal's size (R378). -/
def journalSize : Nat := 16777216

/-- Bytes of an entry. -/
def JEntry.len (e : JEntry) : Nat := entryLen e.cells e.data

/-- Bytes of unapplied entries. -/
def PMem.fill (m : PMem) : Nat := (m.journal.map (·.len)).foldl (· + ·) 0

/-- PMC_JFILL shows the fill in KiB, and its highest value since the last read. -/
def State.showFill (s : State) : State :=
  let k := min 65535 (s.pm.fill / 1024)
  (s.setFld F.PMC_JFILL_NOW k).setFld F.PMC_JFILL_HIGH (max k (s.fld F.PMC_JFILL_HIGH))

/-- The group sequence of the newest durable group (PMC_GROUPS). -/
def State.groupSeq (s : State) : Nat := s.rdPair Reg.PMC_GROUPS_LO Reg.PMC_GROUPS_HI

/-- The sequence a new group takes. -/
def State.nextGroup (s : State) : Nat := (match s.pm.journal.getLast? with | some e => e.seq | none => s.groupSeq) + 1

/-- The place of a group's requester among those of its rank (R403), where what it writes tells it: the safety unit in rank
0, the pair stream in rank 6. Every other group names its requester where it is submitted, or is the first one's of its
rank. -/
def Payload.who : Payload → Nat
  | .confirmed _ => 1
  | .latch _ _ => 1
  | .repl _ _ => 1
  | .replFw _ => 1
  | _ => 0

/-- A group enters the journal behind the entry before it, at the start again when its end is reached; its bytes count at its
requester's rank (R381, R411). -/
def State.enterGroup (s : State) (g : Waiting) : State :=
  let e : JEntry := ⟨s.nextGroup, g.cells, g.data, s.pm.next, g.load, false⟩
  (({ s with pm := { s.pm with journal := s.pm.journal ++ [e], next := (s.pm.next + e.len) % journalSize } }).trunk g.rank g.who
    (e.len + g.data)).showFill

/-- Whether the journal has room for a group. -/
def PMem.room (m : PMem) (g : Waiting) : Bool := decide (m.fill + entryLen g.cells g.data ≤ journalSize)

/-- A group of `cells` cells with `data` bytes enters the journal, or waits for room (R384). -/
def State.submitGroup (s : State) (rank cells data : Nat) (load : Payload) (who : Nat := load.who) : State :=
  let g : Waiting := ⟨rank, who, cells, data, load⟩
  if s.pm.waiting.isEmpty && s.pm.room g then s.enterGroup g
  else { s with pm := { s.pm with waiting := s.pm.waiting ++ [g] } }

/-- The group that has waited longest enters the journal when it has room for it. -/
def State.admitOne (s : State) : State :=
  match s.pm.waiting with
  | [] => s
  | g :: rest => if s.pm.room g then ({ s with pm := { s.pm with waiting := rest } } : State).enterGroup g else s

/-- Groups that waited enter the journal as far as it has room, in order. -/
def State.admitWaiting (s : State) : State := (List.range s.pm.waiting.length).foldl (fun s _ => s.admitOne) s

/-- Marks the first entry whose commit record is still open (R382). -/
def markDurable : List JEntry → List JEntry × Option JEntry
  | [] => ([], none)
  | e :: t =>
    if e.durable then (let r := markDurable t; (e :: r.1, r.2)) else ({ e with durable := true } :: t, some e)

/-- Stores keyed values, each listed also where it is 0. -/
def putAll {α : Type} (t : Tab α) (l : List (Nat × α)) : Tab α := l.foldl (fun t e => t.put e.1 e.2) t

/-- The slot of the energy store that a save fills: saves fill the ring of 4,096 slots one after the other (R395). -/
def EnergySave.slot (v : EnergySave) : Nat := (v.seq + 4095) % 4096

/-- The checkpoint of a task that switches to a new program becomes current (R191). -/
def State.landCk (s : State) (e : Nat × Ckpt) : State :=
  let k := s.prog.tasks.get? e.1
  match k with
  | some k => { s with prog := { s.prog with tasks := s.prog.tasks.put e.1 { k with ck := k.ck.write e.2 } } }
  | none => s

/-- What the durability of a group makes current: an energy save fills the next slot of the ring of 4,096 (R395), a twin
record takes its new slot (R391), register words and mirrored values take theirs. Bytes are read from the journal (R383), and
headers are made current by the checkpoint engine. -/
def State.landed (s : State) (load : Payload) : State :=
  match load with
  | .bytes _ => s
  | .header _ => s
  | .energy e => { s with pm := { s.pm with energy := e :: s.pm.energy.filter fun v => !(v.slot == e.slot) } }
  | .clock c sec => { s with clk := { s.clk with saved := s.clk.saved.write (c, sec) } }
  | .epoch e => { s with pms := { s.pms with epoch := s.pms.epoch.write e } }
  | .lastLane l => { s with pms := { s.pms with lastLane := s.pms.lastLane.write l } }
  | .slots ws => { s with man := { s.man with slots := s.man.slots.write ws } }
  | .level n => { s with pm := { s.pm with level := s.pm.level.write n } }
  | .counters ws => { s with pm := { s.pm with words := putAll s.pm.words ws } }
  | .mirror vs => { s with pm := { s.pm with mirror := putAll s.pm.mirror vs } }
  | .evrNext n => { s with evr := { s.evr with saved := s.evr.saved.write n } }
  | .confirmed v => { s with saf := { s.saf with confirmed := s.saf.confirmed.write v } }
  | .latch c d => { s with saf := { s.saf with latch := s.saf.latch.write (c, d) } }
  | .repl t c =>
    let p := s.pms.pair
    { s with pms := { s.pms with pair := { p with repl := p.repl.put t ((p.repl.getD t .empty).write c) } } }
  | .replFw f => { s with prog := { s.prog with fw := s.prog.fw.write f } }
  | .block n => { s with pms := { s.pms with pair := { s.pms.pair with granted := n } } }
  | .switch_ cks ws =>
    let s := cks.foldl State.landCk s
    { s with man := { s.man with slots := s.man.slots.write ws } }
  | .backup m => { s with pwr := { s.pwr with backup := m } }

/-- The next group in order becomes durable: PMC_GROUPS names it, and what it holds becomes current. Answers the group. -/
def State.durableNext (s : State) : State × Option JEntry :=
  match markDurable s.pm.journal with
  | (_, none) => (s, none)
  | (j, some e) =>
    let s := ({ s with pm := { s.pm with journal := j } }).wrPair Reg.PMC_GROUPS_LO Reg.PMC_GROUPS_HI e.seq
    (s.landed e.load, some e)

/-- A record of the module's own goes to persistent memory as one Registry atomic group of `cells` cells with `data` bytes
(R379, R385). Without PMM nothing is written. -/
def State.persist (s : State) (rank cells data : Nat) (load : Payload) (who : Nat := load.who) : State :=
  if s.good .pmm then s.submitGroup rank cells data load who else s

/-- A group of a unit that runs without PMM: until PMM works it waits, and enters the journal then. -/
def State.persistOrWait (s : State) (rank cells data : Nat) (load : Payload) : State :=
  if s.good .pmm then s.submitGroup rank cells data load
  else { s with pm := { s.pm with waiting := s.pm.waiting ++ [⟨rank, load.who, cells, data, load⟩] } }

/-- A group of the safety unit's latch record, which may wait for PMM. -/
def Waiting.ofLatch (g : Waiting) : Bool := match g.load with | .latch _ _ => true | _ => false

/-- REGISTRY_APPLY: the oldest durable entry's data is written home and the entry is marked applied, which frees its
room (R381, R384). -/
def State.applyNext (s : State) : State :=
  match s.pm.journal with
  | e :: rest =>
    if e.durable then
      (({ s with pm := { (s.pm.applyLoad e.load) with journal := rest } }).admitWaiting).showFill
    else s
  | [] => s

def execRegistryApply (w : When) (s : State) : Out :=
  let s := s.advance w
  .next (if s.good .pmm then s.applyNext else s)

/-- The (offset, byte) pairs of a group's cells. -/
def cellBytes (cells : List CellWrite) : List (Nat × Byte) :=
  cells.flatMap fun c => c.bytes.map fun b => (c.offset + b.1, b.2)

/-- Whether a group keeps to R380: at most 64 aligned cells and 4,096 data bytes, in regions written through the
Registry. -/
def groupOk (cells : List CellWrite) : Bool :=
  decide (cells.length ≤ 64) && decide ((cellBytes cells).length ≤ 4096)
    && cells.all fun c => c.offset % 64 == 0 && (regionOf c.offset).viaRegistry && c.bytes.all fun b => decide (b.1 < 64)

/-- The first cell outside the array of R376. -/
def groupOutside (cells : List CellWrite) : Option Nat := (cells.map (·.offset)).find? fun o => decide (2 ^ 32 ≤ o)

/-- REGISTRY_GROUP_SUBMIT (R380, R381): a group larger than R380 allows is refused whole and no cell is written. -/
def execRegistryGroupSubmit (w : When) (rank : Nat) (cells : List CellWrite) (s : State) : Out :=
  let s := s.advance w
  match groupOutside cells with
  | some o => .fault (.outsideArray o)
  | none =>
    .next (if s.good .pmm && groupOk cells && decide (rank < 8) then
        s.submitGroup rank cells.length (cellBytes cells).length (.bytes (cellBytes cells))
      else s)

/-! ## Block protect (R397 to R400) -/

/-- Whether an offset lies in the protected range of a level. -/
def protRange (level o : Nat) : Bool :=
  (level == 1 && decide (0xC0000000 ≤ o)) || (level == 2 && decide (0x80000000 ≤ o)) || level == 3

/-- Slot states of R73. -/
def slEMPTY : Nat := 0
def slLOADED : Nat := 1
def slVERIFIED : Nat := 2
def slARMED : Nat := 3
def slFALLBACK : Nat := 4
def slREJECTED : Nat := 5

/-- Whether an image slot holds an image in use by a lane or by the Postmaster. -/
def State.imgInUse (s : State) (n : Nat) : Bool := s.fld F.MOD_IMG_USE_LANE == n || s.fld F.MOD_IMG_USE_PM == n

/-- Whether block protect refuses a write at an offset from the Counter, a lane or NET DMA (R398). -/
def State.protects (s : State) (o : Nat) : Bool :=
  protRange (s.fld F.PMC_STATUS_LEVEL) o &&
    match regionOf o with
    | .manifest n => s.fld (F.MOD_MAN_SLOT_STATE n) == slARMED || s.fld (F.MOD_MAN_SLOT_STATE n) == slFALLBACK
    | .image n => s.imgInUse n
    | .delta => !((s.ctr.long.map (·.kind)) == some 2)
    | _ => true

/-- A write refused by block protect records 16#9003; how the requester is numbered is not stated: a free value. -/
def State.recordProt (s : State) (o : Nat) : State := (s.record 0x9003 [n2w o, Config.freeWord s.free]).freeNext

/-- The answer that refuses a PMC_PROTCTL write (R399, R400): a lowering by another role than the maker is DENIED; WHOLE
asks for the program in STOP and the spare lane SPARE, TESTING or FAILED. -/
def State.refuseLevel (s : State) (who : Who) (level : Nat) : Option Nat :=
  match s.refuse who Reg.PMC_PROTCTL (n2w level) with
  | some c => some c
  | none =>
    if decide (level < s.fld F.PMC_STATUS_LEVEL) && !(who.role == .maker) then some ansDENIED
    else if level == 3 && !(s.mode == modeSTOP
        && decide (s.fld (F.PMS_LANE_STATE (if s.lane == 1 then 1 else 0)) ∈ [0, 1, 5])) then some ansBADSTATE
    else none

/-- The write of PMC_PROTCTL starts the long operation (R399). -/
def State.protLevel (s : State) (who : Who) (level : Nat) : State :=
  match s.refuseLevel who level with
  | some c => s.answer c
  | none => (s.setFld F.PMC_STATUS_PROTBUSY 1).startLong 7 who (.protect level)

/-- PROTECT_LEVEL_WRITE. -/
def execProtectLevelWrite (w : When) (who : Who) (level : Nat) (s : State) : Out :=
  .next ((s.advance w).protLevel who (level % 4))

/-- The end of a block-protect change: the level, whose twin record is durable by now, is applied; 16#9002. -/
def State.endProtect (s : State) (level role session : Nat) : State :=
  let old := s.fld F.PMC_STATUS_LEVEL
  let s := (s.setFld F.PMC_STATUS_LEVEL level).setFld F.PMC_STATUS_PROTBUSY 0
  s.record 0x9002 [n2w old, n2w level, n2w role, n2w session] role 0 session

/-! ## Places of the records

The spec says in which region each record lies and gives the format of a checkpoint slot (R393) and the size of an energy slot (R395);
where the other records lie in their regions is open (log 74). -/

/-- The kinds of records beside checkpoints, energy saves and mirrored points. -/
inductive RecKind where
  | epoch | lastLane | slots | clock | level | evrNext | confirmed | latch | safety | key | words | backup
  | block
  deriving DecidableEq, Repr

def RecKind.num : RecKind → Nat
  | .epoch => 0 | .lastLane => 1 | .slots => 2 | .clock => 3 | .level => 4 | .evrNext => 5 | .confirmed => 6 | .latch => 7
  | .safety => 8 | .key => 9 | .words => 10 | .backup => 11 | .block => 12

/-- The region of a kind, by its first offset and size (R392). -/
def RecKind.region : RecKind → Nat × Nat
  | .confirmed => (0xA0000000, 0x100000)
  | .latch => (0xA0000000, 0x100000)
  | .safety => (0xA0000000, 0x100000)
  | .key => (0xA0100000, 0x100000)
  | _ => (0x74000000, 0x1000000)

/-- The first offset and the size of a record's slot. -/
def RecKind.place (k : RecKind) (n : Nat) : Nat × Nat :=
  let p := Config.recordAt k.num n
  (k.region.1 + p.1 % k.region.2, p.2)

/-- Whether an offset lies in a record's slot. -/
def RecKind.holds (k : RecKind) (n o : Nat) : Bool :=
  let p := k.place n
  decide (p.1 ≤ o) && decide (o < p.1 + p.2)

/-- The first offset of the half that holds the slots of a program area in checkpoint area A or B, or in the pair replication
buffer, which has the same format (R378, R393, R394). -/
def ckBase (repl isA : Bool) (area : Nat) : Nat :=
  (if repl then 0x60000000 else 0x50000000) + (if isA then 0 else 0x8000000) + area * 0x4000000

/-- The first offset of a task's slot. -/
def ckSlotAt (repl isA : Bool) (area task : Nat) : Nat :=
  let b := ckBase repl isA area
  b + Config.ckptAt b task % 0x4000000

/-- Pages of 4,096 bytes. -/
def pagesOf (len : Nat) : Nat := (len + 4095) / 4096

/-- Where the page table and the header of a slot begin that holds `len` bytes of data. -/
def ckTable (start len : Nat) : Nat := start + len
def ckHeader (start len : Nat) : Nat := start + len + 4 * pagesOf len

/-! ## Scrubbing (R396) -/

/-- A slot that holds the word of an uncorrectable error at `o` is invalid. -/
def TSlot.spoilIn {α : Type} (x : TSlot α) (k : RecKind) (n o : Nat) : TSlot α :=
  if k.holds n (o / 8 * 8) then x.spoil true else x
def Twin.spoilIn {α : Type} (t : Twin α) (k : RecKind) (o : Nat) : Twin α :=
  ⟨t.a.spoilIn k 0 o, t.b.spoilIn k 1 o⟩

/-- The bytes of instance data that a checkpoint slot holds. -/
def TSlot.ckLen (x : TSlot Ckpt) : Nat :=
  match x with | .valid _ c => c.len | .invalid (some c) => c.len | _ => 0

/-- A checkpoint slot with an uncorrectable word is invalid (R388, R393); the word may be its header's. -/
def TSlot.spoilCk (x : TSlot Ckpt) (start o : Nat) : TSlot Ckpt :=
  let h := ckHeader start x.ckLen
  if decide (start ≤ o) && decide (o < h + 64) then x.spoil (decide (h ≤ o)) else x

/-- The slots of a task without the words at `o`. -/
def CkSlots.spoilIn (k : CkSlots) (repl : Bool) (task o : Nat) : CkSlots :=
  let f := fun (isA : Bool) (area : Nat) (x : TSlot Ckpt) => x.spoilCk (ckSlotAt repl isA area task) o
  ⟨⟨f true 0 k.low.a, f false 0 k.low.b⟩, ⟨f true 1 k.high.a, f false 1 k.high.b⟩⟩

/-- The lane firmware's slot: 64 pages in the half of the program area that it names. -/
def TSlot.spoilFw (x : TSlot Fw) (isA : Bool) (o : Nat) : TSlot Fw :=
  let area := match x with | .valid _ f => f.area | .invalid (some f) => f.area | _ => 0
  let start := ckSlotAt false isA area 64
  if decide (start ≤ o) && decide (o < ckHeader start (64 * 4096) + 64) then x.spoil (decide (ckHeader start (64 * 4096) ≤ o)) else x

/-- A key whose wrapped form holds the word at `o` is invalid: its slot is empty. -/
def State.spoilKeys (s : State) (o : Nat) : State :=
  { s with keys := { s.keys with store := s.keys.store.filter fun k => !(RecKind.key.holds k.1 (o / 8 * 8)) } }

/-- Every record that contains the word at `o` is invalid from now on (R396): the slots of twin records and of checkpoints,
an energy save, a point of the mirror, a wrapped key, the stored SAFETY record. Slots of manifests and images, and records
of the ring, are judged where they are read. -/
def State.spoil (s : State) (o : Nat) : State :=
  let w := o / 8 * 8
  match regionOf o with
  | .ckpt => { s with prog := { s.prog with
      tasks := s.prog.tasks.map fun (e : Nat × Task) => (e.1, { e.2 with ck := e.2.ck.spoilIn false e.1 w })
      fw := ⟨s.prog.fw.a.spoilFw true w, s.prog.fw.b.spoilFw false w⟩ } }
  | .repl => { s with pms := { s.pms with pair := { s.pms.pair with
      repl := s.pms.pair.repl.map fun (e : Nat × CkSlots) => (e.1, e.2.spoilIn true e.1 w) } } }
  | .energy => { s with pm := { s.pm with energy := s.pm.energy.filter fun v => !(v.slot == (o - 0x70000000) / 4096) } }
  | .mirror => { s with pm := { s.pm with mirror := s.pm.mirror.filter fun e => !(e.1 / 4 == (o - 0x72000000) / 64) } }
  | .system => { s with
      pms := { s.pms with epoch := s.pms.epoch.spoilIn .epoch o, lastLane := s.pms.lastLane.spoilIn .lastLane o }
      man := { s.man with slots := s.man.slots.spoilIn .slots o }
      clk := { s.clk with saved := s.clk.saved.spoilIn .clock o }
      pm := { s.pm with level := s.pm.level.spoilIn .level o }
      evr := { s.evr with saved := s.evr.saved.spoilIn .evrNext o } }
  | .safety => { s with saf := { s.saf with
      confirmed := s.saf.confirmed.spoilIn .confirmed o
      latch := s.saf.latch.spoilIn .latch o
      stored := if RecKind.safety.holds 0 w then [] else s.saf.stored } }
  | .keys => s.spoilKeys o
  | _ => s

/-- Whether any of `n` bytes from an offset lies in a word with an uncorrectable error. -/
def PMem.anyBad (m : PMem) (o n : Nat) : Bool := m.bad.any fun b => decide (o < b + 8) && decide (b < o + n)

/-- An uncorrectable error at an offset: counted, its cell stored, 16#9004; how the reader is numbered is not stated:
a free value. -/
def State.eccBad (s : State) (o : Nat) : State :=
  let s := { s with pm := { s.pm with bad := if s.pm.bad.contains (o / 8 * 8) then s.pm.bad else (o / 8 * 8) :: s.pm.bad } }
  let s := ((s.spoil o).inc F.PMC_ECC_UNCORR).setFld F.PMC_ECCADDR_CELL (o / 64)
  ((s.setFld F.PMC_STATUS_ECCFLT 1).record 0x9004 [n2w (o / 64 * 64), Config.freeWord s.free]).freeNext

/-- SCRUB_PASS: the whole array has been read at rank 7; corrected words are counted and written back, uncorrectable
ones recorded. Of the pass's reads, which fill the day before it, the last burst is on the trunk at this moment (log 55). -/
def execScrubPass (w : When) (corrected : Nat) (bad : List Nat) (s : State) : Out :=
  let s := s.advance w
  .next (if s.good .pmm then
      let s := ((s.trunk 7 2 (8 * corrected)).trunk 7 2 burstBytes .read).inc F.PMC_ECC_CORR corrected
      ((bad.filter fun o => decide (o < 2 ^ 32)).foldl (fun s o => s.eccBad o) s).incWord Reg.PMC_SCRUB
    else s)

/-! ## Power-up recovery (R386) -/

/-- What R390 counts and records for one twin record: a conflict, or a record lost. How the record is numbered in the
snapshot is not stated: a free value. -/
def State.resolveTwin {α : Type} [DecidableEq α] (s : State) (t : Twin α) : State :=
  if t.conflict then
    let seq := match t.use? with | some (n, _) => n | none => 0
    let s := (s.setFld F.PMC_STATUS_TWIN 1).inc F.PMC_TWIN_CONFL
    (s.record 0x9010 ([Config.freeWord s.free] ++ words64 (BitVec.ofNat 64 seq))).freeNext
  else if t.lost then ((s.inc F.PMC_TWIN_LOST).record 0x9011 [Config.freeWord s.free]).freeNext
  else s

/-- Registry recovery: every durable entry is written home again, in group order; an entry whose commit record is
incomplete is discarded; the journal is then empty, and takes the latch groups that waited for PMM. -/
def State.redo (s : State) : State :=
  let dur := s.pm.journal.filter (·.durable)
  let lost := s.pm.journal.any fun e => !e.durable
  let pm := dur.foldl (fun m e => m.applyLoad e.load) s.pm
  let s := { s with pm := { pm with journal := [], waiting := pm.waiting.filter Waiting.ofLatch } }
  (s.admitWaiting.setFld F.PMC_RECOV_REDONE (min 65535 dur.length)).setFlag F.PMC_RECOV_DISCARD lost

/-! ## The checkpoint of the lane firmware (R393, R594, R297) -/

/-- The lane firmware's checkpoint as it stands, with the governor. -/
def State.fwNow (s : State) : Fw :=
  ⟨s.fld F.TSK_STATUS_AREA, s.mode, s.fld F.TSK_STATUS_CAUSE, s.rd Reg.TSK_RESTARTS, s.rd Reg.PMS_FRANK, s.pmNow, s.gov.mode,
    s.gov.loads.map fun e => ⟨e.1, e.2.level, e.2.cause, e.2.below, e.2.onPm, e.2.offPm⟩⟩

/-- The checkpoint of 64 pages (R411) goes into persistent memory; task 64 is the lane firmware. `snap` is the snapshot of
the 16#3001 of a change of mode, which is recorded when the checkpoint is durable: a change whose group is not durable
has not happened (R594). -/
def State.saveFw (s : State) (snap : List Word) : State :=
  let s := { s with prog := { s.prog with fwPend := s.prog.fwPend ++ [(s.fwNow, snap)] } }
  (((s.trunk 3 0 (64 * 4100)).perfLane 11 0 64).perfLane 12 0 1).submitGroup 3 1 64 (.header 64)

/-- It is durable. -/
def State.fwDurable (s : State) : State :=
  match s.prog.fwPend with
  | (f, snap) :: rest =>
    let s := { s with prog := { s.prog with fw := s.prog.fw.write f, fwPend := rest } }
    if snap.isEmpty then s else s.record 0x3001 snap (snap.getD 3 0).toNat 0 (snap.getD 4 0).toNat
  | [] => s

/-- The checkpoints of a group that has not become durable stay half written. -/
def State.tearSwitch (s : State) (e : JEntry) : State :=
  match e.load with
  | .switch_ cks _ =>
    if e.durable then s
    else { s with prog := { s.prog with tasks := s.prog.tasks.map fun (k : Nat × Task) =>
      match (cks.find? fun (c : Nat × Ckpt) => c.1 == k.1) with
      | some c => (k.1, { k.2 with ck := k.2.ck.tear c.2.area })
      | none => k } }
  | _ => s

/-- The checkpoints that are being written, of tasks and of the lane firmware, stay half written: their groups never become
durable (R394, R594). -/
def State.tearOpen (s : State) : State :=
  { s with prog := { s.prog with
      tasks := s.prog.tasks.map fun (e : Nat × Task) =>
        (e.1, match e.2.pend with | some c => { e.2 with ck := e.2.ck.tear c.area, pend := none } | none => e.2)
      fw := if s.prog.fwPend.isEmpty then s.prog.fw else s.prog.fw.tear
      fwPend := [] } }

/-- Those of a base switch too: the power goes. -/
def State.tearCks (s : State) : State := (s.pm.journal.foldl State.tearSwitch s).tearOpen

end Sys2Proof.Machine
end

