-- ==== Sys2Proof/Machine/Operands.lean ====
section
/-! DEFINITION. Point values (R95, R96): the forms of the types, range comparison, clamping, quality bits, and the one
operation that changes a point record. -/

namespace Sys2Proof.Machine

/-! ## Values (R95) -/

/-- A REAL32 that is no NaN as an integer in the order of its values. -/
def real32Key (w : Word) : Int := if w.bit 31 then -(w.bits 30 0 : Int) else (w.bits 30 0 : Int)

/-- A value in the order of its type: two's complement, REAL32, or unsigned. -/
def valKey (typ : Nat) (w : Word) : Int :=
  if typ == 1 then w.toInt else if typ == 2 then real32Key w else (w.toNat : Int)

/-- A value that breaks the form of its type, or is a NaN (R95). -/
def valBad (typ : Nat) (w : Word) : Bool :=
  (typ == 0 && !(w.bits 31 1 == 0)) || (typ == 2 && isNaN32 w) || (typ == 3 && !(w.bits 31 16 == 0))

/-- Range bounds of a POINTS record (R100). -/
def ptLo (r : Rec) : Word := Rec.w r 0x14
def ptHi (r : Rec) : Word := Rec.w r 0x18
def ptSubval (r : Rec) : Word := Rec.w r 0x10
def ptSafe (r : Rec) : Word := Rec.w r 0x1C
def ptStalemax (r : Rec) : Nat := Rec.u16 r 0x0A
def ptAddr (r : Rec) : Nat := Rec.u32 r 0x0C

/-- Whether a value lies outside the point's range (RANGE = 1). -/
def ptOutside (r : Rec) (v : Word) : Bool :=
  ptRange r && (decide (valKey (ptType r) v < valKey (ptType r) (ptLo r))
    || decide (valKey (ptType r) (ptHi r) < valKey (ptType r) v))

/-- A written or committed value, clamped to the range; one that breaks its form is stored unchanged (R95, O2, R134). -/
def ptClamp (r : Rec) (v : Word) : Word :=
  if valBad (ptType r) v || !(ptRange r) then v
  else if valKey (ptType r) v < valKey (ptType r) (ptLo r) then ptLo r
  else if valKey (ptType r) (ptHi r) < valKey (ptType r) v then ptHi r
  else v

/-- LIMIT of a received value (rows I2, I3), and of a written or committed one (O2, R134). -/
def ptLimit (r : Rec) (v : Word) : Bool := valBad (ptType r) v || ptOutside r v

/-! ## Quality (R96) -/

def qGOOD : Nat := 0
def qSTALE : Nat := 1
def qSUBST : Nat := 2
def qCOMMLOST : Nat := 3
def qFORCED : Nat := 4
def qTENANTW : Nat := 5
def qLIMIT : Nat := 6
def qINIT : Nat := 7

/-- A quality bit. -/
def qGet (q : BitVec 8) (n : Nat) : Bool := q.getLsbD n

/-- A quality bit set or cleared. -/
def qPut (q : BitVec 8) (n : Nat) (b : Bool) : BitVec 8 := BitVec.ofNat 8 (putBit q.toNat n b)

/-- Several quality bits. -/
def qPuts (q : BitVec 8) (l : List (Nat × Bool)) : BitVec 8 := l.foldl (fun q e => qPut q e.1 e.2) q

/-! ## Changing a point record -/

/-- Whether PARAM of a point-change source names this change (R157): 0 any change of word0, 1 rising, 2 falling, 3 a
change of the quality byte. -/
def ptEvent (p : Nat) (old new : Point) (param : Word) : Bool :=
  param.bits 16 0 == p &&
    (let k := param.bits 25 24
     (k == 0 && !(old.value == new.value)) || (k == 1 && !(old.value.bit 0) && new.value.bit 0)
      || (k == 2 && old.value.bit 0 && !(new.value.bit 0)) || (k == 3 && !(old.qual == new.qual)))

/-- Writes value and quality of a point. The postmark of the source is written when word0 or the quality byte changes
(R98), MIRRORED ends when the value changes (R131), and sources 64 to 95 fire (R157). -/
def State.setPoint (s : State) (p : Nat) (v : Word) (q : BitVec 8) (pm : Postmark) : State :=
  let o := s.point p
  if v == o.value && q == o.qual then s
  else
    let n : Point := ⟨v, q, pm, o.mirrored && v == o.value⟩
    let s := { s with fab := { s.fab with points := s.fab.points.put p n } }
    let s := s.perfEvent 2 1 0 1
    s.fireWhere (fun src param => decide (64 ≤ src) && decide (src ≤ 95) && ptEvent p o n param) false v

end Sys2Proof.Machine
end

