-- ==== Sys2Proof/Machine/Modbus.lean ====
section
/-! DEFINITION. The Modbus and BACnet requests by which the lane reads and writes its stations (R110, R113): function codes,
limits, the order of the two registers of a 32-bit value, and the services of BACnet. -/

namespace Sys2Proof.Machine

/-- Table and address of an ADDR (R113): 0 coils, 1 discrete inputs, 2 holding registers, 3 input registers. -/
def mbTable (addr : Nat) : Nat := addr / 2 ^ 24
def mbReg (addr : Nat) : Nat := addr % 2 ^ 16

/-- WSWAP of a STATIONS record: the low register of a 32-bit value comes first (R110). -/
def stWswap (r : Rec) : Bool := Rec.bit r 0x0E 0

/-- Whether a type takes two registers: INT32, REAL32, COUNT. -/
def twoRegs (typ : Nat) : Bool := typ == 1 || typ == 2 || typ == 4

/-- What a value puts into a table: one bit, or one or two registers in the order set by WSWAP. -/
def wordRegs (wswap : Bool) (table typ : Nat) (v : Word) : List Nat :=
  let lo := v.toNat % 2 ^ 16
  let hi := v.toNat / 2 ^ 16
  if table ≤ 1 then [v.toNat % 2] else if !(twoRegs typ) then [lo] else if wswap then [lo, hi] else [hi, lo]

/-- The value that registers bring. -/
def regsWord (wswap : Bool) (regs : List (BitVec 16)) : Word :=
  match regs with
  | [a, b] => if wswap then b ++ a else a ++ b
  | a :: _ => a.setWidth 32
  | [] => 0

/-- A request's object: table, first address, and the bits or registers from there on. -/
abbrev MbRun := Nat × Nat × List Nat

/-- The most bits or registers of one request. -/
def mbLimit (table : Nat) : Nat := if table ≤ 1 then 2000 else 125

/-- Puts an object before the first one of a higher table or address. -/
def mbInsert (e : MbRun) : List MbRun → List MbRun
  | [] => [e]
  | x :: t => if e.1 < x.1 ∨ (e.1 = x.1 ∧ e.2.1 < x.2.1) then e :: x :: t else x :: mbInsert e t

/-- Joins an object to the run before it when it follows on and the limit allows. -/
def mbJoin (acc : List MbRun) (e : MbRun) : List MbRun :=
  match acc with
  | (t, a, vs) :: rest =>
    if t == e.1 && a + vs.length == e.2.1 && decide (vs.length + e.2.2.length ≤ mbLimit t) then (t, a, vs ++ e.2.2) :: rest
    else e :: acc
  | [] => [e]

/-- Objects as requests: those that follow one another in a table go into one request (DESIGN CHOICE, log 59). -/
def mbRuns (l : List MbRun) : List MbRun := ((l.foldr mbInsert []).foldl mbJoin []).reverse

/-- A 16-bit number as Modbus sends it. -/
def be16 (n : Nat) : List Byte := (leBytes 2 n).reverse

/-- Bits packed into bytes, the first in the lowest bit. -/
def packBits (vs : List Nat) : List Byte :=
  (List.range ((vs.length + 7) / 8)).map fun i =>
    BitVec.ofNat 8 ((List.range 8).foldl (fun n j => n + vs.getD (8 * i + j) 0 % 2 * 2 ^ j) 0)

/-- A read request: function codes 01 to 04. -/
def mbRead (q : MbRun) : List Byte := [BitVec.ofNat 8 (q.1 + 1)] ++ be16 q.2.1 ++ be16 q.2.2.length

/-- A write request: function codes 05 and 06 for one bit or register, 15 and 16 for several. -/
def mbWrite (q : MbRun) : List Byte :=
  match q with
  | (t, a, vs) =>
    let n := vs.length
    if t ≤ 1 then
      if n == 1 then [5] ++ be16 a ++ [if vs.headD 0 == 1 then 0xFF else 0, 0]
      else [15] ++ be16 a ++ be16 n ++ [BitVec.ofNat 8 ((n + 7) / 8)] ++ packBits vs
    else if n == 1 then [6] ++ be16 a ++ be16 (vs.headD 0)
    else [16] ++ be16 a ++ be16 n ++ [BitVec.ofNat 8 (2 * n)] ++ vs.flatMap be16

/-- A point's object. -/
def mbObject (sr r : Rec) (v : Word) : MbRun :=
  (mbTable (ptAddr r), mbReg (ptAddr r), wordRegs (stWswap sr) (mbTable (ptAddr r)) (ptType r) v)

/-- Whether a station is reached by Modbus. -/
def stModbus (r : Rec) : Bool := Rec.u8 r 2 == 2 || Rec.u8 r 2 == 3

/-! ## BACnet (R113)

The services are those that R113 names; their octets are the ones of ANSI/ASHRAE 135 (PRESUMED, log 73). -/

/-- Whether a station is reached by BACnet. -/
def stBacnet (r : Rec) : Bool := Rec.u8 r 2 == 4 || Rec.u8 r 2 == 5

/-- The head of a confirmed request: invoke identifier and service choice. -/
def bacHead (tag service : Nat) : List Byte := [0x00, 0x03, BitVec.ofNat 8 tag, BitVec.ofNat 8 service]

/-- An object identifier under a context tag: type in bits 31:22, instance in bits 21:0, as ADDR holds it. -/
def bacObject (context addr : Nat) : List Byte := BitVec.ofNat 8 (context * 16 + 12) :: (leBytes 4 addr).reverse

/-- Present_Value under a context tag. -/
def bacPresent (context : Nat) : List Byte := [BitVec.ofNat 8 (context * 16 + 9), 85]

/-- The objects that one ReadPropertyMultiple asks for: as many as its 480 octets hold (log 73). -/
def bacPerRead : Nat := (480 - 4) / 9

/-- The first `k` pieces of `n` elements each. -/
def pieces {α : Type} (n : Nat) (l : List α) : Nat → List (List α)
  | 0 => []
  | k + 1 => if l.isEmpty then [] else l.take n :: pieces n (l.drop n) k

/-- The requests that read Present_Value of objects: ReadPropertyMultiple, or ReadProperty of each where the device does not
support it. -/
def bacReads (tag : Nat) (single : Bool) (addrs : List Nat) : List (List Byte) :=
  if single then addrs.map fun a => bacHead tag 12 ++ bacObject 0 a ++ bacPresent 1
  else (pieces bacPerRead addrs addrs.length).map fun l =>
    bacHead tag 14 ++ l.flatMap fun a => bacObject 0 a ++ [0x1E] ++ bacPresent 0 ++ [0x1F]

/-- SubscribeCOV for an object, without confirmation and without an end. -/
def bacSubscribe (tag addr : Nat) : List Byte := bacHead tag 5 ++ [0x09, 1] ++ bacObject 1 addr ++ [0x29, 0, 0x39, 0]

/-- The octets of an unsigned number, most significant first, at least one. -/
def bacUnsigned (v : Nat) : List Byte :=
  (leBytes (if v < 2 ^ 8 then 1 else if v < 2 ^ 16 then 2 else if v < 2 ^ 24 then 3 else 4) v).reverse

/-- A value under its application tag: REAL for the analog objects, an enumeration for the binary ones, unsigned for others. -/
def bacValue (addr typ : Nat) (v : Word) : List Byte :=
  let obj := addr / 2 ^ 22
  if obj ≤ 2 then
    0x44 :: (leBytes 4 (if typ == 2 then v else toReal32 (if typ == 1 then (v.toInt : Rat) else (v.toNat : Rat))).toNat).reverse
  else if obj ≤ 5 then [0x91, BitVec.ofNat 8 (v.toNat % 2)]
  else BitVec.ofNat 8 (0x20 + (bacUnsigned v.toNat).length) :: bacUnsigned v.toNat

/-- WriteProperty of Present_Value at priority 8. -/
def bacWrite (tag addr typ : Nat) (v : Word) : List Byte :=
  bacHead tag 15 ++ bacObject 0 addr ++ bacPresent 1 ++ [0x3E] ++ bacValue addr typ v ++ [0x3F, 0x49, 8]

/-- Whether the object of a point lies in a request. -/
def mbHolds (q : MbRun) (r : Rec) : Bool :=
  q.1 == mbTable (ptAddr r) && decide (q.2.1 ≤ mbReg (ptAddr r)) && decide (mbReg (ptAddr r) < q.2.1 + q.2.2.length)

end Sys2Proof.Machine
end

