-- ==== Sys2Proof/Machine/Frames.lean ====
section
/-! DEFINITION. Aelzon segments as the fabric builds them (R119 to R127), and the message objects of a CAN FD controller
through which they go out (R431 to R438). -/

namespace Sys2Proof.Machine

/-! ## Segments -/

/-- The header of a segment (R119). -/
def segHead (typ idx total tag nent : Nat) : List Byte :=
  leBytes 1 typ ++ leBytes 1 (idx + (total - 1) * 16) ++ leBytes 2 tag ++ leBytes 1 nent ++ leBytes 1 0 ++ leBytes 2 1

/-- A message of a header alone: POLL, IDQ, SYNC (R120). -/
def segPlain (typ tag : Nat) : List Byte := segHead typ 0 1 tag 0

/-- FOLLOW (R127). -/
def segFollow (tag : Nat) (pm : Postmark) : List Byte := segHead 6 0 1 tag 0 ++ leBytes 8 pm.toNat

/-- A channel entry of the module (R121). -/
def chanEntry (ch : Nat) (v : Word) : List Byte := leBytes 2 ch ++ leBytes 2 0 ++ leBytes 4 v.toNat

/-- Cuts a list into pieces of `n`, at least one. -/
def chunks {α : Type} (n : Nat) (l : List α) : List (List α) :=
  (List.range (max 1 ((l.length + n - 1) / n))).map fun i => (l.drop (i * n)).take n

/-- The segments of an OUT (3) or IMAGE (4) of R120, with `per` entries in a segment (R122). -/
def segsOut (typ tag : Nat) (frank : Word) (holdto : Nat) (tpm : Postmark) (per : Nat) (es : List (Nat × Word)) :
    List (List Byte) :=
  let cs := chunks per es
  (List.range cs.length).map fun i =>
    let c := cs.getD i []
    segHead typ i cs.length tag c.length ++ leBytes 4 frank.toNat ++ leBytes 2 holdto ++ leBytes 2 0
      ++ leBytes 8 tpm.toNat ++ c.flatMap fun e => chanEntry e.1 e.2

/-- A segment that arrives, as the bytes of R119 to R121; `body` stands between its header and its entries. -/
def segIn (g : Segment) (body : List Byte) : List Byte :=
  leBytes 1 g.typ ++ leBytes 1 (g.idx + (g.total - 1) * 16) ++ leBytes 2 g.tag ++ leBytes 1 g.entries.length ++ leBytes 1 g.stat
    ++ leBytes 2 g.ver ++ body ++ g.entries.flatMap fun e => leBytes 2 e.ch ++ leBytes 1 (b2n e.bad) ++ leBytes 1 0 ++ leBytes 4 e.value.toNat

/-- TYPE, TAG and FRANK of a segment, and whether it is the last of its message (R119, R120). -/
def segType (b : List Byte) : Nat := Rec.u8 b 0
def segTag (b : List Byte) : Nat := Rec.u16 b 2
def segFrank (b : List Byte) : Word := Rec.w b 8
def segLast (b : List Byte) : Bool := Rec.u8 b 1 % 16 == Rec.u8 b 1 / 16

/-- Whether a segment belongs to the output phase, whose frank the port checks (R22): OUT and IMAGE. -/
def segOutput (b : List Byte) : Bool := segType b == 3 || segType b == 4

/-- A segment of an OUT or IMAGE with another frank (R111). -/
def segRefrank (f : Word) (b : List Byte) : List Byte := b.take 8 ++ leBytes 4 f.toNat ++ b.drop 12

/-! ## Aelzon on Ethernet (R118) -/

/-- A number in network byte order. -/
def netBytes (n v : Nat) : List Byte := (leBytes n v).reverse

/-- The Internet checksum of RFC 1071. -/
def ipSum (bs : List Byte) : Nat :=
  let n := (List.range ((bs.length + 1) / 2)).foldl
    (fun n i => n + (bs.getD (2 * i) 0).toNat * 256 + (bs.getD (2 * i + 1) 0).toNat) 0
  let n := n % 65536 + n / 65536
  65535 - (n % 65536 + n / 65536)

/-- The UDP port of Aelzon. -/
def aelzonPort : Nat := 47310

/-- The UDP datagram of a segment: the segment, then its CRC-32C, from port 47,310 to port 47,310, with the checksum of
RFC 768. -/
def aelzonUdp (src dst : Nat) (seg : List Byte) : List Byte :=
  let data := seg ++ leBytes 4 (crc32c seg)
  let len := 8 + data.length
  let head := netBytes 2 aelzonPort ++ netBytes 2 aelzonPort ++ netBytes 2 len
  let c := ipSum (netBytes 4 src ++ netBytes 4 dst ++ [0, 17] ++ netBytes 2 len ++ head ++ [0, 0] ++ data)
  head ++ netBytes 2 (if c == 0 then 65535 else c) ++ data

/-- The IPv4 header of RFC 791, without options. -/
def ipHead (len id ttl src dst : Nat) : List Byte :=
  let a : List Byte := [0x45, 0] ++ netBytes 2 (20 + len) ++ netBytes 2 id ++ [0, 0] ++ netBytes 1 ttl ++ [17]
  let b := netBytes 4 src ++ netBytes 4 dst
  a ++ netBytes 2 (ipSum (a ++ [0, 0] ++ b)) ++ b

/-- An Ethernet frame: padded to 64 bytes with its FCS (R453). -/
def ethFrame (dst src : List Byte) (typ : Nat) (data : List Byte) : List Byte :=
  let f := dst ++ src ++ netBytes 2 typ ++ data
  let f := f ++ List.replicate (60 - f.length) 0
  f ++ leBytes 4 (crc32 f)

/-- The segment that a frame of the fabric carries behind its Ethernet, IPv4 and UDP headers. -/
def frameSegment (f : List Byte) : List Byte := (f.drop 42).take (Rec.u8 f 38 * 256 + Rec.u8 f 39 - 12)

/-- The IPv4 address that a frame of the fabric goes to. -/
def frameDest (f : List Byte) : Nat :=
  ((Rec.u8 f 30 * 256 + Rec.u8 f 31) * 256 + Rec.u8 f 32) * 256 + Rec.u8 f 33

/-! ## CAN FD objects -/

/-- Data lengths of ISO 11898-1. -/
def canLens : List Nat := [0, 1, 2, 3, 4, 5, 6, 7, 8, 12, 16, 20, 24, 32, 48, 64]

/-- The shortest DLC that holds `n` bytes. -/
def canDlc (n : Nat) : Nat := ((List.range 16).find? fun d => decide (n ≤ canLens.getD d 64)).getD 15

/-- Bytes padded with 16#00. -/
def padTo (n : Nat) (bs : List Byte) : List Byte := bs ++ List.replicate (n - bs.length) 0

/-- Bits of an object's CFG. -/
def objEN (c : CanObj) : Bool := c.cfg.bit 31
def objTX (c : CanObj) : Bool := c.cfg.bit 30
def objMB (c : CanObj) : Bool := c.cfg.bit 29
def objMbNum (c : CanObj) : Nat := c.cfg.bits 28 22
/-- FLAGS bits. -/
def obFRESH : Nat := 0
def obOVERRUN : Nat := 1
def obESI : Nat := 2
def obTXWAIT : Nat := 3
def obTXSENT : Nat := 4
def CanObj.flag (c : CanObj) (b : Nat) : Bool := c.flags / 2 ^ b % 2 == 1
def CanObj.put (c : CanObj) (b : Nat) (v : Bool) : CanObj := { c with flags := putBit c.flags b v }

def CanObj.off : CanObj := ⟨0, 0, 0, 0, 0, List.replicate 64 0⟩

/-- A controller without objects. -/
def Can.new : Can := ⟨[], [], [], [], [], none, none, 0, false, none⟩

def State.can (s : State) (g : Nat) : Can := s.net.cans.getD g .new
def State.setCan (s : State) (g : Nat) (c : Can) : State := { s with net := { s.net with cans := s.net.cans.put g c } }

/-- Loads the next waiting segment of the fabric into object `o` when no request is pending there. -/
def Can.load (c : Can) (o : Nat) : Can :=
  match c.objs[o]?, c.segs.getD o [] with
  | some x, (k, b) :: rest =>
    if x.flag obTXWAIT then c
    else
      let d := canDlc b.length
      let x := { (x.put obTXWAIT true) with dlc := d, data := padTo 64 b }
      { c with objs := c.objs.set o (x.put obTXSENT false), segs := c.segs.put o rest, cls := c.cls.put o k }
  | _, _ => c

/-- The transmit object of the Aelzon station with identifier ADDR. -/
def Can.txObj (c : Can) (addr : Word) : Option Nat :=
  (List.range c.objs.length).find? fun i =>
    match c.objs[i]? with
    | some x => objEN x && objTX x && !(objMB x) && x.id == addr
    | none => false

/-- Whether the frame of an object is on the line. -/
def Can.onLine (c : Can) (o : Nat) : Bool := c.cur.any fun e => e.1 == o

/-- Requests that `hit` selects are taken back, but not the one whose frame is on the line. -/
def Can.takeBack (c : Can) (hit : CanObj → Bool) : Can :=
  { c with objs := (List.range c.objs.length).map fun i =>
      let x := c.objs.getD i .off
      if objTX x && hit x && !(c.onLine i) then x.put obTXWAIT false else x }

/-- The fabric writes a message for a station into its transmit object: a request of the same TAG that has not started is
replaced (R438), and other segments go out first. `k` is the class of the round. -/
def Can.rewrite (c : Can) (o k : Nat) (segs : List (List Byte)) : Can :=
  let tag := segTag (segs.headD [])
  let c := match c.objs[o]? with
    | some x => if x.flag obTXWAIT && segTag x.data == tag && !(c.onLine o) then { c with objs := c.objs.set o (x.put obTXWAIT false) } else c
    | none => c
  let old := (c.segs.getD o []).filter fun b => !(segTag b.2 == tag)
  { c with segs := c.segs.put o (old ++ segs.map fun b => (k, b)) }.load o

/-- At the end of a round of class `k` the fabric cancels every transmit request of it that has not completed (R438). -/
def Can.cancelFab (c : Can) (k : Nat) : Can :=
  let c := { c with segs := c.segs.map fun (e : Nat × List (Nat × List Byte)) => (e.1, e.2.filter fun b => !(b.1 == k)) }
  { c with
    objs := (List.range c.objs.length).map fun i =>
      let x := c.objs.getD i .off
      if objEN x && objTX x && !(objMB x) && c.cls.get? i == some k then x.put obTXWAIT false else x }

end Sys2Proof.Machine
end

