-- ==== Sys2Proof/Machine/Mail.lean ====
section
/-! DEFINITION. Mailbags (R465 to R470): rings of descriptors in the shared SRAM of NET, and what the owner and the
hardware do with them. -/

namespace Sys2Proof.Machine

/-! ## Configuration (R465) -/

def State.mbRec (s : State) (mb : Nat) : Option Rec := (s.recs 5).find? fun r => Rec.u8 r 0 == mb

def mbPort (r : Rec) : Nat := Rec.u8 r 1
def mbOwner (r : Rec) : Nat := Rec.u8 r 2
def mbEntries (r : Rec) : Nat := Rec.u16 r 4
def mbBufsz (r : Rec) : Nat := Rec.u16 r 6
def mbRing (r : Rec) : Nat := Rec.u32 r 8
def mbBuf (r : Rec) : Nat := Rec.u32 r 12
def mbDir (r : Rec) : Nat := Rec.u8 r 16

def Mbag.new : Mbag := ⟨0, [], none⟩
def State.mb (s : State) (m : Nat) : Mbag := s.net.mbs.getD m .new
def State.setMb (s : State) (m : Nat) (x : Mbag) : State := { s with net := { s.net with mbs := s.net.mbs.put m x } }

/-! ## Descriptors (R467) -/

/-- Reads and writes bytes of the shared SRAM. -/
def State.sramBytes (s : State) (a n : Nat) : List Byte := Mem.bytes s.net.sram a n
def State.sramPut (s : State) (a : Nat) (bs : List Byte) : State :=
  { s with net := { s.net with sram := Mem.setBytes s.net.sram a bs } }

/-- Descriptor `i` of a ring, as 16 bytes. -/
def State.desc (s : State) (r : Rec) (i : Nat) : Rec := s.sramBytes (mbRing r + 16 * i) 16

def deBuf (d : Rec) : Nat := Rec.u d 0 3 % 2 ^ 18 * 16
def deOwn (d : Rec) : Bool := Rec.bit d 3 7
def deTag (d : Rec) : Bool := Rec.bit d 3 6
def deTs (d : Rec) : Bool := Rec.bit d 3 5
def deQueue (d : Rec) : Nat := Rec.u8 d 3 % 8
def deLen (d : Rec) : Nat := Rec.u16 d 4 % 2 ^ 11
def deTci (d : Rec) : Nat := Rec.u16 d 6
def dePm (d : Rec) : Nat := Rec.u d 8 8

/-- STAT values of R468. -/
def mbOK : Nat := 0
def mbFORMAT : Nat := 1
def mbCOLLISION : Nat := 2
def mbFENCED : Nat := 3
def mbCANCELLED : Nat := 4
def mbTOOLONG : Nat := 5
def mbBADCRC : Nat := 6

/-- The hardware finishes a descriptor (R469): LEN, STAT, TCI and PM are written, OWN is cleared, HEAD advances. -/
def State.mbFinish (s : State) (m : Nat) (r : Rec) (i len stat tci : Nat) (tag : Bool) (pm : Nat) : State :=
  let d := s.desc r i
  let ctl := putBit (putBit (Rec.u8 d 3) 7 false) 6 tag
  let s := s.sramPut (mbRing r + 16 * i) (d.take 3 ++ leBytes 1 ctl ++ leBytes 2 (len + stat * 2 ^ 11) ++ leBytes 2 tci
    ++ leBytes 8 pm)
  (s.wr (Reg.MBG_HEAD m) (n2w ((i + 1) % max 1 (mbEntries r)))).incWord (Reg.MBG_CNT m)

/-- A transmit descriptor is completed with a status. -/
def State.txFinish (s : State) (m : Nat) (r : Rec) (i stat pm : Nat) : State :=
  let d := s.desc r i
  let x := s.mb m
  let s := s.setMb m { x with tx := x.tx.filter fun t => !(t.idx == i) }
  s.mbFinish m r i (deLen d) stat (deTci d) (deTag d) (if deTs d then pm else 0)

/-- A frame that a receive mailbag cannot take (R469): counted, 16#A00B at most once per second per mailbag. -/
def State.mbDrop (s : State) (m : Nat) : State :=
  let s := s.satWord (Reg.MBG_DROP m)
  let x := s.mb m
  if (match x.dropNs with | some t => decide (s.ns < t + 1000000000) | none => false) then s
  else (s.setMb m { x with dropNs := some s.ns }).record 0xA00B [n2w m, s.rd (Reg.MBG_DROP m)]

/-- Stores a received frame in a mailbag, and whether it was taken. A mailbag of the program fires its sources 104 to 111
with the descriptor index (R157). -/
def State.mbStore (s : State) (m : Nat) (r : Rec) (data : List Byte) (len stat tci : Nat) (tag : Bool) (pm : Postmark) :
    State × Bool :=
  let head := (s.rd (Reg.MBG_HEAD m)).toNat
  let d := s.desc r head
  if s.rd (Reg.MBG_HEAD m) == s.rd (Reg.MBG_TAIL m) || decide (mbBufsz r < len) || !(deOwn d) then (s.mbDrop m, false)
  else
    let s := (s.sramPut (deBuf d) (data.take len)).trunk 5 0 (16 + len) .write
    let s := s.mbFinish m r head len stat tci tag pm.toNat
    (if mbOwner r == 1 then
      s.fireWhere (fun src param => decide (104 ≤ src) && decide (src ≤ 111) && param == n2w m) false (n2w head)
     else s, true)

/-! ## The owner's side -/

/-- Room in a ring: descriptors that TAIL may still pass. -/
def State.mbRoom (s : State) (m : Nat) (r : Rec) : Nat :=
  let n := max 1 (mbEntries r)
  ((s.rd (Reg.MBG_HEAD m)).toNat + n - (s.rd (Reg.MBG_TAIL m)).toNat - 1) % n

/-- One descriptor enters the ring at TAIL. A transmit descriptor of the program or the lane firmware carries the frank of
the active lane (R470). `cls` is the class of the round that a frame of the fabric belongs to. -/
def State.mbPut (s : State) (m : Nat) (r : Rec) (cls : Nat) (bytes : List Byte) : State :=
  let n := max 1 (mbEntries r)
  let t := (s.rd (Reg.MBG_TAIL m)).toNat
  let s := s.sramPut (mbRing r + 16 * t) bytes
  let s := s.wr (Reg.MBG_TAIL m) (n2w ((t + 1) % n))
  if mbDir r == 1 then
    let x := s.mb m
    let s := s.setMb m { x with tx := x.tx ++ [⟨t, s.rd Reg.PMS_FRANK, s.net.seq, cls, false⟩] }
    { s with net := { s.net with seq := s.net.seq + 1 } }
  else s

/-- RT_MB_SEND at its commit: the data goes into the buffer of the descriptor at TAIL. The fields that the call does not
name, the queue and a CAN FD identifier, are free values (log 5). -/
def State.mbSend (s : State) (m : Nat) (data : List Byte) : State :=
  match s.mbRec m with
  | none => s
  | some r =>
    if s.mbRoom m r == 0 || !(s.good .net) then s
    else
      let t := (s.rd (Reg.MBG_TAIL m)).toNat
      let buf := mbBuf r + t * mbBufsz r
      let s := s.sramPut buf data
      let bytes := leBytes 3 (buf / 16) ++ leBytes 1 (2 ^ 7 + Config.freeNat s.free % 8) ++ leBytes 2 data.length
        ++ leBytes 2 0 ++ leBytes 8 ((Config.freeWord (s.free + 1)).toNat + canDlc data.length * 2 ^ 32)
      (s.mbPut m r s.net.cls bytes).freeNext.freeNext.trunk 3 0 (16 + data.length) .write

/-- The tail of a mailbag advances over descriptors that its owner has filled, as far as the ring has room. -/
def State.tailAdvance (s : State) (m : Nat) (r : Rec) (descs : List (BitVec 128)) : State :=
  (descs.take (s.mbRoom m r)).foldl (fun s d => s.mbPut m r s.net.cls (leBytes 16 d.toNat)) s

/-! ## Transmit queues of a MAC (R462, R463) -/

/-- The port number of a MAC in a MAILBAGS record. -/
def macPort (m : Nat) : Nat := 0x80 + m

/-- Transmit mailbags of a MAC with the descriptor at their head. -/
def State.macHeads (s : State) (m : Nat) : List (Nat × Rec × TxD) :=
  ((s.recs 5).filter fun r => mbPort r == macPort m && mbDir r == 1).filterMap fun r =>
    match (s.mb (Rec.u8 r 0)).tx with
    | t :: _ => if t.started then none else some (Rec.u8 r 0, r, t)
    | [] => none

/-- Settles the credits of a MAC at this moment and notes what each queue does from now on. -/
def State.settle (s : State) (m : Nat) : State :=
  let x := s.mac m
  let held := (s.macHeads m).map fun h => deQueue (s.desc h.2.1 h.2.2.idx)
  let cr := (List.range 8).foldl (fun (t : Tab Credit) q =>
    let mode := if (match x.cur with | some c => c.queue == q | none => false) then 2 else if held.contains q then 1 else 0
    t.put q ⟨s.creditAt m q, mode, s.ns⟩) x.credits
  s.setMac m { x with credits := cr }

/-! ## Segments of the fabric (R118) -/

/-- The fabric-owned transmit mailbag of a MAC. -/
def State.fabMailbag (s : State) (m : Nat) : Option Rec :=
  (s.recs 5).find? fun r => mbPort r == macPort m && mbOwner r == 0 && mbDir r == 1

/-- A segment leaves as one UDP datagram. The Ethernet address of the station, the IPv4 identification and time to live,
and the queue are not stated: free values (log 60). -/
def State.ethSend (s : State) (k : Nat) (sr : Rec) (seg : List Byte) : State :=
  let m := Rec.u8 sr 3 - 0x80
  match s.netRec m, s.fabMailbag m with
  | some nr, some r =>
    let b := Rec.u8 r 0
    if s.mbRoom b r == 0 || !(s.good .net) then s
    else
      let src := Rec.u32 nr 4
      let dst := Rec.u32 sr 4
      let udp := aelzonUdp src dst seg
      let data := ipHead udp.length (Config.freeNat s.free % 65536) (1 + Config.freeNat (s.free + 1) % 255) src dst ++ udp
      let f := ethFrame (netBytes 6 (Config.stationMac (n2w dst)).toNat) ((nr.drop 0x10).take 6) 0x0800 data
      let t := (s.rd (Reg.MBG_TAIL b)).toNat
      let buf := mbBuf r + t * mbBufsz r
      let d := leBytes 3 (buf / 16) ++ leBytes 1 (2 ^ 7 + Config.freeNat (s.free + 2) % 8) ++ leBytes 2 f.length
        ++ leBytes 2 0 ++ leBytes 8 0
      ((((s.sramPut buf f).mbPut b r k d).freeNext.freeNext.freeNext).settle m).trunk 2 0 f.length .write
  | _, _ => s

/-- The fabric hands segments for a station to its port: on CAN FD they pass through the station's transmit object, one
after another; on Ethernet they leave through the fabric's mailbag. `k` is the class of the round. -/
def State.fabSend (s : State) (k : Nat) (sr : Rec) (segs : List (List Byte)) : State :=
  if Rec.u8 sr 2 == 0 then
    let g := Rec.u8 sr 3
    let c := s.can g
    match c.txObj (Rec.w sr 4) with
    | none => s
    | some o => s.setCan g (c.rewrite o k segs)
  else if Rec.u8 sr 2 == 1 then segs.foldl (fun s b => s.ethSend k sr b) s
  else s

/-! ## Frank check, fence, cancellation -/

/-- The field port multiplexer discards a stale descriptor (R22 to R24): stage 0 in PMS_STALE0 and 16#7010. -/
def State.staleMux (s : State) (frank : Word) : State := (s.satWord (Reg.PMS_STALE 0)).record 0x7010 [0, frank]

/-- Discards transmit descriptors that `hit` selects, with a status. -/
def State.dropTx (s : State) (stat : Nat) (hit : Nat → Rec → TxD → Bool) : State :=
  (s.recs 5).foldl (fun s r =>
    let m := Rec.u8 r 0
    ((s.mb m).tx.filter fun t => !t.started && hit m r t).foldl (fun s t => s.txFinish m r t.idx stat 0) s) s

/-- The fence of a lane at the port controllers (R428): descriptors of lane-owned mailbags that have not started are
discarded, and the requests made for them; 16#A008 for each group with its count (log 77). A search of R449 stops with its
lane, and an MS/TP node falls silent (R444). -/
def State.fencePorts (s : State) : State :=
  let hit := fun (r : Rec) => !(mbOwner r == 0) && decide (mbPort r < 24)
  let count := fun (g : Nat) => (s.recs 5).foldl (fun n r =>
    if hit r && mbPort r == g then n + ((s.mb (Rec.u8 r 0)).tx.filter fun t => !t.started).length else n) 0
  let gone := ((List.range 24).map fun g => (g, count g)).filter fun e => !(e.2 == 0)
  let s := s.dropTx mbFENCED fun _ r _ => hit r
  let s := s.net.cans.foldl (fun s (e : Nat × Can) =>
    s.setCan e.1 (e.2.takeBack fun x => objMB x && (match s.mbRec (objMbNum x) with | some r => hit r | none => false))) s
  let s := (List.range 24).foldl (fun s g =>
    if s.fld (F.FPT_PG_DALISTAT_SEARCH g) == 0 then s else s.setFld (F.FPT_PG_DALISTAT_SEARCH g) 0) s
  let s : State := { s with net := { s.net with
    uarts := s.net.uarts.map fun (e : Nat × Uart) => (e.1, { e.2 with token := none, reply := false }) } }
  gone.foldl (fun s e => s.record 0xA008 [n2w (2 ^ e.1), n2w e.2]) s

/-- Every frame that has not started is discarded: descriptors, and the fabric's segments (R336). -/
def State.dropFrames (s : State) : State :=
  let s := s.dropTx mbFENCED fun _ _ _ => true
  s.net.cans.foldl (fun s (e : Nat × Can) => s.setCan e.1 { (e.2.takeBack fun _ => true) with segs := [] }) s

/-- Fabric-owned descriptors of a round that has ended are cancelled (R461). -/
def State.cancelFabricTx (s : State) (c : Nat) : State :=
  s.dropTx mbCANCELLED fun _ r t => mbOwner r == 0 && t.cls == c

/-! ## CAN FD: what arrives (R433, R434, R437) -/

/-- Whether a filter element of KIND matches (R433). -/
def canMatch (kind ida idb x : Nat) : Bool :=
  (kind == 1 && decide (ida ≤ x) && decide (x ≤ idb)) || (kind == 2 && (x == ida || x == idb))
    || (kind == 3 && Nat.land x idb == Nat.land ida idb)

/-- The first element that matches decides (R434): the object, or none for a discarded frame. -/
def Can.filter (c : Can) (fr : CanFrame) : Option Nat :=
  if fr.ext then
    match c.ext.find? fun e => canMatch (e.2.2.bits 9 8) (e.1.bits 28 0) (e.2.1.bits 28 0) fr.id with
    | some e => if e.2.2.bit 7 then some (e.2.2.bits 6 0) else none
    | none => none
  else
    match c.std.find? fun e => canMatch (e.bits 9 8) (e.bits 31 21) (e.bits 20 10) fr.id with
    | some e => if e.bit 7 then some (e.bits 6 0) else none
    | none => none

/-- FPT_PGg_LOST, and 16#A005 at most once per second per group (R437). -/
def State.canLost (s : State) (g num : Nat) : State :=
  let s := s.satWord (Reg.FPT_PG_LOST g)
  let c := s.can g
  if (match c.lostNs with | some t => decide (s.ns < t + 1000000000) | none => false) then s
  else (s.setCan g { c with lostNs := some s.ns }).record 0xA005 [n2w g, n2w num, s.rd (Reg.FPT_PG_LOST g)]

/-- A received frame is stored into an object (R437). The mailbag of the object takes it at once, the fabric within 2 µs
while FAB works; until it is taken FRESH stands, and a frame that replaces it is counted as lost. -/
def State.canStore (s : State) (g o : Nat) (fr : CanFrame) : State :=
  let c := s.can g
  let x := c.objs.getD o .off
  let over_ := x.flag obFRESH
  let n := min (canLens.getD fr.dlc 64) (if fr.fdf then 64 else 8)
  let y := { (((x.put obFRESH (!(objMB x) && !(s.good .fab))).put obESI fr.esi).put obOVERRUN over_) with
    id := n2w fr.id, dlc := fr.dlc, pm := fr.pm, data := padTo 64 (fr.data.take n) }
  let s := s.setCan g { c with objs := c.objs.set o y }
  let s := if over_ then s.canLost g o else s
  if objMB x then
    match s.mbRec (objMbNum x) with
    | none => s
    | some r =>
      let (s', ok) := s.mbStore (objMbNum x) r (fr.data.take n) n mbOK 0 false fr.pm
      if ok then s' else s'.canLost g (objMbNum x)
  else s

/-- The fabric works again and takes the frames that wait in its objects. -/
def State.canTake (s : State) : State :=
  s.net.cans.foldl (fun s (e : Nat × Can) =>
    s.setCan e.1 { e.2 with objs := e.2.objs.map fun x => if objMB x || objTX x then x else x.put obFRESH false }) s

/-- A segment of an Aelzon station on CAN FD arrives in the receive object of the station, on identifier ADDR + `k` (R118,
R435); a frame that fails its check is not stored. -/
def State.canFabIn (s : State) (r : Rec) (k : Nat) (ok : Bool) (bytes : List Byte) : State :=
  if ok && Rec.u8 r 2 == 0 then
    let g := Rec.u8 r 3
    let fr : CanFrame := ⟨s.pmNow, none, Rec.u32 r 4 + k, false, true, false, false, false, canDlc bytes.length, bytes⟩
    let s := s.incWord (Reg.FPT_PG_RXCNT g)
    match (s.can g).filter fr with
    | some o => s.canStore g o fr
    | none => s
  else s

end Sys2Proof.Machine
end

