-- ==== Sys2Proof/Machine/Points.lean ====
section
/-! DEFINITION. Stations, rounds and points (chapter 4). -/

namespace Sys2Proof.Machine

/-! ## Station configuration and state -/

def stProto (r : Rec) : Nat := Rec.u8 r 2
def stPort (r : Rec) : Nat := Rec.u8 r 3
def stAddr (r : Rec) : Word := Rec.w r 4
def stPclass (r : Rec) : Nat := Rec.u8 r 8
/-- MISSMAX; 0 acts as 3. -/
def stMissmax (r : Rec) : Nat := if Rec.u8 r 9 == 0 then 3 else Rec.u8 r 9
/-- ANSTO in nanoseconds; 0 acts as 1 ms. -/
def stAnstoNs (r : Rec) : Nat := (if Rec.u16 r 10 == 0 then 10 else Rec.u16 r 10) * 100000
/-- HOLDTO in ms; 0 acts as 200. -/
def stHoldto (r : Rec) : Nat := if Rec.u16 r 12 == 0 then 200 else Rec.u16 r 12
def stIdent (r : Rec) : Nat := Rec.u r 16 16
/-- Aelzon stations are served by the fabric, the others by the lane (R109). -/
def stAelzon (r : Rec) : Bool := decide (stProto r ≤ 1)

/-- Station states of R115. -/
def saABSENT : Nat := 0
def saADMITTING : Nat := 1
def saONLINE : Nat := 2
def saOFFLINE : Nat := 3
def saDISABLED : Nat := 4

/-- A station right after the start of FAB. -/
def Station.new (base : Postmark) : Station :=
  { ageBase := base, polls := [], imageDue := false, fwver := 0, out := [], tpms := [], syncTag := none, syncPm := 0
    syncNs := none, dirty := [], lostIn := [], fresh := false, readmit := false, single := false, cov := false }

/-- No round of the class has begun. -/
def Round.new : Round := ⟨.idle, 0, 0, 0, [], 0, 0⟩

/-- What the fabric keeps of a station. -/
def State.sta (s : State) (n : Nat) : Station := s.fab.stations.getD n (.new 0)

/-- Stores what the fabric keeps of a station. -/
def State.setSta (s : State) (n : Nat) (x : Station) : State :=
  { s with fab := { s.fab with stations := s.fab.stations.put n x } }

/-- A change of station state: FPT_STA shows it, sources 96 to 103 fire (R157). -/
def State.setStaState (s : State) (n st : Nat) : State :=
  if s.staState n == st then s
  else (s.setFld (F.FPT_STA_STATE n) st).fireWhere
    (fun src param => decide (96 ≤ src) && decide (src ≤ 103) && (param.bits 15 0 == n || param.bits 15 0 == 0xFFFF))
    false (n2w (n + st * 2 ^ 16))

/-- The station becomes OFFLINE (R111, R112): counted, 16#2002 with the cause and the postmark of the round. Its other
messages in flight go on by R111. -/
def State.staOffline (s : State) (n cause : Nat) (round : Postmark) : State :=
  let s := (s.inc (F.FPT_STA_OFFCNT n)).setSta n { s.sta n with
    imageDue := false, lostIn := [0, 1, 2].filter fun c => !((s.fab.rounds.getD c .new).phase == .idle)
    fresh := false, readmit := false, cov := false }
  (s.setStaState n saOFFLINE).record 0x2002 ([n2w n, n2w cause] ++ words64 round)

/-- The point identifiers of a station, and the identifiers declared. -/
def State.staPoints (s : State) (n : Nat) : List (Nat × Rec) :=
  ((s.recs 7).filter fun r => ptStation r == n).map fun r => (Rec.u32 r 0, r)

def State.allPoints (s : State) : List (Nat × Rec) := (s.recs 7).map fun r => (Rec.u32 r 0, r)

/-- The declared stations in ascending order of the section. -/
def State.stations (s : State) : List (Nat × Rec) := (s.recs 8).map fun r => (Rec.u16 r 0, r)

/-! ## Rounds -/

/-- Classes with rounds: F 0, N 1, S 2. -/
def scanNum : Scan → Nat
  | .f => 0 | .n => 1 | .s => 2 | .e => 3

/-- The round of a class. -/
def State.round (s : State) (c : Nat) : Round := s.fab.rounds.getD c .new

def State.setRound (s : State) (c : Nat) (r : Round) : State :=
  { s with fab := { s.fab with rounds := s.fab.rounds.put c r } }

/-- Whether a phase of class `c` serves a point of class `pc`: its own class, and every class in class S (R103). -/
def serves (c pc : Nat) : Bool := c == pc || c == 2

/-- The period of a class in angle units (R102, R106); class F follows the rate bit of TIMEBASE. -/
def State.period (s : State) (c : Nat) : Nat :=
  if c == 0 then (match s.recs 2 with | r :: _ => if Rec.bit r 7 7 then 2 ^ 19 else 2 ^ 20 | [] => 2 ^ 20)
  else if c == 1 then 5 * 2 ^ 20 else 50 * 2 ^ 20

/-- The next TAG of the module: a 16-bit count that passes over 0 (R119, log 10). -/
def State.newTag (s : State) : State := { s with fab := { s.fab with tag := s.fab.tag % 65535 + 1 } }

/-- Whether a port carries no frames for a quiesced group or MAC (R83): stage 0 before its first round after the switch
point, stage 1 in it. -/
def State.quiet (s : State) (port : Nat) : Bool := s.man.quiesced.any fun q => q.1 / 4 == port && decide (q.2 ≤ 1)

/-- Whether a port is in either of its two quiesced rounds, or waits for them (R83). -/
def State.quiescing (s : State) (port : Nat) : Bool := s.man.quiesced.any fun q => q.1 / 4 == port

/-- A port group that has run its two quiesced rounds is in RUN, or RESTRICTED where RESTR is 1 (R427, R440). -/
def State.portRun (s : State) (g : Nat) : State :=
  if !(s.fld (F.FPT_PG_STATUS_STATE g) == 1) then s
  else if s.fld (F.FPT_PG_STATUS_USE g) == 1 && s.flag (F.FPT_PG_CANCTRL_RESTR g) then
    (s.setFld (F.FPT_PG_STATUS_STATE g) 3).record 0xA004 [n2w g, 3, 0xFF, 0]
  else s.setFld (F.FPT_PG_STATUS_STATE g) 2

/-- At the start of the second round of a quiesced port its ONLINE stations are to be admitted again (R83). They are not
marked offline. -/
def State.readmitPort (s : State) (port : Nat) : State :=
  s.stations.foldl (fun s nr =>
    if stPort nr.2 == port && s.staState nr.1 == saONLINE then
      s.setSta nr.1 { s.sta nr.1 with readmit := true, cov := false }
    else s) s

/-- The stage of every quiesced port of this class moves on with each round of the class. -/
def State.stepQuiet (s : State) (c : Nat) : State :=
  let s := (s.man.quiesced.filter fun q => q.1 % 4 == c && q.2 == 1).foldl (fun s q => s.readmitPort (q.1 / 4)) s
  let s := (s.man.quiesced.filter fun q => q.1 % 4 == c && q.2 == 2 && decide (q.1 / 4 < 24)).foldl
    (fun s q => s.portRun (q.1 / 4)) s
  { s with man := { s.man with quiesced :=
      ((s.man.quiesced.map fun q => if q.1 % 4 == c then (q.1, q.2 + 1) else q).filter fun q => decide (q.2 ≤ 2)) } }

/-- Whether the stations that the lane serves are served now (R109). -/
def State.laneServes (s : State) : Bool := s.laneUp

/-- Whether a station takes part in the input phase of class `c`: ONLINE and with points that the phase serves. -/
def State.polledIn (s : State) (c n : Nat) (r : Rec) : Bool :=
  s.staState n == saONLINE && (stPclass r == c || c == 2 || (s.staPoints n).any fun p => serves c (ptClass p.2))

/-- Whether an input phase of class `c` asks a station for its identity (R116): in its poll class, when it is ABSENT or
OFFLINE, or is to be admitted again (R83). -/
def State.identIn (s : State) (c n : Nat) (r : Rec) : Bool :=
  stPclass r == c && (s.staState n == saABSENT || s.staState n == saOFFLINE
    || (s.staState n == saONLINE && (s.sta n).readmit))

/-- The requests by which the lane reads a station's input points in a phase of class `c` (R113). -/
def State.readRequests (s : State) (c n tag : Nat) (r : Rec) : List (List Byte) :=
  let ins := (s.staPoints n).filter fun p => !(ptOut p.2) && serves c (ptClass p.2)
  if stModbus r then (mbRuns (ins.map fun p => mbObject r p.2 0)).map mbRead
  else if stBacnet r then bacReads tag (s.sta n).single (ins.map fun p => ptAddr p.2)
  else []

/-- The subscriptions to the class-E input points of a BACnet device, sent once with its first poll (R113). -/
def State.covRequests (s : State) (n tag : Nat) (r : Rec) : List (List Byte) :=
  if stBacnet r && !(s.sta n).cov then
    ((s.staPoints n).filter fun p => !(ptOut p.2) && ptClass p.2 == 3).map fun p => bacSubscribe tag (ptAddr p.2)
  else []

/-- Opens the input phase towards one station (R106, R116, R123, R124): an IDQ where its identity is asked for, else a POLL
when it is ONLINE. An earlier IDQ may be answered as long as its ANSTO runs (R116). A DISABLED station is not polled, a
quiet port carries no frames, and lane-served stations wait for a lane. -/
def State.pollStation (s : State) (c : Nat) (nr : Nat × Rec) : State :=
  let n := nr.1
  let r := nr.2
  let ident := s.identIn c n r
  let x := s.sta n
  let s := s.setSta n { x with polls := x.polls.filter fun p => !(p.cls == c)
    || (p.ident && !p.delivered && decide (s.ns ≤ p.ns + stAnstoNs r)) }
  if s.quiet (stPort r) || (!(stAelzon r) && !(s.laneServes)) then s
  else if ident || (s.polledIn c n r && !(s.sta n).readmit) then
    let s := s.newTag
    let x := s.sta n
    let reqs := (if ident then [] else s.covRequests n s.fab.tag r) ++ s.readRequests c n s.fab.tag r
    let s := s.setSta n { x with polls := ⟨c, s.fab.tag, s.ns, ident, false, reqs⟩ :: x.polls, cov := x.cov || !ident }
    (s.fabSend c r [segPlain (if ident then 2 else 1) s.fab.tag]).perfEvent 2 4 0 1
  else s

/-! ## Received values -/

/-- A received value enters an input point (rows I2, I3): not clamped; a FORCED point keeps its value (R135). -/
def State.receive (s : State) (p : Nat) (r : Rec) (v : Word) (pm : Postmark) : State :=
  let o := s.point p
  let forced := qGet o.qual qFORCED
  let q := qPuts o.qual [(qGOOD, true), (qSTALE, false), (qSUBST, false), (qCOMMLOST, false), (qINIT, false),
    (qLIMIT, ptLimit r v)]
  s.setPoint p (if forced then o.value else v) q pm

/-- The input point of a station at a channel. -/
def State.inputAt (s : State) (n ch : Nat) : Option (Nat × Rec) :=
  (s.staPoints n).find? fun p => !(ptOut p.2) && ptAddr p.2 == ch

/-- Class-E entries that one input phase of class `c` can take beside the points it scans (R108; log 11): the fabric's
4,000,000 updates per second over a quarter period at PMK_FREQ, less the points scanned. -/
def State.eRoom (s : State) (c : Nat) : Nat :=
  let f := (s.rd Reg.PMK_FREQ).toNat
  let n := ((s.recs 7).filter fun r => !(ptInternal r) && serves c (ptClass r)).length
  if f == 0 then 0 else 4000000 * ((s.round c).period / 4) * 1000000 / (2 ^ 20 * f) - n

/-- Whether a station's inputs are accepted (R116, R83): it is ONLINE, its port is not in its quiesced rounds, and it is not to
be admitted again. -/
def State.inputsFrom (s : State) (n : Nat) : Bool :=
  s.staState n == saONLINE && !((s.sta n).readmit)
    && (match s.staRec n with | some r => !(s.quiescing (stPort r)) | none => false)

/-- Class-E reports that wait enter an open input phase in order, as far as they fit; those of a station whose
inputs are no longer accepted are not received (R108, row I2, R83). -/
def State.drainE (s : State) (c : Nat) : State :=
  let rd := s.round c
  let room := s.eRoom c - rd.eTaken
  let now := s.fab.eQueue.take room
  let s := { s with fab := { s.fab with eQueue := s.fab.eQueue.drop room } }
  let s := s.setRound c { rd with eTaken := rd.eTaken + now.length }
  now.foldl (fun s e =>
    match s.inputAt e.station e.ch with
    | some (p, r) =>
      if ptClass r == 3 && !e.bad && s.inputsFrom e.station then
        let s := (s.receive p r e.value e.pm).perfEvent 2 2 0 1
        s.setRound c { s.round c with recv := p :: (s.round c).recv }
      else s
    | none => s) s

/-- Class-E reports that still wait when an input phase closes are deferred to a later one: FPT_EDEFER, and the count of
the round's 16#2006 (R108, R141). -/
def State.deferE (s : State) (c : Nat) : State :=
  let n := s.fab.eQueue.length
  if n == 0 then s
  else ((s.setRound c { s.round c with eDefer := (s.round c).eDefer + n }).satWord Reg.FPT_EDEFER n).perfEvent 2 10 0 n

/-- The class whose input phases treat a point that was not received: its own, and class S for class E (log 12). -/
def treatClass (pc : Nat) : Nat := if pc == 3 then 2 else pc

/-- The points that were forced in RUN when SERVICE ended lose FORCED at the next round of their class (R598). -/
def State.endForced (s : State) (c : Nat) : State :=
  let ps := s.keys.unforce.filter fun p => match s.ptRec p with | some r => treatClass (ptClass r) == c | none => true
  let s := { s with keys := { s.keys with unforce := s.keys.unforce.filter fun p => !(ps.contains p) } }
  ps.foldl (fun s p =>
    let o := s.point p
    if qGet o.qual qFORCED then
      (s.setPoint p o.value (qPut o.qual qFORCED false) s.pmNow).record 0x2004 [n2w p, 0, 0xFF, 0]
    else s) s

/-! ## Offline treatment (R131) -/

/-- The value and quality of an input point whose station is not ONLINE (R131, row I5). -/
def State.offlineInput (s : State) (p : Nat) (r : Rec) (n : Nat) (pm : Postmark) : State :=
  let o := s.point p
  let subst := ptSub r || (qGet o.qual qINIT && !o.mirrored)
    || (!(ptStalemax r == 0) && decide (ptStalemax r ≤ s.ageCycles n))
  let q := qPuts o.qual [(qSUBST, subst), (qSTALE, true), (qCOMMLOST, true), (qGOOD, false)]
  s.setPoint p (if subst && !(qGet o.qual qFORCED) then ptSubval r else o.value) q pm

/-- An input point that was not received (rows I4, I6): value kept, STALE. -/
def State.missedInput (s : State) (p : Nat) (pm : Postmark) : State :=
  let o := s.point p
  s.setPoint p o.value (qPuts o.qual [(qGOOD, false), (qSTALE, true), (qCOMMLOST, false)]) pm

/-- A point whose value and COMMLOST stay while it becomes old: of a station on a port in its quiesced rounds (R83), or of a
lane-served station while no lane is active (R109). -/
def State.agePoint (s : State) (p : Nat) (pm : Postmark) : State :=
  let o := s.point p
  s.setPoint p o.value (qPuts o.qual [(qGOOD, false), (qSTALE, true)]) pm

/-- An input point of a station that is not ONLINE as an input phase of class `c` opens (row I5; in the quiesced rounds of its
port value and COMMLOST stay, R83). The treatment, with its AGE, is
made at the opening, as the worked example of the chapter shows it (DEDUCED, log 61). Row I5 goes before row I6 for a
lane-served station while no lane is active: DESIGN CHOICE (log 69). -/
def State.openPoint (s : State) (c : Nat) (pr : Nat × Rec) : State :=
  let r := pr.2
  match s.staRec (ptStation r) with
  | none => s
  | some sr =>
    if ptInternal r || ptOut r || !(treatClass (ptClass r) == c) || s.staState (ptStation r) == saONLINE then s
    else if s.quiescing (stPort sr) then s.agePoint pr.1 s.pmNow
    else s.offlineInput pr.1 r (ptStation r) s.pmNow

/-- ROUND_START: the input phase of the class opens (R106 step 1). -/
def State.roundStart (s : State) (c : Nat) : State :=
  let s := s.endForced c
  let s := { (s.stepQuiet c) with net := { s.net with cls := c } }
  let s := s.setRound c ⟨.input, s.period c, s.pmNow, 0, [], 0, 0⟩
  let s := s.allPoints.foldl (fun s pr => s.openPoint c pr) s
  let s := s.stations.foldl (fun s nr => s.pollStation c nr) s
  s.drainE c

/-! ## The end of the input phase -/

/-- One input point of an ONLINE station at the close of the input phase of class `c`, when nothing was received for it
(rows I4, I6). -/
def State.closePoint (s : State) (c : Nat) (pm : Postmark) (was : List Nat) (pr : Nat × Rec) : State :=
  let p := pr.1
  let r := pr.2
  let n := ptStation r
  if ptInternal r || ptOut r || !(treatClass (ptClass r) == c) || (s.round c).recv.contains p || !(was.contains n) then s
  else s.missedInput p pm

/-- A station at the close of an input phase of its poll class (R112): without a delivery it misses, and OFFLINE follows
at MISSMAX. No miss counts while no lane serves it (R109) or its port is quiesced. AGE counts from now on (R130). -/
def State.closeStation (s : State) (c : Nat) (nr : Nat × Rec) : State :=
  let n := nr.1
  let r := nr.2
  if !(stPclass r == c) then s
  else
    let got := (s.sta n).polls.any fun p => p.cls == c && p.delivered
    let s := s.setSta n { s.sta n with fresh := got }
    let asked := (s.sta n).polls.any fun p => p.cls == c
    if s.staState n == saONLINE && asked && !got && !(s.quiescing (stPort r)) && (stAelzon r || s.laneServes) then
      let s := s.setFld (F.FPT_STA_MISS n) (min 16 (s.fld (F.FPT_STA_MISS n) + 1))
      if stMissmax r ≤ s.fld (F.FPT_STA_MISS n) then s.staOffline n 1 (s.round c).start else s
    else s

/-- The published image of a class: words 0 and 1 of its points; class E goes with every image (R106, R154, log 12). -/
def State.publish (s : State) (c : Nat) : State :=
  let img := fun k => ((s.recs 7).filter fun r => !(ptInternal r) && ptClass r == k).foldl
    (fun (t : Tab (Word × Word)) r => t.put (Rec.u32 r 0) (s.ptWord (Rec.u32 r 0) 0, s.ptWord (Rec.u32 r 0) 1)) []
  { s with fab := { s.fab with image := (s.fab.image.put c (img c)).put 3 (img 3) } }

/-- The published images after a change of the POINTS records (R86, R154): a point goes with what its class before published
of it into the image of its class, and one that no image holds as it stands now. A class without an image gets none. -/
def State.carryImage (s : State) (old new : List Rec) : State :=
  let was := fun p => (old.find? fun o => Rec.u32 o 0 == p).bind fun o => (s.fab.image.get? (ptClass o)).bind fun i => i.get? p
  { s with fab := { s.fab with image := s.fab.image.map fun (e : Nat × Tab (Word × Word)) =>
      (e.1, (new.filter fun r => !(ptInternal r) && ptClass r == e.1).foldl (fun (t : Tab (Word × Word)) r =>
        let p := Rec.u32 r 0
        t.put p ((was p).getD (s.ptWord p 0, s.ptWord p 1))) []) } }

/-- How far the round of a class has come, in angle units. -/
def State.roundAge (s : State) (c : Nat) : Nat := (s.pmNow - (s.round c).start).toNat

/-- Whether the input phase may close before its time (R106 step 3): every ONLINE station that was polled has delivered. -/
def State.allDelivered (s : State) (c : Nat) : Bool :=
  s.stations.all fun nr => !(s.staState nr.1 == saONLINE)
    || !((s.sta nr.1).polls.any fun p => p.cls == c && !p.ident && !p.delivered)

/-- INPUT_PHASE_CLOSE (R106 step 3): points and stations without a delivery, then the image is published. -/
def State.inputClose (s : State) (c : Nat) : State :=
  let early := decide (s.roundAge c < (s.round c).period / 4)
  let online := (s.stations.filter fun nr => s.staState nr.1 == saONLINE).map (·.1)
  let s := s.stations.foldl (fun s nr => s.closeStation c nr) s
  let pm := (s.round c).start
  let s := s.allPoints.foldl (fun s pr => s.closePoint c pm online pr) s
  let s := (s.setRound c { s.round c with phase := .closed }).deferE c
  let s := (s.publish c).incWord (Reg.FPT_RNDCNT c)
  if early then s.perfEvent 2 6 0 1 else s

def execInputPhaseClose (w : When) (cls : Scan) (s : State) : Out :=
  let s := s.advance w
  let c := scanNum cls
  .next (if s.good .fab && !(cls == .e) && (s.round c).phase == .input
      && (decide ((s.round c).period / 4 ≤ s.roundAge c) || s.allDelivered c) then s.inputClose c
    else s)

/-! ## Output phase -/

/-- A point of an output message gets the quality of a delivery (row O3) or of a failed one (rows O4, O5, which keep SUBST). -/
def State.outQual (s : State) (ok : Bool) (pm : Postmark) (p : Nat) : State :=
  let o := s.point p
  s.setPoint p o.value (qPuts o.qual [(qGOOD, ok), (qSTALE, !ok), (qSUBST, !ok && qGet o.qual qSUBST), (qCOMMLOST, !ok)]) pm

/-- The outputs of a message that a station on `port` did not take (row O4); in the quiesced rounds of the port COMMLOST is not
set (R83). -/
def State.lostOuts (s : State) (n : Nat) (pts : List Nat) (pm : Postmark) : State :=
  let quiet := match s.staRec n with | some r => s.quiescing (stPort r) | none => false
  pts.foldl (fun s p => if quiet then s.agePoint p pm else s.outQual false pm p) s

/-- The outputs that an output phase of class `c` carries to an ONLINE station (R630, R108): Aelzon stations get every
output of the class that is not INIT, and changed class-E outputs in their poll class; lane-served stations the changed
outputs of the class; every station everything in class S. -/
def State.outputsFor (s : State) (c n : Nat) (r : Rec) : List Nat :=
  let x := s.sta n
  ((s.staPoints n).filter fun pr =>
    ptOut pr.2 && !(qGet (s.point pr.1).qual qINIT) &&
      (c == 2 || (ptClass pr.2 == c && (stAelzon r || x.dirty.contains pr.1))
        || (ptClass pr.2 == 3 && stPclass r == c && x.dirty.contains pr.1))).map (·.1)

/-- The channel entries of an output message: the points' values, or the new level of a switching. -/
def State.outEntries (s : State) (pts : List Nat) (sw : Option Switching) : List (Nat × Word) :=
  pts.map fun p =>
    (match s.ptRec p with | some r => ptAddr r | none => 0, match sw with | some w => w.level | none => (s.point p).value)

/-- The Modbus requests by which the lane writes outputs (R113). -/
def State.writeRequests (s : State) (r : Rec) (pts : List Nat) : List MbRun :=
  if stModbus r then mbRuns (pts.filterMap fun p => (s.ptRec p).map fun q => mbObject r q (s.point p).value) else []

/-- Sends one OUT or IMAGE (R125), or hands outputs to the lane. A target postmark is one of those that the station then holds
(R128). -/
def State.sendOut (s : State) (c n : Nat) (r : Rec) (pts : List Nat) (image : Bool) (tpm : Postmark)
    (sw : Option Switching) : State :=
  let s := s.newTag
  let x := s.sta n
  let aelzon := stAelzon r
  let es := s.outEntries pts sw
  let bytes :=
    if aelzon then
      segsOut (if image then 4 else 3) s.fab.tag s.pms.frMux (stHoldto r) tpm (if stProto r == 0 then 5 else 180) es
    else if stBacnet r then
      (pts.zip es).map fun e => bacWrite s.fab.tag e.2.1 (match s.ptRec e.1 with | some q => ptType q | none => 0) e.2.2
    else (s.writeRequests r pts).map mbWrite
  let m : OutMsg := {
    tag := s.fab.tag, attempts := 1, pts := pts, image := image, tpm := tpm, sw := sw, cls := c
    ns := if aelzon then none else some s.ns, segs := [], badch := [], bytes := bytes, vals := es.map (·.2) }
  let x := { x with
    out := x.out ++ [m]
    dirty := if aelzon then x.dirty.filter fun p => !(pts.contains p) else x.dirty
    tpms := (if tpm == 0 then [] else [tpm]) ++ x.tpms.filter fun t => decide (s.pmNow < t) }
  ((s.setSta n x).fabSend c r bytes).perfEvent 2 4 0 1

/-- Whether a station can take another OUT with a target postmark: fewer than 16 of its own lie ahead (R128). -/
def State.tpmRoom (s : State) (n : Nat) : Bool :=
  decide (((s.sta n).tpms.filter fun t => decide (s.pmNow < t)).length < 16)

/-- SYNC (R127). -/
def State.sendSync (s : State) (c n : Nat) (r : Rec) : State :=
  let s := s.newTag
  ((s.setSta n { s.sta n with syncTag := some s.fab.tag, syncPm := s.pmNow, syncNs := none }).fabSend c r
    [segPlain 5 s.fab.tag]).perfEvent 2 4 0 1

/-- An IMAGE is acknowledged: the station is ONLINE with 16#2001 (R116). -/
def State.admitStation (s : State) (n : Nat) : State :=
  if s.staState n == saADMITTING || (s.staState n == saONLINE && (s.sta n).readmit) then
    ((s.setSta n { s.sta n with readmit := false }).setStaState n saONLINE).record 0x2001
      [n2w n, n2w (s.staAge n), n2w (s.fld (F.FPT_STA_OFFCNT n)), (s.sta n).fwver]
  else s

/-- A DALI-2 group without a transaction. -/
def Dali.new : Dali := ⟨none, 0, false, 0, [], none, none, none⟩

/-- The output phase of its poll class opens the changed outputs of a DALI-2 station for sending, after those that still
wait, the oldest change first; an admission opens every output that is not INIT (R448, R116). -/
def State.daliOpen (s : State) (n : Nat) (r : Rec) : State :=
  let g := stPort r
  let d := s.net.dalis.getD g .new
  let x := s.sta n
  let all := ((s.staPoints n).filter fun pr => ptOut pr.2 && !(qGet (s.point pr.1).qual qINIT)).map (·.1)
  let new := (if x.imageDue then all else x.dirty.reverse.filter fun p => all.contains p).filter fun p => !(d.due.contains p)
  let s : State := { s with net := { s.net with dalis := s.net.dalis.put g { d with due := d.due ++ new } } }
  if x.imageDue then
    let s := s.setSta n { s.sta n with imageDue := false }
    if all.isEmpty then s.admitStation n else s
  else s

/-- The output phase of class `c` towards one station. A DALI-2 group sends its outputs in frames of its own (R448). A station
that is to be admitted gets its IMAGE in its poll class, and one whose admission is still to come gets nothing. -/
def State.outStation (s : State) (c : Nat) (nr : Nat × Rec) : State :=
  let n := nr.1
  let r := nr.2
  let x := s.sta n
  let st := s.staState n
  if s.quiet (stPort r) then s
  else if !(stAelzon r) && !(s.laneServes) then s
  else if stProto r == 6 then
    if stPclass r == c && (st == saONLINE || st == saADMITTING) && (x.imageDue || !x.readmit) then s.daliOpen n r else s
  else if (st == saADMITTING || st == saONLINE) && x.imageDue && stPclass r == c then
    let pts := ((s.staPoints n).filter fun pr => ptOut pr.2 && !(qGet (s.point pr.1).qual qINIT)).map (·.1)
    let s := s.setSta n { s.sta n with imageDue := false }
    let s := s.sendOut c n r pts true 0 none
    if stAelzon r then s.sendSync c n r else s
  else if st == saONLINE && !x.readmit then
    let pts := s.outputsFor c n r
    let s := if pts.isEmpty then s else s.sendOut c n r pts false 0 none
    if c == 2 && stAelzon r then s.sendSync c n r else s
  else s

/-- Output points of stations that are not ONLINE at the output phase (row O5): at each phase that would carry the point, a
class-E one thus in its station's poll class and in class S (DEDUCED from R108, log 70). In the quiesced rounds of the port
GOOD and STALE follow the row, and COMMLOST stays (R83; DEDUCED, log 71). Those of a lane-served station that is ONLINE while no
lane is active become STALE (R109). -/
def State.outLost (s : State) (c : Nat) (pm : Postmark) (pr : Nat × Rec) : State :=
  match s.staRec (ptStation pr.2) with
  | none => s
  | some sr =>
    if !(ptOut pr.2) || !(serves c (ptClass pr.2) || (ptClass pr.2 == 3 && stPclass sr == c)) then s
    else if !(s.staState (ptStation pr.2) == saONLINE) then s.lostOuts (ptStation pr.2) [pr.1] pm
    else if !(stAelzon sr) && !s.laneServes then s.agePoint pr.1 pm
    else s

/-- OUTPUT_PHASE_OPEN (R106 step 4, R630). While the current-frank register holds 0 the fabric builds no frames, and
output points keep value and quality (R324). -/
def State.outputOpen (s : State) (c : Nat) : State :=
  let s := s.setRound c { s.round c with phase := .output, outStart := s.pmNow }
  let s := { s with net := { s.net with cls := c } }
  if s.pms.frMux == 0 || s.pwr.pfail then s
  else
    let s := s.allPoints.foldl (fun s pr => s.outLost c s.pmNow pr) s
    let s := s.stations.foldl (fun s nr => s.outStation c nr) s
    match s.pwr.move with
    | some m => { s with pwr := { s.pwr with move := some { m with classes := m.classes.filter fun k => !(k == c) } } }
    | none => s

def execOutputPhaseOpen (w : When) (cls : Scan) (s : State) : Out :=
  let s := s.advance w
  .next (if s.good .fab && !(cls == .e) && (s.round (scanNum cls)).phase == .closed
      && decide ((s.round (scanNum cls)).period / 2 ≤ s.roundAge (scanNum cls)) then s.outputOpen (scanNum cls)
    else s)

/-! ## Acknowledgements -/

/-- The message of a station with a TAG. -/
def Station.msg? (x : Station) (tag : Nat) : Option OutMsg := x.out.find? fun m => m.tag == tag

/-- Takes a message out of the list in flight. -/
def State.dropMsg (s : State) (n tag : Nat) : State :=
  let x := s.sta n
  s.setSta n { x with out := x.out.filter fun m => !(m.tag == tag) }

/-- The start of the phase that a round is in or had last (R98). -/
def Round.phasePm (r : Round) : Postmark :=
  match r.phase with
  | .input => r.start
  | .closed => r.start
  | _ => r.outStart

/-- The delivery of a message fails (R111): row O4 for its points, the station OFFLINE with cause 2, but not in the quiesced
rounds of its port (R83). While the current-frank register holds 0, points keep value and quality (R324). -/
def State.failMsg (s : State) (n : Nat) (m : OutMsg) : State :=
  let s := s.dropMsg n m.tag
  if s.pms.frMux == 0 then s
  else
    let s := s.lostOuts n m.pts (s.round m.cls).phasePm
    if s.staState n == saOFFLINE || s.staState n == saDISABLED
      || (match s.staRec n with | some r => s.quiescing (stPort r) | none => false) then s
    else s.staOffline n 2 (s.round m.cls).start

/-- A message to a lane-served station that is still open when its round ends with no lane active: it neither failed nor was
delivered, and its points become STALE (R109). An image is due again. -/
def State.unwritten (s : State) (n : Nat) (m : OutMsg) : State :=
  let s := m.pts.foldl (fun s p => s.agePoint p (s.round m.cls).phasePm) (s.dropMsg n m.tag)
  if m.image then s.setSta n { s.sta n with imageDue := true } else s

/-- Every message of a station in flight fails, with no change of its state: before an admission and when it is DISABLED. -/
def State.endMsgs (s : State) (n : Nat) : State :=
  let ms := (s.sta n).out
  let s := s.setSta n { s.sta n with out := [] }
  ms.foldl (fun s m => s.lostOuts n m.pts (s.round m.cls).phasePm) s

/-- A switching was acknowledged (R310): OUTPT takes the new level, it counts in GOV_LDn, 16#6001, source 127 fires. INIT and
LIMIT follow R96 for the new value: the point has been updated, and lies within its range or not (DESIGN CHOICE, log 72). -/
def State.switchDone (s : State) (m : OutMsg) (sw : Switching) (zxest : Bool) : State :=
  let s := m.pts.foldl (fun s p =>
    let q := (s.point p).qual
    let limit := match s.ptRec p with | some r => ptLimit r sw.level | none => false
    s.setPoint p (if qGet q qFORCED then (s.point p).value else sw.level) (qPuts q [(qINIT, false), (qLIMIT, limit)])
      s.pmNow) s
  let s := (s.incWord (Reg.GOV_LD1 sw.load)).perfEvent 2 9 0 1
  let s := s.record 0x6001 ([n2w sw.load, sw.level] ++ words64 m.tpm ++ [n2w (b2n (sw.zxest || zxest)), n2w sw.cause])
  s.fireWhere (fun src param => src == 127 && (param == n2w sw.feeder || param == 0xFF)) false (n2w sw.load)

/-- A message was acknowledged: row O3, row O4 for the channels that the ACK lists; a switching whose own channel is listed was
not applied. The points of a switching change at the acknowledgement (log 72), others at the start of the output phase (R98). An
acknowledged IMAGE ends an admission (R116, R126). -/
def State.deliver (s : State) (n : Nat) (m : OutMsg) (bad : Nat → Bool) (late : Bool) : State :=
  let s := s.dropMsg n m.tag
  let s := match m.sw with | some sw => if m.pts.any bad then s else s.switchDone m sw late | none => s
  let pm := if m.sw.isSome then s.pmNow else (s.round m.cls).outStart
  let s := m.pts.foldl (fun s p => s.outQual (!(bad p)) pm p) s
  if m.image then s.admitStation n else s

/-- Changes a message in flight. -/
def State.mapMsg (s : State) (n tag : Nat) (f : OutMsg → OutMsg) : State :=
  let x := s.sta n
  s.setSta n { x with out := x.out.map fun k => if k.tag == tag then f k else k }

/-- Sends a message again with the same TAG, at most three attempts in all (R111). -/
def State.resendMsg (s : State) (n : Nat) (m : OutMsg) : State :=
  match s.staRec n with
  | none => s
  | some r =>
    let s := s.mapMsg n m.tag fun k => { k with
      attempts := m.attempts + 1, ns := if stAelzon r then none else some s.ns, segs := [], badch := [] }
    (s.fabSend m.cls r m.bytes).perfEvent 2 4 0 1

/-- The port discards an output segment whose frank is no longer the current one (R22 to R24): counted, 16#7010. The
attempt does not count, and the fabric builds the message once more with the current frank and the same TAG (R111). -/
def State.fabStale (s : State) (n : Nat) (seg : List Byte) : State :=
  let s := s.staleMux (segFrank seg)
  match (s.sta n).msg? (segTag seg), s.staRec n with
  | some m, some r =>
    if s.pms.frMux == 0 || !(segFrank (m.bytes.headD []) == segFrank seg) then s
    else
      let bytes := m.bytes.map (segRefrank s.pms.frMux)
      let s := s.mapMsg n m.tag fun k => { k with bytes := bytes, ns := none, segs := [], badch := [] }
      (s.fabSend m.cls r bytes).perfEvent 2 4 0 1
  | _, _ => s

/-- A segment of the fabric has left the module: ANSTO runs from the last one of a message and from a query (R116, R120), and a
SYNC gives its FOLLOW the postmark (R127). -/
def State.fabSent (s : State) (n : Nat) (seg : List Byte) (pm : Postmark) : State :=
  let x := s.sta n
  let tag := segTag seg
  if segOutput seg then (if segLast seg then s.mapMsg n tag fun k => { k with ns := some s.ns } else s)
  else if segType seg == 5 then
    if x.syncTag == some tag then s.setSta n { x with syncPm := pm, syncNs := some s.ns } else s
  else s.setSta n { x with polls := x.polls.map fun p => if p.tag == tag then { p with ns := s.ns } else p }

/-- An Aelzon ACK whose last segment has arrived, by STAT (R126); 16#7010 names the frank that the message carried (R343). -/
def State.ackDone (s : State) (n : Nat) (m : OutMsg) (stat : Nat) (badch : List Nat) : State :=
  if stat == 0 then s.deliver n m (fun _ => false) false
  else if stat == 1 then
    let s := (s.satWord (Reg.PMS_STALE 3)).record 0x7010 [3, segFrank (m.bytes.headD [])]
    s.failMsg n m
  else if stat == 2 then (if m.attempts < 3 then s.resendMsg n m else s)
  else if stat == 3 then
    let chOf := fun p => match s.ptRec p with | some r => ptAddr r | none => 0
    let bad := fun p => badch.isEmpty || badch.contains (chOf p)
    let first := (m.pts.filter bad).headD 0
    (s.deliver n m bad false).record 0x2005 [n2w n, 3, n2w first]
  else if stat == 4 then s.deliver n m (fun _ => false) true
  else s

/-- Whether a segment is acceptable (R118, R119): its check passed, VER 1, its length fits. -/
def segOk (g : Segment) (typ : Nat) : Bool := g.crcOk && g.lenOk && g.ver == 1 && g.typ == typ

/-- Whether a station's frames reach the fabric: FAB and NET good, the port not quiet and not in bus-off (R439). -/
def State.staReach (s : State) (n : Nat) : Option Rec :=
  if s.good .fab && s.good .net then
    (s.staRec n).filter fun r => stAelzon r && !(s.quiet (stPort r))
      && !(decide (stPort r < 24) && s.fld (F.FPT_PG_STATUS_STATE (stPort r)) == 4)
  else none

/-- AELZON_ACK_RECEIVED: an ACK segment (R126); the answer counts when its last segment has arrived. -/
def State.ackSeg (s : State) (n : Nat) (g : Segment) : State :=
  match (s.sta n).msg? g.tag with
  | none => s
  | some m =>
    let segs := if m.segs.contains g.idx then m.segs else g.idx :: m.segs
    let m' := { m with segs := segs, badch := m.badch ++ (if g.stat == 3 then g.entries.map (·.ch) else []) }
    let x := s.sta n
    let s := s.setSta n { x with out := x.out.map fun k => if k.tag == m.tag then m' else k }
    if g.total ≤ segs.length then s.ackDone n m' g.stat m'.badch else s

def execAelzonAckReceived (w : When) (n : Nat) (g : Segment) (sfrank : Word) (s : State) : Out :=
  let s := s.advance w
  .next (match s.staReach n with
    | some r =>
      let s := s.canFabIn r 3 g.crcOk (segIn g (leBytes 4 sfrank.toNat ++ leBytes 4 0))
      if segOk g 0x14 then (s.perfEvent 2 3 0 1).ackSeg n g else s
    | none => s)

/-- OUTPUT_ACK_TIMEOUT: a message not acknowledged within ANSTO is sent again, or fails after the third attempt (R111);
none while no lane serves the station (R109). -/
def State.ackTimeout (s : State) (n : Nat) (r : Rec) : State :=
  match (s.sta n).out.find? fun m => (match m.ns with | some t => decide (t + stAnstoNs r ≤ s.ns) | none => false) with
  | none => s
  | some m => if m.attempts < 3 then s.resendMsg n m else s.failMsg n m

def execOutputAckTimeout (w : When) (n : Nat) (s : State) : Out :=
  let s := s.advance w
  .next (match s.staRec n with
    | some r => if s.good .fab && (stAelzon r || s.laneServes) then s.ackTimeout n r else s
    | none => s)

/-- AELZON_FOLLOW_SEND: the FOLLOW of a SYNC goes out within 5 ms of the SYNC's departure (R127). -/
def State.followSend (s : State) (n : Nat) (r : Rec) : State :=
  let x := s.sta n
  match x.syncTag, x.syncNs with
  | some t, some ns =>
    let s := s.setSta n { x with syncTag := none, syncNs := none }
    if s.ns ≤ ns + 5000000 then (s.fabSend 2 r [segFollow t x.syncPm]).perfEvent 2 4 0 1 else s
  | _, _ => s

def execAelzonFollowSend (w : When) (n : Nat) (s : State) : Out :=
  let s := s.advance w
  .next (match s.staRec n with
    | some r => if s.good .fab then s.followSend n r else s
    | none => s)

/-! ## Input frames -/

/-- A station has delivered in an input phase (R112, R130): MISS 0, AGE counts from the start of that phase. A delivery in its
poll class makes AGE read 0 until that class goes by without one. -/
def State.delivered (s : State) (n c : Nat) : State :=
  let x := s.sta n
  let polls := x.polls.map fun p => if p.cls == c then { p with delivered := true } else p
  let own := match s.staRec n with | some r => stPclass r == c | none => false
  (s.setSta n { x with polls := polls, ageBase := (s.round c).start, fresh := x.fresh || own }).setFld (F.FPT_STA_MISS n) 0

/-- The entries of an INPUT in a phase of class `c` (R121, R123). -/
def State.inputEntries (s : State) (n c : Nat) (es : List ChanEntry) : State :=
  es.foldl (fun s e =>
    match s.inputAt n e.ch with
    | some (p, r) =>
      if serves c (ptClass r) && !e.bad then
        let s := s.receive p r e.value s.pmNow
        s.setRound c { s.round c with recv := p :: (s.round c).recv }
      else s
    | none => s) s

/-- AELZON_INPUT_RECEIVED (R107, R116, R123): applied when the station's inputs are accepted, the TAG is that of the POLL of a
class whose input phase is open; otherwise discarded. -/
def State.aelzonInput (s : State) (n : Nat) (g : Segment) : State :=
  match (s.sta n).polls.find? fun p => p.tag == g.tag && !p.ident with
  | none => s.perfEvent 2 3 0 1
  | some p =>
    let s := s.perfEvent 2 3 0 1
    if !((s.round p.cls).phase == .input) then s.perfEvent 2 5 0 1
    else if s.inputsFrom n then (s.delivered n p.cls).inputEntries n p.cls g.entries
    else s

def execAelzonInputReceived (w : When) (n : Nat) (g : Segment) (s : State) : Out :=
  let s := s.advance w
  .next (match s.staReach n with
    | some r =>
      let s := s.canFabIn r 1 g.crcOk (segIn g [])
      if segOk g 0x11 then s.aelzonInput n g else s
    | none => s)

/-- Class-E entries wait for the first input phase of any class; one that is open takes them at once (R108). -/
def State.reportE (s : State) (n : Nat) (es : List ChanEntry) : State :=
  let es := es.filter fun e => match s.inputAt n e.ch with | some (_, r) => ptClass r == 3 | none => false
  let s := { s with fab := { s.fab with
    eQueue := s.fab.eQueue ++ es.map fun e => ⟨n, e.ch, e.bad, e.value, s.pmNow⟩ } }
  match [0, 1, 2].find? fun c => (s.round c).phase == .input with
  | some c => s.drainE c
  | none => s

/-- AELZON_CHG_RECEIVED (R108, R129). -/
def State.aelzonChg (s : State) (n : Nat) (g : Segment) : State := (s.perfEvent 2 3 0 1).reportE n g.entries

def execAelzonChgReceived (w : When) (n : Nat) (g : Segment) (s : State) : Out :=
  let s := s.advance w
  .next (match s.staReach n with
    | some r =>
      let s := s.canFabIn r 2 g.crcOk (segIn g [])
      if segOk g 0x12 && s.inputsFrom n then s.aelzonChg n g else s
    | none => s)

/-- The identity of a station is confirmed (R116): the full output image is due; a station that is not ONLINE is ADMITTING. -/
def State.confirmed (s : State) (n : Nat) (fwver : Word) : State :=
  let s := s.endMsgs n
  let x := s.sta n
  let polls := x.polls.map fun p => if p.ident then { p with delivered := true } else p
  let s := s.setSta n { x with imageDue := true, fwver := fwver, polls := polls.filter fun p => !p.ident || x.readmit }
  if x.readmit then s else s.setStaState n saADMITTING

/-- AELZON_IDA_RECEIVED (R116, R124): an answer within ANSTO of the query admits the station when the identity fits, and
otherwise records 16#2003 alone. -/
def State.aelzonIda (s : State) (n : Nat) (r : Rec) (g : Segment) (ident : BitVec 128) (fwver : Word) : State :=
  match (s.sta n).polls.find? fun p => p.tag == g.tag && p.ident && decide (s.ns ≤ p.ns + stAnstoNs r) with
  | none => s
  | some _ =>
    if stIdent r == 0 || stIdent r == ident.toNat then s.confirmed n fwver
    else s.record 0x2003 ([n2w n] ++ words64 (BitVec.ofNat 64 ident.toNat))

def execAelzonIdaReceived (w : When) (n : Nat) (g : Segment) (ident : BitVec 128) (sfrank fwver : Word) (s : State) :
    Out :=
  let s := s.advance w
  .next (match s.staReach n with
    | some r =>
      let s := s.canFabIn r 3 g.crcOk (segIn g (leBytes 16 ident.toNat ++ leBytes 4 sfrank.toNat ++ leBytes 4 fwver.toNat ++ leBytes 4 0))
      if segOk g 0x13 && (s.staState n == saABSENT || s.staState n == saOFFLINE || (s.sta n).readmit) then
        (s.perfEvent 2 3 0 1).aelzonIda n r g ident fwver
      else s
    | none => s)

/-! ## Stations served by the lane (R109, R114) -/

/-- Values as channel entries. -/
def valEntries (vs : List (Nat × Word)) : List ChanEntry := vs.map fun v => ⟨v.1, false, v.2⟩

/-- Values that the lane has read for the request with TAG `tag` (R113): they enter the points while the input phase of that
request is open, and are discarded after it (R107). -/
def State.laneValues (s : State) (n tag : Nat) (vs : List (Nat × Word)) : State :=
  match (s.sta n).polls.find? fun p => p.tag == tag && !p.ident with
  | none => s
  | some p =>
    if !((s.round p.cls).phase == .input) then s.perfEvent 2 5 0 1
    else if s.inputsFrom n then (s.delivered n p.cls).inputEntries n p.cls (valEntries vs)
    else s

/-- Whether a point's write belongs to the request that carried the point at ADDR `first`. -/
def State.sameRequest (s : State) (sr : Rec) (m : OutMsg) (first p : Nat) : Bool :=
  match s.ptRec p with
  | none => false
  | some r =>
    ptAddr r == first || (s.writeRequests sr m.pts).any fun q => mbHolds q r
      && m.pts.any fun k => (match s.ptRec k with | some x => ptAddr x == first && mbHolds q x | none => false)

/-- The points of a message that `hit` selects are answered: written ones take row O3 and need no further write while
their value stands; those of a failed request row I4 (R114). A message with no point left is done. -/
def State.laneWritten (s : State) (n : Nat) (m : OutMsg) (ok : Bool) (hit : Nat → Bool) : State :=
  let ps := (m.pts.zip m.vals).filter fun e => hit e.1
  let pm := (s.round m.cls).outStart
  let s := ps.foldl (fun s e =>
    if ok then
      let x := s.sta n
      let s := s.outQual true pm e.1
      if (s.point e.1).value == e.2 then s.setSta n { x with dirty := x.dirty.filter fun p => !(p == e.1) } else s
    else s.missedInput e.1 pm) s
  let rest := (m.pts.zip m.vals).filter fun e => !(hit e.1)
  if rest.isEmpty then
    let s := s.dropMsg n m.tag
    if m.image then s.admitStation n else s
  else s.mapMsg n m.tag fun k => { k with pts := rest.map (·.1), vals := rest.map (·.2) }

/-- The device has turned ReadPropertyMultiple down (R113): from now on, and for the request at hand, ReadProperty. -/
def State.readSingly (s : State) (n tag : Nat) (r : Rec) : State :=
  let s := s.setSta n { s.sta n with single := true }
  let x := s.sta n
  s.setSta n { x with polls := x.polls.map fun p => if p.tag == tag then { p with reqs := s.readRequests p.cls n tag r } else p }

/-- LANE_PROTOCOL_RESPONSE: values read, points written, or an exception, which counts as a delivery in the phase of the
request that it answers and records 16#2005 (R114). The first successful poll of a station that is not ONLINE, within ANSTO,
stands for its identity answer (R116). Class-E values of a COV notification wait for their phase (R108). -/
def State.laneAnswer (s : State) (n : Nat) (r : Rec) (ans : LaneAnswer) : State :=
  let chOf := fun p => match s.ptRec p with | some q => ptAddr q | none => 0
  let ident := fun tag => (s.sta n).polls.any fun p => p.tag == tag && p.ident && decide (s.ns ≤ p.ns + stAnstoNs r)
  match ans with
  | .values tag vs => if ident tag then s.confirmed n 0 else s.laneValues n tag vs
  | .registers tag vs =>
    if ident tag then s.confirmed n 0 else s.laneValues n tag (vs.map fun v => (v.1, regsWord (stWswap r) v.2))
  | .changes vs => if s.inputsFrom n then s.reportE n (valEntries vs) else s
  | .written tag addrs =>
    match (s.sta n).msg? tag with
    | some m => s.laneWritten n m true fun p => addrs.contains (chOf p)
    | none => s
  | .exception tag code first =>
    let s := s.record 0x2005 [n2w n, n2w code, n2w first]
    match (s.sta n).polls.find? fun p => p.tag == tag && !p.ident, (s.sta n).msg? tag with
    | some p, _ =>
      if !((s.round p.cls).phase == .input) then s.perfEvent 2 5 0 1
      else if s.inputsFrom n then s.delivered n p.cls else s
    | none, some m => s.laneWritten n m false fun p => s.sameRequest r m (chOf first) p
    | none, none => s
  | .noMultiple tag => if stBacnet r then s.readSingly n tag r else s

def execLaneProtocolResponse (w : When) (n : Nat) (ans : LaneAnswer) (s : State) : Out :=
  let s := s.advance w
  .next (match s.staRec n with
    | some r => if s.good .fab && s.laneServes && !(stAelzon r) then s.laneAnswer n r ans else s
    | none => s)

/-! ## The end of a round -/

/-- DIS takes effect at the round boundary of the poll class (R117): DISABLED with 16#2002 cause 3, or OFFLINE when DIS
is cleared. -/
def State.applyDis (s : State) (c : Nat) (nr : Nat × Rec) : State :=
  let n := nr.1
  if !(stPclass nr.2 == c) then s
  else if s.flag (F.FPT_STA_DIS n) && !(s.staState n == saDISABLED) then
    let s := s.endMsgs n
    let s := s.setSta n { s.sta n with imageDue := false, fresh := false, readmit := false }
    (s.setStaState n saDISABLED).record 0x2002 ([n2w n, 3] ++ words64 (s.round c).start)
  else if !(s.flag (F.FPT_STA_DIS n)) && s.staState n == saDISABLED then s.setStaState n saOFFLINE
  else s

/-- The four words of a point's record. -/
def State.ptRecord (s : State) (p : Nat) : List Word := (List.range 4).map (s.ptWord p)

/-- Copies every changed record into the point-store mirror, 256 records to a Registry group (R137, R411). -/
def State.writeMirror (s : State) : State :=
  let l := (s.allPoints.map fun pr => (pr.1, s.ptRecord pr.1)).filter fun e => !(s.pm.mirror.get? e.1 == some e.2)
  if s.good .pmm then
    ((if l.isEmpty then [] else chunks 256 l).foldl (fun s g => s.persist 2 64 (16 * g.length) (.mirror g)) s).perfEvent 2 11 0
      l.length
  else s

/-- ROUND_END (R106 step 6): deliveries still open fail (R111; but those of the lane while none is active, R109), the
offline treatment of R131 acts on points of the class whose station went OFFLINE in this round, but for those received in it
(R111), DIS takes effect, class S writes the mirror. -/
def State.roundEnd (s : State) (c : Nat) : State :=
  let s := s.stations.foldl (fun s nr =>
    ((s.sta nr.1).out.filter fun m => m.cls == c).foldl (fun s m =>
      if stAelzon nr.2 || s.laneServes then s.failMsg nr.1 m else s.unwritten nr.1 m) s) s
  let s := s.allPoints.foldl (fun s pr =>
    let n := ptStation pr.2
    if !(ptInternal pr.2) && !(ptOut pr.2) && treatClass (ptClass pr.2) == c && (s.sta n).lostIn.contains c
      && s.staState n == saOFFLINE && !((s.round c).recv.contains pr.1) then s.offlineInput pr.1 pr.2 n (s.round c).outStart else s) s
  let s := s.stations.foldl (fun s nr => s.applyDis c nr) s
  let s := s.stations.foldl (fun s nr =>
    s.setSta nr.1 { s.sta nr.1 with lostIn := (s.sta nr.1).lostIn.filter fun k => !(k == c) }) s
  let s := if (s.round c).eDefer == 0 then s else s.record 0x2006 [n2w (s.round c).eDefer]
  let s := s.setRound c { s.round c with phase := .idle, recv := [], eTaken := 0, eDefer := 0 }
  let s := { s with net := { s.net with cans := s.net.cans.map fun (e : Nat × Can) => (e.1, e.2.cancelFab c) } }
  let s := s.cancelFabricTx c
  if c == 2 then s.writeMirror else s

def execRoundEnd (w : When) (cls : Scan) (s : State) : Out :=
  let s := s.advance w
  .next (if s.good .fab && !(cls == .e) && (s.round (scanNum cls)).phase == .output
      && decide ((s.round (scanNum cls)).period ≤ s.roundAge (scanNum cls)) then s.roundEnd (scanNum cls)
    else s)

/-- STATION_DISABLE_WRITE: a write of FPT_STA.DIS is stored, to take effect at the next round boundary (R117). -/
def State.writeDis (s : State) (who : Who) (n : Nat) (dis : Bool) : State :=
  match s.refuse who (Reg.FPT_STA n) (n2w (b2n dis * 2 ^ 31)) with
  | some c => s.answer c
  | none => (s.setFlag (F.FPT_STA_DIS n) dis).answer ansOK

def execStationDisableWrite (w : When) (who : Who) (n : Nat) (dis : Bool) (s : State) : Out :=
  .next ((s.advance w).writeDis who n dis)

/-! ## Counter access to points (R99, R134 to R139) -/

/-- Whether a session may read a point; a tenant sees its own pigeonhole and pigeonhole 0 (R138). -/
def ptReadable (who : Who) (r : Rec) : Bool := !(who.role == .tenant) || ptPh r == who.ph || ptPh r == 0

/-- The answer that refuses a point access before its rights are judged (R28, R29, R139). -/
def State.refusePoint (s : State) (who : Who) (p : Nat) : Option Nat :=
  if s.longBusy then some ansBUSY else
  match s.ptRec p with
  | none => some (if who.role == .tenant then ansHIDDEN else ansBADADDR)
  | some r => if !(ptReadable who r) then some ansHIDDEN else if !(s.on .fab) then some ansBADSTATE else none

/-- Addresses of the words of a point (R94). -/
def ptAddrOf (p j : Nat) : Nat := 0x1000000 + 16 * p + 4 * j

/-- A read of word0 latches words 1 to 3 of the record (R99). -/
def State.latchPoint (s : State) (p : Nat) : State :=
  let l := (s.latch.put (ptAddrOf p 1) (s.ptWord p 1)).put (ptAddrOf p 2) (s.ptWord p 2)
  { s with latch := l.put (ptAddrOf p 3) (s.ptWord p 3) }

/-- POINT_WORD0_READ. -/
def execPointWord0Read (w : When) (who : Who) (p : Nat) (s : State) : Out :=
  let s := s.advance w
  .next (match s.refusePoint who p with
    | some c => s.answer c
    | none => (s.latchPoint p).answer ansOK [s.ptWord p 0])

/-- The answer that refuses a write of word0 (R138, R139): every session writes TWR points, a tenant those of its own
pigeonhole, installer and maker forced points too. -/
def State.refuseValue (s : State) (who : Who) (p : Nat) : Option Nat :=
  if s.longBusy then some ansBUSY else
  match s.ptRec p with
  | none => s.refusePoint who p
  | some r =>
    if who.role == .tenant && !(ptTwr r && ptPh r == who.ph) then some ansHIDDEN
    else if !(who.role == .tenant) && !(ptTwr r || (who.im && qGet (s.point p).qual qFORCED)) then some ansDENIED
    else if !(s.on .fab) || !(s.armed) then some ansBADSTATE
    else none

/-- A write to an internal point (R134), or to a forced point (R135), with TENANTW by R136. A forced point that an
operator or a tenant writes keeps its value. -/
def State.writeValue (s : State) (who : Who) (p : Nat) (r : Rec) (v : Word) : State :=
  let o := s.point p
  let tenant := who.role == .tenant
  let v' := ptClamp r v
  if qGet o.qual qFORCED then
    if who.im then
      s.setPoint p v' (qPuts o.qual [(qINIT, false), (qLIMIT, ptLimit r v), (qTENANTW, false)]) s.pmNow
    else s.setPoint p o.value (qPut o.qual qTENANTW tenant) s.pmNow
  else
    s.setPoint p v' (qPuts o.qual [(qGOOD, true), (qINIT, false), (qSTALE, false), (qSUBST, false), (qCOMMLOST, false),
      (qLIMIT, ptLimit r v), (qTENANTW, tenant)]) s.pmNow

/-- POINT_VALUE_WRITE. -/
def State.valueWrite (s : State) (who : Who) (p : Nat) (v : Word) : State :=
  match s.refuseValue who p, s.ptRec p with
  | some c, _ => s.answer c
  | none, some r => (s.writeValue who p r v).answer ansOK
  | none, none => s.answer ansBADADDR

def execPointValueWrite (w : When) (who : Who) (p : Nat) (v : Word) (s : State) : Out :=
  .next ((s.advance w).valueWrite who p v)

/-- Life-cycle states of KEY_STATUS.LC (R505). -/
def lcBLANK : Nat := 0
def lcMAKER : Nat := 1
def lcFIELD : Nat := 2
def lcSERVICE : Nat := 3
def lcRETIRED : Nat := 4
def State.lc (s : State) : Nat := s.fld F.KEY_STATUS_LC

/-- The answer that refuses a write of word1 (R135): installer and maker only; in HOLD or STOP, or in MAKER or SERVICE. -/
def State.refuseForce (s : State) (who : Who) (p : Nat) : Option Nat :=
  if s.longBusy then some ansBUSY else
  match s.ptRec p with
  | none => s.refusePoint who p
  | some _ =>
    if who.role == .tenant then some ansHIDDEN
    else if !who.im then some ansDENIED
    else if !(s.on .fab) || !(s.armed) then some ansBADSTATE
    else if s.mode == modeRUN && !(s.lc == lcMAKER || s.lc == lcSERVICE) then some ansBADSTATE
    else none

/-- Sets or clears FORCED; a change records 16#2004 (R135). -/
def State.setForced (s : State) (who : Who) (p : Nat) (b : Bool) : State :=
  let o := s.point p
  if qGet o.qual qFORCED == b then s
  else (s.setPoint p o.value (qPut o.qual qFORCED b) s.pmNow).recordBy who 0x2004
    [n2w p, n2w (b2n b), n2w who.role.num, n2w who.session]

/-- POINT_FORCE_WRITE: word1 bit 4 alone counts. -/
def State.forceWrite (s : State) (who : Who) (p : Nat) (v : Word) : State :=
  match s.refuseForce who p with
  | some c => s.answer c
  | none => (s.setForced who p (v.bit 4)).answer ansOK

def execPointForceWrite (w : When) (who : Who) (p : Nat) (v : Word) (s : State) : Out :=
  .next ((s.advance w).forceWrite who p v)

/-- A commit by the program writes an output or internal point (row O2, R134); a FORCED point keeps its value (R135). An output
whose value it changes is to be sent (R108, R630). -/
def State.commitPoint (s : State) (pm : Postmark) (p : Nat) (v : Word) : State :=
  match s.ptRec p with
  | none => s
  | some r =>
    let o := s.point p
    let forced := qGet o.qual qFORCED
    let q :=
      if ptInternal r then
        qPuts o.qual [(qGOOD, true), (qINIT, false), (qSTALE, false), (qSUBST, false), (qCOMMLOST, false),
          (qLIMIT, ptLimit r v), (qTENANTW, false)]
      else qPuts o.qual [(qSUBST, false), (qINIT, false), (qLIMIT, ptLimit r v), (qTENANTW, false)]
    let v' := if forced then o.value else ptClamp r v
    let s := s.setPoint p v' q pm
    if ptInternal r || v' == o.value then s
    else
      let x := s.sta (ptStation r)
      s.setSta (ptStation r) { x with dirty := if x.dirty.contains p then x.dirty else p :: x.dirty }

/-- FAB starts (R115, R130, R137, rows I1 and O1): declared points take their value from the mirror with quality INIT
only, stations are ABSENT and age from now. -/
def State.startFab (s : State) : State :=
  let pts := s.allPoints.foldl (fun (t : Tab Point) pr =>
    let kept := s.pm.mirror.get? pr.1
    t.put pr.1 ⟨(kept.getD []).headD 0, 0x80, s.pmNow, kept.isSome⟩) []
  let sts := s.stations.foldl (fun (t : Tab Station) nr => t.put nr.1 (.new s.pmNow)) []
  { s with fab := ⟨s.pmNow, pts, sts, [], [], [], s.fab.tag⟩ }

end Sys2Proof.Machine
end

