-- ==== Sys2Proof/Machine/Trig.lean ====
section
/-! DEFINITION. The mathematics of the metering DSP (R272, R275): square root, cosine and argument, each to 2^-64
(assumption log 18). -/

namespace Sys2Proof.Machine

/-- 2^64. -/
def q64 : Int := 2 ^ 64

/-- A number cut to a multiple of 2^-64. -/
def cut64 (q : Rat) : Rat := ((q * q64).floor : Rat) / q64

/-- The square root. -/
def sqrtQ (q : Rat) : Rat := if q ≤ 0 then 0 else (isqrt (q * q64 * q64).floor.toNat : Rat) / q64

/-- cos(2πn/256) in units of 2^-64, for the first quarter. -/
def cosQuarter : List Int :=
  [18446744073709551616, 18441188259278644697, 18424524162600791837, 18396761821504721065,
   18357917958986607856, 18308015973136767550, 18247085923045520652, 18175164510696720811,
   18092295058859852118, 17998527484994012712, 17893918271179503955, 17778530430095137256,
   17652433467061752556, 17515703338174812021, 17368422404551288317, 17210679382718407432,
   17042569291174129989, 16864193393151561058, 16675659135621764998, 16477080084571727796,
   16268575856596453010, 16050272046846397691, 15822300153373650055, 15584797497922419931] ++
  [15337907143211554842, 15081777806758907629, 14816563771299464606, 14542424791851195003,
   14259525999484601767, 13968037801853939345, 13668135780550014705, 13360000585336402459,
   13043817825332782212, 12719777957210945243, 12388076170470817045, 12048912269865601182,
   11702490555046867136, 11349019697502079460, 10988712614858696456, 10621786342630552901,
   10248461903483781989, 9868964174101025826, 9483521749724130485, 9092366806456920045,
   8695734961410993272, 8293865130778785882, 7886999385919389870, 7475382807543818423] ++
  [7059263338087549767, 6638891632359275195, 6214520906555814904, 5786406785734149389,
   5354807149832443555, 4919981978332814722, 4482193193659413855, 4041704503406151161,
   3598781241489102189, 3153690208319278250, 2706699510092035141, 2258078397289926196,
   1808097102496279522, 1357026677617194445, 905138830610008563, 452705761816584062,
   0]

/-- cos(2πn/256) in units of 2^-64. -/
def cos256 (n : Nat) : Int :=
  let k := n % 256
  if k ≤ 64 then cosQuarter.getD k 0 else if k ≤ 128 then -(cosQuarter.getD (128 - k) 0)
  else if k ≤ 192 then -(cosQuarter.getD (k - 128) 0) else cosQuarter.getD (256 - k) 0

/-- sin(2πn/256). -/
def sin256 (n : Nat) : Int := cos256 (n + 192)

/-- The sum of a cycle's samples times e^(-j2πn/256) (R272): real and imaginary part, in units of 2^-64. -/
def phasorSum (l : List Int) : Int × Int :=
  let z := l.foldl (fun (a : Int × Int × Nat) x => (a.1 + x * cos256 a.2.2, a.2.1 - x * sin256 a.2.2, a.2.2 + 1)) (0, 0, 0)
  (z.1, z.2.1)

/-- tan of half the angle whose tangent is t. -/
def halfTan (t : Rat) : Rat := cut64 (t / (1 + sqrtQ (1 + t * t)))

/-- The arctangent of 0 to 1 in degrees. -/
def atanUnit (t : Rat) : Rat :=
  let h := halfTan (halfTan t)
  let h2 := cut64 (h * h)
  let z := (List.range 15).foldl (fun (a : Rat × Rat) i =>
    (a.1 + (if i % 2 == 0 then a.2 else -a.2) / ((2 * i + 1 : Nat) : Rat), cut64 (a.2 * h2))) ((0 : Rat), h)
  cut64 (4 * z.1 * 180 * q64 / 57952155664616982739)

/-- arg(x + jy) in degrees, in (-180, +180] (R272); 0 for 0. -/
def argDeg (x y : Rat) : Rat :=
  let a := ratAbs x
  let b := ratAbs y
  if a == 0 && b == 0 then 0
  else
    let p := if b ≤ a then atanUnit (cut64 (b / a)) else 90 - atanUnit (cut64 (a / b))
    let p := if x < 0 then 180 - p else p
    if y < 0 then (if p == 180 then 180 else -p) else p

/-- An angle in degrees wrapped to (-180, +180]. -/
def wrapDeg (q : Rat) : Rat := if q ≤ -180 then q + 360 else if 180 < q then q - 360 else q

end Sys2Proof.Machine
end

