-- ==== Sys2Proof/Machine/Meter.lean ====
section
/-! DEFINITION. Energy and quantity metering (chapter 9): the quantities of a cycle, the energy registers and their
views, saves and gaps, and the pulse outputs. -/

namespace Sys2Proof.Machine

/-! ## Configuration -/

/-- The METERING record of a group in a list of records. -/
def meOf (cfg : List Rec) (g : Nat) : Rec := (cfg.find? fun r => Rec.u8 r 0 == g).getD []

/-- The correction fields of a channel (R269): 0 to 31 current, 32 to 39 voltage. Offset of GAIN in its record. -/
def chRec (cfg : List Rec) (c : Nat) : Rec × Nat :=
  if c < 32 then (meOf cfg (c / 2), 0x28 + 12 * (c % 2)) else (meOf cfg (c - 32), 0x40)

/-- KI or KV of a channel. -/
def chScale (cfg : List Rec) (c : Nat) : Rat := let r := chRec cfg c; real32D (Rec.w r.1 (r.2 + 8))

/-- GAIN and DELAY of a channel as the section gives them. -/
def chTrim (cfg : List Rec) (c : Nat) : Word × Word := let r := chRec cfg c; (Rec.w r.1 r.2, Rec.w r.1 (r.2 + 4))

/-- The address of a channel's first register. -/
def chAddr (c : Nat) : Nat := if c < 32 then 0x101000 + 16 * c else 0x101200 + 16 * (c - 32)

/-- Elements of a group: voltage channel, current channel, INV. -/
def meElems (r : Rec) : List (Nat × Nat × Bool) :=
  (List.range (min 4 (Rec.u8 r 2))).map fun e => (Rec.u8 r (4 + 4 * e), Rec.u8 r (5 + 4 * e), Rec.bit r (6 + 4 * e) 0)

/-- Fields of PULSE (R291). WIDTH 0 acts as 30. -/
def puGrp (r : Rec) : Nat := Rec.u8 r 0x50
def puReg (r : Rec) : Nat := Rec.u8 r 0x51
def puWidth (r : Rec) : Nat := if Rec.u8 r 0x52 == 0 then 30 else Rec.u8 r 0x52
def puEn (r : Rec) : Bool := Rec.bit r 0x53 0
def puUpp (r : Rec) : Nat := Rec.u32 r 0x54

/-! ## Pulse configuration (R292) -/

def Pulse.new : Pulse := ⟨0, 0, 0, 0, false, 0, 0, false⟩

def State.pulse (s : State) (p : Nat) : Pulse := s.mtr.pulses.getD p .new
def State.setPulse (s : State) (p : Nat) (x : Pulse) : State :=
  { s with mtr := { s.mtr with pulses := s.mtr.pulses.put p x } }

/-- The word of MTR_PULSEp_CFG for a PULSE field. -/
def pulseCfg (r : Rec) : Word :=
  n2w (puGrp r % 16 + puReg r % 8 * 16 + puWidth r * 2 ^ 12 + b2n (puEn r) * 2 ^ 31)

/-- One pulse output takes its configuration: a change of SRCGRP, SRCREG or UPP clears residue and backlog. The first
configuration after a start of MTR is no change (R294). -/
def State.takePulse (s : State) (p : Nat) : State :=
  let r := s.meRec p
  let cfg := pulseCfg r
  let old := s.rd (Reg.MTR_PULSE_CFG p)
  let none_ := old == 0 && s.rd (Reg.MTR_PULSE_UPP p) == 0
  let same := none_ || (old.bits 6 0 == cfg.bits 6 0 && s.rd (Reg.MTR_PULSE_UPP p) == n2w (puUpp r))
  let s := (s.wr (Reg.MTR_PULSE_CFG p) cfg).wr (Reg.MTR_PULSE_UPP p) (n2w (puUpp r))
  if same then s
  else (s.setPulse p { s.pulse p with residue := 0, due := 0, count := 0 }).setFld (F.MTR_PULSE_BACK_BACK p) 0

/-- The active lane applies the pulse configuration; the pulse-output stage accepts it with a current frank alone, and
otherwise counts it in PMS_STALE2 (R22, R24, R292). Without a lane nothing is applied. -/
def State.applyPulses (s : State) : State :=
  let news := (List.range 8).filter fun p =>
    !(s.rd (Reg.MTR_PULSE_CFG p) == pulseCfg (s.meRec p) && s.rd (Reg.MTR_PULSE_UPP p) == n2w (puUpp (s.meRec p)))
  if news.isEmpty || !s.laneUp || !(s.good .mtr) then s
  else if s.pms.frPulse == s.rd Reg.PMS_FRANK then news.foldl (fun s p => s.takePulse p) s
  else (s.satWord (Reg.PMS_STALE 2)).record 0x7010 [2, s.rd Reg.PMS_FRANK]

/-! ## Taking a METERING section (R271) -/

/-- A register that is SIGNED keeps no flags of its view, and its WINSTAT reads 0 (R282). -/
def State.dropView (s : State) (g i : Nat) : State :=
  { (s.wr (Reg.MTR_G_WINSTAT g i) 0) with mtr := { s.mtr with views := s.mtr.views.put (6 * g + i) ⟨0, false, false⟩ } }

/-- A group takes its new record: a register whose QTY or MODE changes starts at 0, with its old value in 16#5003; EN
shows. -/
def State.takeGroup (s : State) (old new : List Rec) (g : Nat) : State :=
  let o := meOf old g
  let n := meOf new g
  let s := (List.range 6).foldl (fun s i =>
    if meQty o i == meQty n i && meMode o i == meMode n i then s
    else
      let e := s.energy g i
      let s := { s with mtr := { s.mtr with energy := s.mtr.energy.put (6 * g + i) 0 } }
      let s := if meMode n i == 0 then s.dropView g i else s
      s.record 0x5003 ([n2w g, n2w i] ++ words64 (BitVec.ofNat 64 e))) s
  s.setFlag (F.MTR_G_STATUS_EN g) (meEn n)

/-- The trims of the channels whose correction fields differ go into their registers, in force with the section. -/
def State.takeTrims (s : State) (old new : List Rec) : State :=
  (List.range 40).foldl (fun (s : State) c =>
    let t := chTrim new c
    if chTrim old c == t then s
    else
      let s : State := { s with mtr := { s.mtr with trims := s.mtr.trims.put c t } }
      (s.wr (chAddr c + 8) t.1).wr (chAddr c + 12) t.2) s

/-- The section takes effect. -/
def State.takeMetering (s : State) (new : List Rec) : State :=
  let old := s.recs 17
  let s := (List.range 16).foldl (fun s g => s.takeGroup old new g) s
  let s := s.takeTrims old new
  let s := { s with man := { s.man with cfg := s.man.cfg.put 17 new }, mtr := { s.mtr with next := none } }
  s.showFly.applyPulses

/-- Trims in force: those that the registers hold. -/
def State.loadTrims (s : State) : State :=
  { s with mtr := { s.mtr with trims := (List.range 40).map fun c => (c, s.rd (chAddr c + 8), s.rd (chAddr c + 12)) } }

/-- The postmark cycle boundary as metering sees it: the ended cycle waits for its METERING_CYCLE_END with the trims it
ran with, a written trim takes effect (R268), and a new section after the cycle has been metered (R271, log 19). -/
def State.mtrBoundary (s : State) : State :=
  if s.on .mtr && !s.pwr.pfail then
    let s := match s.mtr.next, s.mtr.due with
      | some n, true => s.takeMetering n
      | _, _ => s
    let m := s.mtr
    let s := { s with mtr := { m with ended := some (s.ns - m.startNs, s.pmNow), startNs := s.ns, was := m.trims, due := m.next.isSome } }
    s.loadTrims
  else s

/-! ## One cycle (R263 to R275) -/

/-- A channel in one cycle: samples, offset, sum of samples, and the factor from a sample to amperes or volts. -/
structure Chan where
  s : List Int
  off : Rat
  sum : Int
  k : Rat
  ph : Int × Int
  deriving DecidableEq, Repr

/-- Volts at the input per unit of a sample: 24 bits over the full scale of ±1 V (R262, R263; log 18). -/
def sampleV : Rat := 1 / 2 ^ 23

/-- The offset of R265: the mean of the channel's samples over the last cycles. -/
def offsetOf (l : List (Int × Nat)) : Rat :=
  let n : Nat := l.foldl (fun n e => n + e.2) 0
  if n == 0 then 0 else ((l.foldl (fun t e => t + e.1) 0 : Int) : Rat) / (n : Rat)

/-- The resampler's coefficients for a fraction of 1/1,024 sample: a constant input passes as it is (R264). -/
def resampleTaps (f : Nat) : List Rat :=
  let l := (List.range 7).map fun k => Config.resampleTap f k
  l ++ [1 - l.foldl (· + ·) 0]

/-- The channel's value a fraction of `f` / 1,024 sample before the sample at place `i`, from the 4 samples before it, it
and the 3 after it; places before the first one are 0. None where a later sample is missing. -/
def resampled (all : List Int) (i : Int) (f : Nat) : Option Int :=
  if (all.length : Int) ≤ i + 3 then none
  else
    let at_ := fun (j : Int) => if j < 0 then 0 else all.getD j.toNat 0
    some (((resampleTaps f).zip (List.range 8)).foldl (fun (t : Rat) (e : Rat × Nat) => t + e.1 * ((at_ (i - 4 + (e.2 : Int)) : Int) : Rat)) 0).floor

/-- `count` samples of a channel shifted by its DELAY `d` in units of 1/1,024 sample (R263 step 4, R267): sample n is the
channel's value at n - d / 1,024. `all` are the last samples of the cycle before, `past` of them, those of the cycle, and
those that follow it as far as they are given. A shift by whole samples gives these. A place before the first sample since
metering began holds 0; a sample that would be needed and has not been given leaves the value free (log 18). -/
def shifted (all : List Int) (past count : Nat) (d : Int) : List Int :=
  (List.range count).map fun (n : Nat) =>
    let i := (past : Int) + (n : Int) - d / 1024
    if d % 1024 == 0 then
      if i < 0 then 0 else if i < all.length then all.getD i.toNat 0 else Config.resample all d n
    else (resampled all i (d % 1024).toNat).getD (Config.resample all d n)

/-- A channel over `count` samples, with the trims it ran with. -/
def State.chan (s : State) (trims : Tab (Word × Word)) (count : Nat) (samples : List (List Int)) (c : Nat) : Chan :=
  let t := trims.getD c (0, 0)
  let past := s.mtr.tails.getD c []
  let l := samples.getD c []
  let l := shifted (past ++ l) past.length (min count l.length) t.2.toInt
  ⟨l, offsetOf (s.mtr.sums.getD c []), l.foldl (· + ·) 0, sampleV * (t.1.toNat : Rat) / 2 ^ 22 * chScale (s.recs 17) c,
    phasorSum l⟩

/-- The mean product of two channels in site units: Σ a[n] × b[n] / N over the N samples of the stretch, 256 of a whole
cycle. -/
def meanProd (a b : Chan) (n : Rat := 256) : Rat :=
  let p := ((a.s.zip b.s).foldl (fun t e => t + e.1 * e.2) 0 : Int)
  ((p : Rat) - b.off * (a.sum : Rat) - a.off * (b.sum : Rat) + n * a.off * b.off) * a.k * b.k / n

/-- The mean square of a channel. -/
def meanSq (a : Chan) (n : Rat := 256) : Rat := meanProd a a n

/-- The fundamental phasor in site units: real and imaginary part (R272). -/
def fund (a : Chan) (n : Rat := 256) : Rat × Rat :=
  let f := a.k * 2 / n / q64
  ((a.ph.1 : Rat) * f, (a.ph.2 : Rat) * f)

/-- arg of a channel's fundamental in degrees. -/
def chArg (a : Chan) : Rat := argDeg a.ph.1 a.ph.2

/-- P, Q, S of an element, and whether R273 cuts it. -/
def element (v i : Chan) (inv : Bool) (ki : Rat) (gain : Nat) (n : Rat := 256) : Rat × Rat × Rat × Bool :=
  let lim := 50 * ki * (gain : Rat) / 1000000 / 2 ^ 22
  if meanSq i n < lim * lim then (0, 0, 0, true)
  else
    let sg : Rat := if inv then -1 else 1
    let v1 := fund v n
    let i1 := fund i n
    (sg * meanProd v i n, sg * (v1.2 * i1.1 - v1.1 * i1.2) / 2, sqrtQ (meanSq v n) * sqrtQ (meanSq i n), false)

/-- The phase angle of an element in degrees: arg(V1) - arg(I1) (R272). -/
def elemPhase (v i : Chan) (inv : Bool) : Rat :=
  wrapDeg (chArg v - (if inv then argDeg (-i.ph.1) (-i.ph.2) else chArg i))

/-- The phase angles of a group's elements. -/
def State.showPhases (s : State) (chs : List Chan) (g : Nat) : State :=
  let ch := fun c => (chs[c]?).getD ⟨[], 0, 0, 0, (0, 0)⟩
  let es := meElems (s.meRec g)
  (List.range es.length).foldl (fun (s : State) k =>
    let e := es.getD k (0, 0, false)
    { s with mtr := { s.mtr with phi := s.mtr.phi.put (4 * g + k) (elemPhase (ch (32 + e.1)) (ch e.2.1) e.2.2) } }) s

/-- P, Q, S of a group and CREEP (R273, R274) over `n` samples with the trims in force. -/
def State.groupPqs (s : State) (trims : Tab (Word × Word)) (n : Nat) (chs : List Chan) (g : Nat) : Rat × Rat × Rat × Bool :=
  let ch := fun c => (chs[c]?).getD ⟨[], 0, 0, 0, (0, 0)⟩
  (meElems (s.meRec g)).foldl (fun a e =>
    let x := element (ch (32 + e.1)) (ch e.2.1) e.2.2 (chScale (s.recs 17) e.2.1) (trims.getD e.2.1 (0, 0)).1.toNat (n : Rat)
    (a.1 + x.1, a.2.1 + x.2.1, a.2.2.1 + x.2.2.1, a.2.2.2 && x.2.2.2)) (0, 0, 0, true)

/-- RMS, angle and, for voltages, frequency of one channel (R272, R275). -/
def State.showChan (s : State) (chs : List Chan) (ref : Rat) (tns c : Nat) : State :=
  match chs[c]? with
  | none => s
  | some x =>
    let s := s.wr (chAddr c) (toReal32 (sqrtQ (meanSq x)))
    let a := chArg x
    let s := s.wr (chAddr c + 4) (toReal32 (wrapDeg (if c < 32 then ref - a else a - ref)))
    if c < 32 then s
    else
      let amp := fund { x with k := sampleV }
      let vmin : Rat := (s.clk.cfg.bits 23 16 : Rat) / 200
      let old := s.mtr.args.get? c
      let s := { s with mtr := { s.mtr with args := s.mtr.args.put c a } }
      if amp.1 * amp.1 + amp.2 * amp.2 < vmin * vmin then s.wr (Reg.MTR_FREQ (c - 32)) 0
      else
        match old with
        | none => (s.wr (Reg.MTR_FREQ (c - 32)) (Config.freeWord s.free)).freeNext
        | some o =>
          let d := wrapDeg (a - o)
          let d := if d == 180 then -180 else d
          s.wr (Reg.MTR_FREQ (c - 32)) (i2w ((1 + d / 360) * 1000000000000000 / ((max tns 1 : Nat) : Rat)).floor)

/-! ## Energy registers (R276 to R282) -/

/-- ΔE of a cycle in units of 2^-32 of a register unit: a value between two units is one of them, which of them the
spec leaves open (log 20). -/
def energyUnits (x : Rat) (tns free : Nat) : Int :=
  let q := x * (tns : Rat) * 2 ^ 32 / 3600000
  if q.den == 1 then q.num else q.floor + ((Config.freeNat free % 2 : Nat) : Int)

/-- What a mode adds (R276). -/
def modeAdds (mode : Nat) (d : Int) : Int :=
  if mode == 0 then d else if mode == 1 then d.natAbs else if mode == 2 then max d 0 else max (-d) 0

def State.view (s : State) (g i : Nat) : View := s.mtr.views.getD (6 * g + i) ⟨0, false, false⟩

/-- A view that its register has moved on (R280); 16#5005 when WRAPSAT is set. -/
def State.moveView (s : State) (g i : Nat) (old new : Int) : State :=
  let v := s.view g i
  let adv := v.adv + (new - old).toNat
  let sat := decide (256 ≤ adv / 2 ^ 32)
  let v' : View := ⟨adv, v.wrap || !(old / 2 ^ 32 == new / 2 ^ 32), v.sat || sat⟩
  let s := { s with mtr := { s.mtr with views := s.mtr.views.put (6 * g + i) v' } }
  if sat && !v.sat then s.record 0x5005 [n2w g, n2w i] else s

/-- The pulse outputs whose source the register is: the residue grows, and each whole UPP makes a pulse due over the next
cycle (R293). -/
def State.feedPulses (s : State) (g i adv : Nat) : State :=
  (List.range 8).foldl (fun s p =>
    let c := s.rd (Reg.MTR_PULSE_CFG p)
    if c.bit 31 && c.bits 3 0 == g && c.bits 6 4 == i then
      let x := s.pulse p
      let upp := max 1 (s.rd (Reg.MTR_PULSE_UPP p)).toNat * 2 ^ 32
      let t := x.residue + adv
      s.setPulse p { x with residue := t % upp, due := x.due + t / upp, count := x.due + t / upp }
    else s) s

/-- One register takes an amount. -/
def State.addEnergy (s : State) (g i : Nat) (d : Int) : State :=
  let r := s.meRec g
  let add := modeAdds (meMode r i) d
  let old := s.viewUnits g i
  let e := s.mtr.energy.getD (6 * g + i) 0
  let s := { s with mtr := { s.mtr with energy := s.mtr.energy.put (6 * g + i) (((e : Int) + add) % 2 ^ 96).toNat } }
  if meMode r i == 0 then s else (s.moveView g i old (s.viewUnits g i)).feedPulses g i add.toNat

/-- The six registers of a group take the cycle's energy. -/
def State.addGroup (s : State) (g tns : Nat) (p q a : Rat) : State :=
  (List.range 6).foldl (fun s i =>
    let qty := meQty (s.meRec g) i
    let x := if qty == 0 then p else if qty == 1 then q else a
    (s.addEnergy g i (energyUnits x tns s.free)).freeNext) s

/-- One group at the end of a cycle. -/
def State.meterGroup (s : State) (chs : List Chan) (tns g : Nat) : State :=
  if meEn (s.meRec g) then
    let x := s.groupPqs s.mtr.was 256 chs g
    let s := (s.wr (Reg.MTR_G_P g) (toReal32 x.1)).wr (Reg.MTR_G_Q g) (toReal32 x.2.1)
    let s := s.wr (Reg.MTR_G_S g) (toReal32 x.2.2.1)
    let s := s.wr (Reg.MTR_G_PF g) (if x.2.2.1 == 0 then 0 else toReal32 (x.1 / x.2.2.1))
    ((s.setFlag (F.MTR_G_STATUS_CREEP g) x.2.2.2).showPhases chs g).addGroup g tns x.1 x.2.1 x.2.2.1
  else s

/-! ## Saves (R283, R395) -/

/-- The RTC second of a postmark by the newest correlation record (R63); before the first one after a start of MTR the RTC
second itself (log 62). -/
def State.rtcOf (s : State) (pm : Postmark) : Nat :=
  match s.clk.cor with
  | none => s.rtcSec
  | some c =>
    if c.delta == 0 then c.sec
    else ((c.sec : Int) + ((pm.toNat : Int) - (c.pm.toNat : Int)) / (c.delta : Int)).toNat

/-- The save of this moment, with an end postmark and its RTC second. -/
def State.energySave (s : State) (pm : Postmark) (flush : Bool) : EnergySave :=
  ⟨s.mtr.saves + 1, pm, s.rtcOf pm, s.flag F.RTC_STATUS_VALID, flush, s.mtr.energy,
    (List.range 16).map fun g => (g, (s.rd (Reg.MTR_G_STATUS g) ||| s.peek (Reg.MTR_G_STATUS g)).toNat), s.mtr.pulses.map fun p => (p.1, p.2.residue)⟩

/-- Whether a journal entry is a save that is not durable. -/
def JEntry.openSave (e : JEntry) : Bool := !e.durable && match e.load with | .energy _ => true | _ => false

/-- The postmark of a save that has not become durable. -/
def PMem.lateSave (m : PMem) : Option Postmark :=
  (m.journal.find? JEntry.openSave).bind fun e => match e.load with | .energy v => some v.pm | _ => none

/-- A save is written as one group of 2,112 bytes; the save before it that is not durable gives up its place (R283). -/
def State.saveEnergy (s : State) (v : EnergySave) : State :=
  let s := { s with mtr := { s.mtr with saves := v.seq } }
  let waits := s.pm.waiting.findSome? fun g => match g.load with | .energy o => some o.pm | _ => none
  match s.pm.lateSave with
  | some pm =>
    let s := { s with pm := { s.pm with
      journal := s.pm.journal.map fun (e : JEntry) => if e.openSave then { e with load := .energy v } else e } }
    (s.inc F.MTR_STATUS_SAVELATE).record 0x5006 (words64 pm)
  | none =>
    match waits with
    | some pm =>
      let s := { s with pm := { s.pm with waiting := s.pm.waiting.map fun (g : Waiting) =>
        match g.load with | .energy _ => { g with load := .energy v } | _ => g } }
      (s.inc F.MTR_STATUS_SAVELATE).record 0x5006 (words64 pm)
    | none => s.submitGroup 4 33 2112 (.energy v)

/-- Pulses of the ended cycle that did not start join the backlog of up to 65,535; more are counted in OVF, with one
16#5004 in a burst (R294). -/
def State.backlog (s : State) (p n : Nat) : State :=
  let x := s.pulse p
  let b := s.fld (F.MTR_PULSE_BACK_BACK p)
  let s := s.setFld (F.MTR_PULSE_BACK_BACK p) (min 65535 (b + n))
  let lost := b + n - 65535
  if lost == 0 then s.setPulse p { x with burst := x.burst && n == 0 }
  else
    let s := (s.inc (F.MTR_PULSE_BACK_OVF p) lost).setPulse p { x with burst := true }
    if x.burst then s else s.record 0x5004 [n2w p, n2w (s.fld (F.MTR_PULSE_BACK_OVF p))]

/-- The schedule of the last cycle is over. -/
def State.endSchedule (s : State) : State :=
  (List.range 8).foldl (fun s p =>
    let x := s.pulse p
    if x.due == 0 then s else (s.setPulse p { x with due := 0, count := 0 }).backlog p x.due) s

/-! ## The gap of a start (R285, R302) -/

/-- Metering resumes with the cycle that began at postmark `pm`: GAP, HOLD, GAPSTART and GAPEND in every enabled group,
16#5001, source 115; the governor's intervals that hold the gap are GAP. -/
def State.showGap (s : State) (pm : Postmark) : State :=
  match s.mtr.gap with
  | none => s
  | some (start, hold) =>
    let stop := s.rtcOf pm
    let ons := (List.range 16).filter fun g => meEn (s.meRec g)
    let mask := ons.foldl (fun n g => n + 2 ^ g) 0
    let s : State := { s with
      mtr := { s.mtr with gap := none },
      gov := { s.gov with fdrs := s.gov.fdrs.map fun (e : Nat × Fdr) => (e.1, { e.2 with gap := e.2.gap || decide (e.2.start ≤ stop) }) } }
    let s := if s.good .fab then
        s.gov.fdrs.foldl (fun (s : State) (e : Nat × Fdr) => s.setFlag (F.GOV_FDR_STATUS_GAP e.1) e.2.gap) s
      else s
    let s := ons.foldl (fun (s : State) g =>
      let s := (s.wr (Reg.MTR_G_GAPSTART g) (n2w start)).wr (Reg.MTR_G_GAPEND g) (n2w stop)
      (s.setFld (F.MTR_G_STATUS_GAP g) 1).setFlag (F.MTR_G_STATUS_HOLD g) (s.flag (F.MTR_G_STATUS_HOLD g) || hold)) s
    if ons.isEmpty then s
    else (s.record 0x5001 [n2w mask, n2w start, n2w stop, n2w (b2n hold)]).fireMtr fun g => ons.contains g

/-- The end of a cycle (R265, R272 to R283): quantities, energy, pulses, save, and a section that waited. Metering
writes no internal point, since no rule says which one or what: DESIGN CHOICE beside R104 (log 63). -/
def State.meterCycle (s : State) (cur volt : List (List Int)) (tns : Nat) (pm : Postmark) : State :=
  let samples := (List.range 32).map (fun c => cur.getD c []) ++ (List.range 8).map fun v => volt.getD v []
  let chs := (List.range 40).map fun c => s.chan s.mtr.was 256 samples c
  let s := (s.showGap (pm - 2 ^ 20)).endSchedule
  let ref := match chs[32 + s.clk.cfg.bits 6 4]? with | some x => chArg x | none => 0
  let s := (List.range 40).foldl (fun s c => s.showChan chs ref tns c) s
  let s := (List.range 16).foldl (fun s g => s.meterGroup chs tns g) s
  let sums := (List.range 40).map fun c =>
    let l := (samples.getD c []).take 256
    (c, ((l.foldl (· + ·) 0, l.length) :: s.mtr.sums.getD c []).take 50)
  let tails := (List.range 40).map fun c => (c, ((samples.getD c []).take 256).drop 248)
  let s := { s with mtr := { s.mtr with sums := sums, tails := tails, ended := none }, gov := { s.gov with fresh := some tns } }
  let s := s.setFld F.MTR_STATUS_RUN 1
  let s := if s.good .pmm then s.saveEnergy (s.energySave pm false) else s
  match s.mtr.next, s.mtr.due with
  | some n, true => s.takeMetering n
  | _, _ => s

/-- METERING_CYCLE_END: the samples of the 32 current and 8 voltage channels at the 256 metering postmarks of the ended
cycle, before the offset and DELAY are taken into account (R263; log 18). A channel's samples that follow them are those of the
next cycle, which the resampler of a channel with a DELAY waits for. -/
def execMeteringCycleEnd (w : When) (cur volt : List (List Int)) (s : State) : Out :=
  let s := s.advance w
  .next (match s.mtr.ended with
    | some (t, pm) =>
      if !(s.on .mtr) || s.pwr.pfail then s
      else if s.pwr.manDone then s.meterCycle cur volt t pm
      else { s with mtr := { s.mtr with ended := none } }
    | none => s)

/-! ## Registers written and read by the Counter -/

/-- Channels by the address of GAIN or DELAY. -/
def trimAddr (a : Nat) : Bool := (List.range 40).any fun c => a == chAddr c + 8 || a == chAddr c + 12

/-- The answer that refuses a trim write (R268): only in the states MAKER and SERVICE. -/
def State.refuseTrim (s : State) (who : Who) (a : Nat) (v : Word) : Option Nat :=
  match s.refuse who a v with
  | some c => some c
  | none => if s.lc == lcMAKER || s.lc == lcSERVICE then none else some ansBADSTATE

/-- METER_TRIM_WRITE: GAIN or DELAY of a channel, in force from the next cycle boundary. -/
def State.trimWrite (s : State) (who : Who) (a : Nat) (v : Word) : State :=
  if trimAddr a then
    match s.refuseTrim who a v with
    | some c => s.answer c
    | none => (s.wr a (if a % 16 == 8 then n2w (v.bits 23 0) else v)).answer ansOK
  else s.answer (if who.role == .tenant then ansHIDDEN else ansBADADDR)

def execMeterTrimWrite (w : When) (who : Who) (a : Nat) (v : Word) (s : State) : Out :=
  .next ((s.advance w).trimWrite who a v)

/-- The clearing read (R280): WINSTAT takes the live flags, which are cleared; a SIGNED register has none (R282). -/
def State.clearView (s : State) (g i : Nat) : State :=
  if meMode (s.meRec g) i == 0 then s.dropView g i else
  let v := s.view g i
  let s := (s.setFld (F.MTR_G_WINSTAT_WRAPCNT g i) (min 255 (v.adv / 2 ^ 32))).setFlag (F.MTR_G_WINSTAT_WRAP g i) v.wrap
  let s := s.setFlag (F.MTR_G_WINSTAT_WRAPSAT g i) v.sat
  { s with mtr := { s.mtr with views := s.mtr.views.put (6 * g + i) ⟨0, false, false⟩ } }

/-! ## Pulses (R293, R294) -/

/-- Whether the next due pulse of the schedule falls at the present postmark (R293): the due pulses are evenly spaced over
the cycle. The rule does not say where in the cycle the first one falls: at any postmark of the cycle's first part (log 62). -/
def State.pulseSlot (s : State) (x : Pulse) : Bool :=
  let j := x.count - x.due
  !(x.due == 0) &&
    (if j == 0 then decide (s.clk.angle.toNat * x.count < 2 ^ 20)
     else s.pmNow.toNat == x.base.toNat + j * 2 ^ 20 / x.count)

/-- PULSE_EMIT: the moment of a pulse. A due pulse starts when the pin has been low long enough, else it joins the
backlog; where none falls due, a pulse of the backlog starts. -/
def State.pulseEmit (s : State) (p : Nat) : State :=
  let x := s.pulse p
  let c := s.rd (Reg.MTR_PULSE_CFG p)
  let free := !x.high && decide (x.readyNs ≤ s.ns)
  let slot := s.pulseSlot x
  let x' := if slot then { x with due := x.due - 1, base := if x.due == x.count then s.pmNow else x.base } else x
  if !(c.bit 31) then s
  else if free then
    if !slot && s.fld (F.MTR_PULSE_BACK_BACK p) == 0 then s
    else
      let s := if slot then s else s.setFld (F.MTR_PULSE_BACK_BACK p) (s.fld (F.MTR_PULSE_BACK_BACK p) - 1)
      let w := c.bits 19 12
      (s.setPulse p { x' with high := true, width := w, readyNs := s.ns + 2 * w * 1000000 }).incWord (Reg.MTR_PULSE_CNT p)
  else if slot then (s.setPulse p x').backlog p 1
  else s

def execPulseEmit (w : When) (p : Nat) (s : State) : Out :=
  let s := s.advance w
  .next (if s.on .mtr && decide (p < 8) then s.pulseEmit p else s)

/-- Whether a pulse has been high for WIDTH ± 0.1 ms (R293). -/
def Pulse.over (x : Pulse) (ns : Nat) : Bool :=
  let stop := x.readyNs - x.width * 1000000
  x.high && decide (stop ≤ ns + 100000) && decide (ns ≤ stop + 100000)

/-- PULSE_WIDTH_END: the pin falls; it stays low for at least WIDTH. -/
def execPulseWidthEnd (w : When) (p : Nat) (s : State) : Out :=
  let s := s.advance w
  let x := s.pulse p
  .next (if x.over s.ns then s.setPulse p { x with high := false, readyNs := s.ns + x.width * 1000000 } else s)

/-! ## Start and power fail (R284, R285) -/

/-- MTR starts, after the clock: the section of the ARMED manifest, its trims, the newest durable save, and the gap
since it, which ends with the first metered cycle. -/
def State.startMtr (s : State) : State :=
  let s := { s with mtr := ⟨[], [], [], [], [], [], none, s.ns, none, s.mtr.saves, [], false, [], [], none⟩ }
  let s := (List.range 16).foldl (fun s g => s.setFlag (F.MTR_G_STATUS_EN g) (meEn (s.meRec g))) s
  let s := (s.takeTrims [] (s.recs 17)).loadTrims
  let s : State := match s.pm.energy with
    | [] => s
    | v :: _ =>
      let s : State := { s with mtr := { s.mtr with
        energy := v.energy, saves := v.seq, gap := some (v.sec, !v.flush)
        pulses := v.residues.map fun (e : Nat × Nat) => (e.1, { Pulse.new with residue := e.2 }) } }
      v.flags.foldl (fun (s : State) (e : Nat × Nat) =>
        s.wr (Reg.MTR_G_STATUS e.1) ((n2w e.2 &&& 0x1C) ||| (s.rd (Reg.MTR_G_STATUS e.1) &&& 1))) s
  s.showFly.applyPulses

/-- Metering goes on after a rung at which MTR kept only its clock (R578): a gap by R285 since the newest save, from which
the registers go on. MTR was not off: trims, flags, window views and pulse outputs stand as they are, and only the samples
before the gap count no more. -/
def State.resumeMtr (s : State) : State :=
  let m := { s.mtr with sums := [], args := [], tails := [], startNs := s.ns, ended := none, due := s.mtr.next.isSome }
  let m := match s.pm.energy with
    | [] => m
    | v :: _ => { m with energy := v.energy, saves := v.seq, gap := some (v.sec, !v.flush) }
  ({ s with mtr := m } : State).showFly.applyPulses

/-- A sample of 24 bits that no command gives, a free value (log 20). -/
def freeSample (n : Nat) : Int := ((Config.freeNat n % 2 ^ 24 : Nat) : Int) - 2 ^ 23

/-- The energy of a stretch of `tns` ns with `n` metering samples, which no command gives and which are therefore free values
(log 20): the DSP computes it from them as it does that of a whole cycle (R272 to R276). -/
def State.flushPart (s : State) (trims : Tab (Word × Word)) (tns n : Nat) : State :=
  let samples := (List.range 40).map fun c => (List.range n).map fun j => freeSample (s.free + c * n + j)
  let s : State := { s with free := s.free + 40 * n }
  let chs := (List.range 40).map fun c => s.chan trims n samples c
  (List.range 16).foldl (fun (s : State) g =>
    if meEn (s.meRec g) then
      let x := s.groupPqs trims n chs g
      s.addGroup g tns x.1 x.2.1 x.2.2.1
    else s) s

/-- PFAIL (R284): the energy of the partial cycle is added, after that of a cycle that has ended and was not yet metered; a
save marked FLUSH is written, metering stops. The partial cycle holds the samples at the metering postmarks that it has
passed, the one at its start among them. -/
def State.flushMtr (s : State) : State :=
  if s.good .mtr then
    let s := match s.mtr.ended with | some (t, _) => s.flushPart s.mtr.was t 256 | none => s
    let s := s.flushPart s.mtr.trims (s.ns - s.mtr.startNs) (s.clk.angle.toNat / 4096 + 1)
    let s : State := { s with mtr := { s.mtr with ended := none } }
    let s := s.saveEnergy (s.energySave s.pmNow true)
    (s.setFld F.MTR_STATUS_RUN 0)
  else s

end Sys2Proof.Machine
end

