-- ==== Sys2Proof/Machine/Engine.lean ====
section
/-! DEFINITION. The control engine's arithmetic (chapter 7): axis configuration, the cascade of one sample, the ramp and
the feed-forward tables. -/

namespace Sys2Proof.Machine

/-! ## Configuration -/

/-- The AXES record of an axis (R198). -/
def State.axRec (s : State) (k : Nat) : Option Rec := (s.recs 14).find? fun r => Rec.u8 r 0 == k

def axLink (r : Rec) : Nat := Rec.u8 r 1
def axDrv (r : Rec) : Nat := Rec.u8 r 2
def axN (r : Rec) : Nat := Rec.u8 r 3
def axNloop (r : Rec) : Nat := Rec.u8 r 4
/-- Kind of a loop: 0 position, 1 velocity, 2 force. -/
def axKind (r : Rec) (l : Nat) : Nat := Rec.u8 r (5 + l)
def axNsec (r : Rec) (l : Nat) : Nat := Rec.u8 r (8 + l)
def axGroup (r : Rec) : Nat := Rec.u8 r 0x0B
/-- Sections of all loops. -/
def axSecs (r : Rec) : Nat := axNsec r 0 + axNsec r 1 + axNsec r 2
/-- First section of a loop. -/
def axFirst (r : Rec) (l : Nat) : Nat := if l == 0 then 0 else if l == 1 then axNsec r 0 else axNsec r 0 + axNsec r 1

/-- Fields of MOTION (R232). -/
def moTlo (r : Rec) : Int := Rec.i r 0x10 8
def moTlen (r : Rec) : Int := (Rec.u32 r 0x18 : Nat)
def moRev (r : Rec) : Int := (Rec.u32 r 0x1C : Nat)
/-- The REAL32 fields VMAX, AMAX, SDEC, FGAIN and FRATE. -/
def moFields (r : Rec) : List Rat := (List.range 5).map fun i => real32D (Rec.w r (0x20 + 4 * i))
def moCmpdly (r : Rec) : Nat := Rec.u32 r 0x34 % 2 ^ 20
def moFadapt (r : Rec) : Bool := Rec.bit r 0x38 0
def moCmpfab (r : Rec) : Bool := Rec.bit r 0x38 1
/-- LMISS; 0 acts as 3. -/
def moLmiss (r : Rec) : Nat := if Rec.u8 r 0x39 == 0 then 3 else Rec.u8 r 0x39
def moCmphyst (r : Rec) : Nat := Rec.u16 r 0x3A
def moCmpbase (r : Rec) : Nat := Rec.u32 r 0x3C % 2 ^ 17

/-- The CASCADES header (R212). -/
def caFlag (c : Rec) (b : Nat) : Bool := Rec.bit c 1 b
/-- DEVLIM; 0 acts as 20. -/
def caDevlim (c : Rec) : Nat := if Rec.u8 c 2 == 0 then 20 else Rec.u8 c 2
def caDevact (c : Rec) : Nat := Rec.u8 c 3
/-- The REAL32 fields: both limits of each loop, KVFF, KAFF, OUTSCALE. -/
def caFields (c : Rec) : List Rat := (List.range 9).map fun i => real32D (Rec.w c (4 + 4 * i))
/-- The limits of a loop as loaded; none for an infinite limit. -/
def caLo (c : Rec) (x : Axis) (l : Nat) : Option Bfp :=
  if finite32 (Rec.w c (4 + 8 * l)) then some (x.coef.getD (2 * l) ⟨0, 0⟩) else none
def caHi (c : Rec) (x : Axis) (l : Nat) : Option Bfp :=
  if finite32 (Rec.w c (8 + 8 * l)) then some (x.coef.getD (2 * l + 1) ⟨0, 0⟩) else none
/-- Section entry `j` (R213). -/
def caSec (c : Rec) (j : Nat) : Rec := (c.drop (0x80 + 32 * j)).take 32

/-! ## Axes -/

def Sec.zero : Sec := ⟨0, 0, 0, 0⟩

/-- The fields of the active bank and of MOTION in an axis, as they were normalised at their load (R208). -/
def Axis.kvff (x : Axis) : Bfp := x.coef.getD 6 .zero
def Axis.kaff (x : Axis) : Bfp := x.coef.getD 7 .zero
def Axis.outscale (x : Axis) : Bfp := x.coef.getD 8 .zero
def Axis.vmax (x : Axis) : Bfp := x.mot.getD 0 .zero
def Axis.amax (x : Axis) : Bfp := x.mot.getD 1 .zero
def Axis.sdec (x : Axis) : Bfp := x.mot.getD 2 .zero
def Axis.fgain (x : Axis) : Bfp := x.mot.getD 3 .zero
def Axis.frate (x : Axis) : Bfp := x.mot.getD 4 .zero

/-- An axis at a start of CLE, before its banks and tables are loaded: DISABLED, empty states, comparators disarmed. -/
def Axis.new : Axis :=
  { secs := List.replicate 12 Sec.zero, sig := List.replicate 11 0, r := 0, v := .zero, a := .zero, pT := 0, vT := .zero,
    fT := .zero, vlim := 0, alim := 0, pos := 0, vel := 0, force := 0, seen := 0, prevPos := 0, samplePm := 0, cmd := 0,
    ctrl := 0, enPm := none, enNs := 0, newTarget := none, stopReq := false, disabling := false, clearing := false,
    miss := 0, skips := 0, stoDiff := 0, bank0 := [], bank1 := [], swap := none, fric := [], cog := [],
    cmps := List.replicate 16 ⟨0, 0, false⟩, mism := none, coef := [], mot := [], frame := [] }

/-- An axis. -/
def State.axis (s : State) (k : Nat) : Axis := s.cle.axes.getD k .new

/-- Stores an axis. -/
def State.setAxis (s : State) (k : Nat) (x : Axis) : State :=
  { s with cle := { s.cle with axes := s.cle.axes.put k x } }

/-- CLE_AXk_STATUS.BANK. -/
def State.axBank (s : State) (k : Nat) : Nat := s.fld (F.CLE_AX_STATUS_BANK k)

/-- The active and the shadow bank (R215). -/
def State.active (s : State) (k : Nat) : Rec := if s.axBank k == 0 then (s.axis k).bank0 else (s.axis k).bank1
def State.shadow (s : State) (k : Nat) : Rec := if s.axBank k == 0 then (s.axis k).bank1 else (s.axis k).bank0

/-- Stores the shadow bank. -/
def State.setShadow (s : State) (k : Nat) (b : Rec) : State :=
  let x := s.axis k
  s.setAxis k (if s.axBank k == 0 then { x with bank1 := b } else { x with bank0 := b })

/-- The state of an axis (R234). -/
def axDISABLED : Nat := 0
def axENABLING : Nat := 1
def axRUN : Nat := 2
def axSTOPPING : Nat := 3
def axSTO : Nat := 4
def axFAULT : Nat := 5
def State.axState (s : State) (k : Nat) : Nat := s.fld (F.CLE_AX_STATUS_STATE k)

/-- Axes with an AXES record, ascending in the section. -/
def State.axisNums (s : State) : List Nat := (s.recs 14).map fun r => Rec.u8 r 0

/-! ## Engine modes (R224 to R228) -/

def engDUAL : Nat := 0
def engDEGRADED : Nat := 1
def engHALTED : Nat := 2
def State.engMode (s : State) : Nat := s.fld F.CLE_ENG_STATUS_MODE

/-! ## The tables (R243 to R245) -/

/-- Index and fraction of R243. -/
def fricAt (r : Rec) (p : Int) : Nat × Rat :=
  let u : Rat := ((clampI (moTlo r) (moTlo r + moTlen r) p - moTlo r : Int) : Rat) * 255 / (moTlen r : Rat)
  let i := min u.floor.toNat 254
  (i, u - (i : Rat))

def tabAt (l : List Bfp) (i : Nat) : Rat := (l.getD i .zero).val

/-- The friction term (R243): `v` is the ramp velocity. -/
def fricTerm (r : Rec) (x : Axis) : Rat :=
  let (i, f) := fricAt r x.pos
  (tabAt x.fric i + f * (tabAt x.fric (i + 1) - tabAt x.fric i)) * ratSign x.v.val

/-- The cogging term (R244). -/
def cogTerm (r : Rec) (x : Axis) : Rat :=
  let w : Rat := (x.pos.emod (moRev r) : Int) * 1024 / (moRev r : Rat)
  let i := w.floor.toNat
  let f := w - (i : Rat)
  tabAt x.cog i + f * (tabAt x.cog ((i + 1) % 1024) - tabAt x.cog i)

/-! ## The cascade of one sample (R201 to R206) -/

/-- What one sample of the cascade gives: sections, exponents of the junction signals, saturations by section, changes
of E_s, LIMACT bits, errors and outputs of the loops, the output on its way, the drive command. -/
structure Casc where
  secs : List Sec
  sig : List Int
  sats : List Nat
  exps : Nat
  lim : Nat
  errs : List Bfp
  outs : List Bfp
  out : Bfp
  deriving DecidableEq, Repr

/-- A junction signal `n`, with its saturation noted at section `sec`. -/
def Casc.join (c : Casc) (n sec : Nat) (ts : List Term) : Casc × Bfp :=
  let j := junction (c.sig.getD n 0) ts
  ({ c with sig := c.sig.set n j.1.e, sats := if j.2 then c.sats ++ [sec] else c.sats }, j.1)

/-- A signal `n` that takes a value, normalised by R208, with its saturation noted at section `sec`. -/
def Casc.take (c : Casc) (n sec : Nat) (q : Rat) : Casc × Bfp :=
  let j := norm (c.sig.getD n 0) q
  ({ c with sig := c.sig.set n j.1.e, sats := if j.2 then c.sats ++ [sec] else c.sats }, j.1)

/-- The enabled feed-forward terms by target kind (R202); a term of the kind of loop 0 is not added. -/
def Casc.ffTerms (k : Casc) (r c : Rec) (x : Axis) (kind sec : Nat) : Casc × List Term :=
  if kind == axKind r 0 then (k, [])
  else if kind == 1 then (k, if caFlag c 0 then [x.kvff.times x.v] else [])
  else if kind == 2 then
    let acc := if caFlag c 1 then [x.kaff.times x.a] else []
    let (k, fr) := if caFlag c 2 then (let t := k.take 9 sec (fricTerm r x); (t.1, [t.2.term])) else (k, [])
    let (k, co) := if caFlag c 3 then (let t := k.take 10 sec (cogTerm r x); (t.1, [t.2.term])) else (k, [])
    (k, acc ++ fr ++ co)
  else (k, [])

/-- Feed-forward terms with no loop of their kind in the cascade. -/
def Casc.ffRest (k : Casc) (r c : Rec) (x : Axis) (sec : Nat) : Casc × List Term :=
  ([1, 2].filter fun n => !((List.range (axNloop r)).any fun l => axKind r l == n)).foldl
    (fun a n => let t := a.1.ffTerms r c x n sec; (t.1, a.2 ++ t.2)) (k, [])

/-- The feedback field of a kind, normalised. -/
def Casc.feedback (k : Casc) (x : Axis) (kind sec : Nat) : Casc × Bfp :=
  k.take (6 + min 2 kind) sec ((if kind == 0 then x.pos else if kind == 1 then x.vel else x.force : Int) : Rat)

/-- The error of loop `l`, and the reference before it (R201). -/
def Casc.error (k : Casc) (r c : Rec) (x : Axis) (l : Nat) : Casc × Bfp :=
  let kind := axKind r l
  let first := axFirst r l
  if l == 0 then
    if kind == 0 then k.take 0 first (((x.r - x.pos * 2 ^ 32 : Int) : Rat) / 2 ^ 32)
    else
      let (k, fb) := k.feedback x kind first
      k.join 0 first [(if kind == 1 then x.v else x.fT).term, fb.term.neg]
  else
    let (k, ff) := k.ffTerms r c x kind first
    let (k, ref) := if ff.isEmpty then (k, k.out) else k.join (2 * l - 1) first (k.out.term :: ff)
    let (k, fb) := k.feedback x kind first
    k.join (2 * l) first [ref.term, fb.term.neg]

/-- Runs the sections of loop `l` from the error `e`: the new section values before E_s is chosen again. -/
def loopSecs (r c : Rec) (old : List Sec) (l : Nat) (e : Bfp) : List (Nat × Sec) × Bfp × List Nat :=
  (List.range (axNsec r l)).foldl (fun acc i =>
    let j := axFirst r l + i
    let o := old.getD j .zero
    let (n, sat) := secStep (caSec c j) o acc.2.1
    (acc.1 ++ [(j, n)], ⟨n.y, n.es⟩, acc.2.2 ++ List.replicate sat j)) ([], e, [])

/-- One loop: error, sections, for the innermost loop the remaining feed-forward, the limit (R204), anti-windup (R205),
and the next exponents (R211). -/
def Casc.loop (k : Casc) (r c : Rec) (x : Axis) (l : Nat) : Casc :=
  let (k, e) := k.error r c x l
  let (news, y, sats) := loopSecs r c x.secs l e
  let k := { k with sats := k.sats ++ sats }
  let last := axFirst r l + axNsec r l - 1
  let (k, rest) := if l + 1 == axNloop r then k.ffRest r c x last else (k, [])
  let (k, y) := if rest.isEmpty then (k, y) else k.join 5 last (y.term :: rest)
  let low := match caLo c x l with | some b => decide (y.val < b.val) | none => false
  let high := match caHi c x l with | some b => decide (b.val < y.val) | none => false
  let out := if low then (caLo c x l).getD y else if high then (caHi c x l).getD y else y
  let hold := (low && decide (e.val < 0)) || (high && decide (0 < e.val))
  let fin := news.map fun n =>
    let o := x.secs.getD n.1 .zero
    (n.1, reExp (if hold && coInteg (caSec c n.1) then ⟨n.2.y, o.s1, o.s2, n.2.es⟩ else n.2))
  { k with
    secs := fin.foldl (fun s n => s.set n.1 n.2.1) k.secs
    exps := k.exps + (fin.filter fun n => n.2.2).length
    lim := k.lim + b2n (low || high) * 2 ^ l
    errs := k.errs ++ [e], outs := k.outs ++ [out], out := out }

/-- The whole cascade of an axis in one sample (R201). -/
def cascade (r c : Rec) (x : Axis) : Casc :=
  (List.range (axNloop r)).foldl (fun k l => k.loop r c x l) ⟨x.secs, x.sig, [], 0, 0, [], [], .zero⟩

/-- The drive command: innermost output × OUTSCALE, rounded to nearest with ties to even, saturated to 32 bits. -/
def driveCmd (x : Axis) (out : Bfp) : Int := clampI (-(2 ^ 31)) (2 ^ 31 - 1) (roundEven (out.val * x.outscale.val))

/-! ## The ramp (R238 to R241) -/

/-- The sample interval of an axis in the current cycle, in seconds. -/
def State.axTs (s : State) (r : Rec) : Bfp := normK 0 (1000000 / ((axN r : Rat) * ((s.rd Reg.PMK_FREQ).toNat : Rat)))

/-- MIN of a field and the limit of a request; a limit of 0 acts as the field. -/
def minLim (field : Bfp) (lim : Word) : Bfp :=
  let l := real32D lim
  if l == 0 then field else if l < field.val then normK 0 l else field

/-- A ramp position in 2^-32 increments; a position between two is one of them, which of them the spec leaves open
(log 13). -/
def rampFix (q : Rat) (free : Nat) : Int :=
  let x := q * 2 ^ 32
  if x.den == 1 then x.num else x.floor + (Config.freeNat free % 2 : Nat)

/-- The ramp of one sample in RUN (R238). For kind force, vlim is a force rate. Answers the axis and the saturations met in
normalising. -/
def rampRun (r : Rec) (ts : Bfp) (free : Nat) (x : Axis) : Axis × Nat :=
  let vl := minLim x.vmax x.vlim
  let al := minLim x.amax x.alim
  let step := al.val * ts.val
  let kind := axKind r 0
  if kind == 0 then
    let d : Rat := ((x.pT - x.r : Int) : Rat) / 2 ^ 32
    let root := sqrtB (2 * al.val * ratAbs d)
    let vs := ratSign d * root.1.val
    let vd := limQ (-vl.val) vs vl.val
    let qv := x.v.val + limQ (-step) (vd - x.v.val) step
    let vn := normK x.v.e qv
    let (r', vn) := if ratAbs d ≤ step * ts.val ∧ ratAbs vn.val ≤ step then (x.pT, ⟨0, x.v.e⟩)
      else (rampFix (((x.r : Int) : Rat) / 2 ^ 32 + (x.v.val + vn.val) / 2 * ts.val) free, vn)
    let qa := (vn.val - x.v.val) / ts.val
    ({ x with r := r', v := vn, a := normK x.a.e qa }, b2n root.2 + satCount [qv, qa])
  else if kind == 1 then
    let qv := x.v.val + limQ (-step) (limQ (-vl.val) x.vT.val vl.val - x.v.val) step
    let vn := normK x.v.e qv
    let qa := (vn.val - x.v.val) / ts.val
    ({ x with v := vn, a := normK x.a.e qa }, satCount [qv, qa])
  else
    let lim := real32D x.vlim
    let rate := if lim == 0 then x.vmax else normK 0 lim
    let step := rate.val * ts.val
    let q := x.fT.val + limQ (-step) (x.vT.val - x.fT.val) step
    ({ x with fT := normK x.fT.e q }, satCount [lim, q])

/-- The stop profile of one sample (R240): the axis, whether the ramp has reached standstill, and the saturations. -/
def rampStop (r : Rec) (ts : Bfp) (free : Nat) (x : Axis) : Axis × Bool × Nat :=
  let step := x.sdec.val * ts.val
  let qv := x.v.val - ratSign x.v.val * min (ratAbs x.v.val) step
  let vn := normK x.v.e qv
  let qa := (vn.val - x.v.val) / ts.val
  let r' := if axKind r 0 == 0 then rampFix (((x.r : Int) : Rat) / 2 ^ 32 + (x.v.val + vn.val) / 2 * ts.val) free else x.r
  let qf := x.fT.val - ratSign x.fT.val * min (ratAbs x.fT.val) step
  let fn := normK x.fT.e qf
  let sats := satCount (if axKind r 0 == 2 then [qv, qa, qf] else [qv, qa])
  let still := if axKind r 0 == 2 then fn.m == 0 else vn.m == 0
  let x := { x with r := r', v := vn, a := normK x.a.e qa, fT := if axKind r 0 == 2 then fn else x.fT }
  if still then
    ({ x with
        pT := if axKind r 0 == 0 then r' else x.pT
        vT := if axKind r 0 == 0 then x.vT else ⟨0, x.vT.e⟩ }, true, sats)
  else (x, false, sats)

/-- D_stop of R241 for the current ramp velocity, as REAL32. -/
def dStop (x : Axis) (ts : Bfp) : Word :=
  toReal32 (ratAbs x.v.val * 2 * ts.val + x.v.val * x.v.val / (2 * x.sdec.val))

/-- The adaptation of the friction table (R245), from the cascade of the sample, and the saturations. -/
def adapt (r c : Rec) (ts : Bfp) (x : Axis) (k : Casc) (frozen : Bool) : Axis × Nat :=
  let vloop := (List.range (axNloop r)).find? fun l => axKind r l == 1
  match vloop with
  | none => (x, 0)
  | some l =>
    match ((List.range (axNsec r l)).map fun i => axFirst r l + i).find? fun j => coInteg (caSec c j) with
    | none => (x, 0)
    | some j =>
      if moFadapt r && !frozen && k.lim == 0 && decide (x.vmax.val / 100 ≤ ratAbs x.v.val) then
        let sec := k.secs.getD j .zero
        let i1 := (sec.s1 : Rat) * pow2 (sec.es - 23)
        let b := x.frate.val * ts.val
        let delta := limQ (-b) (x.fgain.val * i1 * ratSign x.v.val * ts.val) b
        let (i, f) := fricAt r x.pos
        let qi := tabAt x.fric i + (1 - f) * delta
        let qj := tabAt x.fric (i + 1) + f * delta
        let fi := normK (x.fric.getD i .zero).e qi
        let fj := normK (x.fric.getD (i + 1) .zero).e qj
        ({ x with fric := (x.fric.set i fi).set (i + 1) fj }, satCount [qi, qj])
      else (x, 0)

end Sys2Proof.Machine
end

