-- ==== Sys2Proof/Machine/Axes.lean ====
section
/-! DEFINITION. Axes, stopping, comparators and the Dexjo link (chapter 8), and the engine around its arithmetic: pipes,
referee, coefficient banks (chapter 7). -/

namespace Sys2Proof.Machine

/-! ## Axis states (R234) -/

/-- CTRL bits of a command frame (R254). -/
def drEN : Nat := 1
def drSTOP : Nat := 2
def drCLR : Nat := 4

/-- Whether the safe-torque-off output of a group is closed; an axis without a group has none to open. -/
def State.stoClosed (s : State) (g : Nat) : Bool :=
  g == 0xFF || (s.fld F.SAF_STATUS_ON / 2 ^ g % 2 == 1 && s.fld (F.SAF_OUT_OMODE g) == 2)

def State.setAxState (s : State) (k st : Nat) : State := s.setFld (F.CLE_AX_STATUS_STATE k) st

/-! ## Saturations -/

/-- A saturation in a section (R208 to R210): SATCNT, SAT, 16#4005. -/
def State.axSat (s : State) (k : Nat) (sec : Word) : State :=
  let s := (s.satWord (Reg.CLE_AX_SATCNT k)).setFld (F.CLE_AX_STATUS_SAT k) 1
  (s.perfEvent 3 6 0 1).record 0x4005 [n2w k, sec, s.rd (Reg.CLE_AX_SATCNT k)]

/-- Saturations outside a section's arithmetic, in the ramp or in a field that is loaded: the section word of the event is a
free value. -/
def State.axSats (s : State) (k n : Nat) : State :=
  (List.range n).foldl (fun s _ => (s.axSat k (Config.freeWord s.free)).freeNext) s

/-- The cascade stops: mantissas 0, E_s unchanged (R229). A mismatch still gets its verdict (R222). -/
def State.axClear (s : State) (k : Nat) : State :=
  let x := s.axis k
  (s.setAxis k { x with
    secs := x.secs.map fun c => ⟨0, 0, 0, c.es⟩, skips := 0 }).setFld (F.CLE_AX_STATUS_LIMACT k) 0

/-- The axis becomes DISABLED and sends EN = 0. -/
def State.axDisable (s : State) (k : Nat) : State :=
  let s := s.axClear k
  (s.setAxis k { s.axis k with
    ctrl := 0, enPm := none, newTarget := none, stopReq := false, disabling := false, clearing := false }).setAxState k
      axDISABLED

/-- FAULT is entered (R234): STOP = 1, EN stays 1, 16#4008 with the cause. -/
def State.axFault (s : State) (k cause : Nat) : State :=
  let s := s.axClear k
  let s := (s.setAxis k { s.axis k with
    ctrl := drEN + drSTOP, enPm := none, newTarget := none, stopReq := false, disabling := false,
    clearing := false }).setAxState k axFAULT
  s.record 0x4008 [n2w k, n2w cause, n2w (s.fld (F.CLE_AX_DRV_STATUS k))]

/-- Whether an axis is enabled: ENABLING, RUN or STOPPING. -/
def State.axOn (s : State) (k : Nat) : Bool := s.axState k == axENABLING || s.axState k == axRUN || s.axState k == axSTOPPING

/-- The stop profile starts (R240). -/
def State.axStopProfile (s : State) (k : Nat) (disable : Bool) : State :=
  (s.setAxis k { s.axis k with disabling := disable }).setAxState k axSTOPPING

/-- Frequency deviation refuses enables (R220). -/
def State.axDevStop (s : State) (k : Nat) : Bool := s.flag (F.CLE_AX_STATUS_FDEV k) && caDevact (s.active k) == 1

/-- An enable request that passed the frank check. -/
def State.axEnable (s : State) (k : Nat) : State :=
  match s.axRec k with
  | none => s
  | some r =>
    if s.axState k == axDISABLED && s.flag (F.CLE_LINK_UP (axLink r)) && !(s.engMode == engHALTED)
        && !(s.axDevStop k) && s.stoClosed (axGroup r) then
      (s.setAxis k { s.axis k with
        ctrl := drEN, enPm := none, enNs := s.ns, newTarget := none, stopReq := false, miss := 0, skips := 0 }).setAxState
          k axENABLING
    else s

/-- A disable request that passed the frank check. -/
def State.axDisableReq (s : State) (k : Nat) : State :=
  if s.axState k == axENABLING then s.axDisable k
  else if s.axState k == axRUN then s.axStopProfile k true
  else if s.axState k == axFAULT then
    s.setAxis k { s.axis k with clearing := true, ctrl := drEN + drSTOP + drCLR }
  else s

/-- A stop request that passed the frank check. -/
def State.axStopReq (s : State) (k : Nat) : State :=
  if s.axState k == axENABLING then s.setAxis k { s.axis k with stopReq := true }
  else if s.axState k == axRUN then s.axStopProfile k false
  else s

/-- A target request that passed the frank check: in RUN it is taken for the next sample; committed together with the
enable it replaces the seeded target (R235); otherwise it changes nothing. -/
def State.axTarget (s : State) (k : Nat) (target vlim alim : Word) (pos : Int) : State :=
  match s.axRec k with
  | none => s
  | some r =>
    let x := s.axis k
    if s.axState k == axRUN then
      let pos0 := axKind r 0 == 0
      let t := if pos0 then x.vT else normK x.vT.e (real32D target)
      (s.setAxis k { x with
        pT := if pos0 then pos * 2 ^ 32 else x.pT, vT := t, vlim := vlim, alim := alim }).axSats k
          (if pos0 then 0 else satCount [real32D target])
    else if s.axState k == axENABLING && x.enNs == s.ns then
      s.setAxis k { x with newTarget := some (pos, target), vlim := vlim, alim := alim }
    else s

/-- RT_CMP_SET at its commit: position and direction of a comparator (R247). -/
def State.cmpSet (s : State) (k j : Nat) (pos : Int) (dir : Nat) : State :=
  let x := s.axis k
  s.setAxis k { x with cmps := x.cmps.set j ⟨pos, dir, false⟩ }

/-- Program STOP commands each enabled axis to its stop (R163). -/
def State.axesStop (s : State) : State := s.axisNums.foldl (fun s k => s.axStopReq k) s

/-- A 64-bit mask of axes as two words. -/
def axMask (l : List Nat) : List Word := words64 (BitVec.ofNat 64 (l.foldl (fun n k => n + 2 ^ k) 0))

/-! ## The engine's modes -/

/-- HALTED is entered (R226): every enabled axis gets the stop request and FAULT, 16#4003. -/
def State.engHalt (s : State) (cause : Nat) : State :=
  let on := s.axisNums.filter fun k => s.axOn k
  let s := s.setFld F.CLE_ENG_STATUS_MODE engHALTED
  let s := s.record 0x4003 (n2w cause :: axMask on)
  on.foldl (fun s k => s.axFault k 4) s

/-- Whether a pipe is fenced. -/
def State.fenced (s : State) (p : Nat) : Bool := s.flag (if p == 0 then F.CLE_ENG_STATUS_FENCEA else F.CLE_ENG_STATUS_FENCEB)

/-- A pipe loses (R224, R225): 0 A, 1 B. Twice within 1 s fences it in DUAL, and in DEGRADED halts the engine where it is the
remaining pipe. A further loss of a fenced pipe only counts. -/
def State.pipeLoses (s : State) (p : Nat) : State :=
  let last := if p == 0 then s.cle.lossA else s.cle.lossB
  let now := some (s.ns, s.pmNow)
  let s := if p == 0 then { s with cle := { s.cle with lossA := now } } else { s with cle := { s.cle with lossB := now } }
  let s := s.inc (if p == 0 then F.CLE_ENG_LOSS_LOSSA else F.CLE_ENG_LOSS_LOSSB)
  match last with
  | none => s
  | some (ns, pm) =>
    if s.ns - ns ≤ 1000000000 && !(s.fenced p) then
      if s.engMode == engDUAL then
        let s := s.setFld (if p == 0 then F.CLE_ENG_STATUS_FENCEA else F.CLE_ENG_STATUS_FENCEB) 1
        let s := { (s.setFld F.CLE_ENG_STATUS_MODE engDEGRADED) with cle := { s.cle with rot := 0, lossA := none, lossB := none } }
        s.record 0x4002 ([Config.snapNum 0x4002 p] ++ words64 pm ++ words64 s.pmNow)
      else if s.engMode == engDEGRADED then s.engHalt 1 else s
    else s

/-- All sections of all axes in rotation (R225): (axis, section) pairs. -/
def State.allSecs (s : State) : List (Nat × Nat) :=
  (s.recs 14).flatMap fun r => (List.range (axSecs r)).map fun j => (Rec.u8 r 0, j)

/-- REFEREE_VERDICT: in DUAL on the mismatch of the axis (R223), whose event 16#4001 carries the verdict (log 14); in
DEGRADED on the section in rotation (R225): a disagreement makes the remaining pipe lose, and the section takes the
referee's values. -/
def State.verdict (s : State) (k : Nat) (v : Verdict) (y s1 s2 : Int) : State :=
  let x := s.axis k
  let s := s.perfEvent 3 4 0 1
  match x.mism with
  | some (sec, a, b) =>
    let num := match v with | .pipeA => 0 | .pipeB => 1 | .neither => 2 | .agrees => 3
    let s := s.setAxis k { x with mism := none }
    let s := s.record 0x4001 [n2w k, n2w sec, a, b, Config.snapNum 0x4001 num]
    match v with
    | .pipeA => s.pipeLoses 1
    | .pipeB => s.pipeLoses 0
    | .neither => s.inc F.CLE_ENG_MISM_NONE
    | .agrees => s
  | none =>
    if s.engMode == engDEGRADED then
      let all := s.allSecs
      let (ka, j) := all.getD (s.cle.rot % max 1 all.length) (k, 0)
      let s := { s with cle := { s.cle with rot := s.cle.rot + 1 } }
      if v == .agrees then s
      else
        let xa := s.axis ka
        let o := xa.secs.getD j .zero
        let s := s.setAxis ka { xa with secs := xa.secs.set j ⟨y, s1, s2, o.es⟩ }
        s.pipeLoses (if s.fenced 0 then 1 else 0)
    else s

def execRefereeVerdict (w : When) (k : Nat) (v : Verdict) (y s1 s2 : Int) (s : State) : Out :=
  let s := s.advance w
  .next (if s.good .cle && s.hasAx k then s.verdict k v y s1 s2 else s)

/-! ## Comparators (R247 to R249) -/

/-- Whether the measured position crosses a comparator in an enabled direction. -/
def crosses (p0 p1 : Int) (c : Comparator) : Bool :=
  ((c.dir == 1 || c.dir == 3) && decide (p0 < c.pos) && decide (c.pos ≤ p1))
    || ((c.dir == 2 || c.dir == 3) && decide (c.pos < p0) && decide (p1 ≤ c.pos))

/-- The crossing postmark (R59): linear interpolation, to one angle unit; the unit that a fraction falls to is left open
(log 13). -/
def crossPm (pm0 pm1 : Postmark) (p0 p1 c : Int) (free : Nat) : Postmark :=
  let q : Rat := ((pm1 - pm0).toNat : Rat) * ((c - p0 : Int) : Rat) / ((p1 - p0 : Int) : Rat)
  pm0 + BitVec.ofInt 64 (if q.den == 1 then q.num else q.floor + (Config.freeNat free % 2 : Nat))

/-- Comparator `j` of an axis at a valid sample. Its event carries the crossing postmark (R59). -/
def State.cmpSample (s : State) (k : Nat) (r : Rec) (p0 p1 : Int) (pm0 pm1 : Postmark) (j : Nat) : State :=
  let x := s.axis k
  let c := x.cmps.getD j ⟨0, 0, false⟩
  let near := decide ((p1 - c.pos).natAbs < moCmphyst r)
  if !c.hysw && crosses p0 p1 c then
    let pm := crossPm pm0 pm1 p0 p1 c.pos s.free
    let s := (s.setAxis k { x with cmps := x.cmps.set j { c with hysw := near } }).freeNext
    let s := (s.incWord (Reg.CLE_AX_CMP_FIRES k j)).perfEvent 3 11 0 1
    let due := pm + BitVec.ofNat 64 (moCmpdly r)
    let s := if moCmpfab r then
        { s with cle := { s.cle with acts := s.cle.acts ++ [⟨k, j, pm, if due.toNat < pm1.toNat then pm1 else due⟩] } }
      else s
    s.fireAt (fun src param => src == k && (param.bits 15 0 == 0 || param.bits 15 0 / 2 ^ j % 2 == 1)) false pm (n2w j)
  else if c.hysw && !near then s.setAxis k { x with cmps := x.cmps.set j { c with hysw := false } }
  else s

/-- COMPARATOR_ACTION: the fabric runs the action of a comparator (R60, R249): the internal COUNT point rises by one, at the
action's postmark; words 2 and 3 receive the crossing postmark. The write is clamped as any other of an internal point, and
a FORCED point keeps its value (R134, R135). -/
def State.cmpAction (s : State) (k j : Nat) (r : Rec) : State :=
  match s.cle.acts.find? fun a => a.axis == k && a.cmp == j && decide (a.due.toNat ≤ s.pmNow.toNat) with
  | none => s
  | some a =>
    let s := { s with cle := { s.cle with acts := s.cle.acts.erase a } }
    let p := moCmpbase r + j
    match s.ptRec p with
    | none => s
    | some _ => (s.commitPoint a.pm p ((s.point p).value + 1)).trunk 1 0 16 .write

def execComparatorAction (w : When) (k j : Nat) (s : State) : Out :=
  let s := s.advance w
  .next (match s.axRec k with
    | some r => if s.good .fab then s.cmpAction k j r else s
    | none => s)

/-! ## Coefficient banks (R214 to R217) -/

/-- A CASCADES image that R214 accepts, for an axis with `n` sections. -/
def cascadeOk (c : Rec) (n : Nat) : Bool :=
  let word := fun i j => Rec.w (caSec c i) (4 * j)
  ((List.range 12).all fun i =>
    ((List.range 5).all fun j =>
      let u := (word i j).bits 31 24
      u == (if (word i j).bit 23 then 255 else 0)) && decide (-32 ≤ coExp (caSec c i)) && decide (coExp (caSec c i) ≤ 31)
    && (decide (i < n) || (caSec c i).all (· == 0)))
  && ((List.range 3).all fun l => !(isNaN32 (Rec.w c (4 + 8 * l))) && !(isNaN32 (Rec.w c (8 + 8 * l)))
    && decide (real32Key (Rec.w c (4 + 8 * l)) ≤ real32Key (Rec.w c (8 + 8 * l))))
  && finite32 (Rec.w c 0x1C) && finite32 (Rec.w c 0x20) && finite32 (Rec.w c 0x24) && !(real32D (Rec.w c 0x24) == 0)

/-- The engine normalises the REAL32 fields of a bank when it becomes active (R208, R212). -/
def State.loadBank (s : State) (k : Nat) : State :=
  let c := caFields (s.active k)
  let x := s.axis k
  ((s.setAxis k { x with coef := renorm x.coef c }).axSats k (satCount c)).trunk 1 0 (4 * c.length) .read

/-- Those of MOTION, once at the load of the axis. -/
def State.loadMotion (s : State) (k : Nat) : State :=
  let m := match s.axRec k with | some r => moFields r | none => []
  let x := s.axis k
  (s.setAxis k { x with mot := renorm x.mot m }).axSats k (satCount m)

/-- A requested swap is made at the start of a sample (R215, R217): sections are kept, 16#4004. -/
def State.makeSwap (s : State) (k : Nat) : State :=
  let x := s.axis k
  match x.swap with
  | none => s
  | some w =>
    let s := s.setAxis k { x with swap := none }
    let s := (s.setFld (F.CLE_AX_STATUS_BANK k) (1 - s.axBank k)).setFld (F.CLE_AX_STATUS_SWAPPEND k) 0
    let s := (s.setFlag (F.CLE_AX_STATUS_TUNED k) (w.source == 2)).loadBank k
    s.record 0x4004 [n2w k, n2w w.source, n2w w.role, n2w w.session] w.role 0 w.session

/-- Requests a swap for the next sample. -/
def State.askSwap (s : State) (k : Nat) (w : Swap) : State :=
  (s.setAxis k { s.axis k with swap := some w }).setFld (F.CLE_AX_STATUS_SWAPPEND k) 1

/-- CLE_AXk_CTRL.SWAP (R216): while DISABLED, or in MAKER or SERVICE; the shadow image is checked by R214, its AXIS
among the checks. -/
def State.coeffSwap (s : State) (who : Who) (k : Nat) : State :=
  match s.refuse who (Reg.CLE_AX_CTRL k) 1, s.axRec k with
  | some c, _ => s.answer c
  | none, none => s.answer ansBADADDR
  | none, some r =>
    if !(s.axState k == axDISABLED || s.fld F.KEY_STATUS_LC == 1 || s.fld F.KEY_STATUS_LC == 3) then s.answer ansBADSTATE
    else if !(cascadeOk (s.shadow k) (axSecs r) && s.hasAx (Rec.u8 (s.shadow k) 0)) then s.answer ansBADSTATE
    else (s.askSwap k ⟨2, who.role.num, who.session⟩).answer ansOK

def execCoeffSwapCmd (w : When) (who : Who) (k : Nat) (s : State) : Out := .next ((s.advance w).coeffSwap who k)

/-- CLE_AXk_CTRL.COPY: the active bank is copied into the shadow bank. -/
def State.coeffCopy (s : State) (who : Who) (k : Nat) : State :=
  match s.refuse who (Reg.CLE_AX_CTRL k) 2 with
  | some c => s.answer c
  | none => (s.setShadow k (s.active k)).answer ansOK

def execCoeffCopyCmd (w : When) (who : Who) (k : Nat) (s : State) : Out := .next ((s.advance w).coeffCopy who k)

/-- A word of the shadow bank window; a bank that no record has filled reads 0. -/
def State.writeShadow (s : State) (k j : Nat) (v : Word) : State :=
  let b := padTo 512 (s.shadow k)
  s.setShadow k (b.take (4 * j) ++ leBytes 4 v.toNat ++ b.drop (4 * j + 4))

/-- The answer that refuses a write of a table entry (R246): installer and maker only. -/
def State.refuseTab (s : State) (who : Who) (k entry : Nat) : Option Nat :=
  if s.longBusy then some ansBUSY
  else if who.role == .tenant then some ansHIDDEN
  else if !(s.hasAx k && decide (entry < 1280)) then some ansBADADDR
  else if !who.im then some ansDENIED
  else if !(s.on .cle) || !(s.armed) then some ansBADSTATE
  else none

/-- One entry of the friction or cogging table takes a value (R246), normalised by R208; for a NaN or an infinity the
spec states no value: a free one (log 5). -/
def State.setTab (s : State) (k entry : Nat) (v : Word) : State :=
  let x := s.axis k
  let old := if entry < 256 then x.fric.getD entry .zero else x.cog.getD (entry - 256) .zero
  let b : Bfp := if finite32 v then normK old.e (real32D v) else ⟨(Config.freeWord s.free).toInt / 256, 0⟩
  let s := s.setAxis k (if entry < 256 then { x with fric := x.fric.set entry b }
    else { x with cog := x.cog.set (entry - 256) b })
  if finite32 v then s.axSats k (satCount [real32D v]) else s.freeNext

/-- TABLE_ENTRY_WRITE. -/
def State.tabWrite (s : State) (who : Who) (k entry : Nat) (v : Word) : State :=
  match s.refuseTab who k entry with
  | some c => s.answer c
  | none => (s.setTab k entry v).answer ansOK

def execTableEntryWrite (w : When) (who : Who) (k entry : Nat) (v : Word) (s : State) : Out :=
  .next ((s.advance w).tabWrite who k entry v)

/-! ## The start of CLE, and what an arm changes -/

/-- The place of an axis among AXES records in ascending AXIS order. -/
def axPlace (axes : List Rec) (k : Nat) : Nat := (axes.filter fun r => decide (Rec.u8 r 0 < k)).length

/-- The record of an axis in TABLES: one per AXES record, in ascending AXIS order (R242). -/
def State.tabRec (s : State) (k : Nat) : Rec := (s.recs 16).getD (axPlace (s.recs 14) k) []

/-- From a class-W switch to the program switch TABLES in force stay those of the axes before, `old`, each with its axis
(R82, R242). -/
def State.orderTables (s : State) (old : List Rec) : State :=
  let rows := ((List.range 64).filter s.hasAx).map fun k =>
    if old.any fun r => Rec.u8 r 0 == k then (s.recs 16).getD (axPlace old k) [] else []
  { s with man := { s.man with cfg := s.man.cfg.put 16 rows } }

/-- The tables of an axis from the manifest, normalised by R208. -/
def State.loadTab (s : State) (k : Nat) : State :=
  let t := s.tabRec k
  let x := s.axis k
  let l := (List.range 1280).map fun i => real32D (Rec.w t (4 * i))
  ((s.setAxis k { x with fric := renorm x.fric (l.take 256), cog := renorm x.cog (l.drop 256) }).axSats k (satCount l)).trunk 1 0
    5120 .read

/-- The CASCADES record of an axis. -/
def State.casRec (s : State) (k : Nat) : Rec := ((s.recs 15).find? fun r => Rec.u8 r 0 == k).getD []

/-- A new axis with both banks and the tables from the ARMED manifest. -/
def State.loadAxis (s : State) (k : Nat) : State :=
  let c := s.casRec k
  let s := (s.setAxis k { Axis.new with bank0 := c, bank1 := c }).setFld (F.CLE_AX_STATUS_SWAPPEND k) 0
  ((s.loadBank k).loadMotion k).loadTab k

/-- Declared drives of a link and its rate (R200). -/
def State.linkAxes (s : State) (g : Nat) : List Rec := (s.recs 14).filter fun r => axLink r == g

/-- CLE_LINKg shows NLINK and DRVS. -/
def State.showLinks (s : State) : State :=
  (List.range 24).foldl (fun s g =>
    let l := s.linkAxes g
    let n := l.foldl (fun m r => max m (axN r)) 0
    let d := l.foldl (fun m r => putBit m (axDrv r) true) 0
    (s.setFld (F.CLE_LINK_NLINK g) n).setFld (F.CLE_LINK_DRVS g) d) s

/-- The registers of CLE take their reset values. -/
def State.resetCleRegs (s : State) : State := { s with regs := s.regs.filter fun e => !(0x200000 ≤ e.1 && e.1 < 0x400000) }

/-- A start of CLE (R216, R228, R246, R247): every axis is loaded from the ARMED manifest, comparators are disarmed, and
the known-answer test decides the mode; `test` has bit 0 for a failure of pipe A, bit 1 of pipe B, bit 2 of the
referee. -/
def State.startCle (s : State) (test : Nat) : State :=
  let s := { s.resetCleRegs with cle := ⟨[], [], none, none, 0, 0, []⟩ }
  let s := (s.axisNums.foldl (fun s k => s.loadAxis k) s).showLinks
  let s := (s.setFld F.CLE_ENG_STATUS_FENCEA (test % 2)).setFld F.CLE_ENG_STATUS_FENCEB (test / 2 % 2)
  let s := s.setFld F.CLE_ENG_STATUS_REFFAIL (test / 4 % 2)
  if test / 4 % 2 == 1 || test % 4 == 3 then s.engHalt 2
  else if test % 4 == 0 then s
  else s.setFld F.CLE_ENG_STATUS_MODE engDEGRADED

/-- The registers of an axis take their reset values. -/
def State.resetAxRegs (s : State) (k : Nat) : State :=
  { s with regs := s.regs.filter fun e => !(decide (0x200000 + k * 0x1000 ≤ e.1) && decide (e.1 < 0x200F00 + k * 0x1000)) }

/-- A disabled axis whose AXES record changes is loaded anew: its active bank is the manifest's, its loops have computed
nothing yet. Its state stays, and in FAULT with it the command bits that R236 has it send (R234). -/
def State.reloadAxis (s : State) (k : Nat) : State :=
  let x := s.axis k
  let s := s.loadAxis k
  let s := s.setAxis k { s.axis k with ctrl := x.ctrl, clearing := x.clearing }
  let s := (s.setFld (F.CLE_AX_STATUS_TUNED k) 0).setFld (F.CLE_AX_STATUS_LIMACT k) 0
  (List.range 3).foldl (fun s l => (s.wr (Reg.CLE_AX_OUT k l) 0).wr (Reg.CLE_AX_ERR k l) 0) s

/-- The new axis topology of a class-W switch (R30, R87): axes whose record changed, appeared or disappeared; the others
run on. `old` are the records before. -/
def State.takeAxes (s : State) (old : List Rec) : State :=
  let s := { s with cle := { s.cle with
    axes := s.cle.axes.filter fun e => (s.recs 14).any fun r => Rec.u8 r 0 == e.1 } }
  let s := (s.recs 14).foldl (fun s r =>
    let k := Rec.u8 r 0
    if old.contains r then s
    else if old.any fun o => Rec.u8 o 0 == k then s.reloadAxis k
    else (s.resetAxRegs k).loadAxis k) s
  s.showLinks

/-- CASCADES and TABLES of a program switch take effect at the next sample (R82, R216): each changed record goes into the
shadow bank and a swap is requested; changed tables are loaded. `oldC` and `oldT` are the records before. -/
def State.takeCoeffs (s : State) (oldC oldT : List Rec) (w : Who) : State :=
  let s := (s.recs 15).foldl (fun s c =>
    if oldC.contains c then s else (s.setShadow (Rec.u8 c 0) c).askSwap (Rec.u8 c 0) ⟨1, w.role.num, w.session⟩) s
  s.axisNums.foldl (fun s k => if oldT.getD (axPlace (s.recs 14) k) [] == s.tabRec k then s else s.loadTab k) s

/-! ## Link events (R253) -/

def Link.new : Link := ⟨0, 0, [], [], [], false, [], 0⟩

def State.link (s : State) (g : Nat) : Link := s.cle.links.getD g .new

def State.setLink (s : State) (g : Nat) (l : Link) : State :=
  { s with cle := { s.cle with links := s.cle.links.put g l } }

/-- The rate of a link. -/
def State.nLink (s : State) (g : Nat) : Nat := s.fld (F.CLE_LINK_NLINK g)

/-- The design frequency f_d in µHz: the nominal frequency in TIMEBASE (R219). -/
def State.fdNom (s : State) : Nat :=
  match s.recs 2 with
  | r :: _ => if (Rec.w r 0).bit 2 then 60000000 else 50000000
  | [] => 50000000

/-- The drive watchdog WDOG: four sample intervals at f_d in units of 10 µs, rounded up (R254). -/
def State.driveWdog (s : State) (r : Rec) : Nat :=
  let d := max 1 (axN r) * s.fdNom
  (400000000000 + d - 1) / d

/-- The command frame of an axis at link event `j` (R254, R256). -/
def State.commandFrame (s : State) (k : Nat) (r : Rec) (j : Nat) : List Byte :=
  let x := s.axis k
  let tpos := if axKind r 0 == 0 then (BitVec.ofInt 48 (x.r / 2 ^ 32)).toNat else 0
  let body := leBytes 1 (axDrv r % 8) ++ leBytes 1 (j % 256) ++ leBytes 4 (BitVec.ofInt 32 x.cmd).toNat ++ leBytes 2 x.ctrl
    ++ leBytes 6 tpos ++ leBytes 2 (s.driveWdog r)
  [0x55, 0xD5] ++ body ++ leBytes 2 (crc16 body)

/-- A response frame, when its PRE, SYNC and CRC are right (R254, R256). -/
def respFrame (b : List Byte) : Option DriveResp :=
  let body := (b.drop 2).take 16
  if b.length == 20 && b.take 2 == [0x55, 0xA9] && Rec.u16 b 18 == crc16 body then
    some ⟨Rec.u8 b 2, Rec.u8 b 3, (BitVec.ofNat 48 (Rec.u b 4 6)).toInt, Rec.i b 10 4, Rec.i b 14 2, BitVec.ofNat 16 (Rec.u16 b 16)⟩
  else none

/-- One axis at the event in which it is sampled: a requested swap, the end of STO, the command frame. -/
def State.strobe (s : State) (k : Nat) (r : Rec) (pm : Postmark) (j : Nat) : State :=
  let s := s.makeSwap k
  let s := if s.axState k == axSTO && s.stoClosed (axGroup r) then s.axDisable k else s
  let x := s.axis k
  let x := if s.axState k == axENABLING && x.enPm.isNone then { x with enPm := some pm } else x
  let s := s.setAxis k x
  let s := s.setAxis k { x with frame := s.commandFrame k r j }
  (s.setFld (F.CLE_AX_DRV_CTRL k) x.ctrl).perfEvent 3 8 0 1

/-- The end of a link event when every sampled drive has answered or missed (R259): the link goes DOWN when every drive of it
has missed its last three events, and is UP after one event that samples every drive and in which every response is valid. With
drives of different rates the rule does not say which events count: DEDUCED (log 14). -/
def State.linkJudge (s : State) (g : Nat) : State :=
  let l := s.link g
  if l.sampled.isEmpty || l.ok.length + l.missed.length < l.sampled.length then s
  else
    let drives := (s.linkAxes g).map fun r => Rec.u8 r 0
    let dead := drives.all fun k => decide (3 ≤ l.streaks.getD k 0)
    let whole := drives.all fun k => l.ok.contains k
    let l := { l with sampled := [], downFor := if l.down then l.downFor + 1 else 0 }
    if dead && !l.down then
      let s := s.setLink g { l with down := true, downFor := 0 }
      let s := (s.setFld (F.CLE_LINK_UP g) 0).setFld (F.CLE_LINK_DOWNSEEN g) 1
      let s := (s.linkAxes g).foldl (fun s r => if s.axOn (Rec.u8 r 0) then s.axFault (Rec.u8 r 0) 6 else s) s
      s.record 0x4009 [n2w g, n2w (s.fld (F.CLE_LINK_DRVS g))]
    else if whole then
      let s := (s.setLink g { l with down := false, downFor := 0 }).setFld (F.CLE_LINK_UP g) 1
      if l.down then s.record 0x400A [n2w g, n2w l.downFor] else s
    else s.setLink g l

/-! ## Samples (R218 to R227, R253 to R258) -/

/-- The ramp of one sample in RUN and STOPPING (R239), with what its standstill ends (R234). A saturation in the ramp
belongs to no section: the section word of its event is free. -/
def State.axRamp (s : State) (k : Nat) (r : Rec) : State :=
  let ts := s.axTs r
  if s.axState k == axRUN then
    let (x, n) := rampRun r ts s.free (s.axis k)
    ((s.setAxis k x).freeNext).axSats k n
  else if s.axState k == axSTOPPING then
    let x := s.axis k
    let (x, still, n) := rampStop r ts s.free x
    let s := ((s.setAxis k x).freeNext).axSats k n
    let drv := s.fld (F.CLE_AX_DRV_STATUS k)
    if still && !x.disabling then s.setAxState k axRUN
    else if still && x.disabling && drv / 16 % 2 == 1 then s.axDisable k
    else s
  else s

/-- CLE_AXk_SDIST is computed anew every sample (R241). -/
def State.showSdist (s : State) (k : Nat) (r : Rec) : State :=
  s.wr (Reg.CLE_AX_SDIST k) (dStop (s.axis k) (s.axTs r))

/-- Sections that both pipes have computed, or the one that is not fenced (R415, CLE_ENG_LOAD). -/
def State.countSecs (s : State) (n : Nat) : State :=
  let s := { s with cle := { s.cle with load := s.cle.load + n } }
  let s := if s.flag F.CLE_ENG_STATUS_FENCEA then s else s.perfEvent 3 1 0 n
  if s.flag F.CLE_ENG_STATUS_FENCEB then s else s.perfEvent 3 2 0 n

/-- A mismatch of the pipes (R222): the sample is abandoned after the section that differs, states and command stay, the
referee gets the section. -/
def State.axMismatch (s : State) (k : Nat) (r : Rec) (d : PipeDiff) : State :=
  let x := s.axis k
  let s := s.countSecs (min (axSecs r) (d.section_ + 1))
  let s := s.setAxis k { x with skips := x.skips + 1, mism := some (d.section_, d.resA, d.resB) }
  let s := ((s.satWord (Reg.CLE_AX_MISCNT k)).satWord (Reg.CLE_AX_SKIPCNT k)).setFld (F.CLE_AX_STATUS_SKIP k) 1
  let s := ((s.inc F.CLE_ENG_MISM_TOTAL).perfEvent 3 3 0 1).perfEvent 3 10 0 1
  if x.skips + 1 == 4 then
    (s.axFault k 5).record 0x4007 [n2w k, s.rd (Reg.CLE_AX_MISCNT k)]
  else s

/-- The cascade of one sample and what its registers show. -/
def State.axCascade (s : State) (k : Nat) (r : Rec) : State :=
  let c := s.active k
  let x := s.axis k
  let o := cascade r c x
  let x := { x with secs := o.secs, sig := o.sig, cmd := driveCmd x o.out, skips := 0 }
  let ts := s.axTs r
  let (x, n) := if s.axState k == axRUN then adapt r c ts x o (s.flag (F.CLE_AX_MCTRL_FREEZE k)) else (x, 0)
  let s := ((s.setAxis k x).axSats k n).setFld (F.CLE_AX_STATUS_LIMACT k) o.lim
  let s := (List.range 3).foldl (fun s l =>
    (s.wr (Reg.CLE_AX_OUT k l) (toReal32 (o.outs.getD l .zero).val)).wr (Reg.CLE_AX_ERR k l)
      (toReal32 (o.errs.getD l .zero).val)) s
  let s := (s.wr (Reg.CLE_AX_EXPCNT k) (s.rd (Reg.CLE_AX_EXPCNT k) + n2w o.exps)).perfEvent 3 5 0 o.exps
  (o.sats.foldl (fun s j => s.axSat k (n2w j)) s).countSecs (axSecs r)

/-- The transition from ENABLING (R235): the ramp is seeded from the measurements. -/
def State.axSeed (s : State) (k : Nat) (r : Rec) : State :=
  let x := s.axis k
  let qv : Rat := ((x.pos - x.prevPos : Int) : Rat) / (s.axTs r).val
  let v0 := normK x.v.e qv
  let f0 := normK x.fT.e x.force
  let kind := axKind r 0
  let qs := qv :: (match x.newTarget with | some (_, t) => if kind == 0 then [] else [real32D t] | none => [])
  let x := { x with r := x.pos * 2 ^ 32, v := v0, a := ⟨0, x.a.e⟩, fT := f0, pT := x.pos * 2 ^ 32,
                    vT := if kind == 1 then v0 else f0, enPm := none, disabling := false }
  let x := match x.newTarget with
    | none => x
    | some (p, t) =>
      { x with pT := if kind == 0 then p * 2 ^ 32 else x.pT, vT := if kind == 0 then x.vT else normK x.vT.e (real32D t),
               newTarget := none }
  ((s.setAxis k { x with stopReq := false }).axSats k (satCount qs)).setAxState k (if x.stopReq then axSTOPPING else axRUN)

/-- The feedback of a valid response (R254): position, status, CRC errors, misses end. -/
def State.axFeedback (s : State) (k : Nat) (r : DriveResp) (pm : Postmark) : State :=
  let x := s.axis k
  let st := r.status.toNat
  let s := s.setAxis k { x with
    prevPos := if x.seen == 0 then r.pos else x.pos, pos := r.pos, vel := r.vel, force := r.force,
    seen := min 2 (x.seen + 1), samplePm := pm, miss := 0 }
  let s := s.setFld (F.CLE_AX_DRV_STATUS k) st
  if st / 32 % 2 == 1 then s.inc (F.CLE_AX_LINKERR_DCRC k) else s

/-- 16#400C: the drive's STATUS.STO differs from the group output's state for 16 consecutive samples (R251). -/
def State.axStoDisc (s : State) (k : Nat) (r : Rec) : State :=
  let x := s.axis k
  let open_ := !(s.stoClosed (axGroup r))
  let sto := s.fld (F.CLE_AX_DRV_STATUS k) / 4 % 2 == 1
  let n := if !(axGroup r == 0xFF) && !(open_ == sto) then x.stoDiff + 1 else 0
  let s := s.setAxis k { x with stoDiff := min 17 n }
  if n == 16 then s.record 0x400C [n2w k, n2w (axGroup r), n2w (b2n (!open_)), n2w (b2n sto)] else s

/-- What a drive's status does to the axis state (R234). A drive in FAULT keeps EN = 1 until it reports STILL (R236). -/
def State.axByStatus (s : State) (k : Nat) (r : Rec) : State :=
  let st := s.fld (F.CLE_AX_DRV_STATUS k)
  let rdy := st % 2 == 1
  let flt := st / 2 % 2 == 1
  let still := st / 16 % 2 == 1
  if s.axOn k && flt then s.axFault k 2
  else if s.axState k == axENABLING && rdy then s.axSeed k r
  else if s.axState k == axFAULT && (s.axis k).clearing then
    if !still && (s.axis k).ctrl % 2 == 1 then s
    else if !rdy && !flt then s.axDisable k
    else s.setAxis k { s.axis k with ctrl := drSTOP + drCLR }
  else s

/-- One valid sample of an axis (R253 step 4): comparators, state, ramp and cascade. The cascade is first computed in the
sample after the seed (log 16). -/
def State.axSample (s : State) (k : Nat) (r : Rec) (d : DriveResp) (diff : Option PipeDiff) : State :=
  let x := s.axis k
  let pm := (s.link (axLink r)).pm
  let was := s.axState k
  let s := s.axFeedback k d pm
  let s := if x.seen == 0 then s
    else (List.range 16).foldl (fun s j => s.cmpSample k r x.pos d.pos x.samplePm pm j) s
  let s := s.axStoDisc k r
  let s := s.axByStatus k r
  if (was == axRUN || was == axSTOPPING) && (s.axState k == axRUN || s.axState k == axSTOPPING) then
    let s := s.axRamp k r
    let s := if s.axState k == axRUN || s.axState k == axSTOPPING then
        match (if s.engMode == engDUAL then diff else none) with
        | some m => s.axMismatch k r m
        | none => s.axCascade k r
      else s
    s.showSdist k r
  else s.showSdist k r

/-- A missed response (R258): the ramp advances, the command is repeated, LMISS consecutive misses put the axis into
FAULT. A run of skipped samples ends (R227). -/
def State.axMissed (s : State) (k : Nat) (r : Rec) : State :=
  let x := s.axis k
  let s := s.setAxis k { x with miss := x.miss + 1, skips := 0 }
  let s := (s.inc (F.CLE_AX_LINKERR_MISS k)).perfEvent 3 9 0 1
  let s := (s.axRamp k r).showSdist k r
  if s.axOn k && decide (moLmiss r ≤ x.miss + 1) then s.axFault k 1 else s

/-- The part of the axis in its link event is done. -/
def State.axDone (s : State) (k : Nat) (r : Rec) (valid : Bool) : State :=
  let g := axLink r
  let l := s.link g
  let l := if valid then { l with ok := k :: l.ok, streaks := l.streaks.put k 0 }
    else { l with missed := k :: l.missed, streaks := l.streaks.put k (l.streaks.getD k 0 + 1) }
  (s.setLink g l).linkJudge g

/-- The number j of the link event that falls at the present postmark, if one does (R53, R54, R424). -/
def State.linkIndex (s : State) (g : Nat) : Option Nat :=
  let n := s.nLink g
  let phase := match s.net.ports.get? g with | some r => Rec.u32 r 4 % 2 ^ 20 | none => 0
  (List.range n).find? fun j => (j * 2 ^ 20 / n + phase) % 2 ^ 20 == s.clk.angle.toNat

/-- LINK_EVENT: strobe, and one command frame to each drive sampled at event j. A drive of the event before that has
neither answered nor been reported missing counts as missed. -/
def State.linkEvent (s : State) (g j : Nat) : State :=
  let s := ((s.link g).sampled.filter fun k => !((s.link g).ok.contains k) && !((s.link g).missed.contains k)).foldl
    (fun s k => match s.axRec k with | some r => (s.axMissed k r).axDone k r false | none => s) s
  let l := { (s.link g) with j := j }
  let n := s.nLink g
  let now := (s.linkAxes g).filter fun r => l.j % (n / max 1 (axN r)) == 0
  let s := now.foldl (fun s r => s.strobe (Rec.u8 r 0) r s.pmNow j) s
  s.setLink g { l with pm := s.pmNow, sampled := now.map fun r => Rec.u8 r 0, ok := [], missed := [] }

def execLinkEvent (w : When) (g : Nat) (s : State) : Out :=
  let s := s.advance w
  .next (match s.linkIndex g with
    | some j =>
      if s.good .cle && s.good .mtr && s.fld (F.FPT_PG_STATUS_USE g) == 4 && !((s.link g).pm == s.pmNow) then s.linkEvent g j
      else s
    | none => s)

/-- Whether a response is expected from an axis in the event that runs. -/
def State.axExpected (s : State) (k : Nat) (r : Rec) : Bool :=
  let l := s.link (axLink r)
  l.sampled.contains k && !(l.ok.contains k) && !(l.missed.contains k)

/-- Whether a response frame answers the command of the event that runs (R258): its SYNC, CRC, ADDR and SEQ match. -/
def State.axAnswer (s : State) (r : Rec) (frame : List Byte) : Option DriveResp :=
  (respFrame frame).filter fun d => d.addr == axDrv r && d.seq == (s.link (axLink r)).j % 256

/-- DEXJO_RESPONSE: a response frame that matches is taken; any other counts as missed (R258). -/
def execDexjoResponse (w : When) (k : Nat) (frame : List Byte) (diff : Option PipeDiff) (s : State) : Out :=
  let s := s.advance w
  .next (match s.axRec k with
    | none => s
    | some r =>
      if s.good .cle && s.axExpected k r then
        match s.axAnswer r frame with
        | some d => (s.axSample k r d diff).axDone k r true
        | none => (s.axMissed k r).axDone k r false
      else s)

/-- DEXJO_RESPONSE_MISS: no response within its window. -/
def execDexjoResponseMiss (w : When) (k : Nat) (s : State) : Out :=
  let s := s.advance w
  .next (match s.axRec k with
    | none => s
    | some r => if s.good .cle && s.axExpected k r then (s.axMissed k r).axDone k r false else s)

/-- AXIS_ENABLE_TIMEOUT: RDY was not reported within 5 mains cycles of the first EN = 1 (R234). -/
def execAxisEnableTimeout (w : When) (k : Nat) (s : State) : Out :=
  let s := s.advance w
  .next (match (s.axis k).enPm with
    | some pm =>
      if s.good .cle && s.axState k == axENABLING && decide (5 * 2 ^ 20 ≤ (s.pmNow - pm).toNat) then s.axFault k 3 else s
    | none => s)

/-- ORPHAN_STOP: the main path has had no holder for 250 ms (R237). -/
def State.orphanStop (s : State) : State :=
  let run := s.axisNums.filter fun k => s.axState k == axRUN
  let s := run.foldl (fun s k => s.axStopProfile k false) s
  s.record 0x400B (axMask run)

def execOrphanStop (w : When) (s : State) : Out :=
  let s := s.advance w
  .next (match s.pms.noHolderNs with
    | some t => if s.good .cle && decide (t + 250000000 ≤ s.ns) then s.orphanStop else s
    | none => s)

/-- AXIS_STO_ENTRY: the group's safety output has opened (R234, R251): EN = 0, STOP = 0, the cascade stops. -/
def State.axSto (s : State) (g : Nat) : State :=
  (s.recs 14).foldl (fun s r =>
    let k := Rec.u8 r 0
    if axGroup r == g && !(s.axState k == axDISABLED) && !(s.axState k == axSTO) then
      (s.axDisable k).setAxState k axSTO
    else s) s

def execAxisStoEntry (w : When) (g : Nat) (s : State) : Out :=
  let s := s.advance w
  .next (if s.good .cle && decide (g < 8) && !(s.stoClosed g) then s.axSto g else s)

/-! ## The mains-cycle boundary (R220) -/

/-- FDEV of one axis at the boundary, and CLE_ENG_LOAD of the last cycle. -/
def State.axDev (s : State) (k : Nat) : State :=
  let f := (s.rd Reg.PMK_FREQ).toNat
  let fd := s.fdNom
  let dev := decide (caDevlim (s.active k) * fd < ((f : Int) - fd).natAbs * 1000)
  let was := s.flag (F.CLE_AX_STATUS_FDEV k)
  let s := s.setFlag (F.CLE_AX_STATUS_FDEV k) dev
  if dev && !was then
    let s := s.record 0x4006 [n2w k, s.rd Reg.PMK_FREQ, n2w (caDevact (s.active k))]
    if caDevact (s.active k) == 1 && s.axState k == axRUN then s.axStopProfile k false else s
  else s

/-- The engine at a mains-cycle boundary: sections per second of the last cycle, which ran at `f` µHz, and frequency
deviation. -/
def State.cleCycle (s : State) (f : Nat) : State :=
  if s.good .cle then
    let rate := s.cle.load * f / 1000000
    let s := { (s.wr Reg.CLE_ENG_LOAD (n2w rate)) with cle := { s.cle with load := 0 } }
    s.axisNums.foldl (fun s k => s.axDev k) s
  else s

end Sys2Proof.Machine
end

