-- ==== Sys2Proof/Machine/Govern.lean ====
section
/-! DEFINITION. The demand governor and the staging assist (chapter 10). -/

namespace Sys2Proof.Machine

/-! ## Configuration (R298, R299) -/

/-- Feeder records. -/
def State.govFdrs (s : State) : List Rec := (s.recs 18).filter fun r => Rec.u8 r 0 == 1

/-- Load records with their index. -/
def State.govLoads (s : State) : List (Nat × Rec) :=
  let l := (s.recs 18).filter fun r => Rec.u8 r 0 == 2
  (List.range l.length).map fun n => (n, l.getD n [])

def gvFeeder (r : Rec) : Nat := Rec.u8 r 1
def fdSliding (r : Rec) : Bool := Rec.u8 r 2 == 1
/-- Interval length in seconds. -/
def fdLen (r : Rec) : Nat := 60 * max 1 (Rec.u8 r 3)
def fdLimit (r : Rec) : Rat := real32D (Rec.w r 4)
def fdMargin (r : Rec) : Nat := Rec.u16 r 8
def fdHyst (r : Rec) : Nat := Rec.u16 r 10
def fdHoriz (r : Rec) : Nat := Rec.u16 r 12
def fdLead (r : Rec) : Nat := Rec.u8 r 14
def fdK (r : Rec) : Nat := Rec.u8 r 15
def fdIbudget (r : Rec) : Rat := real32D (Rec.w r 16)
def fdShed (r : Rec) : Rat := fdLimit r * (1 - (fdMargin r : Rat) / 1000)
def fdRest (r : Rec) : Rat := fdLimit r * (1 - ((fdMargin r + fdHyst r : Nat) : Rat) / 1000)

def ldDim (r : Rec) : Bool := Rec.u8 r 2 == 1
def ldPh (r : Rec) : Nat := Rec.u8 r 3
def ldReq (r : Rec) : Nat := Rec.u32 r 4 % 2 ^ 17
def ldOut (r : Rec) : Nat := Rec.u32 r 8 % 2 ^ 17
def ldInh (r : Rec) : Option Nat := if Rec.u32 r 12 == 0xFFFFFFFF then none else some (Rec.u32 r 12 % 2 ^ 17)
def ldPnom (r : Rec) : Rat := real32D (Rec.w r 16)
def ldInrush (r : Rec) : Rat := real32D (Rec.w r 20)
def ldVch (r : Rec) : Nat := Rec.u8 r 24
def ldPrio (r : Rec) : Nat := Rec.u8 r 25
def ldGuar (r : Rec) : Bool := Rec.bit r 26 0
def ldOpt (r : Rec) : Bool := Rec.bit r 26 1
def ldOfs (r : Rec) : Nat := Rec.u32 r 28 % 2 ^ 20
def ldMinon (r : Rec) : Nat := Rec.u16 r 32
def ldMinoff (r : Rec) : Nat := Rec.u16 r 34
def ldDimmin (r : Rec) : Rat := real32D (Rec.w r 36)
def ldGuarlvl (r : Rec) : Rat := if ldGuar r then real32D (Rec.w r 40) else 0
/-- Power of a level in percent (R299). -/
def ldWatts (r : Rec) (level : Rat) : Rat := ldPnom r * level / 100

/-! ## State access -/

def Fdr.new : Fdr := ⟨0, [], 0, [], false, false, false, 0, 0, 0⟩
def Load.new : Load := ⟨0, none, none, 0, false⟩

def State.fdr (s : State) (f : Nat) : Fdr := s.gov.fdrs.getD f .new
def State.setFdr (s : State) (f : Nat) (x : Fdr) : State := { s with gov := { s.gov with fdrs := s.gov.fdrs.put f x } }
def State.load (s : State) (p : Nat) : Load := s.gov.loads.getD p .new
def State.setLoad (s : State) (p : Nat) (x : Load) : State := { s with gov := { s.gov with loads := s.gov.loads.put p x } }

/-- The level granted to a load: that of its queued switching, else the one last sent. -/
def State.granted (s : State) (p : Nat) : Rat :=
  match s.gov.queue.find? fun q => q.outpt == p with
  | some q => q.level
  | none => (s.load p).level

/-! ## Energy of the intervals (R297, R302, R308) -/

/-- The staging assist adds the energy of a metered cycle, once (R297). -/
def State.stagingAdd (s : State) : State :=
  match s.gov.fresh with
  | none => s
  | some tns =>
    if s.good .fab then
      let s := { s with gov := { s.gov with fresh := none } }.trunk 2 0 (Config.stagingBytes * s.govFdrs.length) .write
      s.govFdrs.foldl (fun s r =>
        let f := gvFeeder r
        let p := max 0 (real32D (s.rd (Reg.MTR_G_P f)))
        let x := s.fdr f
        let e := p * (tns : Rat) / 1000000000
        s.setFdr f { x with e := x.e + e, secE := x.secE + e, ps := (p :: x.ps).take 50 }) s
    else s

/-- The return-to-sender counters of a pigeonhole are persisted as one group per change (R313). -/
def State.saveRts (s : State) (p : Nat) : State :=
  s.persist 2 1 8 (.counters [(Reg.GOV_RTS0 p, s.rd (Reg.GOV_RTS0 p)), (Reg.GOV_RTS1 p, s.rd (Reg.GOV_RTS1 p))])

/-- The RTC second at which the interval of a feeder that holds second `sec` began (R302). -/
def fdStart (r : Rec) (sec : Nat) : Nat := sec - sec % fdLen r

/-- E_f: a sliding interval's is the energy of the last 60 × TD seconds, a block's what it has gathered (R302, R308). -/
def Fdr.energy (x : Fdr) (r : Rec) : Rat := if fdSliding r then (x.hist.take (fdLen r)).foldl (· + ·) 0 else x.e

/-- The end of an interval (R308): demand, CONTRACT with 16#6003 and 16#6002 (R307), and a new interval. The contract is
broken only to keep rank 1 (R306). What 16#6002 names as load and cause of a CONTRACT break is not stated: free values (log
33). -/
def State.closeInterval (s : State) (r : Rec) (sec : Nat) : State :=
  let f := gvFeeder r
  let x := s.fdr f
  let d := x.energy r / (fdLen r : Rat)
  let s := s.wr (Reg.GOV_FDR_LAST f) (toReal32 d)
  let above := decide (fdLimit r < d) && !x.short && !x.close && !x.gap
  let s := if above then
      let s := (s.inc (F.GOV_RTS1_CONTRACT 0)).record 0x6003 [n2w f, toReal32 d, toReal32 (fdLimit r), n2w x.start]
      let n := s.free
      let s := s.record 0x6002 [Config.freeWord n, 0, Config.snapNum 0x6002 2, 1, Config.freeWord (n + 1)]
      s.freeNext.freeNext.saveRts 0
    else s
  let x := s.fdr f
  s.setFdr f { x with e := 0, short := false, gap := x.gap && fdSliding r, close := false, start := sec, ticks := 0 }

/-- Whether a gap in metering lies within the last 60 × TD seconds (R302). -/
def State.gapRecent (s : State) (r : Rec) (sec : Nat) : Bool :=
  let stop := (s.rd (Reg.MTR_G_GAPEND (gvFeeder r))).toNat
  s.mtr.gap.isSome || (!(stop == 0) && decide (sec < stop + fdLen r))

/-- Whether an interval ends at a second boundary: a block's by the RTC or after a set, a sliding one's every 60 × TD
seconds, which are counted from the start of FAB, a DESIGN CHOICE (log 33). -/
def Fdr.ends (x : Fdr) (r : Rec) (sec : Nat) : Bool :=
  if fdSliding r then decide (fdLen r ≤ x.ticks) else sec % fdLen r == 0 || x.close

/-- The governor at an RTC second boundary: the second enters the history, intervals end (R297, R302, R308). -/
def State.govSecond (s : State) (sec : Nat) : State :=
  if s.good .fab then
    s.govFdrs.foldl (fun s r =>
      let f := gvFeeder r
      let x := s.fdr f
      let gap := if fdSliding r then x.gap && s.gapRecent r sec else x.gap
      let x := { x with hist := (x.secE :: x.hist).take 3600, secE := 0, ticks := x.ticks + 1, seen := sec, gap := gap }
      let s := s.setFdr f x
      let s := if x.ends r sec then s.closeInterval r sec else s
      (s.setFlag (F.GOV_FDR_STATUS_SHORT f) (s.fdr f).short).setFlag (F.GOV_FDR_STATUS_GAP f) (s.fdr f).gap) s
  else s

/-- FAB returns from retention: the seconds in which the staging assist stood still carried no energy, and a block interval
whose boundary has passed begins at that boundary with E_f = 0 (R302); it holds the gap in metering. -/
def State.govAwake (s : State) : State :=
  let sec := s.rtcSec
  s.govFdrs.foldl (fun s r =>
    let f := gvFeeder r
    let x := s.fdr f
    let missed := min 3600 (sec - x.seen)
    let x := { x with
      hist := (List.replicate missed 0 ++ x.hist).take 3600, ticks := (x.ticks + (sec - x.seen)) % fdLen r, seen := sec
      gap := x.gap || s.gapRecent r sec }
    let x := if fdSliding r || decide (fdStart r sec ≤ x.start) then x
      else { x with e := 0, short := false, close := false, start := fdStart r sec }
    (s.setFdr f x).setFlag (F.GOV_FDR_STATUS_GAP f) x.gap) s

/-- The RTC was set: block intervals in progress are SHORT and close at the next second boundary (R302). -/
def State.govRtcSet (s : State) : State :=
  if s.good .fab then
    s.govFdrs.foldl (fun s r =>
      let f := gvFeeder r
      if fdSliding r then s
      else (s.setFdr f { s.fdr f with short := true, close := true }).setFld (F.GOV_FDR_STATUS_SHORT f) 1) s
  else s

/-! ## Forecast (R303) -/

/-- Seconds between a postmark and now, negative when it lies ahead, at the clock's present frequency (log 21). -/
def State.secsSince (s : State) (pm : Postmark) : Rat :=
  (((s.pmNow.toNat : Int) - (pm.toNat : Int) : Int) : Rat) / 2 ^ 20 * 1000000 / ((max 1 (s.rd Reg.PMK_FREQ).toNat : Nat) : Rat)

/-- D(P_c). An interval that an RTC set closes ends at the next second boundary (R302). -/
def State.forecast (s : State) (r : Rec) (pc : Rat) : Rat :=
  let x := s.fdr (gvFeeder r)
  let len : Rat := (fdLen r : Rat)
  if fdSliding r then
    ((x.hist.take (fdLen r - fdHoriz r)).foldl (· + ·) 0 + pc * (fdHoriz r : Rat)) / len
  else
    let now : Rat := (s.rtcSec : Rat) + (s.rtc.sub.toNat : Rat) / 32768
    let stop : Rat := ((s.rtcSec / fdLen r + 1) * fdLen r : Nat)
    let rem : Rat := if x.close then 1 else max 1 (stop - now)
    (x.e + pc * rem) / len

/-- P_f: the mean of the last 50 cycles and the power changes of switchings ahead or less than 50 cycles past. -/
def State.basePower (s : State) (f : Nat) : Rat :=
  let near := (s.gov.queue ++ s.gov.past).filter fun q =>
    q.feeder == f && decide ((s.pmNow.toNat : Int) - (q.target.toNat : Int) < 50 * 2 ^ 20)
  meanRat (s.fdr f).ps 0 + near.foldl (fun t q => t + q.watts) 0

/-! ## One evaluation (R304 to R307) -/

/-- A load in an evaluation: index, record, request, level before, level now, cause, and what the evaluation did to it:
reduced, switched by its inhibit, and the guarantees it broke (0 GUAR, 1 MINON). -/
structure EvLoad where
  n : Nat
  r : Rec
  req : Rat
  was : Rat
  g : Rat
  cause : Nat
  reduced : Bool
  inh : Bool
  broke : List (Nat × Nat)
  deriving DecidableEq, Repr

/-- The request of load `n` in percent (R299). What a NaN asks for is not stated: a free level. -/
def State.request (s : State) (n : Nat) (r : Rec) : Rat :=
  let w := (s.point (ldReq r)).value
  if ldDim r then
    (if isNaN32 w then ((Config.freeNat (s.free + 8 + n) % 101 : Nat) : Rat)
     else match real32 w with | some q => limQ 0 q 100 | none => if w.bit 31 then 0 else 100)
  else if w == 0 then 0 else 100

/-- Whether MINOFF still runs after the load's last switch-off. -/
def State.minoffRuns (s : State) (r : Rec) : Bool :=
  match (s.load (ldOut r)).offPm with
  | some t => decide (s.secsSince t < (ldMinoff r : Rat))
  | none => false

/-- Whether MINON protects the load (R305): ON, and switched on less than MINON seconds ago. -/
def State.minonHolds (s : State) (e : EvLoad) : Bool :=
  decide (e.cause = 0) && decide (0 < e.was) &&
    match (s.load (ldOut e.r)).onPm with
    | some t => decide (s.secsSince t < (ldMinon e.r : Rat))
    | none => false

/-- Inhibits, requests for less and for more, and MINOFF (R304). A HELD load whose MINOFF or inhibit is over is held for demand
until the restore step grants it (log 33). -/
def State.evStart (s : State) (mode n : Nat) (r : Rec) : EvLoad :=
  let g := s.granted (ldOut r)
  let req := s.request n r
  let old := (s.load (ldOut r)).cause
  let inh := match ldInh r with | some p => !((s.point p).value == 0) | none => false
  if inh then ⟨n, r, req, g, 0, 6, false, true, []⟩
  else if req ≤ g then ⟨n, r, req, g, req, 0, false, false, []⟩
  else if s.minoffRuns r then ⟨n, r, req, g, g, 5, false, false, []⟩
  else if mode == 2 && !(old == 0) then ⟨n, r, req, g, g, if old == 5 || old == 6 then 1 else old, false, false, []⟩
  else ⟨n, r, req, g, req, 0, false, false, []⟩

/-- Insertion by an ascending key. -/
def evInsert (key : EvLoad → Nat) (e : EvLoad) : List EvLoad → List EvLoad
  | [] => [e]
  | x :: t => if key e < key x then e :: x :: t else x :: evInsert key e t
def evSort (key : EvLoad → Nat) (l : List EvLoad) : List EvLoad := l.foldr (evInsert key) []

/-- The order of pass A: SHEDPRIO descending, dimmable before switched, index descending. -/
def shedKey (e : EvLoad) : Nat := ((255 - ldPrio e.r) * 2 + b2n (!(ldDim e.r))) * 65536 + (65535 - e.n)
/-- The order of the restore step. -/
def restKey (e : EvLoad) : Nat := ldPrio e.r * 65536 + e.n

/-- The level a pass reduces a load to; passes A and B keep GUARLVL (R305, R306). -/
def floorOf (r : Rec) (guard : Bool) : Rat :=
  let m := if ldDim r then ldDimmin r else 0
  if guard then max m (ldGuarlvl r) else m

/-- One load in pass 1 (A), 2 (B) or 3 (C). -/
def State.shedOne (s : State) (fr : Rec) (target : Rat) (pass : Nat) (a : List EvLoad × Rat) (e : EvLoad) :
    List EvLoad × Rat :=
  let d := s.forecast fr a.2
  let stop := if pass == 1 then target else fdLimit fr
  let guarded := !(pass == 2) && s.minonHolds e
  let skip := decide (d ≤ stop) || (pass == 1 && decide (d ≤ fdShed fr) && !(ldOpt e.r)) || guarded
  -- a switched load is either on or off: a floor above 0 keeps it on
  let lo := floorOf e.r (!(pass == 3))
  let dest : Rat := if ldDim e.r then lo else if lo == 0 then 0 else e.g
  if skip || decide (e.g ≤ dest) then (a.1 ++ [e], a.2)
  else
    let cause := if pass == 1 then (if d ≤ fdShed fr then 4 else 1) else pass
    let broke := (if pass == 2 && s.minonHolds e then [(1, cause)] else [])
      ++ (if pass == 3 && decide (dest < ldGuarlvl e.r) then [(0, cause)] else [])
    (a.1 ++ [{ e with g := dest, cause := cause, reduced := true, broke := e.broke ++ broke }],
      a.2 - ldWatts e.r (e.g - dest))

/-- One pass over the loads in shedding order. -/
def State.shedPass (s : State) (fr : Rec) (target : Rat) (pass : Nat) (a : List EvLoad × Rat) : List EvLoad × Rat :=
  a.1.foldl (s.shedOne fr target pass) ([], a.2)

/-- The restore step: HELD loads return as a whole while the forecast stays at L_rest or below. -/
def State.restore (s : State) (fr : Rec) (a : List EvLoad × Rat) : List EvLoad × Rat :=
  (evSort restKey a.1).foldl (fun b e =>
    let w := ldWatts e.r (e.req - e.g)
    if !(e.cause == 0) && !(e.cause == 6) && !(e.cause == 5) && !e.reduced
      && decide (e.g < e.req) && decide (s.forecast fr (b.2 + w) ≤ fdRest fr) then
      (b.1 ++ [{ e with g := e.req, cause := 0 }], b.2 + w)
    else (b.1 ++ [e], b.2)) ([], a.2)

/-- The evaluation of a feeder: the loads after it and the D it ends with. -/
def State.evaluate (s : State) (mode : Nat) (fr : Rec) : List EvLoad × Rat :=
  let f := gvFeeder fr
  let ls := ((s.govLoads.filter fun l => gvFeeder l.2 == f).map fun l => s.evStart mode l.1 l.2)
  let p0 := s.basePower f + ls.foldl (fun t e => t + ldWatts e.r (e.g - e.was)) 0
  let a := (evSort shedKey ls, p0)
  if mode == 2 then
    let opt := real32D (s.rd (Reg.GOV_FDR_OPT f))
    let target := if 0 < opt then min (fdShed fr) opt else fdShed fr
    let a := s.shedPass fr target 1 a
    let a := if fdLimit fr < s.forecast fr a.2 then s.shedPass fr target 2 a else a
    let a := if fdLimit fr < s.forecast fr a.2 then s.shedPass fr target 3 a else a
    let a := s.restore fr a
    (a.1, s.forecast fr a.2)
  else (a.1, s.forecast fr a.2)

/-! ## Staging (R309, R56) -/

/-- The angle, below half a cycle, at which a voltage channel crosses zero: from the phase that metering measured in the
previous cycle; free while none has been measured. -/
def State.crossAngle (s : State) (v : Nat) : Nat :=
  match s.mtr.args.get? (32 + v) with
  | some a => ((roundEven ((-90 - a) / 360 * 2 ^ 20)) % (2 ^ 19 : Int)).toNat
  | none => Config.freeNat (s.free + v) % 2 ^ 19

/-- Whether a half cycle of a feeder still has room for a switching. -/
def roomIn (fr : Rec) (placed : List GSw) (q : GSw) (target : Nat) : Bool :=
  let here := placed.filter fun x => x.feeder == q.feeder && x.target.toNat / 2 ^ 19 == target / 2 ^ 19
  let ops := (here.filter fun x => !(x.kind == 2) && !x.inhibit).length
  let amps := (here.filter fun x => x.kind == 1).foldl (fun t x => t + x.inrush) (0 : Rat)
  !(here.any fun x => x.outpt == q.outpt) &&
    (q.kind == 2 || q.inhibit || (decide (ops < fdK fr) && (q.kind == 0 || decide (amps + q.inrush ≤ fdIbudget fr))))

/-- The first crossing at `from` or later that has room, among `fuel` half cycles. -/
def firstCross (fr : Rec) (placed : List GSw) (q : GSw) (ofs : Nat) : Nat → Nat → Nat
  | 0, c => c + ofs
  | n + 1, c => if roomIn fr placed q (c + ofs) then c + ofs else firstCross fr placed q ofs n (c + 2 ^ 19)

/-- The load record of an output point. -/
def State.loadOf (s : State) (p : Nat) : Option (Nat × Rec) := s.govLoads.find? fun l => ldOut l.2 == p

/-- Places one switching after those placed. The reversal of one that has been sent follows its target (R304). -/
def State.placeOne (s : State) (placed : List GSw) (q : GSw) : List GSw :=
  match s.loadOf q.outpt, s.govFdrs.find? fun r => gvFeeder r == q.feeder with
  | some (_, r), some fr =>
    let z := s.crossAngle (ldVch r)
    let lo := max (q.decided.toNat + fdLead fr * 2 ^ 20) (s.pmNow.toNat + 2 ^ 20)
    let lo := (s.gov.past.filter fun x => x.outpt == q.outpt).foldl (fun n x => max n (x.target.toNat + 1 - ldOfs r)) lo
    let c := (lo - z + 2 ^ 19 - 1) / 2 ^ 19 * 2 ^ 19 + z
    placed ++ [{ q with target := BitVec.ofNat 64 (firstCross fr placed q (ldOfs r) 8200 c) }]
  | _, _ => placed

/-- The order of placing: inhibits, switch-offs by decision, dimming, switch-ons in restore order. -/
def State.placeKey (s : State) (q : GSw) : Nat :=
  let prio := match s.loadOf q.outpt with | some (n, r) => ldPrio r * 65536 + n | none => 0
  if q.inhibit then 0 else if q.kind == 0 then 2 ^ 66 + q.decided.toNat else if q.kind == 2 then 2 ^ 68 else 2 ^ 69 + prio

def qInsert (key : GSw → Nat) (e : GSw) : List GSw → List GSw
  | [] => [e]
  | x :: t => if key e < key x then e :: x :: t else x :: qInsert key e t

/-- Places every switching that has not been sent, after those that have. -/
def State.placeAll (s : State) : State :=
  let past := s.gov.past.filter fun q => decide ((s.pmNow.toNat : Int) - (q.target.toNat : Int) < 50 * 2 ^ 20)
  let q := s.gov.queue.foldr (qInsert s.placeKey) []
  let placed := q.foldl s.placeOne past
  { s with gov := { s.gov with past := past, queue := placed.drop past.length } }

/-- The switching of a load that the evaluation gave a new level: a queued one is withdrawn or replaced (R304). -/
def State.stage (s : State) (e : EvLoad) : State :=
  let p := ldOut e.r
  if e.g == e.was then s
  else
    let base := (s.load p).level
    let rest := s.gov.queue.filter fun q => !(q.outpt == p)
    if e.g == base then { s with gov := { s.gov with queue := rest } }
    else
      let kind := if ldDim e.r then 2 else if e.g == 0 then 0 else 1
      let q : GSw := ⟨p, gvFeeder e.r, base, e.g, kind, e.inh, s.pmNow, s.pmNow, e.cause, ldWatts e.r (e.g - base),
        ldInrush e.r⟩
      { s with gov := { s.gov with queue := rest ++ [q] } }

/-- Counts a broken guarantee with 16#6002 (R307). How the snapshot numbers the counter is not stated. -/
def State.rts (s : State) (e : EvLoad) (which cause rank : Nat) : State :=
  let f := if which == 0 then F.GOV_RTS0_GUAR (ldPh e.r) else F.GOV_RTS0_MINON (ldPh e.r)
  let s := (s.inc f).record 0x6002 [n2w e.n, n2w (ldPh e.r), Config.snapNum 0x6002 which, n2w rank, n2w cause]
  s.saveRts (ldPh e.r)

/-- What an evaluation leaves in a load and its registers. -/
def State.settleLoad (s : State) (e : EvLoad) : State :=
  let p := ldOut e.r
  let cut := e.inh && decide (e.g < e.was)
  let guar := decide (e.g < ldGuarlvl e.r) && ldGuar e.r && decide (e.g < e.req)
  let hit := (e.broke.any fun b => b.1 == 0) || (e.inh && guar)
  let s := if cut && s.minonHolds { e with cause := (s.load p).cause } then s.rts e 1 6 1 else s
  let s := (e.broke.filter fun b => b.1 == 1).foldl (fun s b => s.rts e 1 b.2 2) s
  let s := if hit && !(s.load p).below then s.rts e 0 e.cause (if e.inh then 1 else 2) else s
  let s := s.stage e
  let s := s.setLoad p { s.load p with cause := e.cause, below := guar && ((s.load p).below || hit) }
  let st := if !(e.cause == 0) then 2 else if e.g == 0 then 0 else 1
  (s.setFld (F.GOV_LD0_STATE e.n) st).setFld (F.GOV_LD0_CAUSE e.n) e.cause

/-- The evaluation of one feeder in PASS or ACTIVE. -/
def State.govFeeder (s : State) (mode : Nat) (fr : Rec) : State :=
  let f := gvFeeder fr
  let r := s.evaluate mode fr
  let s := r.1.foldl (fun s e => s.settleLoad e) s
  let s := s.wr (Reg.GOV_FDR_DF f) (toReal32 r.2)
  let s := s.setFlag (F.GOV_FDR_STATUS_ABOVE f) (decide (fdLimit fr < r.2))
  s.setFld (F.GOV_FDR_STATUS_HELDN f) (r.1.filter fun e => !(e.cause == 0)).length

/-- GOVERNOR_EVALUATION (R297, R301, R305): at a cycle boundary with CYCLE mod 10 = 0, on the active lane. A change of
MODE takes effect here; the governor's state goes with core 0's checkpoint. -/
def State.governEval (s : State) : State :=
  let s := s.stagingAdd
  let mode := s.fld F.GOV_CTRL_MODE
  let s := { s with gov := { s.gov with mode := mode, evalCycle := some s.clk.cycle.toNat } }
  let s : State :=
    if mode == 0 then { s with gov := { s.gov with queue := [] } }
    else
      let s := (s.govFdrs.foldl (fun s fr => s.govFeeder mode fr) s).placeAll
      { s with free := s.free + 8 + s.govLoads.length }
  if s.good .pmm then s.saveFw [] else s

def execGovernorEvaluation (w : When) (s : State) : Out :=
  let s := s.advance w
  let c := s.clk.cycle.toNat
  .next (if s.good .mtr && s.good .fab && s.laneUp && s.armed && !(s.recs 18).isEmpty && c % 10 == 0
      && !(s.gov.evalCycle == some c) && !s.pwr.pfail then s.governEval else s)

/-- SWITCHING_SEND (R310, R311, R57): the queued switching of load `n` goes to its station with the frank and its target
postmark, no later than one cycle before it. ZXEST of R57 is judged as the command is sent: DESIGN CHOICE (log 56). -/
def State.switchSend (s : State) (n : Nat) (q : GSw) : State :=
  match s.ptRec q.outpt with
  | none => s
  | some pr =>
    match s.staRec (ptStation pr) with
    | none => s
    | some sr =>
      let zx := !(s.fld F.PMK_STATUS_STATE == stLOCKED) || decide (8192 < (s.rd Reg.PMK_PHERR).toInt.natAbs)
      let lvl : Word := if q.kind == 2 then toReal32 q.level else if q.level == 0 then 0 else 1
      let x := s.load q.outpt
      let x := { x with
        level := q.level
        onPm := if q.old == 0 && !(q.level == 0) then some q.target else x.onPm
        offPm := if q.level == 0 then some q.target else x.offPm }
      let s := s.setLoad q.outpt x
      let s := { s with gov := { s.gov with
        queue := s.gov.queue.filter fun y => !(y.outpt == q.outpt), past := s.gov.past ++ [q] } }
      s.sendOut (if ptClass pr == 3 then stPclass sr else ptClass pr) (ptStation pr) sr [q.outpt] false q.target (some ⟨n, q.feeder, lvl, zx, q.cause⟩)

/-- Whether a switching may go out by the state of the lanes (R30, R311): with an active lane; during a takeover those
queued for the half cycle in which it began, by their target or by the last moment at which they can be sent (log 33). -/
def State.sendsNow (s : State) (q : GSw) : Bool :=
  let half := fun (n : Nat) => n / 2 ^ 19
  match s.pms.change with
  | some c =>
    if s.fld F.PMS_STATUS_PHASE == 1 then
      half q.target.toNat == half c.faultPm.toNat || half (q.target.toNat - 2 ^ 20) == half c.faultPm.toNat
    else s.laneUp
  | none => s.laneUp

/-- Whether the station of a load can take a switching: it is ONLINE and holds fewer than 16 target postmarks (R117, R128). -/
def State.stationTakes (s : State) (q : GSw) : Bool :=
  match s.ptRec q.outpt with
  | some pr => s.staState (ptStation pr) == saONLINE && s.tpmRoom (ptStation pr)
  | none => false

def execSwitchingSend (w : When) (n : Nat) (s : State) : Out :=
  let s := s.advance w
  .next (match s.govLoads.find? fun l => l.1 == n with
    | none => s
    | some (_, r) =>
      match s.gov.queue.find? fun q => q.outpt == ldOut r with
      | none => s
      | some q =>
        if s.good .fab && s.good .mtr && !(s.pms.frMux == 0) && decide (s.pmNow.toNat + 2 ^ 20 ≤ q.target.toNat)
          && s.sendsNow q && s.stationTakes q then s.switchSend n q
        else s)

/-! ## MODE (R301) -/

/-- MODE changes: 16#6004. -/
def State.govMode (s : State) (mode role ph session : Nat) : State :=
  let old := s.fld F.GOV_CTRL_MODE
  if mode == old then s
  else (s.setFld F.GOV_CTRL_MODE mode).record 0x6004 [n2w old, n2w mode, n2w role, n2w session] role ph session

/-- GOV_MODE_WRITE: the value is stored and persisted, in force from the next evaluation; 3 is answered BADSTATE. -/
def State.govModeWrite (s : State) (who : Who) (mode : Nat) : State :=
  match s.refuse who Reg.GOV_CTRL (n2w mode) with
  | some c => s.answer c
  | none =>
    if mode == 3 then s.answer ansBADSTATE
    else
      let s := s.govMode mode who.role.num who.ph who.session
      let s := { s with gov := { s.gov with saved := mode } }.persist 0 1 4 (.counters [(Reg.GOV_CTRL, n2w mode)])
      s.answer ansOK

def execGovModeWrite (w : When) (who : Who) (mode : Nat) (s : State) : Out :=
  .next ((s.advance w).govModeWrite who (mode % 4))

/-- A write of GOV_FDRf_OPT: a NaN or a negative value is answered BADSTATE. -/
def govOptBad (v : Word) : Bool := isNaN32 v || (v.bit 31 && !(v.bits 30 0 == 0))

/-! ## Records in force (R311, R313) -/

/-- The governor takes its records: E_f stays for each feeder that remains, loads are known by their output point. -/
def State.takeGovernor (s : State) : State :=
  let fs := s.govFdrs.map gvFeeder
  let ps := s.govLoads.map fun l => ldOut l.2
  let s := { s with gov := { s.gov with
    fdrs := s.gov.fdrs.filter fun e => fs.contains e.1
    loads := s.gov.loads.filter fun e => ps.contains e.1
    queue := s.gov.queue.filter fun q => ps.contains q.outpt } }
  let s := (List.range 16).foldl (fun s f =>
    match s.govFdrs.find? fun r => gvFeeder r == f with
    | some r =>
      let s := if (s.gov.fdrs.get? f).isSome then s else s.setFdr f { Fdr.new with start := fdStart r s.rtcSec, seen := s.rtcSec }
      (s.setFld (F.GOV_FDR_STATUS_DECL f) 1).wr (Reg.GOV_FDR_OPT f) (Rec.w r 20)
    | none => (s.wr (Reg.GOV_FDR_STATUS f) 0).wr (Reg.GOV_FDR_OPT f) 0) s
  if s.govFdrs.isEmpty then s.govMode 0 0xFF 0 0 else s

/-- Whether a gap in metering falls within the interval in progress of a feeder (R302): one that has not ended, or one whose
GAPEND lies in it. -/
def State.gapNow (s : State) (r : Rec) : Bool :=
  let stop := (s.rd (Reg.MTR_G_GAPEND (gvFeeder r))).toNat
  if fdSliding r then s.gapRecent r s.rtcSec
  else s.mtr.gap.isSome || (!(stop == 0) && decide (fdStart r s.rtcSec ≤ stop))

/-- FAB starts: the staging assist is empty; the interval in progress is GAP when a gap falls within it. The counters take their
persisted values. -/
def State.startGov (s : State) : State :=
  let fd := s.govFdrs.map fun r => (gvFeeder r, { Fdr.new with gap := s.gapNow r, start := fdStart r s.rtcSec, seen := s.rtcSec })
  let s := (s.pm.words.filter fun e => decide (Reg.GOV_RTS0 0 ≤ e.1) && decide (e.1 ≤ Reg.GOV_RTS1 63)).foldl
    (fun (s : State) e => s.wr e.1 e.2) s
  let s := { s with gov := { s.gov with
    fdrs := fd.foldl (fun (t : Tab Fdr) (e : Nat × Fdr) => t.put e.1 e.2) [], queue := [], past := [], fresh := none, evalCycle := none,
    mode := 0 } }
  let s := s.takeGovernor
  s.govFdrs.foldl (fun s r => s.setFlag (F.GOV_FDR_STATUS_GAP (gvFeeder r)) (s.gapNow r)) s

/-- The governor has started on a lane: MODE takes its persisted value (R301). -/
def State.govStarted (s : State) : State :=
  if s.good .fab && s.armed && !(s.recs 18).isEmpty then s.govMode s.gov.saved 0xFF 0 0 else s

end Sys2Proof.Machine
end

