-- ==== Sys2Proof/Machine/Slots.lean ====
section
/-! DEFINITION. Manifest slots (R65 to R75): the bytes of a manifest, its sections and records, the slot states, and the
end of an arm (R90). -/

namespace Sys2Proof.Machine

/-! ## The bytes of a manifest (R66 to R70) -/

/-- The array offset of a slot (R73). -/
def slotBase (n : Nat) : Nat := 0x80000000 + n * 0x8000000

/-- A little-endian number of a slot's manifest. -/
def State.manNum (s : State) (n off len : Nat) : Nat := s.pm.num (slotBase n + off) len

/-- Bytes of a slot's manifest. -/
def State.manBytes (s : State) (n off len : Nat) : List Byte := s.pm.bytes (slotBase n + off) len

/-- Header fields (R66). -/
def State.manSite (s : State) (n : Nat) : Nat := s.manNum n 0x0C 4
def State.manRev (s : State) (n : Nat) : Nat := s.manNum n 0x10 4
def State.manBaserev (s : State) (n : Nat) : Nat := s.manNum n 0x14 4
def State.manClass (s : State) (n : Nat) : Nat := s.manNum n 0x18 1
def State.manNsect (s : State) (n : Nat) : Nat := s.manNum n 0x19 1
def State.manLength (s : State) (n : Nat) : Nat := s.manNum n 0x08 4

/-- Fields of section table entry `i` (R67). -/
def State.secType (s : State) (n i : Nat) : Nat := s.manNum n (256 + 64 * i) 2
def State.secOffset (s : State) (n i : Nat) : Nat := s.manNum n (256 + 64 * i + 4) 4
def State.secLength (s : State) (n i : Nat) : Nat := s.manNum n (256 + 64 * i + 8) 4
def State.secRecords (s : State) (n i : Nat) : Nat := s.manNum n (256 + 64 * i + 12) 4
def State.secHash (s : State) (n i : Nat) : List Byte := s.manBytes n (256 + 64 * i + 32) 32

/-- The section table entry of a type. -/
def State.secOf (s : State) (n typ : Nat) : Option Nat := (List.range (s.manNsect n)).find? fun i => s.secType n i == typ

/-- The record size of each section type (R70). -/
def recSize (typ : Nat) : Nat :=
  ([(1, 16), (2, 16), (3, 64), (4, 256), (5, 32), (6, 1), (7, 32), (8, 64), (9, 128), (10, 128), (11, 64), (12, 1),
    (13, 16), (14, 64), (15, 512), (16, 5120), (17, 256), (18, 64), (19, 32), (20, 2048), (21, 64), (22, 32)].find?
      fun e => e.1 == typ).elim 1 (·.2)

/-- The records of a section of a slot's manifest; none where the section is left out. -/
def State.slotRecs (s : State) (n typ : Nat) : List Rec :=
  match s.secOf n typ with
  | none => []
  | some i => (List.range (s.secRecords n i)).map fun k =>
      s.manBytes n (s.secOffset n i + 16 + k * recSize typ) (recSize typ)

/-- The byte stream of a section (FABRIC, OBJECTS). -/
def State.slotStream (s : State) (n typ : Nat) : List Byte :=
  match s.secOf n typ with
  | none => []
  | some i => s.manBytes n (s.secOffset n i + 16) (s.secRecords n i)

/-- The program of a manifest (R146, R170, R180). -/
def State.slotProgram (s : State) (n : Nat) : Program := ⟨s.slotRecs n 11, s.slotStream n 12, s.slotRecs n 13⟩

/-- The HASH that a slot's manifest gives a section type; none where it is left out (R79). -/
def State.hashOf (s : State) (n typ : Nat) : Option (List Byte) := (s.secOf n typ).map fun i => s.secHash n i

/-- Whether two slots differ in a section (R79). -/
def State.secDiffers (s : State) (n m typ : Nat) : Bool := !(s.hashOf n typ == s.hashOf m typ)

/-- Whether the program of a slot differs from the ARMED one (R82). -/
def State.programDiffers (s : State) (a n : Nat) : Bool := s.secDiffers a n 11 || s.secDiffers a n 12 || s.secDiffers a n 13

/-! ## Slot states (R73, R75) -/

def State.slotState (s : State) (n : Nat) : Nat := s.fld (F.MOD_MAN_SLOT_STATE n)

/-- The four MOD_MAN_SLOT words. -/
def State.slotWords (s : State) : List Word := (List.range 4).map fun i => s.rd (Reg.MOD_MAN_SLOT i)

/-- The four MOD_MAN_SLOT words go into the twin record of the slot states as one group. That CLASS and SIGNER go with STATE,
and so outlast a reset of REF, is a DESIGN CHOICE (log 58). -/
def State.saveSlots (s : State) : State :=
  s.persist 0 1 16 (.slots s.slotWords)

/-- MOD_MAN_STATUS shows which slots are ARMED and FALLBACK. -/
def State.showSlots (s : State) : State :=
  let arm := (List.range 4).find? fun i => s.slotState i == slARMED
  let fb := (List.range 4).find? fun i => s.slotState i == slFALLBACK
  let s := (s.setFlag F.MOD_MAN_STATUS_ARMVALID arm.isSome).setFld F.MOD_MAN_STATUS_ARMED (arm.getD 0)
  (s.setFlag F.MOD_MAN_STATUS_FBVALID fb.isSome).setFld F.MOD_MAN_STATUS_FB (fb.getD 0)

/-- Sets the state of one slot. -/
def State.setSlot (s : State) (n st : Nat) : State := (s.setFld (F.MOD_MAN_SLOT_STATE n) st).saveSlots.showSlots

/-- The ARMED slot. -/
def State.armedSlot (s : State) : Option Nat := (List.range 4).find? fun i => s.slotState i == slARMED

/-- The slot changes of an arm (R75): the new slot is ARMED, the old ARMED slot FALLBACK, the old FALLBACK slot EMPTY;
under ARMFB the two trade states. -/
def State.tradeSlots (s : State) (n : Nat) (fb : Bool) : State :=
  let old := s.armedSlot
  let s := (List.range 4).foldl (fun s i =>
    if i == n then s.setFld (F.MOD_MAN_SLOT_STATE i) slARMED
    else if some i == old then s.setFld (F.MOD_MAN_SLOT_STATE i) slFALLBACK
    else if s.slotState i == slFALLBACK && !fb then s.setFld (F.MOD_MAN_SLOT_STATE i) slEMPTY
    else s) s
  s.showSlots

/-- The slot changes of an arm as one Registry atomic group. -/
def State.armSlots (s : State) (n : Nat) (fb : Bool) : State := (s.tradeSlots n fb).saveSlots

/-- Failover cover is lost for a cause of PMS_STATUS.NOCAUSE: 16#7005 (R323, R328, R334). -/
def State.nocover (s : State) (cause : Nat) : State :=
  ((s.setFld F.PMS_STATUS_NOCOVER 1).setFld F.PMS_STATUS_NOCAUSE cause).record 0x7005 [n2w cause]

/-- NOCOVER with one of the causes is cleared. -/
def State.clearNocover (s : State) (causes : List Nat) : State :=
  if causes.contains (s.fld F.PMS_STATUS_NOCAUSE) then (s.setFld F.PMS_STATUS_NOCOVER 0).setFld F.PMS_STATUS_NOCAUSE 0 else s

/-- In pair mode the REVs of the two members are compared: NOCOVER with cause 3 while they differ (R334). -/
def State.pairRevs (s : State) : State :=
  if !(s.fld F.PMS_PAIRSTAT_ROLE == 1 || s.fld F.PMS_PAIRSTAT_ROLE == 2) then s
  else if s.rd Reg.MOD_MAN_REV == s.pms.pair.peerRev then s.clearNocover [3]
  else if s.fld F.PMS_STATUS_NOCAUSE == 3 then s else s.nocover 3

/-- The end of an arm whose switch was made at a postmark (R90): MOD_MAN_REV, 16#0101 with that postmark (R93), and the end
of the long operation. -/
def State.armEnd (s : State) (pm : Postmark) : State :=
  match s.man.arm with
  | none => s
  | some a =>
    let s := { s with man := { s.man with arm := none, idleLoaded := false } }
    let s := (s.wr Reg.MOD_MAN_REV (n2w (s.manRev a.slot))).setFld F.MOD_MAN_STATUS_STEP 0
    let s := s.record 0x0101 ([n2w a.slot, n2w (s.manRev a.slot), n2w a.cls] ++ words64 pm)
    (s.endLong ansOK).pairRevs

end Sys2Proof.Machine
end

