-- ==== Sys2Proof/Machine/Online.lean ====
section
/-! DEFINITION. The task-object container (R170, R171), a task's instance data, and the switch of a task to a new
program (R180 to R194). -/

namespace Sys2Proof.Machine

/-! ## The container -/

/-- An empty program has no TASKS. -/
def Program.none? (p : Program) : Bool := p.tasks.isEmpty

def Program.start (p : Program) : Nat := Rec.u8 p.objects 0x0C
def Program.startHold (p : Program) : Bool := Rec.u8 p.objects 0x0D == 1
def Program.rtver (p : Program) : Nat := Rec.u32 p.objects 0x08
/-- PROGID, and the word of its first four bytes. -/
def Program.progid (p : Program) : List Byte := (p.objects.drop 0x20).take 16
def Program.progid0 (p : Program) : Word := Rec.w p.objects 0x20

/-- Directory entry `i`. -/
def Program.entry (p : Program) (i : Nat) : Rec := (p.objects.drop (64 + 64 * i)).take 64

def obInit (e : Rec) : Nat := Rec.u32 e 0x10
def obDatalen (e : Rec) : Nat := Rec.u32 e 0x14
def obRetoff (e : Rec) : Nat := Rec.u32 e 0x18
def obPersoff (e : Rec) : Nat := Rec.u32 e 0x1C

/-- The directory entry of a task. -/
def Program.taskEntry (p : Program) (t : Nat) : Rec :=
  match p.rec? t with
  | some r => p.entry (tkObj r)
  | none => []

/-- The entries of an input or output list: point and buffer offset. -/
def Program.ioList (p : Program) (off n : Nat) : List (Nat × Nat) :=
  (List.range n).map fun i =>
    let e := (p.objects.drop (off + 8 * i)).take 8
    (Rec.u32 e 0 % 2 ^ 17, Rec.u32 e 4)

def Program.inputs (p : Program) (t : Nat) : List (Nat × Nat) :=
  let e := p.taskEntry t
  p.ioList (Rec.u32 e 0x20) (Rec.u32 e 0x24)
def Program.outputs (p : Program) (t : Nat) : List (Nat × Nat) :=
  let e := p.taskEntry t
  p.ioList (Rec.u32 e 0x28) (Rec.u32 e 0x2C)

/-- The initial-value image of a task as its instance data. -/
def Program.initial (p : Program) (t : Nat) : Mem :=
  let e := p.taskEntry t
  Mem.setBytes [] 0 ((p.objects.drop (obInit e)).take (obDatalen e))

/-- The program in force, by TSK_STATUS.AREA. -/
def State.areaN (s : State) : Nat := s.fld F.TSK_STATUS_AREA
def State.program (s : State) : Program := s.prog.area s.areaN

/-- Stores a program into an area. -/
def State.setArea (s : State) (a : Nat) (p : Program) : State :=
  { s with prog := if a == 0 then { s.prog with area0 := p } else { s.prog with area1 := p } }

/-- The program that a task runs. -/
def State.progOf (s : State) (t : Nat) : Program := s.prog.area (s.task t).area

/-- Task numbers of a program, ascending. -/
def Program.nums (p : Program) : List Nat := (List.range 64).filter fun t => (p.rec? t).isSome

/-- The values of a task's output buffers in some instance data. -/
def Program.outVals (p : Program) (t : Nat) (d : Mem) : List (Nat × Word) :=
  (p.outputs t).map fun o => (o.1, Rec.w (Mem.bytes d o.2 4) 0)

/-- The base task: the cyclic task with the lowest PRIO, then the lowest number (R152). -/
def Program.base (p : Program) : Option Nat :=
  (p.nums.filter fun t => decide (t < 32)).foldl (fun (b : Option Nat) t =>
    match b with
    | none => some t
    | some u =>
      let pr := fun n => match p.rec? n with | some r => tkPrio r | none => 99
      if pr t < pr u then some t else some u) none

/-! ## The lane SRAM (R144) -/

/-- What a lane-local address of the active lane belongs to: runtime data, task stacks and event queues; the code and
constants of a program area; its instance data. -/
inductive LanePart where
  | runtime | code (area : Nat) | data (area : Nat)
  deriving DecidableEq, Repr

/-- The parts of the lane SRAM with their lane addresses and sizes. What they hold is State's own: the areas' programs are
`Prog.area0` and `Prog.area1`, instance data and event queues stand with each task; no rule says where within its part a
task's code or data lies (log 64). -/
def laneParts : List (LanePart × Nat × Nat) :=
  [(.runtime, 0, 0x100000), (.code 0, 0x100000, 0x180000), (.data 0, 0x280000, 0x200000), (.code 1, 0x480000, 0x180000),
   (.data 1, 0x600000, 0x200000)]

/-- The part that a lane address lies in; none beyond the 8 MiB. -/
def laneAt (addr : Nat) : Option LanePart :=
  (laneParts.find? fun e => decide (e.2.1 ≤ addr ∧ addr < e.2.1 + e.2.2)).map (·.1)

/-- The size of a part: the bytes of code and of instance data that a program may have (R145). -/
def LanePart.size (p : LanePart) : Nat := (laneParts.find? fun e => decide (e.1 = p)).elim 0 (·.2.2)

/-! ## Checkpoints (R393, R394) -/

/-- Bytes of a sparse memory below a bound or from one on. -/
def Mem.below (m : Mem) (n : Nat) : Mem := m.filter fun c => decide (c.1 < n)
def Mem.from (m : Mem) (n : Nat) : Mem := m.filter fun c => decide (n ≤ c.1)

/-- Two memories joined: the first below `n`, the second from `n` on. -/
def Mem.join (a b : Mem) (n : Nat) : Mem := Mem.below a n ++ Mem.from b n

/-- The pages of 4,096 bytes in which two memories differ. -/
def pagesDiff (a b : Mem) : Nat :=
  let ks := ((a ++ b).filter fun c => !(Mem.byte a c.1 == Mem.byte b c.1)).map fun c => c.1 / 4096
  ks.eraseDups.length

/-- The instance data that a checkpoint slot holds; none where it is not valid. -/
def TSlot.data (x : TSlot Ckpt) : Mem := match x with | .valid _ c => c.data | _ => []

/-- The checkpoint of a task as it stands. -/
def State.ckNow (s : State) (t : Nat) : Ckpt :=
  let k := s.task t
  ⟨k.area, s.rd Reg.PMS_FRANK, k.rel, obDatalen ((s.progOf t).taskEntry t), k.data, k.outs.getD [], s.rd (Reg.TSK_CYC t),
    s.rd (Reg.TSK_LATE t), s.rd (Reg.TSK_MAXEXEC t)⟩

/-- The core of a task. -/
def State.coreOf (s : State) (t : Nat) : Nat := match s.taskRec t with | some r => tkCore r | none => 0

/-- The pages of a checkpoint that differ from the slot which it replaces go into persistent memory, each with its
page-table entry (R394, R411); they and the group that follows count at the task's core (R415). -/
def State.putPages (s : State) (t : Nat) (c : Ckpt) : State :=
  let n := pagesDiff c.data ((s.task t).ck.older c.area).data
  let core := s.coreOf t
  ((s.trunk 3 0 (4100 * n)).perfLane 11 core n).perfLane 12 core 1

/-! ## The switch of a task (R183, R189) -/

/-- One INSTMAP record applied: MIN(NEWLEN, OLDLEN) bytes from the old data (R181, R183). -/
def mapOne (old new : Mem) (r : Rec) : Mem :=
  Mem.setBytes new (Rec.u32 r 0) (Mem.bytes old (Rec.u32 r 4) (min (Rec.u r 8 3) (Rec.u r 11 3)))

/-- The records of a task in the map; record 0 is the header. -/
def Program.mapOf (p : Program) (t : Nat) : List Rec := (p.instmap.drop 1).filter fun r => Rec.u8 r 15 == t

/-- The new instance data of a task (R183, R632). -/
def newData (p : Program) (t : Nat) (old : Mem) (useMap : Bool) : Mem :=
  if useMap then (p.mapOf t).foldl (mapOne old) (p.initial t) else p.initial t

/-- A task switches to the program of an area: instance data by the map, and an event queue whose SOURCE or PARAM changed is
emptied into EVLOST. A task that only the old program has goes, with
its checkpoint (R188); a calendar task with another PERIOD or ANCHOR begins its index anew (R189). -/
def State.switchTask (s : State) (a t : Nat) : State :=
  let k := s.task t
  let p := s.prog.area a
  let old := s.taskRec t
  match p.rec? t with
  | none => s.setTask t { Task.new with area := a }
  | some r =>
    let keep := match old with | some o => tkSource o == tkSource r && tkParam o == tkParam r | none => true
    let s := if keep then s else s.inc (F.TSK_LATE_EVLOST t) k.queue.length
    let sameCal := match old with
      | some o => tkKind o == tkKind r && tkPeriod o == tkPeriod r && tkAnchor o == tkAnchor r
      | none => false
    let k := { k with calIdx := if sameCal then k.calIdx else none }
    let k := { k with area := a, data := newData p t k.data (s.prog.useMap && old.isSome), queue := if keep then k.queue else [] }
    s.setTask t k

/-- Tasks switch to the program of an area, and their translated data goes into their older slots. -/
def State.switchTasks (s : State) (a : Nat) (ts : List Nat) : State :=
  ts.foldl (fun s t =>
    let s := s.switchTask a t
    if ((s.prog.area a).rec? t).isSome then s.putPages t (s.ckNow t) else s) s

/-- The slots of tasks that have switched become current in one Registry atomic group, which also holds the manifest slot
states where they change (R191 step 3). -/
def State.switchLoad (s : State) (ts : List Nat) (slots : List Word) : Nat × Nat × Payload :=
  let cks := (ts.filter fun t => ((s.progOf t).rec? t).isSome).map fun t => (t, s.ckNow t)
  (cks.length + b2n (!slots.isEmpty), 64 * cks.length + 4 * slots.length, .switch_ cks slots)

/-- The lane submits that group. -/
def State.submitSwitch (s : State) (ts : List Nat) (slots : List Word) : State :=
  let g := s.switchLoad ts slots
  s.persist 3 g.1 g.2.1 g.2.2

/-! ## Registers of the change (R197) -/

/-- The tasks that still run the old code. -/
def State.ocPending (s : State) : List Nat :=
  (List.range 64).filter fun t =>
    (if t < 32 then (s.rd Reg.TSK_OC_PEND_LO).bit t else (s.rd Reg.TSK_OC_PEND_HI).bit (t - 32))

/-- Shows the pending tasks. -/
def State.showPending (s : State) (ts : List Nat) : State :=
  let v := ts.foldl (fun n t => n + 2 ^ t) 0
  (s.wrPair Reg.TSK_OC_PEND_LO Reg.TSK_OC_PEND_HI v).setFld F.TSK_OC_STATUS_PENDN ts.length

/-- The end of an online change (R193): 16#3009, the count, the end of the arm. The map applies to no later switch (R182). -/
def State.ocFinish (s : State) : State :=
  let pm := s.prog.swPm
  let since := s.pmNow.toNat - pm.toNat
  let s := { s with prog := { s.prog with useMap := false } }
  let s := s.setFld F.TSK_OC_STATUS_PHASE 0
  let s := s.record 0x3009 (words64 (BitVec.ofNat 64 since) ++ [n2w s.prog.stopSwitched])
  (s.incWord Reg.TSK_OC_COUNT).armEnd pm

/-- A task that was pending has switched; the last one ends the change. -/
def State.ocSwitched (s : State) (t : Nat) : State :=
  let rest := s.ocPending.filter fun u => !(u == t)
  let s := s.showPending rest
  if rest.isEmpty then s.ocFinish else s

/-- Whether a task still runs the old program of an online change (R192). -/
def State.ocOld (s : State) (t : Nat) : Bool := s.fld F.TSK_OC_STATUS_PHASE == 3 && s.ocPending.contains t

/-- The translation of a pending task becomes current with its commit, in the same Registry atomic group (R192). -/
def State.translate (s : State) (t : Nat) : State :=
  let s := s.switchTasks s.areaN [t]
  if ((s.progOf t).rec? t).isSome then s.setTask t { s.task t with ck := (s.task t).ck.write (s.ckNow t) } else s

/-- A pending task switches at its commit (R192). -/
def State.ocCommit (s : State) (t : Nat) : State := if s.ocOld t then (s.translate t).ocSwitched t else s

/-- Every task still pending switches from its last old checkpoint, in one group (R194). -/
def State.ocRest (s : State) : State :=
  let ts := s.ocPending
  let s := { s with prog := { s.prog with stopSwitched := ts.length } }
  ((s.switchTasks s.areaN ts).submitSwitch ts []).showPending []

/-- STOP between the base switch and the last task's switch (R194). -/
def State.ocStop (s : State) : State := if s.fld F.TSK_OC_STATUS_PHASE == 3 then s.ocRest.ocFinish else s

/-! ## Class-P effects of the program switch (R82, R177) -/

/-- The newest bytes written or submitted at an offset, durable or not. -/
def State.newBytes (s : State) (o n : Nat) : List Byte :=
  let ls := (s.pm.waiting.reverse.map fun g => g.load) ++ (s.pm.journal.reverse.map fun e => e.load)
  (List.range n).map fun i =>
    match ls.findSome? fun l => match l with
      | .bytes cs => ((cs.filter fun c => c.1 == o + i).getLast?).map (·.2)
      | _ => none with
    | some b => b
    | none => Mem.byte s.pm.home (o + i)

/-- Bytes as the cells of a group. -/
def cellsAt (o : Nat) (bs : List Byte) : List (Nat × Byte) := (List.range bs.length).map fun i => (o + i, bs.getD i 0)

/-- Submits bytes as one Registry atomic group of a requester of a rank (R403). -/
def State.submitBytes (s : State) (rank who : Nat) (cs : List (Nat × Byte)) : State :=
  s.submitGroup rank ((cs.map fun c => c.1 / 64).eraseDups).length cs.length (.bytes cs) who

/-- Fields of a TRENDS record (R174). -/
def trTask (r : Rec) : Nat := Rec.u8 r 2
def trOff (r : Rec) : Nat := Rec.u32 r 4
def trEntry (r : Rec) : Nat := Rec.u16 r 8
def trNent (r : Rec) : Nat := Rec.u32 r 12

/-- The header of a trend record (R175). -/
def trendHead (r : Rec) (next : Nat) : List Byte :=
  leBytes 4 0x444E5254 ++ leBytes 2 (Rec.u16 r 0) ++ leBytes 2 (trEntry r) ++ leBytes 4 (trNent r) ++ leBytes 4 0
    ++ leBytes 8 next ++ List.replicate 40 0

/-- TRENDS takes effect: records whose OFFSET, ENTRY and NENT are new start empty (R177). -/
def State.takeTrends (s : State) (old new : List Rec) : State :=
  new.foldl (fun s r =>
    if old.any fun o => Rec.u16 o 0 == Rec.u16 r 0 && trOff o == trOff r && trEntry o == trEntry r && trNent o == trNent r
    then s else if s.good .pmm then s.submitBytes 7 1 (cellsAt (trOff r) (trendHead r 0)) else s) s

/-- RECORDER takes effect: buckets of codes whose record changed are full again (R561). -/
def State.takeRecorder (s : State) (new : List Rec) : State :=
  let e := s.evr
  { s with evr := { e with
      cfg := new
      buckets := e.buckets.filter fun b =>
        (e.cfg.find? fun r => Rec.u16 r 0 == b.code) == (new.find? fun r => Rec.u16 r 0 == b.code) } }

/-- Takes sections of a slot into force by type. -/
def State.loadSecs (s : State) (slot : Nat) (types : List Nat) : State :=
  { s with man := { s.man with cfg := types.foldl (fun (t : Tab (List Rec)) k => t.put k (s.slotRecs slot k)) s.man.cfg } }

/-- The class-P differences beside the program, at the program switch (R82): coefficients and tables from the next
sample, recorder and trends at once, the governor from the next cycle boundary. -/
def State.classP (s : State) (a : Arm) : State :=
  let oldC := s.recs 15
  let oldT := s.recs 16
  let oldTr := s.recs 22
  let s := s.loadSecs a.slot [15, 16, 19, 22]
  let s := if s.good .cle then s.takeCoeffs oldC oldT a.who else s
  let s := (s.takeRecorder (s.recs 19)).takeTrends oldTr (s.recs 22)
  { s with man := { s.man with late := some (s.slotRecs a.slot 18) } }

/-- GOVERNOR takes effect at the first cycle boundary after the program switch. -/
def State.lateSecs (s : State) : State :=
  match s.man.late with
  | none => s
  | some g =>
    let had := !(s.recs 18).isEmpty
    let s := { s with man := { s.man with late := none, cfg := s.man.cfg.put 18 g } }
    if s.good .fab then (let s := s.takeGovernor; if had || !s.laneUp then s else s.govStarted) else s

/-! ## The areas of a lane that starts (R196) -/

/-- The area that holds the program of the ARMED slot: that which held it last, or the one of the lane firmware's checkpoint. -/
def State.armedArea (s : State) (n : Nat) : Nat :=
  let f := match s.prog.fw.use? with | some (_, f) => f.area | none => 0
  let p := s.slotProgram n
  if decide (s.prog.area f = p) then f else if decide (s.prog.area (1 - f) = p) then 1 - f else f

/-- A lane that starts takes the program of the ARMED slot into area `a`, and into the other area that of the FALLBACK slot,
which runs the tasks whose checkpoints still carry its tag (R196). -/
def State.loadAreas (s : State) (a : Nat) : State :=
  match s.armedSlot with
  | none => { s with prog := { s.prog with area0 := .empty, area1 := .empty } }
  | some n =>
    let old := match (List.range 4).find? fun i => s.slotState i == slFALLBACK with | some k => s.slotProgram k | none => .empty
    ((s.setArea a (s.slotProgram n)).setArea (1 - a) old).setFld F.TSK_STATUS_AREA a

/-- Whether INSTMAP of the program in an area was made for the program in the other one (R182): its record 0 carries that
PROGID. -/
def State.mapsFrom (s : State) (a : Nat) : Bool :=
  let new := s.prog.area a
  let old := s.prog.area (1 - a)
  !old.none? && !new.instmap.isEmpty && new.instmap.headD [] == old.progid

/-! ## The base switch (R191) -/

/-- Whether a task stands between dispatch and commit. -/
def Task.inCycle (k : Task) : Bool := k.phase == .running || k.phase == .committing

/-- The base switch: every task that is not in a cycle switches, the others are pending. The checkpoints of those that
switch and the slot states become current as one group. That a lane fence does not stop this group once it is submitted is a
DESIGN CHOICE (log 75). -/
def State.baseSwitch (s : State) (a : Arm) : State :=
  let old := s.program
  let na := 1 - s.areaN
  let new := s.prog.area na
  let stay := s.taskNums.filter fun t => (s.task t).inCycle
  let go := (List.range 64).filter fun t => !(stay.contains t)
  let s := (s.switchTasks na go).tradeSlots a.slot a.fb
  let s := (s.submitSwitch go s.slotWords).setFld F.TSK_STATUS_AREA na
  let s := { s with prog := { s.prog with stopSwitched := 0, swPm := s.pmNow } }
  let s := s.wrPair Reg.TSK_OC_PM_LO Reg.TSK_OC_PM_HI s.pmNow.toNat
  let s := (s.setFld F.TSK_OC_STATUS_PHASE 3).showPending stay
  let s := s.record 0x3008 ([old.progid0, new.progid0, n2w na] ++ words64 s.pmNow ++ [n2w stay.length])
  let s := s.classP a
  if stay.isEmpty then s.ocFinish else s

/-- Whether no switch may start now: a takeover runs (R31, R195) or the Postmaster restarts (R32). -/
def State.switchWaits (s : State) : Bool := s.fld F.PMS_STATUS_PHASE == 1 || s.pms.restart.isSome || s.pwr.pfail

/-- The program in STOP or HOLD when the change is ready: every task switches at once (R194). -/
def State.ocIdleSwitch (s : State) : State :=
  match s.man.arm with
  | some a =>
    if s.fld F.TSK_OC_STATUS_PHASE == 2 && a.structDone && !(s.mode == modeRUN) && !s.switchWaits
        && (s.mode == modeSTOP || !(s.prog.area (1 - s.areaN)).none?) then s.baseSwitch a else s
  | none => s

/-! ## Release schedules (R53, R148) -/

/-- Whether a cyclic task of KIND 0 or 1 has a release at the present postmark. -/
def State.onSchedule (s : State) (r : Rec) : Bool :=
  let ang := s.clk.angle.toNat
  let k := max 1 (tkK r)
  if tkKind r == 0 then ang == tkPhase r && s.clk.cycle.toNat % k == tkAnchor r
  else tkKind r == 1 && (List.range k).any fun j => (j * 2 ^ 20 / k + tkPhase r) % 2 ^ 20 == ang

/-- Whether the base task has a release at the present postmark, whatever its kind; a calendar task's is the second boundary
at which it became ready (R149, R152). -/
def State.baseReleased (s : State) (b : Nat) : Bool :=
  match s.program.rec? b with
  | some r => if tkKind r == 2 then (s.task b).phase == .ready && (s.task b).rel == s.pmNow else s.onSchedule r
  | none => false

/-- The moment of a base switch: the first release of the base task after preparation whose previous cycle has committed, or
without a cyclic task in the new program a cycle boundary at which no task is in a cycle (R191). A calendar task's release is
the second boundary at which it became ready. After a takeover or a structure
switch the base task completes a cycle first (R88, R195). -/
def State.baseDue (s : State) : Bool :=
  let cyc := (s.prog.area (1 - s.areaN)).nums.any fun t => decide (t < 32)
  match s.program.base, cyc with
  | some b, true =>
    let k := s.task b
    let now := k.phase == .ready && k.rel == s.pmNow
    s.prog.firstCycle == 0 &&
      (match s.program.rec? b with
        | some r => if tkKind r == 2 then now else s.onSchedule r && (k.phase == .idle || now)
        | none => false)
  | _, _ => s.clk.angle == 0 && !(s.taskNums.any fun t => (s.task t).inCycle)

end Sys2Proof.Machine
end

