-- ==== Sys2Proof/Machine/Ports.lean ====
section
/-! DEFINITION. Port groups (chapter 15): how a group takes its use, CAN FD controllers, UARTs and DALI-2 groups. -/

namespace Sys2Proof.Machine

/-- Uses of R420. -/
def useCAN : Nat := 1
def useUART : Nat := 2
def useDALI : Nat := 3
def useDEXJO : Nat := 4

def State.portUse (s : State) (g : Nat) : Nat := s.fld (F.FPT_PG_STATUS_USE g)
def State.portState (s : State) (g : Nat) : Nat := s.fld (F.FPT_PG_STATUS_STATE g)
def State.setPortState (s : State) (g st : Nat) : State := s.setFld (F.FPT_PG_STATUS_STATE g) st

/-- STATE values of FPT_PGg_STATUS. -/
def psQUIESCED : Nat := 1
def psRUN : Nat := 2
def psRESTRICTED : Nat := 3
def psBUSOFF : Nat := 4
def psNOPOWER : Nat := 5

/-- The PORTS record in force for a group. -/
def State.portRec (s : State) (g : Nat) : Rec := s.net.ports.getD g []

/-- CMODE bits (R422). -/
def cmFDFR (r : Rec) : Bool := Rec.bit r 0x0C 0
def cmRATESW (r : Rec) : Bool := Rec.bit r 0x0C 1
def cmRESTR (r : Rec) : Bool := Rec.bit r 0x0C 3
def cmAUTOREC (r : Rec) : Bool := Rec.bit r 0x0C 4

/-! ## Message memory (R432 to R436) -/

/-- CFG of a message object. -/
def objCfg (tx mbx : Bool) (m : Nat) (ext fdf brs : Bool) : Word :=
  BitVec.ofNat 32 (2 ^ 31 + b2n tx * 2 ^ 30 + b2n mbx * 2 ^ 29 + m * 2 ^ 22 + b2n ext * 2 ^ 21 + b2n fdf * 2 ^ 20
    + b2n brs * 2 ^ 19)

/-- A standard and an extended filter element (R433). -/
def stdElem (ida idb kind obj : Nat) : Word :=
  BitVec.ofNat 32 (ida * 2 ^ 21 + idb * 2 ^ 10 + kind * 2 ^ 8 + 2 ^ 7 + obj)
def extElem (ida idb kind obj : Nat) : Word × Word × Word :=
  (BitVec.ofNat 32 ida, BitVec.ofNat 32 idb, BitVec.ofNat 32 (kind * 2 ^ 8 + 2 ^ 7 + obj))

/-- Insertion into a list that rises by a key. -/
def insertBy (key : Rec → Nat) (r : Rec) : List Rec → List Rec
  | [] => [r]
  | x :: t => if key r ≤ key x then r :: x :: t else x :: insertBy key r t

/-- Records in ascending order of a key. -/
def sortBy (key : Rec → Nat) (l : List Rec) : List Rec := l.foldr (insertBy key) []

/-- An object as built; the identifier of one that the rule names none for is a free value. -/
def newObj (cfg id : Word) : CanObj := ⟨cfg, id, 0, 0, 0, List.replicate 64 0⟩

/-- One Aelzon station's objects and element (R435 step 1). -/
def canStation (r : Rec) (free : Nat) (c : Can) (st : Rec) : Can :=
  let a := Rec.u32 st 4
  let n := c.objs.length
  { c with
    objs := c.objs ++ [newObj (objCfg true false 0 false true (cmRATESW r)) (n2w a),
      newObj (objCfg false false 0 false true (cmRATESW r)) (Config.freeWord (free + n + 1))]
    std := c.std ++ [stdElem (a + 1) (a + 3) 1 (n + 1)] }

/-- One mailbag's object and, for a receive binding, its element (R435 step 2, R436). -/
def canMailbag (free : Nat) (c : Can) (m : Rec) : Can :=
  let n := c.objs.length
  let ext := Rec.bit m 0x12 0
  let tx := Rec.u8 m 0x10 == 1
  let c := { c with objs := c.objs ++
    [newObj (objCfg tx true (Rec.u8 m 0) ext (Rec.bit m 0x12 1) (Rec.bit m 0x12 2)) (Config.freeWord (free + n))] }
  if tx then c
  else if ext then { c with ext := c.ext ++ [extElem (Rec.u32 m 0x14) (Rec.u32 m 0x18) (Rec.u8 m 0x11) n] }
  else { c with std := c.std ++ [stdElem (Rec.u32 m 0x14) (Rec.u32 m 0x18) (Rec.u8 m 0x11) n] }

/-- The message memory of a CANFD group, built from the manifest (R435). -/
def State.buildCan (s : State) (g : Nat) (r : Rec) : State :=
  let sts := sortBy (fun x => Rec.u16 x 0) ((s.recs 8).filter fun x => Rec.u8 x 2 == 0 && Rec.u8 x 3 == g)
  let mbs := sortBy (fun x => Rec.u8 x 0) ((s.recs 5).filter fun x => Rec.u8 x 1 == g)
  let c := mbs.foldl (canMailbag s.free) (sts.foldl (canStation r s.free) Can.new)
  let c := { c with
    objs := (c.objs ++ List.replicate (128 - c.objs.length) CanObj.off).take 128
    std := (c.std ++ List.replicate (128 - c.std.length) 0).take 128
    ext := (c.ext ++ List.replicate (64 - c.ext.length) (0, 0, 0)).take 64 }
  { (s.setCan g c) with free := s.free + 128 }

/-! ## Taking a use (R427) -/

/-- The registers of the uses of a group read 0 again (R451). -/
def State.clearPortRegs (s : State) (g : Nat) : State :=
  { s with regs := s.regs.filter fun e => !(decide (0x500100 + 4096 * g ≤ e.1) && decide (e.1 < 0x501000 + 4096 * g)) }

/-- A group leaves restricted operation when a switch point takes it out of its use (R440). -/
def State.leaveRestr (s : State) (g now : Nat) : State :=
  if s.portState g == psRESTRICTED then s.record 0xA004 [n2w g, n2w now, 0xFF, 0] else s

/-- A group takes its use and parameters at a switch point: 16#A001 when they change, CAN FD memory is built, and the
group is QUIESCED; a Dexjo group starts at once. -/
def State.takePort (s : State) (g : Nat) (r : Rec) : State :=
  let old := s.portUse g
  let changed := !(s.net.ports.get? g == some r)
  let use := Rec.u8 r 1
  let st := if use == 0 then 0 else if use == useDEXJO then psRUN else psQUIESCED
  let hiz := s.net.hiz.filter fun k => !(k == g)
  let s := { s with net := { s.net with ports := s.net.ports.put g r, hiz := if changed then g :: hiz else hiz } }
  let s := s.leaveRestr g st
  let s := if old == use then s else s.clearPortRegs g
  let s := s.wr (Reg.FPT_PG_STATUS g) (n2w (use * 2 ^ 8 + Rec.u8 r 3 * 2 ^ 16))
  let s := s.setPortState g st
  let s := if use == useCAN then (s.buildCan g r).setFlag (F.FPT_PG_CANCTRL_RESTR g) (cmRESTR r) else s
  let s := { s with net := { s.net with dalis := s.net.dalis.del g, uarts := s.net.uarts.del g } }
  let s := if use == useDALI then
      let s := { s with net := { s.net with dalis := s.net.dalis.put g .new } }
      (s.setFlag (F.FPT_PG_DALISTAT_PSU g) (Rec.bit r 2 0)).setFld (F.FPT_PG_DALISTAT_PWR g) 1
    else s
  if changed then s.record 0xA001 [n2w g, n2w old, n2w use] else s

/-- A group without a record carries and drives nothing. -/
def State.dropPort (s : State) (g : Nat) : State :=
  let old := s.portUse g
  let s := ((s.leaveRestr g 0).clearPortRegs g).wr (Reg.FPT_PG_STATUS g) 0
  let s := { s with net := { s.net with
    ports := s.net.ports.del g, cans := s.net.cans.del g, dalis := s.net.dalis.del g, uarts := s.net.uarts.del g } }
  if old == 0 then s else s.record 0xA001 [n2w g, n2w old, 0]

/-- Whether a group with a use serves frames now: NET good, not quiet, its pins not high-impedance (R335). -/
def State.portLive (s : State) (g use : Nat) : Bool :=
  s.good .net && s.drives && decide (g < 24) && s.portUse g == use && !(s.quiet g)

/-- Whether a group sends and receives: in RUN, and in the second quiesced round, in which its stations are admitted (R83,
R427). -/
def State.portRuns (s : State) (g : Nat) : Bool := s.portState g == psRUN || (s.portState g == psQUIESCED && !(s.quiet g))

/-- The UART of a group. -/
def Uart.new : Uart := ⟨0, 0, 0, none, false, none, 0⟩
def State.uart (s : State) (g : Nat) : Uart := s.net.uarts.getD g .new
def State.setUart (s : State) (g : Nat) (u : Uart) : State := { s with net := { s.net with uarts := s.net.uarts.put g u } }

/-! ## Signals (R426, R427) -/

/-- What the module does with a signal: high-impedance, held low or high, or driven by the controller. -/
inductive Drive where
  | z | low | high | data
  deriving DecidableEq, Repr

/-- TXD, DE and AUX of a group: high-impedance before its first use and, after a switch that changes its use or parameters,
until its first quiesced round has ended. TXD rests at its idle or recessive level while no frame is on the line. -/
def State.portSignals (s : State) (g : Nat) : Drive × Drive × Drive :=
  let use := s.portUse g
  let aux := if Rec.bit (s.portRec g) 2 0 then Drive.high else .low
  let waits := s.net.hiz.contains g && s.man.quiesced.any fun q => q.1 / 4 == g && decide (q.2 ≤ 1)
  let txd := fun (busy : Bool) => if busy then Drive.data else .high
  if !(s.good .net) || !s.drives || (waits && !(use == useDEXJO)) then (.z, .z, .z)
  else if use == useCAN then
    (txd (s.can g).cur.isSome, .low, if s.portState g == psRUN || s.portState g == psRESTRICTED then .low else .high)
  else if use == useUART then
    let de := decide (s.ns < (s.uart g).deNs)
    (txd de, if de then .high else .low, aux)
  else if use == useDALI then (txd (decide (s.ns < (s.net.dalis.getD g .new).endNs)), .low, aux)
  else if use == useDEXJO then (.data, .high, .data)
  else (.z, .z, .z)

/-! ## First use at a power-up (R427) -/

/-- The class of a port: the fastest class with rounds among the points of its stations; S without one (R83). -/
def State.portClass (s : State) (port : Nat) : Nat :=
  (s.allPoints.filter fun p =>
      !(ptInternal p.2) && (match s.staRec (ptStation p.2) with | some r => stPort r == port | none => false)).foldl
    (fun m p => min m (treatClass (ptClass p.2))) 2

/-- MACs with a NETWORK record that has EN (R455). -/
def State.macsOn (s : State) : List Nat := ((s.recs 4).filter fun r => Rec.bit r 1 0).map fun r => Rec.u8 r 0

/-- The ports of a switch point wait for the first round of their class (R83). -/
def State.quiesce (s : State) (ports : List Nat) : State :=
  { s with man := { s.man with quiesced :=
      (s.man.quiesced.filter fun q => !(ports.contains (q.1 / 4))) ++ ports.map fun p => (p * 4 + s.portClass p, 0) } }

/-- At the first class-S round after NET and FAB report good, every port group takes its use, and every port is
quiesced as at a switch point; so is every MAC that has waited for it since NET started. -/
def State.firstUse (s : State) (c : Nat) : State :=
  let groups := if s.net.ports.isEmpty then s.recs 3 else []
  let macs := s.macsOn.filter fun m => s.man.quiesced.any fun q => q.1 == (0x80 + m) * 4 + 3
  if c == 2 && s.good .net && !(groups.isEmpty && macs.isEmpty) then
    let s := groups.foldl (fun s r => s.takePort (Rec.u8 r 0) r) s
    s.quiesce (groups.map (fun r => Rec.u8 r 0) ++ macs.map fun m => 0x80 + m)
  else s

/-- POINTS records whose pigeonhole, scan class or substitution waited for a round of their class take effect (R86). -/
def State.freshPoints (s : State) (c : Nat) : State :=
  let now := s.man.pts.filter fun r => treatClass (ptClass r) == c
  if now.isEmpty then s
  else
    let old := s.recs 7
    let s : State := { s with man := { s.man with
      pts := s.man.pts.filter fun r => !(treatClass (ptClass r) == c)
      cfg := s.man.cfg.put 7 ((s.recs 7).map fun o => (now.find? fun r => Rec.u32 r 0 == Rec.u32 o 0).getD o) } }
    s.carryImage old (s.recs 7)

/-- Whether a round of a class begins at a postmark (R53, R54, R102): phases and the class-F rate of TIMEBASE,
class N every 5 cycles and class S every 50, anchor 0. A round in progress runs to its end first (R631). -/
def roundAt (timebase : List Rec) (clk : Clock) (c : Nat) : Bool :=
  let ang := clk.angle.toNat
  match timebase with
  | [] => false
  | r :: _ =>
    let phase := Rec.u32 r (4 + 4 * c) % 2 ^ 20
    if c == 0 then ang == phase || (Rec.bit r 7 7 && ang == (phase + 2 ^ 19) % 2 ^ 20)
    else ang == phase && clk.cycle.toNat % (if c == 1 then 5 else 50) == 0

/-- Whether a round of a class begins now by the TIMEBASE in force. -/
def State.roundDue (s : State) (c : Nat) : Bool := roundAt (s.recs 2) s.clk c

/-- ROUND_START: the input phase of a class opens. -/
def execRoundStart (w : When) (cls : Scan) (s : State) : Out :=
  let s := s.advance w
  .next (if s.good .fab && s.armed && s.drives && !(cls == .e) && (s.round (scanNum cls)).phase == .idle
      && s.roundDue (scanNum cls) then ((s.firstUse (scanNum cls)).freshPoints (scanNum cls)).roundStart (scanNum cls) else s)

/-! ## CAN FD -/

/-- The error counters of a controller change, and with them RXPASS and LEVEL: 96 is the warning level, 128 error-passive
(R451). In restricted operation they stand still (R440). -/
def State.canCounts (s : State) (g tec rec : Nat) : State :=
  if s.portState g == psRESTRICTED then s
  else
    let s := (s.setFld (F.FPT_PG_CANERR_TXERR g) (min 255 tec)).setFld (F.FPT_PG_CANERR_RXERR g) (min 255 rec)
    let s := s.setFlag (F.FPT_PG_CANERR_RXPASS g) (decide (128 ≤ rec))
    s.setFld (F.FPT_PG_CANSTAT_LEVEL g)
      (if 128 ≤ tec ∨ 128 ≤ rec then 2 else if 96 ≤ tec ∨ 96 ≤ rec then 1 else 0)

def State.canTec (s : State) (g : Nat) : Nat := s.fld (F.FPT_PG_CANERR_TXERR g)
def State.canRec (s : State) (g : Nat) : Nat := s.fld (F.FPT_PG_CANERR_RXERR g)

/-- The first error of a phase since the last read stands (R451). -/
def State.canError (s : State) (g : Nat) (e : CanErr) : State :=
  let f := if e.dataPhase then F.FPT_PG_CANSTAT_DERR g else F.FPT_PG_CANSTAT_AERR g
  if s.fld f == 0 then s.setFld f e.code else s

/-- CAN_FRAME_RECEIVED (R430, R434): remote frames are ignored; CAN FD frames need FDFR. A frame with an error raises the
receive error count by 1 and is not stored; a good one lowers it by 1, and from above 127 to a value between 119 and 127
(ISO 11898-1, PRESUMED, log 77). -/
def State.canReceive (s : State) (g : Nat) (fr : CanFrame) : State :=
  match fr.err with
  | some e => (s.canError g e).canCounts g (s.canTec g) (s.canRec g + 1)
  | none =>
    if fr.remote || (fr.fdf && !(cmFDFR (s.portRec g))) then s
    else
      let n := s.canRec g
      let s := (s.canCounts g (s.canTec g) (if 127 < n then 119 + Config.freeNat s.free % 9 else n - 1)).freeNext
      let s := s.incWord (Reg.FPT_PG_RXCNT g)
      match (s.can g).filter fr with
      | some o => s.canStore g o fr
      | none => s

def execCanFrameReceived (w : When) (g : Nat) (fr : CanFrame) (s : State) : Out :=
  let s := s.advance w
  .next (if s.portLive g useCAN && (s.portRuns g || s.portState g == psRESTRICTED) then s.canReceive g fr else s)

/-- The transmit mailbag of an object: its head descriptor goes into the object when no request is pending there; one
outside its binding, or a CAN FD frame where FDFR is 0, is refused with FORMAT, one too long with TOOLONG (R430, R436, R468). -/
def State.canLoadMb (s : State) (g o : Nat) (r : Rec) : State :=
  let c := s.can g
  let x := c.objs.getD o .off
  let m := Rec.u8 r 0
  if x.flag obTXWAIT then s
  else
    match (s.mb m).tx with
    | [] => s
    | t :: _ =>
      let d := s.desc r t.idx
      let id := dePm d % 2 ^ 29
      let ext := dePm d / 2 ^ 29 % 2 == 1
      let fdf := dePm d / 2 ^ 30 % 2 == 1
      let brs := dePm d / 2 ^ 31 % 2 == 1
      let dlc := dePm d / 2 ^ 32 % 16
      if !(decide (Rec.u32 r 0x14 ≤ id) && decide (id ≤ Rec.u32 r 0x18) && ext == Rec.bit r 0x12 0
          && fdf == Rec.bit r 0x12 1 && brs == Rec.bit r 0x12 2) || (fdf && !(cmFDFR (s.portRec g))) then s.txFinish m r t.idx mbFORMAT 0
      else if mbBufsz r < deLen d ∨ (if fdf then 64 else 8) < deLen d then s.txFinish m r t.idx mbTOOLONG 0
      else
        let n := min (canLens.getD dlc 64) (if fdf then 64 else 8)
        let y := { ((x.put obTXWAIT true).put obTXSENT false) with
          id := n2w id, dlc := dlc, data := padTo 64 ((s.sramBytes (deBuf d) n).take n) }
        s.setCan g { c with objs := c.objs.set o y }

/-- Every transmit mailbag of a group loads its object; the requests are pending from then on. -/
def State.canPump (s : State) (g : Nat) : State :=
  (List.range 128).foldl (fun s o =>
    let x := (s.can g).objs.getD o .off
    if objEN x && objTX x && objMB x then
      match s.mbRec (objMbNum x) with
      | some r => s.canLoadMb g o r
      | none => s
    else s) s

/-- New descriptors of a mailbag: a CAN FD group loads its transmit objects, a MAC settles the credits of its queues. -/
def State.mbPump (s : State) (m : Nat) : State :=
  match s.mbRec m with
  | some r =>
    if mbPort r < 24 then (if s.portUse (mbPort r) == useCAN then s.canPump (mbPort r) else s) else s.settle (mbPort r - 0x80)
  | none => s

/-- The pending transmit object that is sent first: the lowest identifier, then the lowest object (R438). -/
def Can.first (c : Can) : Option Nat :=
  (List.range c.objs.length).foldl (fun b i =>
    let x := c.objs.getD i .off
    if objEN x && objTX x && x.flag obTXWAIT then
      match b with
      | none => some i
      | some j => if x.id.toNat < (c.objs.getD j .off).id.toNat then some i else b
    else b) none

/-- The Aelzon station that a transmit object of the fabric serves. -/
def State.canStationOf (s : State) (g : Nat) (x : CanObj) : Option Nat :=
  ((s.recs 8).find? fun r => stProto r == 0 && stPort r == g && stAddr r == x.id).map fun r => Rec.u16 r 0

/-- A transmit request of a mailbag: its descriptor is marked as started on the line, or as waiting again. -/
def State.canMark (s : State) (x : CanObj) (started : Bool) : State :=
  if objMB x then
    let m := s.mb (objMbNum x)
    match m.tx with
    | d :: rest => s.setMb (objMbNum x) { m with tx := { d with started := started } :: rest }
    | [] => s
  else s

/-- The frame of an object has been sent whole: TXSENT, the postmark of its start-of-frame bit, the transmitter delay where
it is measured (R430), the descriptor or the fabric's next segment. -/
def State.canSentObj (s : State) (g o delay : Nat) (pm : Postmark) : State :=
  let c := s.can g
  let x := c.objs.getD o .off
  let y := { ((x.put obTXWAIT false).put obTXSENT true) with pm := pm }
  let s := (s.setCan g { c with objs := c.objs.set o y, cur := none }).incWord (Reg.FPT_PG_TXCNT g)
  let s := s.canCounts g (s.canTec g - 1) (s.canRec g)
  let s := if Rec.bit (s.portRec g) 0x0C 2 && x.cfg.bit 20 && x.cfg.bit 19 && cmRATESW (s.portRec g) then
      s.setFld (F.FPT_PG_CANSTAT_DELAY g) (min delay 127)
    else s
  if objMB x then
    match s.mbRec (objMbNum x), (s.mb (objMbNum x)).tx with
    | some r, t :: _ => (s.txFinish (objMbNum x) r t.idx mbOK pm.toNat).canLoadMb g o r
    | _, _ => s
  else
    let s := match s.canStationOf g x with
      | some n => s.fabSent n x.data pm
      | none => s
    s.setCan g ((s.can g).load o)

/-- A request whose frank is not the current one is discarded at the moment its frame would start (R22 to R24): one of a
mailbag is finished with FENCED, a segment of the fabric is built again (R111). -/
def State.canStale (s : State) (g o : Nat) : State :=
  let c := s.can g
  let x := c.objs.getD o .off
  let s := s.setCan g { c with objs := c.objs.set o (x.put obTXWAIT false) }
  if objMB x then
    match s.mbRec (objMbNum x), (s.mb (objMbNum x)).tx with
    | some r, t :: _ => ((s.staleMux t.frank).txFinish (objMbNum x) r t.idx mbFENCED 0).canLoadMb g o r
    | _, _ => s
  else
    let n := s.canStationOf g x
    let s := s.setCan g ((s.can g).load o)
    match n with
    | some n => s.fabStale n x.data
    | none => s

/-- Whether the request of an object carries a frank that is not the current one. -/
def State.canIsStale (s : State) (g o : Nat) : Bool :=
  let x := (s.can g).objs.getD o .off
  if objMB x then
    match s.mbRec (objMbNum x), (s.mb (objMbNum x)).tx with
    | some r, t :: _ => !(mbOwner r == 0) && !(t.frank == s.pms.frMux)
    | _, _ => false
  else segOutput x.data && !(segFrank x.data == s.pms.frMux)

/-- The frame of the lowest identifier goes onto the idle line; stale requests before it are discarded. -/
def State.canBegin (s : State) (g : Nat) (pm : Postmark) : Nat → State
  | 0 => s
  | n + 1 =>
    let s := s.canPump g
    match (s.can g).first with
    | none => s
    | some o =>
      if s.canIsStale g o then (s.canStale g o).canBegin g pm n
      else (s.setCan g { s.can g with cur := some (o, pm) }).canMark ((s.can g).objs.getD o .off) true

/-- Whether a controller may start a frame: not in restricted operation (R440). -/
def State.canMayStart (s : State) (g : Nat) : Bool :=
  s.portLive g useCAN && s.portRuns g && !(s.flag (F.FPT_PG_CANCTRL_RESTR g) && s.portState g == psQUIESCED)

/-- CAN_BUS_OFF (R439). The arbitration-phase error that led there is not given: AERR, where it reads none, is a free
value of R451's codes, and so is the STAT of a discarded descriptor (log 5). -/
def State.busOff (s : State) (g : Nat) : State :=
  let c := s.can g
  let loaded := c.objs.filter fun x => objTX x && objMB x && x.flag obTXWAIT
  let s := s.setCan g { c with
    objs := c.objs.map fun x => if objTX x then x.put obTXWAIT false else x, segs := [], cur := none, boNs := s.ns, borec := false }
  let s := loaded.foldl (fun s x =>
    match s.mbRec (objMbNum x), (s.mb (objMbNum x)).tx with
    | some r, t :: _ => (s.txFinish (objMbNum x) r t.idx (Config.freeNat s.free % 32) 0).freeNext
    | _, _ => s) s
  let s := ((s.setPortState g psBUSOFF).inc (F.FPT_PG_CANERR_BUSOFFS g)).setFld (F.FPT_PG_CANERR_TXERR g) 255
  let s := s.setFld (F.FPT_PG_CANSTAT_LEVEL g) 3
  let s := if s.fld (F.FPT_PG_CANSTAT_AERR g) == 0 then
      (s.setFld (F.FPT_PG_CANSTAT_AERR g) (Config.freeNat s.free % 7)).freeNext else s
  s.record 0xA002 [n2w g, 255, n2w (s.fld (F.FPT_PG_CANSTAT_AERR g))]

def execCanBusOff (w : When) (g : Nat) (s : State) : Out :=
  let s := s.advance w
  .next (if s.portLive g useCAN && s.portRuns g then s.busOff g else s)

/-- The frame on the line ends early: its request waits to be sent again (R438). -/
def State.canBack (s : State) (g o : Nat) : State :=
  (s.setCan g { s.can g with cur := none }).canMark ((s.can g).objs.getD o .off) false

/-- An error in a frame that the controller sends raises its transmit error count by 8, but for a missing acknowledgement
while it is error-passive (ISO 11898-1, PRESUMED, log 77); above 255 it enters bus-off (R439). -/
def State.canTxError (s : State) (g o : Nat) (e : CanErr) : State :=
  let s := (s.canBack g o).canError g e
  if e.code == 6 && decide (128 ≤ s.canTec g) then s
  else if 255 < s.canTec g + 8 && !(s.portState g == psRESTRICTED) then s.busOff g
  else s.canCounts g (s.canTec g + 8) (s.canRec g)

/-- What becomes of the frame on the line; one that is there completes though its lane or its module has been fenced (R428,
R336). -/
def State.canEvent (s : State) (g : Nat) (ev : CanTx) : State :=
  let s := match ev with
    | .sof pm => if s.canMayStart g && (s.can g).cur.isNone then s.canBegin g pm 512 else s
    | .sent _ => if s.canMayStart g && (s.can g).cur.isNone then s.canBegin g s.pmNow 512 else s
    | _ => s
  match (s.can g).cur, ev with
  | some (o, pm), .sent d => s.canSentObj g o d pm
  | some (o, _), .lost => s.canBack g o
  | some (o, _), .error e => s.canTxError g o e
  | _, _ => s

/-- CAN_FRAME_SENT: a frame starts, completes, loses arbitration or meets an error. -/
def execCanFrameSent (w : When) (tx : CanSend) (s : State) : Out :=
  let s := s.advance w
  .next (if s.good .net && s.portUse tx.group == useCAN && decide (tx.group < 24) then s.canEvent tx.group tx.ev else s)

/-- The state of a controller that runs: RESTRICTED where RESTR is 1, with 16#A004 on entry and exit (R440). -/
def State.canMode (s : State) (g role session : Nat) : State :=
  let was := s.portState g
  let now := if s.flag (F.FPT_PG_CANCTRL_RESTR g) then psRESTRICTED else psRUN
  let s := (s.setPortState g now).setCan g { s.can g with restrBy := none }
  if (was == psRESTRICTED) != (now == psRESTRICTED) then s.record 0xA004 [n2w g, n2w now, n2w role, n2w session] role 0 session
  else s

/-- CAN_BUSOFF_RECOVERED (R439): 128 occurrences of 11 recessive bits, at once with AUTOREC, else after BOREC. -/
def State.busOffEnd (s : State) (g : Nat) : State :=
  let c := s.can g
  let by_ := c.restrBy.getD (0xFF, 0)
  let s := s.setCan g { c with borec := false }
  let s := (s.canMode g by_.1 by_.2).wr (Reg.FPT_PG_CANERR g) (n2w (s.fld (F.FPT_PG_CANERR_BUSOFFS g) * 2 ^ 24))
  let s := s.setFld (F.FPT_PG_CANSTAT_LEVEL g) 0
  s.record 0xA003 [n2w g, n2w ((s.ns - c.boNs) / 1000000)]

def execCanBusoffRecovered (w : When) (g : Nat) (s : State) : Out :=
  let s := s.advance w
  .next (if s.good .net && s.portUse g == useCAN && s.portState g == psBUSOFF
      && (cmAUTOREC (s.portRec g) || (s.can g).borec) then s.busOffEnd g else s)

/-- The answer that refuses a write to a port register of a use that the group does not have (R451). -/
def State.refusePort (s : State) (who : Who) (a g use : Nat) (v : Word) : Option Nat :=
  match s.refuse who a v with
  | some c => some c
  | none => if s.portUse g == use then none else some ansBADSTATE

/-- FPT_PGg_CANCTRL.BOREC. -/
def State.borecCmd (s : State) (who : Who) (g : Nat) : State :=
  match s.refusePort who (Reg.FPT_PG_CANCTRL g) g useCAN (2 + (s.rd (Reg.FPT_PG_CANCTRL g)).setBits 31 1 0) with
  | some c => s.answer c
  | none => (if s.portState g == psBUSOFF then s.setCan g { s.can g with borec := true } else s).answer ansOK

def execCanBorecCmd (w : When) (who : Who) (g : Nat) (s : State) : Out := .next ((s.advance w).borecCmd who g)

/-- A write of RESTR is stored, to take effect at the next bus idle or at recovery (R440). -/
def State.restrWrite (s : State) (who : Who) (g : Nat) (b : Bool) : State :=
  match s.refusePort who (Reg.FPT_PG_CANCTRL g) g useCAN (n2w (b2n b)) with
  | some c => s.answer c
  | none =>
    ((s.setFlag (F.FPT_PG_CANCTRL_RESTR g) b).setCan g { s.can g with restrBy := some (who.role.num, who.session) }).answer
      ansOK

def execCanRestrWrite (w : When) (who : Who) (g : Nat) (b : Bool) (s : State) : Out :=
  .next ((s.advance w).restrWrite who g b)

/-- CAN_RESTRICTED_CHANGE: the bus is idle and a stored RESTR takes effect. -/
def execCanRestrictedChange (w : When) (g : Nat) (s : State) : Out :=
  let s := s.advance w
  .next (match (s.can g).restrBy with
    | some (role, session) =>
      if s.good .net && !(s.quiescing g) && (s.portState g == psRUN || s.portState g == psRESTRICTED) then s.canMode g role session else s
    | none => s)

/-! ## UART -/

/-- The mailbag of a group in one direction, the lowest numbered. -/
def State.portMb (s : State) (g dir : Nat) : Option (Nat × Rec) :=
  ((sortBy (fun x => Rec.u8 x 0) (s.recs 5)).find? fun r => mbPort r == g && mbDir r == dir).map fun r => (Rec.u8 r 0, r)

/-- The bit rate of a UART group (R423). -/
def uartRate (r : Rec) : Rat := 12000000 * 16 / (Rec.u32 r 4 : Rat)

/-- Fields of UFMT and UMODE (R423). -/
def utDATA (r : Rec) : Nat := if Rec.bit r 8 0 then 7 else 8
def utPARITY (r : Rec) : Nat := bitsOf (Rec.u8 r 8) 2 1
def utSTOP (r : Rec) : Nat := if Rec.bit r 8 3 then 2 else 1
def utMSTP (r : Rec) : Bool := Rec.u8 r 9 == 1

/-- Times on the line in ns: of a number of bits, and of a character. -/
def utBitNs (r : Rec) (n : Nat) : Nat := n * Rec.u32 r 4 * 1000000000 / (12000000 * 16)
def utCharBits (r : Rec) : Nat := 1 + utDATA r + (if utPARITY r == 0 then 0 else 1) + utSTOP r
def utCharNs (r : Rec) : Nat := utBitNs r (utCharBits r)

/-- The silence that ends a Modbus frame, and the longest one inside it (R443), in ns. -/
def utGapNs (r : Rec) : Nat :=
  if !(Rec.u16 r 12 == 0) then Rec.u16 r 12 * 1000 else if uartRate r ≤ 19200 then utCharNs r * 7 / 2 else 1750000
def utInnerNs (r : Rec) : Nat := if uartRate r ≤ 19200 then utCharNs r * 3 / 2 else 750000

/-- A bit as its three samples give it (R441). -/
def utMajority (v : BitVec 3) : Bool := decide (2 ≤ (List.range 3).foldl (fun n i => n + b2n (v.getLsbD i)) 0)

/-- A character: its data byte, whether a stop bit is wrong, and whether its parity is wrong (R441). -/
def utChar (r : Rec) (c : UartChar) : Byte × Bool × Bool :=
  let bs := c.bits.map utMajority
  let n := utDATA r
  let v := (List.range n).foldl (fun v i => v + b2n (bs.getD i true) * 2 ^ i) 0
  let ones := (bs.take n).foldl (fun k b => k + b2n b) 0
  let p := utPARITY r
  let odd := (ones + b2n (bs.getD n false)) % 2 == 1
  let stop := bs.drop (n + if p == 0 then 0 else 1)
  (BitVec.ofNat 8 v, !((List.range (utSTOP r)).all fun i => stop.getD i true), (p == 1 && odd) || (p == 2 && !odd))

/-- The frames of a stretch of characters: for Modbus a silence of GAP ends a frame. -/
def utFrames (r : Rec) : List UartChar → List (List UartChar)
  | [] => []
  | c :: rest =>
    match utFrames r rest with
    | [] => [[c]]
    | f :: fs => if !(utMSTP r) && (match f with | d :: _ => decide (utGapNs r ≤ d.gap) | [] => false) then [c] :: f :: fs else (c :: f) :: fs

/-- An MS/TP frame from its preamble on (R444). -/
def mstpFrame : List Byte → List Byte
  | a :: b :: rest => if a == 0x55 && b == 0xFF then a :: b :: rest else mstpFrame (b :: rest)
  | _ => []

/-- Whether the check of a frame passes: CRC-16 of Modbus, or header and data CRC of MS/TP, whose polynomials and initial
values are those of ANSI/ASHRAE 135 (PRESUMED, log 78). -/
def utCrcOk (r : Rec) (bs : List Byte) : Bool :=
  if utMSTP r then
    let head := (bs.drop 2).take 6
    let n := (Rec.u8 bs 5) * 256 + Rec.u8 bs 6
    decide (8 ≤ bs.length) && head.foldl (crcByte 0x81) 0xFF == 0x55
      && (n == 0 || (decide (10 + n ≤ bs.length) && ((bs.drop 8).take (n + 2)).foldl (crcByte 0x8408) 0xFFFF == 0xF0B8))
  else decide (4 ≤ bs.length) && bs.foldl (crcByte 0xA001) 0xFFFF == 0

/-- 16#A007: a burst of errors, at most once per second per group. -/
def State.uartErr (s : State) (g : Nat) : State :=
  if (match s.net.uartNs.get? g with | some t => decide (s.ns < t + 1000000000) | none => false) then s
  else
    ({ s with net := { s.net with uartNs := s.net.uartNs.put g s.ns } }).record 0xA007
      [n2w g, s.rd (Reg.FPT_PG_UARTERR g)]

/-- What an MS/TP node does with a control frame addressed to it (log 78): the token allows MAXINFO frames, a poll for the
master is answered, and an answer to its own poll names the next master. -/
def State.mstpIn (s : State) (g : Nat) (r : Rec) (bs : List Byte) : State :=
  let u := s.uart g
  let typ := Rec.u8 bs 2
  if !(Rec.u8 bs 3 == Rec.u8 r 14) || !s.laneServes then s
  else if typ == 0 then s.setUart g { u with token := some (Rec.u8 r 16) }
  else if typ == 1 then s.setUart g { u with reply := true }
  else if typ == 2 then s.setUart g { u with next := some (Rec.u8 bs 4) }
  else s

/-- One received frame (R441, R443, R444): character errors and, for Modbus, too long a silence inside it make it bad; the
result of the CRC goes with it. -/
def State.uartFrame (s : State) (g : Nat) (r : Rec) (cs : List UartChar) : State :=
  let ds := cs.map (utChar r)
  let frame := (ds.filter fun d => d.2.1).length
  let parity := (ds.filter fun d => d.2.2).length
  let bytes := ds.map (·.1)
  let bytes := if utMSTP r then mstpFrame bytes else bytes
  let crc := utCrcOk r bytes
  let s := (s.inc (F.FPT_PG_UARTERR_FRAME g) frame).inc (F.FPT_PG_UARTERR_PARITY g) parity
  let bad := decide (0 < frame + parity) || bytes.isEmpty
    || (!(utMSTP r) && (cs.drop 1).any fun c => decide (utInnerNs r < c.gap))
  let s := s.setUart g { s.uart g with rxNs := s.ns, askedTo := 0 }
  if bad then (if frame + parity == 0 then s else s.uartErr g)
  else
    let s := if crc then s.incWord (Reg.FPT_PG_RXCNT g) else (s.inc (F.FPT_PG_UARTERR_CRC g)).uartErr g
    let s := if utMSTP r && crc then s.mstpIn g r bytes else s
    match s.portMb g 0 with
    | none => s
    | some (m, mr) => (s.mbStore m mr bytes bytes.length (if crc then mbOK else mbBADCRC) 0 false s.pmNow).1

/-- UART_FRAME_RECEIVED: the silence after the last character has ended a frame; what comes in while DE is high is not
passed on (R442). -/
def State.uartReceive (s : State) (g : Nat) (cs : List UartChar) : State :=
  let r := s.portRec g
  let span := cs.foldl (fun n c => n + c.gap + utCharNs r) 0
  if s.ns < (s.uart g).deNs + span then s else (utFrames r cs).foldl (fun s f => s.uartFrame g r f) s

def execUartFrameReceived (w : When) (g : Nat) (chars : List UartChar) (s : State) : Out :=
  let s := s.advance w
  .next (if s.portLive g useUART && s.portRuns g then s.uartReceive g chars else s)

/-- The transmitter drives the line for a frame of `n` characters, with LEAD before and TAIL after it (R426, R442). -/
def State.uartDrive (s : State) (g : Nat) (r : Rec) (n tail : Nat) : State :=
  s.setUart g { s.uart g with deNs := s.ns + utBitNs r (Rec.u8 r 10 + tail) + n * utCharNs r }

/-- Until when a Modbus request is outstanding: ANSTO of the station that it addresses, from its end; nobody answers a
broadcast (R443). -/
def State.modbusWait (s : State) (g : Nat) (unit : Nat) : Nat :=
  match s.stations.find? fun nr => stProto nr.2 == 2 && stPort nr.2 == g && Rec.u32 nr.2 4 == unit with
  | some nr => (s.uart g).deNs + stAnstoNs nr.2
  | none => 0

/-- The head descriptor of the group's transmit mailbag goes out, after the frank check. RXD is compared with TXD character
by character, and the first that differs ends the frame (R442). Answers whether a frame went onto the line. -/
def State.uartPut (s : State) (g : Nat) (r : Rec) (echo : List Byte) : State × Bool :=
  match s.portMb g 1 with
  | none => (s, false)
  | some (m, mr) =>
    match (s.mb m).tx with
    | [] => (s, false)
    | t :: _ =>
      let d := s.desc mr t.idx
      if !(mbOwner mr == 0) && !(t.frank == s.pms.frMux) then ((s.staleMux t.frank).txFinish m mr t.idx mbFENCED 0, false)
      else if mbBufsz mr < deLen d then (s.txFinish m mr t.idx mbTOOLONG 0, false)
      else
        let bytes := s.sramBytes (deBuf d) (deLen d)
        match (List.range bytes.length).find? fun i => decide (i < echo.length) && !(echo.getD i 0 == bytes.getD i 0) with
        | some i =>
          (((s.inc (F.FPT_PG_UARTERR_COLL g)).uartDrive g r (i + 1) 0).txFinish m mr t.idx mbCOLLISION s.pmNow.toNat, true)
        | none =>
          let s := ((s.incWord (Reg.FPT_PG_TXCNT g)).uartDrive g r bytes.length (Rec.u8 r 11)).txFinish m mr t.idx mbOK s.pmNow.toNat
          (if utMSTP r then s else s.setUart g { s.uart g with askedTo := s.modbusWait g (bytes.headD 0).toNat }, true)

/-- A control frame of MS/TP: 8 characters. -/
def State.mstpControl (s : State) (g : Nat) (r : Rec) (u : Uart) : State :=
  ((s.setUart g u).incWord (Reg.FPT_PG_TXCNT g)).uartDrive g r 8 (Rec.u8 r 11)

/-- What an MS/TP node sends next (R444; PRESUMED, log 78): the answer to a poll for the master; with the token, frames
while it allows them, then the token, or a poll for the master up to MAXMASTER while no next master is known. After 500 ms
of silence and 10 ms for each address below its own a node takes the token. -/
def State.mstpSend (s : State) (g : Nat) (r : Rec) (echo : List Byte) : State :=
  let u := s.uart g
  let own := Rec.u8 r 14
  if u.reply then s.mstpControl g r { u with reply := false }
  else match u.token with
    | none =>
      if u.rxNs + 500000000 + 10000000 * own ≤ s.ns then s.setUart g { u with token := some (Rec.u8 r 16) } else s
    | some n =>
      let sent := if n == 0 then (s, false) else s.uartPut g r echo
      if sent.2 then sent.1.setUart g { sent.1.uart g with token := some (n - 1) }
      else match u.next with
        | some _ => sent.1.mstpControl g r { u with token := none }
        | none =>
          let a := (u.polled + 1) % (Rec.u8 r 15 + 1)
          sent.1.mstpControl g r { u with token := some 0, polled := if a == own then (a + 1) % (Rec.u8 r 15 + 1) else a }

/-- UART_FRAME_SEND: nothing starts while the line is driven, while a Modbus request is outstanding (R443), or within 40 bit
times of the last MS/TP frame received (R444). -/
def State.uartSend (s : State) (g : Nat) (echo : List Byte) : State :=
  let r := s.portRec g
  let u := s.uart g
  if s.ns < u.deNs then s
  else if utMSTP r then (if s.ns < u.rxNs + utBitNs r 40 then s else s.mstpSend g r echo)
  else if s.ns < u.askedTo then s else (s.uartPut g r echo).1

def execUartFrameSend (w : When) (g : Nat) (echo : List Byte) (s : State) : Out :=
  let s := s.advance w
  .next (if s.portLive g useUART && s.portRuns g && s.laneUp then s.uartSend g echo else s)

/-! ## DALI-2 -/

def State.dali (s : State) (g : Nat) : Dali := s.net.dalis.getD g .new
def State.setDali (s : State) (g : Nat) (d : Dali) : State := { s with net := { s.net with dalis := s.net.dalis.put g d } }

/-- The station of a DALI-2 group (R110, R447). -/
def State.daliStation (s : State) (g : Nat) : Option (Nat × Rec) :=
  s.stations.find? fun nr => stProto nr.2 == 6 && stPort nr.2 == g

/-- The address byte of a frame to the gear that ADDR of R447 names: short address, group or broadcast (log 17). -/
def daliByte (addr : Nat) : Nat :=
  if addr / 2 ^ 24 == 1 then 128 + 2 * (addr % 16) else if addr / 2 ^ 24 == 2 then 254 else 2 * (addr % 64)

/-- A transaction on the bus succeeded: a delivery for R112 (R448). -/
def State.daliDelivered (s : State) (n : Nat) : State :=
  (s.sta n).polls.foldl (fun s p => if p.ident then s else s.delivered n p.cls) s

/-- The first successful poll of a station that is not ONLINE, within ANSTO, stands for its identity answer (R116). -/
def State.daliAnswered (s : State) (n : Nat) (r : Rec) : State :=
  if (s.sta n).polls.any fun p => p.ident && decide (s.ns ≤ p.ns + stAnstoNs r) then s.confirmed n 0 else s.daliDelivered n

/-- The arc power of a level in % (R447): 0 below 0.1, else round(1 + (253 / 3) × (log10 x + 1)) from 1 to 254. A level reaches
arc power a when (10 x) ^ 506 reaches 10 ^ (6 a - 9). -/
def daliArc (x : Rat) : Nat :=
  if x < 1 / 10 then 0
  else if 100 ≤ x then 254
  else
    let y := (10 * x) ^ 506
    1 + ((List.range 253).filter fun (i : Nat) => decide ((10 : Rat) ^ (6 * i + 3) ≤ y)).length

/-- The greatest REAL32 that is not above the level 10 ^ ((arc - 1) × 3 / 253 - 1) of an arc power (R447): x is not above it
when 1,000 × (10 x) ^ 253 is not above 10 ^ (3 arc). -/
def daliFloor (arc : Nat) : Nat :=
  (List.range 31).foldl (fun w i =>
    let w' := w + 2 ^ (30 - i)
    if 1000 * (10 * real32D (n2w w')) ^ 253 ≤ (10 : Rat) ^ (3 * arc) then w' else w) 0

/-- An actual level as REAL32; which neighbour an inexact one takes is not stated. -/
def daliLevel (arc : Nat) : Word :=
  let w := daliFloor arc
  if 1000 * (10 * real32D (n2w w)) ^ 253 = (10 : Rat) ^ (3 * arc) then n2w w else n2w (w + b2n (Config.daliUp arc))

/-- The arc power that carries a point's value. That of a REAL32 that is no number is not stated. -/
def State.daliPower? (s : State) (v : Word) : Nat := if finite32 v then daliArc (real32D v) else Config.freeNat s.free % 255

/-- Bit times of a frame on the bus, in ns (R445): the start bit and the data bits at 1,200 bit/s. -/
def daliNs (bits : Nat) : Nat := (1 + bits) * 1000000000 / 1200

/-- The next of some points after the last one, in ascending order, beginning again after the highest (R448). -/
def nextPoint (l : List Nat) (last : Option Nat) : Option Nat :=
  match last with
  | none => l.head?
  | some a => match l.find? fun p => decide (a < p) with | some p => some p | none => l.head?

/-- A frame that carries the newest value of an output, with a priority. -/
def State.daliOutput (s : State) (prio p : Nat) : Option DaliTx :=
  (s.ptRec p).map fun r =>
    ⟨BitVec.ofNat 24 (daliByte (ptAddr r) * 256 + s.daliPower? (s.point p).value), false, prio, s.rd Reg.PMS_FRANK, some p, false, false,
      none, false⟩

/-- A frame that queries an input: QUERY STATUS (16#90) or QUERY ACTUAL LEVEL (16#A0) (log 17). -/
def State.daliQuery (s : State) (p : Nat) : Option DaliTx :=
  (s.ptRec p).map fun r =>
    ⟨BitVec.ofNat 24 ((daliByte (ptAddr r) + 1) * 256 + (if ptAddr r / 2 ^ 24 == 3 then 0x90 else 0xA0)), false, 2, s.rd Reg.PMS_FRANK,
      some p, true, false, none, false⟩

/-- The frame that the lane firmware sends (R447 to R449): changed outputs go first; refreshes and queries are for idle bus
time; while the search runs no point is served, and the search gives addresses in ascending order, to control devices only
where DFLAGS allows 24-bit frames. The frames of the search are those of IEC 62386 (PRESUMED, log 79). -/
def State.daliNext (s : State) (g : Nat) (n : Nat) (what : DaliSend) : Option DaliTx :=
  let d := s.dali g
  let search := s.flag (F.FPT_PG_DALISTAT_SEARCH g)
  let wide := Rec.bit (s.portRec g) 4 0
  let ps := s.staPoints n
  let frank := s.rd Reg.PMS_FRANK
  match what with
  | .output => if search then none else d.due.head?.bind fun p => s.daliOutput 2 p
  | .refresh =>
    if search || !d.due.isEmpty || !(s.staState n == saONLINE) then none
    else (nextPoint ((ps.filter fun p => ptOut p.2 && !(qGet (s.point p.1).qual qINIT)).map (·.1)) d.refreshed).bind fun p =>
      s.daliOutput 5 p
  | .query =>
    if search || !d.due.isEmpty || s.staState n == saDISABLED then none
    else (nextPoint ((ps.filter fun p => !(ptOut p.2) && decide (ptAddr p.2 / 2 ^ 24 ∈ [3, 4])).map (·.1)) d.queried).bind fun p =>
      s.daliQuery p
  | .other w f tw => if w && !wide then none else some ⟨if w then f else f &&& 0xFFFF, w, 2, frank, none, false, tw, none, false⟩
  | .assign dev rnd short =>
    if !search || (dev && !wide) || d.assigned.any (fun a => decide (short.toNat ≤ a)) then none
    else if dev then some ⟨BitVec.ofNat 24 (0xC10800 + short.toNat), true, 2, frank, none, false, false, some (rnd, short), false⟩
    else some ⟨BitVec.ofNat 24 (0xB700 + 2 * short.toNat + 1), false, 2, frank, none, false, false, some (rnd, short), false⟩
  | .searchEnd => if search then some ⟨0xA100, false, 2, frank, none, false, false, none, true⟩ else none

/-- A forward frame has gone out whole. An output that it carries counts as delivered (R448), which in an admission leads to
ONLINE once every output has been; an address given by the search is recorded (R449). -/
def State.daliSent (s : State) (g : Nat) (t : DaliTx) : State :=
  let s := (s.incWord (Reg.FPT_PG_TXCNT g)).setDali g { s.dali g with tx := some t, repeats := 0, backoff := false }
  let s := match t.assign with
    | some (rnd, short) =>
      (s.setDali g { s.dali g with assigned := some short.toNat }).record 0xA009 [n2w g, n2w short.toNat, n2w rnd.toNat]
    | none => s
  let s := if t.last then (s.setDali g { s.dali g with assigned := none }).setFld (F.FPT_PG_DALISTAT_SEARCH g) 0 else s
  match s.daliStation g, t.point with
  | some (_, _), some p =>
    if t.query then s.setDali g { s.dali g with queried := some p }
    else
      let n := match s.ptRec p with | some r => ptStation r | none => 0
      let d := s.dali g
      let s := s.setDali g { d with due := d.due.filter fun q => !(q == p), refreshed := if t.prio == 5 then some p else d.refreshed }
      let s := s.daliDelivered n
      let x := s.sta n
      let s := s.setSta n { x with dirty := x.dirty.filter fun q => !(q == p) }
      let pm := match s.staRec n with | some r => (s.round (stPclass r)).outStart | none => s.pmNow
      let s := s.outQual true pm p
      if (s.dali g).due.isEmpty && !(s.sta n).imageDue then s.admitStation n else s
  | some (n, _), none => s.daliDelivered n
  | none, _ => s

/-- A collision stops the frame; after 3 repeats the transaction fails (R446): its output waits for the next output phase. -/
def State.daliCollide (s : State) (g : Nat) (t : DaliTx) (repeats : Nat) : State :=
  let s := s.inc (F.FPT_PG_DALISTAT_COLL g)
  let d := { s.dali g with endNs := s.ns }
  if 3 ≤ repeats then
    (s.inc (F.FPT_PG_DALISTAT_FAILED g)).setDali g { d with
      tx := none, repeats := 0, backoff := false, due := d.due.filter fun p => !(some p == t.point) }
  else s.setDali g { d with tx := some t, repeats := repeats, backoff := true }

/-- A frame starts: its frank is checked (R22 to R24), and a stale one is discarded with its transaction. -/
def State.daliStart (s : State) (g : Nat) (t : DaliTx) (collision : Bool) (repeats : Nat) : State :=
  if !(t.frank == s.pms.frMux) then (s.staleMux t.frank).setDali g { s.dali g with tx := none, repeats := 0, backoff := false }
  else if collision then s.daliCollide g t repeats
  else
    let s := s.setDali g { s.dali g with endNs := s.ns + daliNs (if t.wide then 24 else 16) }
    s.daliSent g t

/-- Whether the settling time of a priority has passed since the last frame (R445). -/
def State.daliSettled (s : State) (g prio : Nat) : Bool := decide ((s.dali g).endNs + Config.daliSettle prio ≤ s.ns)

/-- DALI_FORWARD_FRAME_SEND: the second frame of a send-twice pair within 100 ms with priority 1, or the frame that the lane
firmware has to send. -/
def State.daliForward (s : State) (g n : Nat) (what : DaliSend) (collision : Bool) : State :=
  let d := s.dali g
  let second := d.tx.filter fun t => t.twice && decide (s.ns ≤ d.endNs + 100000000)
  match second with
  | some t => if s.daliSettled g 1 then s.daliStart g { t with prio := 1, twice := false } collision 0 else s
  | none =>
    match s.daliNext g n what with
    | some t => if s.daliSettled g t.prio then s.daliStart g t collision 0 else s
    | none => s

def execDaliForwardFrameSend (w : When) (g : Nat) (what : DaliSend) (collision : Bool) (s : State) : Out :=
  let s := s.advance w
  .next (if s.portLive g useDALI && s.portRuns g && s.good .fab && s.laneServes && !(s.dali g).backoff then
      s.daliForward g (match s.daliStation g with | some (n, _) => n | none => 2048) what collision
    else s)

/-- DALI_BACKOFF_EXPIRY: the frame is repeated after its back-off, under the frank that it was sent with (R23). -/
def execDaliBackoffExpiry (w : When) (g : Nat) (collision : Bool) (s : State) : Out :=
  let s := s.advance w
  .next (match (s.dali g).tx with
    | some t =>
      if s.portLive g useDALI && s.portRuns g && (s.dali g).backoff then s.daliStart g t collision ((s.dali g).repeats + 1) else s
    | none => s)

/-- A value of an ONLINE station that enters as a class-E report (R448, R108, row I2). -/
def State.daliReport (s : State) (n ch : Nat) (v : Word) : State :=
  match s.inputAt n ch with
  | none => s
  | some _ =>
    if !(s.staState n == saONLINE) then s
    else
      let s := { s with fab := { s.fab with eQueue := s.fab.eQueue ++ [⟨n, ch, false, v, s.pmNow⟩] } }
      match [0, 1, 2].find? fun c => (s.round c).phase == .input with
      | some c => s.drainE c
      | none => s

/-- DALI_BACKWARD_WINDOW: the answer to the query in progress; NONE leaves the point unchanged, FRAMING names no value. -/
def State.daliWindow (s : State) (g : Nat) (v : DaliWindow) : State :=
  match (s.dali g).tx, s.daliStation g, v with
  | some t, some (n, r), .valid b =>
    let s := (s.incWord (Reg.FPT_PG_RXCNT g)).setDali g { s.dali g with tx := if t.twice then some t else none, endNs := s.ns }
    let s := s.daliAnswered n r
    match t.query, t.point.bind fun p => s.ptRec p with
    | true, some q => s.daliReport n (ptAddr q) (if ptAddr q / 2 ^ 24 == 3 then n2w b.toNat else daliLevel b.toNat)
    | _, _ => s
  | some t, _, _ => if t.twice then s else s.setDali g { s.dali g with tx := none }
  | none, _, _ => s

def execDaliBackwardWindow (w : When) (g : Nat) (r : DaliWindow) (s : State) : Out :=
  let s := s.advance w
  .next (if s.portLive g useDALI && s.good .fab && !(s.dali g).backoff then s.daliWindow g r else s)

/-- DALI_EVENT_FRAME_RECEIVED: an event message of a control device: short address in bits 22 to 17, instance in bits 14
to 10, event information in bits 9 to 0 (log 17). Nothing is served while the search runs (R449). -/
def State.daliEvent (s : State) (g : Nat) (frame : BitVec 24) : State :=
  let f := frame.toNat
  let s := (s.incWord (Reg.FPT_PG_RXCNT g)).setDali g { s.dali g with endNs := s.ns }
  match s.daliStation g, s.flag (F.FPT_PG_DALISTAT_SEARCH g) with
  | some (n, _), false => s.daliReport n (5 * 2 ^ 24 + bitsOf f 14 10 * 2 ^ 8 + bitsOf f 22 17) (n2w (bitsOf f 9 0))
  | _, _ => s

def execDaliEventFrameReceived (w : When) (g : Nat) (frame : BitVec 24) (s : State) : Out :=
  let s := s.advance w
  .next (if s.portLive g useDALI && s.good .fab && s.laneServes then s.daliEvent g frame else s)

/-- The bus power of a DALI-2 group is lost or restored (R446). -/
def State.daliPower (s : State) (g : Nat) (on : Bool) : State :=
  let st := if !on then psNOPOWER else if s.quiescing g then psQUIESCED else psRUN
  ((s.setPortState g st).setFlag (F.FPT_PG_DALISTAT_PWR g) on).record 0xA006 [n2w g, n2w st]

def execDaliPowerLost (w : When) (g : Nat) (s : State) : Out :=
  let s := s.advance w
  .next (if s.portLive g useDALI && s.portRuns g then s.daliPower g false else s)

def execDaliPowerRestored (w : When) (g : Nat) (s : State) : Out :=
  let s := s.advance w
  .next (if s.portLive g useDALI && s.portState g == psNOPOWER then s.daliPower g true else s)

/-- COMMISSION (R449): the lane firmware begins the search, where a lane is active and the bus has power; otherwise the accepted
command finds nothing to run on (DEDUCED, log 79). -/
def State.daliSearch (s : State) (g : Nat) : State :=
  if s.mode == modeRUN && !(s.lc == lcMAKER || s.lc == lcSERVICE) then s.answer ansBADSTATE
  else if s.laneServes && s.portState g == psRUN then
    ((s.setFld (F.FPT_PG_DALISTAT_SEARCH g) 1).setDali g { s.dali g with assigned := none }).answer ansOK
  else s.answer ansOK

/-- A write of FPT_PGg_DALICTRL: CMD 1 is COMMISSION, 2 and 3 are BADSTATE (R449, R451). -/
def State.daliCtrl (s : State) (who : Who) (g : Nat) (v : Word) : State :=
  match s.refusePort who (Reg.FPT_PG_DALICTRL g) g useDALI v with
  | some c => s.answer c
  | none =>
    if v.bits 1 0 == 1 then s.daliSearch g else s.answer (if v.bits 1 0 == 0 then ansOK else ansBADSTATE)

/-- DALI_COMMISSION: a write of FPT_PGg_DALICTRL. -/
def execDaliCommission (w : When) (who : Who) (g : Nat) (val : Word) (s : State) : Out := .next ((s.advance w).daliCtrl who g val)

end Sys2Proof.Machine
end

