-- ==== Sys2Proof/Machine/Program.lean ====
section
/-! DEFINITION. Cyclic program execution (chapter 5): releases, dispatch, commits, watchdogs, program modes and
restarts. -/

namespace Sys2Proof.Machine

/-! ## The program mode -/

/-- The program mode changes from `old`: TSK_STATUS and the checkpoint of the lane firmware, with 16#3001
(R163, R594). -/
def State.setModeFrom (s : State) (old mode cause : Nat) (by_ : Nat × Nat) : State :=
  let s := (s.setFld F.TSK_STATUS_MODE mode).setFld F.TSK_STATUS_CAUSE cause
  s.saveFw [n2w old, n2w mode, n2w cause, n2w by_.1, n2w by_.2]

/-- The program mode changes. -/
def State.setMode (s : State) (mode cause : Nat) (by_ : Nat × Nat) : State := s.setModeFrom s.mode mode cause by_

/-- No requester. -/
def noBody : Nat × Nat := (0xFF, 0)
def byOf (w : Who) : Nat × Nat := (w.role.num, w.session)

/-! ## Calls at the commit (R172) -/

/-- The control engine's set-point inputs take a command with the lane's frank, or discard it (R22 to R24). -/
def State.cleGate (s : State) (frank : Word) (f : State → State) : State :=
  if !(s.good .cle) then s
  else if frank == s.pms.frCle && !(frank == 0) then f s
  else (s.satWord (Reg.PMS_STALE 1)).record 0x7010 [1, frank]

/-- RT_TREND at its commit: entry NEXT and NEXT + 1 in the header, one group at rank 7 (R175, R176). -/
def State.trendCommit (s : State) (core n : Nat) (data : List Byte) (pm : Postmark) : State :=
  match (s.recs 22).find? fun r => Rec.u16 r 0 == n with
  | none => s
  | some r =>
    if s.protects (trOff r) then s.recordProt (trOff r)
    else if !(s.good .pmm) then s
    else
      let next := leNat (s.newBytes (trOff r + 0x10) 8)
      let o := trOff r + 64 + trEntry r * (next % max 1 (trNent r))
      let slot := leBytes 4 next ++ leBytes 2 data.length ++ leBytes 2 0 ++ leBytes 8 pm.toNat
        ++ padTo (trEntry r - 16) data
      (s.perfLane 12 core 1).submitBytes 7 1
        (cellsAt o slot ++ cellsAt (trOff r) (trendHead r (next + 1)))

/-- One queued call. -/
def State.runCall (s : State) (frank : Word) (core : Nat) (pm : Postmark) (c : Call) : State :=
  match c with
  | .trigger src v => s.fire src v
  | .axisSet k t v a p => s.cleGate frank fun s => s.axTarget k t v a p
  | .axisEnable k on => s.cleGate frank fun s => if on then s.axEnable k else s.axDisableReq k
  | .axisStop k => s.cleGate frank fun s => s.axStopReq k
  | .cmpSet k j p d => s.cleGate frank fun s => s.cmpSet k j p d
  | .mbSend m d => (s.mbSend m d).mbPump m
  | .mbAdvance m n =>
    match s.mbRec m with
    | some r => s.setMb m { s.mb m with rd := ((s.mb m).rd + n) % max 1 (mbEntries r) }
    | none => s
  | .trend n d => s.trendCommit core n d pm

/-! ## The commit (R153 step 5, R155) -/

/-- What an execution time counts from: the release, for an event task the dispatch. -/
def Task.since (k : Task) (t : Nat) : Postmark := if t < 32 then k.rel else k.disp

/-- Whether some task is between dispatch and commit. -/
def State.anyCycle (s : State) : Bool := s.taskNums.any fun t => (s.task t).inCycle

/-- HOLD takes effect at the last commit of a cycle in progress (R164). -/
def State.holdIfDone (s : State) : State :=
  if s.prog.holdReq && !s.anyCycle then
    let by_ := s.prog.holdBy
    let s := { s with prog := { s.prog with holdReq := false } }
    (s.setMode modeHOLD (s.fld F.TSK_STATUS_CAUSE) by_).ocIdleSwitch
  else s

/-- The ACTIVE module of a pair streams each durable checkpoint (R335), which it reads at rank 6 (R403). -/
def State.pairLag (s : State) (len : Nat) : State :=
  if s.fld F.PMS_PAIRSTAT_ROLE == 1 then
    let since := match s.pms.pair.lagNs with | some n => n | none => s.ns
    let s := { s with pms := { s.pms with pair := { s.pms.pair with lagNs := some since } } }
    (s.trunk 6 1 len .read).inc F.PMS_PAIRSTAT_LAG
  else s

/-- The outputs that a commit writes: those whose value differs from the task's last committed one, and all of them in
the first commit after a restart. -/
def changedOuts (old : Option (List (Nat × Word))) (new : List (Nat × Word)) : List (Nat × Word) :=
  match old with
  | none => new
  | some o => new.filter fun e => !((o.find? fun x => x.1 == e.1).map (·.2) == some e.2)

/-- A lane that tracks for a planned handover loads each checkpoint as it is committed, at rank 6 (R329). -/
def State.spareLoads (s : State) (len : Nat) : State :=
  if s.fld (F.PMS_LANE_STATE 0) == 3 || s.fld (F.PMS_LANE_STATE 1) == 3 then s.trunk 6 0 len .read else s

/-- A commit: counters, the checkpoint, outputs, queued calls. -/
def State.commit (s : State) (t : Nat) (c : Ckpt) : State :=
  let k := s.task t
  let exec := (s.pmNow - k.since t).toNat
  let s := s.incWord (Reg.TSK_CYC t)
  let s := s.wr (Reg.TSK_EXEC t) (n2w (min exec 0xFFFFFFFF))
  let s := s.wr (Reg.TSK_MAXEXEC t) (n2w (max (s.rd (Reg.TSK_MAXEXEC t)).toNat (min exec 0xFFFFFFFF)))
  let c := { c with cyc := s.rd (Reg.TSK_CYC t), late := s.rd (Reg.TSK_LATE t), maxexec := s.rd (Reg.TSK_MAXEXEC t) }
  let s := s.setTask t { k with
    phase := .idle, data := c.data, work := [], outs := some c.outs, calls := [], ev := none, pend := none, skip := false
    stepped := false, again := none, ck := k.ck.write c }
  let outs := changedOuts k.outs c.outs
  let s := if s.good .fab then
      outs.foldl (fun s e => s.commitPoint s.pmNow e.1 e.2) (s.trunk 3 0 (16 * outs.length) .write)
    else s
  let s := k.calls.foldl (fun s x => s.runCall c.frank (s.coreOf t) c.relpm x) s
  let s := if k.stepped then s.setFld F.TSK_STATUS_STEPBUSY 0 else s
  let s := if s.program.base == some t then { s with prog := { s.prog with firstCycle := s.prog.firstCycle - 1 } } else s
  (((s.pairLag c.len).spareLoads c.len).ocCommit t).holdIfDone

/-- The checkpoint of a task is durable. -/
def State.commitDurable (s : State) (t : Nat) : State :=
  let k := s.task t
  match k.pend with
  | some c => if k.phase == .committing then s.commit t c else s
  | none => s

/-- What the durability of a header brings about: the lane firmware's checkpoint holds the mode, or a task commits. -/
def State.headerDurable (s : State) (t : Nat) : State :=
  if t == 64 then s.fwDurable else s.commitDurable t

/-- The next Registry group becomes durable, with what hangs on it (R382). -/
def State.durableStep (s : State) : State :=
  match s.durableNext with
  | (s, some e) => (match e.load with | .header t => s.headerDurable t | _ => s)
  | (s, none) => s

/-- Every group in the journal becomes durable, in order (R382). -/
def State.durableAll (s : State) : State := (List.range s.pm.journal.length).foldl (fun s _ => s.durableStep) s

/-- What follows waits until every group submitted so far is durable: those in the journal, and those that wait for room in
it as entries are applied (R382, R384). -/
def State.durableNow (s : State) : State :=
  if s.pm.waiting.isEmpty then s.durableAll
  else (List.range (s.pm.journal.length + s.pm.waiting.length)).foldl (fun s _ => s.durableStep.applyNext) s

/-- A record of the module's own that what follows waits for: its group becomes durable, and every group before it
(R382). -/
def State.persistNow (s : State) (rank cells data : Nat) (load : Payload) (who : Nat := load.who) : State :=
  (s.persist rank cells data load who).durableNow

/-- REGISTRY_GROUP_DURABLE. -/
def execRegistryGroupDurable (w : When) (s : State) : Out :=
  let s := s.advance w
  .next (if s.good .pmm then s.durableStep else s)

/-- CHECKPOINT_DURABLE: the header group of the task's checkpoint becomes durable, and with it every group before it
(R382, R153). -/
def State.untilCommit (t : Nat) : Nat → State → State
  | 0, s => s
  | n + 1, s => if (s.task t).phase == .committing then State.untilCommit t n s.durableStep else s

def execCheckpointDurable (w : When) (t : Nat) (s : State) : Out :=
  let s := s.advance w
  .next (if s.good .pmm && s.laneUp then State.untilCommit t s.pm.journal.length s else s)

/-! ## STOP (R163) -/

/-- The cycles that have reached step 4 complete steps 4 and 5. -/
def State.finishCommits (s : State) : State :=
  let ts := s.taskNums.filter fun t => (s.task t).phase == .committing
  ts.foldl (fun s t => (State.untilCommit t s.pm.journal.length s).commitDurable t) s

/-- Every cycle in progress is abandoned; its data, outputs and calls are discarded. -/
def State.abandonCycles (s : State) : State :=
  { s with prog := { s.prog with tasks := s.prog.tasks.map fun (e : Nat × Task) =>
      (e.1, { e.2 with phase := .idle, work := [], calls := [], ev := none, pend := none, stepped := false, skip := false }) } }

/-- The event queues are emptied. -/
def State.emptyQueues (s : State) : State :=
  { s with prog := { s.prog with tasks := s.prog.tasks.map fun (e : Nat × Task) =>
      (e.1, { e.2 with queue := [], lost := 0, burst := false }) } }

/-- The output points in the output lists of all tasks. -/
def State.outPoints (s : State) : List Nat :=
  ((s.taskNums.flatMap fun t => ((s.progOf t).outputs t).map (·.1)).eraseDups).filter fun p =>
    match s.ptRec p with | some r => ptOut r && !(ptInternal r) | none => false

/-- The SAFE value of every output point in any task's output list, in one commit. -/
def State.commitSafe (s : State) : State :=
  if s.good .fab then
    s.outPoints.foldl (fun s p => match s.ptRec p with | some r => s.commitPoint s.pmNow p (ptSafe r) | none => s) s
  else s

/-- Every entry into STOP. Events that its own commit and its axes fire find the program in STOP (R160). -/
def State.enterStop (s : State) (cause : Nat) (by_ : Nat × Nat) : State :=
  let s := s.finishCommits.abandonCycles.emptyQueues
  let old := s.mode
  let s := s.setFld F.TSK_STATUS_MODE modeSTOP
  let s := { s with prog := { s.prog with holdReq := false } }
  let s := (s.setFld F.TSK_STATUS_STEPBUSY 0).commitSafe
  let s := if s.good .cle then s.axesStop else s
  let s := s.setModeFrom old modeSTOP cause by_
  s.ocStop.ocIdleSwitch

/-! ## Watchdogs (R161, R162) -/

/-- Whether a task's watchdog has expired at the present moment. The span of a KIND 1 task, WDOG × 2^20 / K, is rounded down
where K does not divide it, a DESIGN CHOICE (log 83). In HOLD only a stepped cycle counts. That of a cycle that a handover
re-runs counts from where it counted before (R330). -/
def State.wdogDue (s : State) (t : Nat) : Bool :=
  match s.taskRec t with
  | none => false
  | some r =>
    let k := s.task t
    let past := fun (base : Postmark) (n : Nat) => decide (base.toNat + n ≤ s.pmNow.toNat)
    !(k.phase == .idle) && (s.mode == modeRUN || (s.mode == modeHOLD && k.stepped)) &&
      (if tkKind r == 0 then past k.rel (tkWdog r * tkK r * 2 ^ 20)
       else if tkKind r == 1 then past k.rel (tkWdog r * 2 ^ 20 / max 1 (tkK r))
       else if tkKind r == 2 then decide (k.relNs + tkWdog r * tkPeriod r * 1000000000 ≤ s.ns)
       else (k.inCycle || k.again.isSome) && past (k.again.getD k.disp) (tkWdog r * 2 ^ 20))

/-- A watchdog expires: 16#3003, STOP with CAUSE 1. -/
def State.wdogExpire (s : State) (t : Nat) : State :=
  let k := s.task t
  let s := s.setFld F.TSK_STATUS_WTASK t
  let s := s.record 0x3003 ([n2w t] ++ words64 k.rel ++ [n2w (min (s.pmNow - k.since t).toNat 0xFFFFFFFF)])
  s.enterStop 1 noBody

/-- A watchdog that is due goes before the command or release of the same moment (R161, R592). -/
def State.wdogFirst (s : State) : State :=
  if !s.laneUp || s.pwr.pfail then s else match s.taskNums.find? fun t => s.wdogDue t with
  | some t => s.wdogExpire t
  | none => s

/-- TASK_WATCHDOG_EXPIRY. -/
def execTaskWatchdogExpiry (w : When) (t : Nat) (s : State) : Out :=
  let s := s.advance w
  .next (if s.laneUp && !s.pwr.pfail && s.wdogDue t then s.wdogExpire t else s)

/-! ## Releases (R148 to R150, R156) -/

/-- Whether the runtime releases cyclic tasks now. -/
def State.releases (s : State) : Bool :=
  s.laneUp && s.mode == modeRUN && !s.prog.holdReq && !(s.fld F.PMS_STATUS_PHASE == 1) && !s.pwr.pfail

/-- A release: the task is ready, or the release is skipped (R156). -/
def State.release (s : State) (t : Nat) (skip : Bool) : State :=
  let s := s.setTask t { s.task t with last := some s.pmNow }
  let k := s.task t
  if k.phase == .idle then
    let s := s.setTask t { k with phase := .ready, rel := s.pmNow, relNs := s.ns, seqNo := s.prog.relCount, skip := skip }
    { s with prog := { s.prog with relCount := s.prog.relCount + 1 } }
  else
    let s := s.inc (F.TSK_LATE_LATE t)
    s.record 0x3002 ([n2w t] ++ words64 s.pmNow ++ [n2w (s.fld (F.TSK_LATE_LATE t))])

/-- TASK_RELEASE: a cyclic task of KIND 0 or 1 at a release of its schedule (R148), once (R55). A watchdog that expires at
the same postmark goes first (R161). -/
def execTaskRelease (w : When) (t : Nat) (s : State) : Out :=
  let s := s.advance w
  .next (match s.taskRec t with
    | some r =>
      if s.releases && decide (t < 32) && s.onSchedule r && !((s.task t).last == some s.pmNow) then
        let s := s.wdogFirst
        if s.releases then s.release t false else s
      else s
    | none => s)

/-- The index of R150: ⌊(s - ANCHOR) / PERIOD⌋. -/
def calIndex (r : Rec) (sec : Nat) : Int := ((sec : Int) - (tkAnchor r : Int)) / ((max 1 (tkPeriod r) : Nat) : Int)

/-- Whether an RTC second is a release of a calendar task (R149). -/
def calDue (r : Rec) (sec : Nat) : Bool := ((sec : Int) - (tkAnchor r : Int)) % ((max 1 (tkPeriod r) : Nat) : Int) == 0

/-- A calendar task at the boundary of second `sec`; `told` is the second at which a set began since the last one. A
release that a forward step passed is made now, with SKIP and 16#3007 (R150). No index is released twice. The old index of
a task never released is not stated: a free value. -/
def State.calRelease (s : State) (sec : Nat) (told : Option Nat) (t : Nat) (r : Rec) : State :=
  let k := s.task t
  let idx := calIndex r sec
  let newer := match k.calIdx with | some i => decide (i < idx) | none => true
  let jump := match told with | some t0 => decide (calIndex r t0 < calIndex r (sec - 1)) | none => false
  if newer && (calDue r sec || jump) then
    let s := s.setTask t { k with calIdx := some idx }
    let s := if jump then
        match k.calIdx with
        | some i => s.record 0x3007 [n2w t, i2w i, i2w idx]
        | none => (s.record 0x3007 [n2w t, Config.freeWord s.free, i2w idx]).freeNext
      else s
    s.release t jump
  else s

/-- The calendar tasks at an RTC second boundary (R149, R150); watchdogs that expire at this moment go first (R161). -/
def State.calendar (s : State) (sec : Nat) (told : Option Nat) : State :=
  if !s.releases then s
  else
    let s := s.wdogFirst
    if !s.releases then s
    else s.taskNums.foldl (fun s t =>
      match s.taskRec t with
      | some r => if tkKind r == 2 then s.calRelease sec told t r else s
      | none => s) s

/-! ## Dispatch (R151, R153, R154) -/

/-- The buffer of an input point: words 0 and 1 from the image of its class, or live before its class has published one
(R154). An image holds every point of its class: one that a switch adds or moves enters with what its class before published
of it, or as it stands at the switch, a DESIGN CHOICE (log 76). -/
def State.inputBytes (s : State) (p : Nat) : List Byte :=
  match s.ptRec p with
  | none => leBytes 8 0
  | some r =>
    let live := (s.ptWord p 0, s.ptWord p 1)
    let v := if ptInternal r then live
      else match s.fab.image.get? (ptClass r) with
        | some img => (img.get? p).getD live
        | none => live
    leBytes 4 v.1.toNat ++ leBytes 4 v.2.toNat

/-- The input copy (R154). -/
def State.copyInputs (s : State) (t : Nat) (d : Mem) : Mem :=
  ((s.progOf t).inputs t).foldl (fun d i => Mem.setBytes d i.2 (s.inputBytes i.1)) d

/-- Whether a task waits for its dispatch: a released cyclic task, or an event task that is idle with a queued event.
Event tasks are dispatched in RUN; a stepped task is ready in HOLD. -/
def State.waits (s : State) (t : Nat) : Bool :=
  let k := s.task t
  k.phase == .ready || (decide (32 ≤ t) && k.phase == .idle && !k.queue.isEmpty && s.mode == modeRUN && !s.prog.holdReq)

/-- Priority of a task. -/
def State.prioOf (s : State) (t : Nat) : Nat := match s.taskRec t with | some r => tkPrio r | none => 255

/-- The postmark at which a waiting task was released: an event task's is that of its oldest event. -/
def State.waitPm (s : State) (t : Nat) : Nat :=
  let k := s.task t
  if k.phase == .ready then k.rel.toNat else match k.queue with | e :: _ => e.pm.toNat | [] => 0

/-- Whether task `u` goes before task `t` among the waiting ones (R151). -/
def State.goesBefore (s : State) (u t : Nat) : Bool :=
  let key := fun n => (s.prioOf n, s.waitPm n, n)
  let a := key u
  let b := key t
  decide (a.1 < b.1) || (a.1 == b.1 && (decide (a.2.1 < b.2.1) || (a.2.1 == b.2.1 && decide (a.2.2 < b.2.2))))

/-- Tasks that run on a core, preempted ones included. -/
def State.runningOn (s : State) (core : Nat) : List Nat :=
  s.taskNums.filter fun t => s.coreOf t == core && (s.task t).phase == .running

/-- Whether a task is the one to be dispatched on its core (R151). -/
def State.mayDispatch (s : State) (t : Nat) : Bool :=
  let core := s.coreOf t
  s.waits t && (s.runningOn core).all (fun u => decide (s.prioOf t < s.prioOf u))
    && !(s.taskNums.any fun u => s.coreOf u == core && !(u == t) && s.waits u && s.goesBefore u t)

/-- The task that a core executes now: the running one of the highest priority. -/
def State.executes (s : State) (t : Nat) : Bool :=
  s.laneUp && (s.taskRec t).isSome && (s.task t).phase == .running
    && (s.runningOn (s.coreOf t)).all fun u => u == t || decide (s.prioOf t < s.prioOf u)

/-- Dispatch: the oldest event is taken, the inputs are copied from the point store at rank 3 (R403). -/
def State.dispatch (s : State) (t : Nat) : State :=
  let k := s.task t
  let core := s.coreOf t
  let preempts := !(s.runningOn core).isEmpty
  let s := (s.perfLane 9 core 1)
  let s := if preempts then s.perfLane 10 core 1 else s
  let fromQ := decide (32 ≤ t) && k.ev.isNone
  let ev := if fromQ then k.queue.head? else k.ev
  let rel := match fromQ, ev with | true, some e => e.pm | _, _ => k.rel
  let s := s.setTask t { k with
    phase := .running, disp := s.pmNow, rel := rel, work := s.copyInputs t k.data, calls := [], ev := ev
    queue := if fromQ then k.queue.tail else k.queue }
  s.trunk 3 0 (16 * ((s.progOf t).inputs t).length) .read

/-- TASK_DISPATCH. -/
def execTaskDispatch (w : When) (t : Nat) (s : State) : Out :=
  let s := s.advance w
  let on := s.mode == modeRUN || (s.mode == modeHOLD && (s.task t).stepped)
  .next (if s.laneUp && on && !(s.fld F.PMS_STATUS_PHASE == 1) && !s.pwr.pfail && s.mayDispatch t then s.dispatch t else s)

/-- TASK_RETURN (R153 step 4, R394): the task object returns with what it has stored in its instance data; changed data and
outputs become one checkpoint, stamped with the lane's frank and the release postmark. The group of a task that is to switch
also holds the header of its translation (R192). -/
def State.taskReturn (s : State) (t : Nat) (stores : List (Nat × Byte)) : State :=
  let k := s.task t
  let p := s.progOf t
  let len := obDatalen (p.taskEntry t)
  let d := Mem.setCells k.work (stores.filter fun c => decide (c.1 < len))
  let c : Ckpt := ⟨k.area, s.rd Reg.PMS_FRANK, k.rel, len, d, p.outVals t d, 0, 0, 0⟩
  let s := (s.setTask t { k with phase := .committing, work := d, pend := some c }).putPages t c
  let heads := if s.ocOld t then 2 else 1
  s.submitGroup 3 heads (64 * heads) (.header t)

def execTaskReturn (w : When) (t : Nat) (stores : List (Nat × Byte)) (s : State) : Out :=
  let s := s.advance w
  .next (if s.executes t && !s.pwr.pfail then s.taskReturn t stores else s)

/-- EVENT_SOURCE_FIRE: a lane event source fires with a value (R157, R158); a source that no task is bound to fires
nothing. -/
def execEventSourceFire (w : When) (source : Nat) (value : Word) (s : State) : Out :=
  let s := s.advance w
  .next (s.fire source value)

/-! ## Restarts (R168, R169) -/

/-- A task's data at a restart or resume: from its checkpoint, or by the COLD column. Kind 1 WARM, 2 COLD, 3 resume.
Answers the data, and whether the checkpoint could not be read though a slot is not blank. -/
def State.restData (s : State) (t kind : Nat) : Mem × Bool :=
  let k := s.task t
  let p := s.progOf t
  let e := p.taskEntry t
  let ini := p.initial t
  match k.ck.use? with
  | none => (ini, !k.ck.isBlank)
  | some (_, c) =>
    let d := if c.area == k.area then c.data else newData p t c.data s.prog.useMap
    (if kind == 3 then d else if kind == 1 then Mem.join ini d (obRetoff e) else Mem.join ini d (obPersoff e), false)

/-- A WARM or COLD restart of every task (R168): answers how many take the COLD column by R169. -/
def State.restartTasks (s : State) (kind : Nat) : State × Nat :=
  s.taskNums.foldl (fun (a : State × Nat) t =>
    let s := a.1
    let r := s.restData t kind
    let s := if r.2 then s.record 0x3005 [n2w t] else s
    let k := s.task t
    let s := s.setTask t { k with
      phase := .idle, data := r.1, work := [], outs := none, calls := [], ev := none, pend := none, stepped := false
      skip := false }
    let s := if kind == 2 then ((s.wr (Reg.TSK_CYC t) 0).wr (Reg.TSK_LATE t) 0).wr (Reg.TSK_MAXEXEC t) 0 else s
    (s, a.2 + b2n r.2)) (s, 0)

/-- WARM (1) or COLD (2): counts, 16#3004, mode, source 117. Checkpoints are read when every group before them is durable. -/
def State.restart (s : State) (kind : Nat) (inHold : Bool) (by_ : Nat × Nat) : State :=
  let s := (s.finishCommits.durableNow.abandonCycles.emptyQueues).setFld F.TSK_STATUS_STEPBUSY 0
  let s := { s with prog := { s.prog with holdReq := false } }
  let (s, lost) := s.restartTasks kind
  let s := s.inc (if kind == 1 then F.TSK_RESTARTS_WARMS else F.TSK_RESTARTS_COLDS)
  let s := s.record 0x3004 [n2w kind, n2w (b2n inHold), n2w lost]
  let s := s.setMode (if inHold then modeHOLD else modeRUN) (s.fld F.TSK_STATUS_CAUSE) by_
  s.fire 117 (n2w kind)

/-- A task as a lane that takes over or starts finds it: in the area of its checkpoint, with the data and the counters that the
checkpoint carries, and nothing in progress (R168, R196). Its calendar memory is kept (R150). -/
def State.loadTask (s : State) (t : Nat) : State :=
  let k := s.task t
  let area := match k.ck.use? with
    | some (_, c) => if ((s.prog.area c.area).rec? t).isSome then c.area else s.areaN
    | none => s.areaN
  let s := s.setTask t { Task.new with area := area, calIdx := k.calIdx, last := k.last, ck := k.ck }
  let s := s.setTask t { s.task t with data := (s.restData t 3).1 }
  match k.ck.use? with
  | some (_, c) => ((s.wr (Reg.TSK_CYC t) c.cyc).wr (Reg.TSK_LATE t) c.late).wr (Reg.TSK_MAXEXEC t) c.maxexec
  | none => s

/-- Resume after a takeover or planned handover (R168): 16#3005 for a checkpoint that cannot be read, and the event queue
emptied into EVLOST. -/
def State.resumeTask (s : State) (t : Nat) : State :=
  let k := s.task t
  let s := s.loadTask t
  let s := if (s.restData t 3).2 then s.record 0x3005 [n2w t] else s
  let s := s.inc (F.TSK_LATE_EVLOST t) k.queue.length
  s.setTask t { s.task t with outs := match k.ck.use? with | some (_, c) => some c.outs | none => none }

/-- What the lane firmware's checkpoint carries over: mode, CAUSE, the restart counts, and the governor (R594, R311). Of a
load that the staging assist of this module has switched, it knows the level and the last switch-on and switch-off itself,
which may be newer than the checkpoint; those of any other load are the checkpoint's. Without a valid one the mode stays as
it was shown (log 57). -/
def State.resumeFw (s : State) : State :=
  match s.prog.fw.use? with
  | none => s
  | some (_, f) =>
    let s := (s.setFld F.TSK_STATUS_MODE f.mode).setFld F.TSK_STATUS_CAUSE f.cause
    let s := s.wr Reg.TSK_RESTARTS f.restarts
    { s with gov := { s.gov with
        mode := f.gmode
        loads := f.held.foldl (fun (t : Tab Load) h =>
          match t.get? h.outpt with
          | some x => t.put h.outpt { x with cause := h.cause, below := h.below }
          | none => t.put h.outpt ⟨h.level, h.onPm, h.offPm, h.cause, h.below⟩) s.gov.loads } }

/-- Every task resumes, in the mode of the lane firmware's checkpoint; source 117 with 3. -/
def State.resumeTasks (s : State) : State :=
  let s := (List.range 64).foldl (fun s t =>
    if (s.taskRec t).isSome || !((s.task t).ck.isBlank) then s.resumeTask t else s) s
  let s : State := { s with prog := { s.prog with holdReq := false, fwPend := [] } }
  (s.resumeFw.setFld F.TSK_STATUS_STEPBUSY 0).fire 117 3

/-- The start of the runtime on a lane (R164): by START and STARTHOLD of the container. -/
def State.startRuntime (s : State) : State :=
  let p := s.program
  if p.none? then s.enterStop 3 noBody
  else if p.start == 1 then s.restart 1 p.startHold noBody
  else if p.start == 2 then s.restart 2 p.startHold noBody
  else s.enterStop 4 noBody

/-! ## Commands (R164 to R166) -/

/-- The word that a command writes to TSK_CTRL. -/
def tskCmd (cmd task : Nat) (inHold : Bool) : Word := n2w (cmd + task * 2 ^ 8 + b2n inHold * 2 ^ 16)

/-- A command of TSK_CTRL: its checks, then its effect; one not listed for the mode is answered BADSTATE (R165). -/
def State.tskCommand (s : State) (who : Who) (v : Word) (ok : State → Bool) (f : State → State) : State :=
  match s.refuse who Reg.TSK_CTRL v with
  | some c => s.answer c
  | none => if ok s then (f s).answer ansOK else s.answer ansBADSTATE

/-- STOP: a watchdog that is due at this moment wins (R592). -/
def State.cmdStop (s : State) (who : Who) : State :=
  s.wdogFirst.tskCommand who (tskCmd 1 0 false) (fun s => !(s.mode == modeSTOP)) fun s => s.enterStop 0 (byOf who)

def execProgramStop (w : When) (who : Who) (s : State) : Out := .next ((s.advance w).cmdStop who)

/-- HOLD: dispatching stops; HOLD takes effect at the last commit of a cycle in progress. -/
def State.cmdHold (s : State) (who : Who) : State :=
  s.wdogFirst.tskCommand who (tskCmd 2 0 false) (fun s => s.mode == modeRUN) fun s =>
    let s := { s with prog := { s.prog with holdReq := true, holdBy := (byOf who), tasks := s.prog.tasks.map fun (e : Nat × Task) =>
      (e.1, if e.2.phase == TPhase.ready then { e.2 with phase := .idle } else e.2) } }
    s.holdIfDone

def execProgramHold (w : When) (who : Who) (s : State) : Out := .next ((s.advance w).cmdHold who)

/-- RESUME: the next releases and queued events are dispatched again. -/
def State.cmdResume (s : State) (who : Who) : State :=
  s.tskCommand who (tskCmd 3 0 false) (fun s => s.mode == modeHOLD) fun s =>
    s.setMode modeRUN (s.fld F.TSK_STATUS_CAUSE) (byOf who)

def execProgramResume (w : When) (who : Who) (s : State) : Out := .next ((s.advance w).cmdResume who)

/-- STEP: one cycle of a task in HOLD (R166). A task that no TASKS record names, and an online change that is still in
preparation, are answered BADSTATE: DESIGN CHOICES, R166 and R194 name neither (log 83). -/
def State.cmdStep (s : State) (who : Who) (t : Nat) : State :=
  s.tskCommand who (tskCmd 4 t false)
    (fun s => s.mode == modeHOLD && !(s.flag F.TSK_STATUS_STEPBUSY) && (s.taskRec t).isSome
      && (decide (t < 32) || !(s.task t).queue.isEmpty) && s.fld F.TSK_OC_STATUS_PHASE == 0) fun s =>
    let k := s.task t
    let s := s.setTask t { k with phase := .ready, rel := s.pmNow, relNs := s.ns, stepped := true, skip := false }
    s.setFld F.TSK_STATUS_STEPBUSY 1

def execProgramStep (w : When) (who : Who) (t : Nat) (s : State) : Out := .next ((s.advance w).cmdStep who (t % 64))

/-- WARM and COLD: from STOP or HOLD, with a program armed, and not while block protect is WHOLE (R164, R165, R400). -/
def State.cmdRestart (s : State) (who : Who) (kind : Nat) (inHold : Bool) : State :=
  s.tskCommand who (tskCmd (4 + kind) 0 inHold)
    (fun s => !(s.mode == modeRUN) && !s.program.none? && s.armed && !(s.fld F.PMC_STATUS_LEVEL == 3)) fun s =>
    s.restart kind inHold (byOf who)

def execProgramWarm (w : When) (who : Who) (inHold : Bool) (s : State) : Out :=
  .next ((s.advance w).cmdRestart who 1 inHold)

def execProgramCold (w : When) (who : Who) (inHold : Bool) (s : State) : Out :=
  .next ((s.advance w).cmdRestart who 2 inHold)

/-- A write of TSK_DOORBELL fires source 126 with its value. -/
def State.doorbell (s : State) (who : Who) (v : Word) : State :=
  match s.refuse who Reg.TSK_DOORBELL v with
  | some c => s.answer c
  | none => (s.fire 126 v).answer ansOK

def execTskDoorbellWrite (w : When) (who : Who) (v : Word) (s : State) : Out := .next ((s.advance w).doorbell who v)

/-! ## A program without a change of areas -/

/-- A program comes into force whole, while no manifest with TASKS was armed, or goes with one that has none (R164,
R632): its tasks take initial values. -/
def State.loadProgram (s : State) (p : Program) : State :=
  let a := s.areaN
  let s := s.setArea a p
  (List.range 64).foldl (fun s t =>
    let k := s.task t
    if (p.rec? t).isSome then
      let s := s.setTask t { Task.new with area := a, data := p.initial t, ck := k.ck }
      s.putPages t (s.ckNow t)
    else if (s.prog.tasks.get? t).isSome then s.setTask t { Task.new with area := a, ck := k.ck } else s) s

/-- The checkpoints of tasks that have switched become current, together with the slot states that the Postmaster writes in
the same group, before what follows goes on. -/
def State.switchNow (s : State) (ts : List Nat) (slots : List Word) : State :=
  let g := s.switchLoad ts slots
  s.persistNow 0 g.1 g.2.1 g.2.2

end Sys2Proof.Machine
end

