-- ==== Sys2Proof/Machine/SafetyUnit.lean ====
section
/-! DEFINITION. The safety unit (chapter 12): pairs, functions, outputs, unit states, seal switches, confirm and clear. -/

namespace Sys2Proof.Machine

/-! ## The SAFETY record (R359 to R362) -/

def sfPair (p : Rec) (n : Nat) : Rec := (p.drop (0x10 + 16 * n)).take 16
def sfFunc (p : Rec) (f : Nat) : Rec := (p.drop (0x110 + 32 * f)).take 32
def sfOut (p : Rec) (o : Nat) : Rec := (p.drop (0x310 + 16 * o)).take 16
def sfUse (e : Rec) : Nat := Rec.u8 e 0
def sfDisc (e : Rec) : Nat := Rec.u16 e 4
def sfDegtime (e : Rec) : Nat := Rec.u16 e 6
def sfTmpl (e : Rec) : Nat := Rec.u8 e 0
def sfGroup (e : Rec) : Nat := Rec.u8 e 1
def sfPair0 (e : Rec) : Nat := Rec.u8 e 2
def sfPair1 (e : Rec) : Nat := Rec.u8 e 3
def sfRst (e : Rec) : Nat := Rec.u8 e 4
def sfT1 (e : Rec) : Nat := Rec.u32 e 8
def sfT2 (e : Rec) : Nat := Rec.u32 e 12
def sfMask (e : Rec) (f : Nat) : Bool := Rec.u16 e 16 / 2 ^ f % 2 == 1
def sfOmode (e : Rec) : Nat := Rec.u8 e 0
def sfFmask (e : Rec) (f : Nat) : Bool := Rec.u16 e 2 / 2 ^ f % 2 == 1

/-- The check value of stored parameters (R359); 0 with none. -/
def sfCheck (p : List Byte) : Nat := if p.isEmpty then 0 else crc32 (p.take 0x7FC)

def State.sfPairRec (s : State) (n : Nat) : Rec := sfPair s.saf.own n
def State.sfFuncRec (s : State) (f : Nat) : Rec := sfFunc s.saf.own f

/-! ## States -/

/-- Unit states of R364. -/
def sfOFF : Nat := 0
def sfSTART : Nat := 1
def sfNOPARAM : Nat := 2
def sfUNCONF : Nat := 3
def sfRUN : Nat := 4
def sfLATCHED : Nat := 5

/-- Pair states of SAF_PAIRn.PSTATE. -/
def prUNUSED : Nat := 0
def prCLOSED : Nat := 1
def prOPEN : Nat := 2
def prDISC : Nat := 3
def prDEGRA : Nat := 4
def prDEGRB : Nat := 5
def prFAULT : Nat := 6

/-- Function states of R357. -/
def fnUNUSED : Nat := 0
def fnENABLED : Nat := 1
def fnTRIPPED : Nat := 2
def fnRESETWAIT : Nat := 3
def fnDELAY : Nat := 4
def fnHELD : Nat := 5

def State.safState (s : State) : Nat := s.fld F.SAF_STATUS_STATE
def State.pairState (s : State) (n : Nat) : Nat := s.fld (F.SAF_PAIR_PSTATE n)
def State.funcState (s : State) (f : Nat) : Nat := s.fld (F.SAF_FUNC_STATE f)
def State.seal (s : State) (n : Nat) : Bool := s.fld F.SAF_SEAL_SW / 2 ^ n % 2 == 1

/-- A pair at the start of the unit: OPEN, no contact read yet (log 22). -/
def SafPair.new : SafPair := ⟨true, true, false, false, false, none, none, 0, 0, none, none, 0⟩

def State.safPair (s : State) (n : Nat) : SafPair := s.saf.pairs.getD n .new
def State.setSafPair (s : State) (n : Nat) (p : SafPair) : State :=
  { s with saf := { s.saf with pairs := s.saf.pairs.put n p } }
def State.safFunc (s : State) (f : Nat) : SafFunc := s.saf.funcs.getD f ⟨none, none⟩
def State.setSafFunc (s : State) (f : Nat) (x : SafFunc) : State :=
  { s with saf := { s.saf with funcs := s.saf.funcs.put f x } }

/-- Whether the unit's processor runs. -/
def State.safRuns (s : State) : Bool := s.good .ref && !s.saf.stopped

/-- Whether a contact of a pair stands in its demand position, which USE names (R348): a normally closed contact and the low
of an OSSD output when open, contact B of an ANTIV pair when closed. -/
def inDemand (use : Nat) (contactB closed : Bool) : Bool := if use == 2 && contactB then closed else !closed

/-- Whether a pair is degraded. -/
def isDegr (st : Nat) : Bool := st == prDEGRA || st == prDEGRB

/-- How a pair counts (R358): 1 CLOSED, 2 OPEN, 0 neither. -/
def pairCounts (st : Nat) (p : SafPair) : Nat :=
  if st == prCLOSED then 1 else if st == prOPEN then 2
  else if st == prDEGRA then (if p.db then 2 else 1)
  else if st == prDEGRB then (if p.da then 2 else 1) else 0

def State.pairCount (s : State) (n : Nat) : Nat := pairCounts (s.pairState n) (s.safPair n)

/-! ## The unit state -/

/-- The pairs in degraded mode, with their states. -/
def State.degraded (s : State) : List (Nat × Nat) :=
  ((List.range 16).map fun n => (n, s.pairState n)).filter fun e => isDegr e.2

/-- The degraded and latch record takes the present state as a group of the Registry, at rank 0; nothing waits for it (R354,
R379). During START the degraded pairs are those that the record holds. While PMM does not work, as in NAP where the unit runs
(R373), the group waits for it, a DESIGN CHOICE (log 81). -/
def State.saveLatch (s : State) : State :=
  let degr := if s.saf.inStart then (s.saf.latch.get (0, [])).2 else s.degraded
  s.persistOrWait 0 1 64 (.latch (s.fld F.SAF_STATUS_LCAUSE) degr)

/-- A change of the unit state records 16#8001; outside RUN no function stands ENABLED (R357). -/
def State.setSafState (s : State) (n : Nat) : State :=
  let old := s.safState
  if old == n then s
  else
    let s := s.setFld F.SAF_STATUS_STATE n
    let s := s.record 0x8001 [n2w old, n2w n, n2w (s.fld F.SAF_STATUS_LCAUSE)]
    (List.range 16).foldl (fun s f =>
      if s.funcState f == fnUNUSED then s
      else (s.setFld (F.SAF_FUNC_STATE f) fnTRIPPED).setSafFunc f ⟨none, none⟩) s

/-- The latched safe state, from any state but OFF (R365); the first cause stands until the latch is cleared. -/
def State.safLatch (s : State) (cause : Nat) : State :=
  if s.safState == sfOFF || s.safState == sfLATCHED then s
  else
    let s : State := { s with saf := { s.saf with passed := [] } }
    ((s.setFld F.SAF_STATUS_LCAUSE cause).setSafState sfLATCHED).saveLatch

/-- Whether the parameters in force are confirmed (R365). -/
def State.safConfirmed (s : State) : Bool :=
  match s.saf.confirmed.use? with
  | some (_, v) => v.toNat == sfCheck s.saf.stored
  | none => false

/-- The first state of R365's list that applies; `latched` tells of a latch. -/
def State.safFirst (s : State) (latched : Bool) : Nat :=
  if !(s.seal 0) then sfOFF else if latched then sfLATCHED else if s.saf.stored.isEmpty then sfNOPARAM
  else if !s.safConfirmed || s.flag F.SAF_SEAL_MOVED then sfUNCONF else sfRUN

/-! ## Functions (R357, R358) -/

/-- Whether an ENABDEV function bypasses a GUARD function. A HELD one it does not: the outputs that it feeds are off (R366). -/
def State.bypassed (s : State) (f : Nat) : Bool :=
  sfTmpl (s.sfFuncRec f) == 2 && !(s.funcState f == fnHELD) && (List.range 16).any fun e =>
    let r := s.sfFuncRec e
    sfTmpl r == 6 && s.funcState e == fnENABLED && sfMask r f
      && s.pairCount (sfPair0 r) == 1 && s.pairCount (sfPair1 r) == 1

/-- Whether a function counts as enabled for R355 and for STOGRP; during DELAY it still permits its outputs (log 22). -/
def State.counts (s : State) (f : Nat) : Bool := s.funcState f == fnENABLED || s.funcState f == fnDELAY || s.bypassed f

/-- Whether the inputs of a function permit it. -/
def State.permits (s : State) (r : Rec) : Bool :=
  let t := sfTmpl r
  let c0 := s.pairCount (sfPair0 r) == 1
  let c1 := s.pairCount (sfPair1 r) == 1
  if t == 4 then c0 && c1
  else if t == 6 then !(c1 && !c0)
  else if t == 5 then (List.range 16).all fun f => !(sfMask r f) || s.funcState f == fnENABLED || s.bypassed f
  else c0

/-- A trip: TRIPPED, counted, 16#8002; WINDRAIN begins its close run, THERMO its minimum time (R358). -/
def State.tripFunc (s : State) (f : Nat) : State :=
  let r := s.sfFuncRec f
  let st (p : Nat) : Word := if p < 16 then n2w (s.pairState p) else 0
  let s := (s.setFld (F.SAF_FUNC_STATE f) fnTRIPPED).inc (F.SAF_FUNC_TRIPS f)
  let s := s.record 0x8002 [n2w f, n2w (sfTmpl r), st (sfPair0 r), st (sfPair1 r)]
  let ends := some (s.ns + sfT1 r * 10000000)
  s.setSafFunc f ⟨if sfTmpl r == 3 then ends else none, if sfTmpl r == 7 && decide (0 < sfT1 r) then ends else none⟩

/-- A reset enables a function and records 16#800B: source 1 automatic, 2 reset pair. -/
def State.enableFunc (s : State) (f source : Nat) : State :=
  let s := s.setSafFunc f { (s.safFunc f) with wait := none }
  (s.setFld (F.SAF_FUNC_STATE f) fnENABLED).record 0x800B [n2w f, n2w source]

/-- Whether a function resets by itself (R358). -/
def sfAuto (r : Rec) : Bool := sfTmpl r == 5 || sfTmpl r == 6 || ((sfTmpl r == 2 || sfTmpl r == 8) && sfRst r == 0xFF)

/-- One function takes the state that its inputs give it; `pressed` is the reset pair whose press has just ended. -/
def State.evalFunc (s : State) (pressed : Option Nat) (f : Nat) : State :=
  let r := s.sfFuncRec f
  let st := s.funcState f
  if st == fnUNUSED then s
  else if !(s.seal (2 + sfGroup r)) then
    if st == fnHELD then s else (s.setFld (F.SAF_FUNC_STATE f) fnHELD).setSafFunc f ⟨none, none⟩
  else if !(s.safState == sfRUN) then
    if st == fnTRIPPED then s else (s.setFld (F.SAF_FUNC_STATE f) fnTRIPPED).setSafFunc f ⟨none, none⟩
  else if !(s.permits r) then
    if st == fnENABLED then
      if sfTmpl r == 5 && decide (0 < sfT1 r) then (s.setFld (F.SAF_FUNC_STATE f) fnDELAY).setSafFunc f ⟨none, some (s.ns + sfT1 r * 10000000)⟩
      else s.tripFunc f
    else if st == fnDELAY || st == fnTRIPPED then
      if sfTmpl r == 3 then s.setSafFunc f { (s.safFunc f) with wait := none } else s
    else
      let s := s.setFld (F.SAF_FUNC_STATE f) fnTRIPPED
      if sfTmpl r == 3 then s.setSafFunc f { (s.safFunc f) with wait := none } else s
  else if st == fnENABLED then s
  else if st == fnDELAY then (s.setFld (F.SAF_FUNC_STATE f) fnENABLED).setSafFunc f ⟨none, none⟩
  else if sfAuto r then s.enableFunc f 1
  else if sfTmpl r == 3 then
    if st == fnRESETWAIT then s
    else (s.setFld (F.SAF_FUNC_STATE f) fnRESETWAIT).setSafFunc f { (s.safFunc f) with wait := some (s.ns + sfT2 r * 10000000) }
  else if sfTmpl r == 7 && (s.safFunc f).wait.isSome then s
  else if st == fnRESETWAIT && pressed == some (sfRst r) then s.enableFunc f 2
  else s.setFld (F.SAF_FUNC_STATE f) fnRESETWAIT

/-- Every function is evaluated: enabling switches before the guards they bypass, STOGRP last. -/
def State.evalFuncs (s : State) (pressed : Option Nat) : State :=
  let fs := List.range 16
  let isStogrp (f : Nat) : Bool := sfTmpl (s.sfFuncRec f) == 5
  let s := (fs.filter fun f => !isStogrp f).foldl (fun s f => s.evalFunc pressed f) s
  (fs.filter isStogrp).foldl (fun s f => s.evalFunc pressed f) s

/-! ## Outputs (R355) -/

/-- Whether an output is to be on. -/
def State.outOn (s : State) (o : Nat) : Bool :=
  let r := sfOut s.saf.own o
  s.safRuns && !s.saf.cut && s.safState == sfRUN &&
    (if sfOmode r == 1 || sfOmode r == 2 then (List.range 16).all fun f => !(sfFmask r f) || s.counts f
     else if sfOmode r == 3 then
       (List.range 16).any fun f => sfFmask r f && sfTmpl (s.sfFuncRec f) == 3 && (s.safFunc f).run.isSome
     else false)

/-- Commands one output; its readback follows it, but for one found high while off, which reads high until the next
start (log 22). -/
def State.driveOut (s : State) (o : Nat) : State :=
  let on := s.outOn o
  let stuck := s.fld (F.SAF_OUT_FAULT o) == 2
  let rb := on || stuck
  let s := (s.setFlag (F.SAF_OUT_ON o) on).setFlag (F.SAF_OUT_RB o) rb
  let s := s.setFld F.SAF_STATUS_ON (putBit (s.fld F.SAF_STATUS_ON) o on)
  s.setFld F.SAF_STATUS_RB (putBit (s.fld F.SAF_STATUS_RB) o rb)

/-- The outputs and the summary bits of SAF_STATUS. -/
def State.driveOuts (s : State) : State :=
  let s := (List.range 8).foldl (fun s o => s.driveOut o) s
  let used := (List.range 16).any fun f => !(s.funcState f == fnUNUSED) && !(s.funcState f == fnENABLED)
  (s.setFlag F.SAF_STATUS_ANYTRIP used).setFlag F.SAF_STATUS_ANYDEGR (!(s.degraded.isEmpty))

/-- One step of the unit: what happens, then the functions, the outputs, and source 114 for a changed SAF_STATUS
(R357, R358, R355, R375). -/
def State.safStep (s : State) (f : State → State) (pressed : Option Nat := none) : State :=
  let old := s.rd Reg.SAF_STATUS
  let s := ((f s).evalFuncs pressed).driveOuts
  if s.rd Reg.SAF_STATUS == old then s else s.fire 114 (s.rd Reg.SAF_STATUS)

/-! ## Pairs (R352, R353) -/

/-- A pair takes a state. Its time in OPEN counts for the reset of R357. -/
def State.setPairState (s : State) (n st : Nat) (p : SafPair) : State :=
  let c0 := s.pairCount n
  let c1 := pairCounts st p
  let p := if !(c0 == 2) && c1 == 2 then { p with openNs := some s.ns, openFor := 0 }
    else if c0 == 2 && !(c1 == 2) then
      { p with openNs := none, openFor := match (s.safPair n).openNs with | some t => s.ns - t | none => 0 }
    else p
  let s := (s.setFld (F.SAF_PAIR_PSTATE n) st).setSafPair n p
  (s.setFlag (F.SAF_PAIR_INA n) (!p.da)).setFlag (F.SAF_PAIR_INB n) (!p.db)

/-- A fault on a contact (R353): degraded mode, or FAULT and the latch; 16#8005 with its kind (1 discrepancy, 2 test
pulse). -/
def State.contactFault (s : State) (n : Nat) (contactB : Bool) (kind : Nat) : State :=
  let st := s.pairState n
  let e := s.sfPairRec n
  let p := s.safPair n
  if st == prUNUSED || st == prFAULT || (st == prDEGRA && !contactB) || (st == prDEGRB && contactB) then s
  else
    let new := if isDegr st || sfDegtime e == 0 then prFAULT else if contactB then prDEGRB else prDEGRA
    let p := { p with
      disc := none
      degNs := if new == prFAULT then none else some (s.ns + sfDegtime e * 60000000000) }
    let s := s.setPairState n new p
    let s := s.record 0x8005 [n2w n, Config.snapNum 0x8005 (b2n contactB), n2w kind, n2w new]
    if new == prFAULT then s.safLatch 4 else s.saveLatch

/-- The state of a pair after its contacts have been accepted as `a` and `b` in demand (R352); `ends` is the end of a
discrepancy timer that starts now. -/
def pairNext (ends st : Nat) (o : SafPair) (a b : Bool) : Nat × SafPair :=
  let p := { o with da := a, db := b }
  if st == prCLOSED then
    if a && b then (prOPEN, p)
    else if a || b then (prDISC, { p with opening := true, ra := a, rb := b, disc := some ends })
    else (st, p)
  else if st == prOPEN then
    if !a && !b then (prCLOSED, p)
    else if !a || !b then (prDISC, { p with opening := false, ra := !a, rb := !b, disc := some ends })
    else (st, p)
  else if st == prDISC then
    if o.opening then
      if a && b && o.disc.isSome then (prOPEN, { p with disc := none })
      else (st, { p with ra := o.ra || a, rb := o.rb || b })
    else if !a && !b && o.disc.isSome then (prCLOSED, { p with disc := none })
    else (st, { p with ra := o.ra || !a, rb := o.rb || !b })
  else (st, p)

/-- Whether a press of a reset pair has just ended (R357): it counts as CLOSED again after 0.1 to 5 s of OPEN. -/
def State.pressEnds (s : State) (n : Nat) (before : Nat) : Bool :=
  !(before == 1) && s.pairCount n == 1
    && decide (100000000 ≤ (s.safPair n).openFor) && decide ((s.safPair n).openFor ≤ 5000000000)

/-- Contacts accepted after their filter time. -/
def State.safInput (s : State) (n : Nat) (a b : Bool) : State :=
  let st := s.pairState n
  if st == prUNUSED then s
  else
    let o := s.safPair n
    let r := pairNext (s.ns + sfDisc (s.sfPairRec n) * 10000000) st o a b
    let agree := if !(a == b) then none else if o.agreeNs.isNone then some s.ns else o.agreeNs
    s.setPairState n r.1 { r.2 with agreeNs := agree }

/-- Whether a timer that ends at a moment has run out. -/
def State.ranOut (s : State) (t : Option Nat) : Bool := match t with | some n => decide (n ≤ s.ns) | none => false

/-- Whether the unit reads its inputs: its processor runs and START is over. -/
def State.safReads (s : State) : Bool := s.safRuns && !s.saf.inStart

/-- SAFETY_INPUT_FILTER: the contacts of a pair have held a position for FILT. -/
def execSafetyInputFilter (w : When) (pair : Nat) (aClosed bClosed : Bool) (s : State) : Out :=
  let s := s.advance w
  .next (if s.safReads && decide (pair < 16) then
      let before := s.pairCount pair
      let use := sfUse (s.sfPairRec pair)
      let t := s.safInput pair (inDemand use false aClosed) (inDemand use true bClosed)
      let pressed := if t.pressEnds pair before then some pair else none
      let t := if t.pairCount pair == 1 then t.setSafPair pair { (t.safPair pair) with openFor := 0 } else t
      let old := s.rd Reg.SAF_STATUS
      let t := (t.evalFuncs pressed).driveOuts
      if t.rd Reg.SAF_STATUS == old then t else t.fire 114 (t.rd Reg.SAF_STATUS)
    else s)

/-- TEST_PULSE_WINDOW (R350, R351): two consecutive failed windows make the contact faulty; OSSD pairs have none. -/
def execTestPulseWindow (w : When) (pair : Nat) (contactB passed : Bool) (s : State) : Out :=
  let s := s.advance w
  .next (if s.safReads && decide (pair < 16) && decide (sfUse (s.sfPairRec pair) ∈ [1, 2]) then
      s.safStep fun s =>
        let p := s.safPair pair
        let n := if passed then 0 else (if contactB then p.missB else p.missA) + 1
        let p := if contactB then { p with missB := n } else { p with missA := n }
        let p := if passed then (if p.agreeNs.isNone && p.da == p.db then { p with agreeNs := some s.ns } else p)
          else { p with agreeNs := none }
        let s := s.setSafPair pair p
        if n == 2 then s.contactFault pair contactB 2 else s
    else s)

/-- DISCREPANCY_TIMER_EXPIRY (R352): the contact that has not moved since DISC began is faulty. -/
def execDiscrepancyTimerExpiry (w : When) (pair : Nat) (s : State) : Out :=
  let s := s.advance w
  .next (if s.safReads && s.pairState pair == prDISC && s.ranOut (s.safPair pair).disc && decide (pair < 16) then
      s.safStep fun s =>
        let p := s.safPair pair
        let s := s.setSafPair pair { p with disc := none }
        if !p.ra then s.contactFault pair false 1 else if !p.rb then s.contactFault pair true 1 else s
    else s)

/-- DEGRADED_TIMER_EXPIRY (R353): 16#8006 and the latched safe state. -/
def execDegradedTimerExpiry (w : When) (pair : Nat) (s : State) : Out :=
  let s := s.advance w
  .next (if s.safReads && decide (pair < 16) && isDegr (s.pairState pair) && s.ranOut (s.safPair pair).degNs then
      s.safStep fun s =>
        let s := s.setSafPair pair { (s.safPair pair) with degNs := none }
        (s.record 0x8006 [n2w pair]).safLatch 1
    else s)

/-! ## Output faults -/

/-- An output fault: 16#8007 with its kind, and the latched safe state with cause 2 (R355). -/
def State.outFault (s : State) (o kind : Nat) : State :=
  ((s.setFld (F.SAF_OUT_FAULT o) kind).record 0x8007 [n2w o, n2w kind]).safLatch 2

/-- OUTPUT_OFF_PULSE: an output that is on is switched off for at most 0.4 ms; a failed pulse latches. -/
def execOutputOffPulse (w : When) (o : Nat) (passed : Bool) (s : State) : Out :=
  let s := s.advance w
  .next (if s.safReads && decide (o < 8) && s.flag (F.SAF_OUT_ON o) && !passed then s.safStep fun s => s.outFault o 3
    else s)

/-- OUTPUT_READBACK_MISMATCH: the readback has differed from the command for 3 samples: kind 1 while on, 2 while off, in
START too. -/
def execOutputReadbackMismatch (w : When) (o : Nat) (s : State) : Out :=
  let s := s.advance w
  .next (if s.safRuns && decide (o < 8) then s.safStep fun s => s.outFault o (if s.flag (F.SAF_OUT_ON o) then 1 else 2)
    else s)

/-! ## Seal switches (R366, R367) -/

/-- The accepted positions change: 16#8008 and MOVED; RUN and UNCONF become UNCONF, S1 off is OFF, and S1 on again
leads to the first state that applies; a latch stands, also one that was found while S1 was off (R365). -/
def State.safSeal (s : State) (sw : Nat) : State :=
  let old := s.fld F.SAF_SEAL_SW
  if old == sw then s
  else
    let s := (s.setFld F.SAF_SEAL_SW sw).setFld F.SAF_SEAL_MOVED 1
    let s := s.record 0x8008 [n2w old, n2w sw]
    if s.safState == sfLATCHED then s
    else
      let s := s.setSafState (s.safFirst (!(s.fld F.SAF_STATUS_LCAUSE == 0)))
      if s.safState == sfLATCHED then s.saveLatch else s

/-- SEAL_SWITCH_CHANGE. -/
def execSealSwitchChange (w : When) (sw : BitVec 8) (s : State) : Out :=
  let s := s.advance w
  .next (if s.safReads then s.safStep fun s => s.safSeal sw.toNat else s)

/-! ## Timers of the functions (R358) -/

/-- Whether a function of a template has a timer running. -/
def State.funcTimer (s : State) (f tmpl : Nat) : Bool :=
  s.safReads && decide (f < 16) && sfTmpl (s.sfFuncRec f) == tmpl

/-- CLOSE_RUN_END: the close run of a WINDRAIN function ends. -/
def execCloseRunEnd (w : When) (f : Nat) (s : State) : Out :=
  let s := s.advance w
  .next (if s.funcTimer f 3 && s.ranOut (s.safFunc f).run then
      s.safStep fun s => s.setSafFunc f { (s.safFunc f) with run := none }
    else s)

/-- CLEAR_TIME_EXPIRY: PAIR0 of a WINDRAIN function has been CLOSED for T2 without a break. -/
def execClearTimeExpiry (w : When) (f : Nat) (s : State) : Out :=
  let s := s.advance w
  .next (if s.funcTimer f 3 && s.ranOut (s.safFunc f).wait && s.funcState f == fnRESETWAIT then s.safStep fun s => s.enableFunc f 1
    else s)

/-- STOGRP_DELAY_EXPIRY: a STOGRP function that is still in DELAY trips. -/
def execStogrpDelayExpiry (w : When) (f : Nat) (s : State) : Out :=
  let s := s.advance w
  .next (if s.funcTimer f 5 && s.ranOut (s.safFunc f).wait && s.funcState f == fnDELAY then s.safStep fun s => s.tripFunc f else s)

/-- THERMO_MIN_TIME_EXPIRY: a THERMO function has been tripped for T1. -/
def execThermoMinTimeExpiry (w : When) (f : Nat) (s : State) : Out :=
  let s := s.advance w
  .next (if s.funcTimer f 7 && s.ranOut (s.safFunc f).wait then
      s.safStep fun s => s.setSafFunc f { (s.safFunc f) with wait := none }
    else s)

/-! ## Confirm (R368, R369) -/

/-- The check of step 4 that fails, if one does: value, seal switches, copies. -/
def State.confirmCheck (s : State) (v : Word) : Option Nat :=
  let p := s.saf.stored
  if p.isEmpty || !(v == s.rd Reg.SAF_CHECK) || !(v == Rec.w p 0x7FC) then some 0
  else if !(s.seal 0) || s.seal 1 then some 1
  else if !(decide (p = s.saf.own)) then some 2 else none

/-- Failures at or before this moment that still count: those of the last 10 min. -/
def State.confirmFails (s : State) : List Nat := s.saf.fails.filter fun t => decide (s.ns < t + 600000000000)

/-- The confirm is locked out (R369). -/
def State.confirmLocked (s : State) : Bool := match s.saf.lockNs with | some t => decide (s.ns < t) | none => false

/-- SAF_CONFIRM starts the confirm as a long operation (R368). -/
def State.safConfirm (s : State) (who : Who) (v : Word) : State :=
  match s.refuse who Reg.SAF_CONFIRM v with
  | some c => s.answer c
  | none =>
    if !(who.role == .installer) then s.answer ansDENIED
    else if s.confirmLocked || !s.safReads then s.answer ansBADSTATE
    else s.startLong 6 who (.safConfirm v)

def execSafConfirmWrite (w : When) (who : Who) (val : Word) (s : State) : Out := .next ((s.advance w).safConfirm who val)

/-- The end of a confirm. A failed check counts; the third within 10 min locks confirms for 10 min. -/
def State.endConfirm (s : State) (v : Word) (session : Nat) : State × Nat :=
  match s.confirmCheck v with
  | some c =>
    let s := (s.inc F.SAF_CONFSTAT_FAILS).record 0x8004 [v, Config.snapNum 0x8004 c]
    let fs := s.ns :: s.confirmFails
    ({ s with saf := { s.saf with
        fails := if 3 ≤ fs.length then [] else fs
        lockNs := if 3 ≤ fs.length then some (s.ns + 600000000000) else s.saf.lockNs } }, ansBADSTATE)
  | none =>
    let s := s.persistNow 0 1 8 (.confirmed v)
    let s := (s.setFld F.SAF_SEAL_MOVED 0).setFld F.SAF_CONFSTAT_OK 1
    let s := s.record 0x8003 [v, n2w session]
    (s.safStep fun s => if s.safState == sfLATCHED then s else s.setSafState sfRUN, ansOK)

/-- CONFIRM_LOCKOUT_EXPIRY: 10 min have passed since the third failure. -/
def execConfirmLockoutExpiry (w : When) (s : State) : Out :=
  let s := s.advance w
  .next { s with saf := { s.saf with lockNs := if s.confirmLocked then s.saf.lockNs else none } }

/-! ## Clear (R370) -/

/-- Whether CLEAR may end the degraded mode of a pair: both contacts agree and pass their windows for 1 s. -/
def State.mayClearPair (s : State) (n : Nat) : Bool :=
  isDegr (s.pairState n) && (match (s.safPair n).agreeNs with | some t => decide (t + 1000000000 ≤ s.ns) | none => false)

/-- Whether CLEAR may end the latch. -/
def State.mayClearLatch (s : State) : Bool :=
  s.safState == sfLATCHED && (List.range 16).all (fun n => !(s.pairState n == prFAULT))
    && (List.range 8).all (fun o => s.flag (F.SAF_OUT_RB o) == s.flag (F.SAF_OUT_ON o))
    && [Diag.rom, .ram, .alu].all (fun d => s.saf.passed.contains d)
    && (!(decide (s.fld F.SAF_STATUS_LCAUSE ∈ [1, 4, 7])) || s.degraded.isEmpty)

/-- The degraded mode of a pair ends. -/
def State.clearPair (s : State) (n : Nat) : State :=
  let p := s.safPair n
  (s.setPairState n (if p.da then prOPEN else prCLOSED) { p with degNs := none, missA := 0, missB := 0 }).saveLatch

/-- The latch ends: UNCONF, or OFF or NOPARAM where these apply. -/
def State.clearLatch (s : State) : State :=
  let s := s.setFld F.SAF_STATUS_LCAUSE 0
  let first := s.safFirst false
  (s.setSafState (if first == sfRUN then sfUNCONF else first)).saveLatch

/-- What CLEAR ends: with PAIR 16#F in LATCHED the latch where it may end, else the degraded mode of the pair, 15 among
them. That PAIR 16#F names pair 15 where it does not end the latch is a DESIGN CHOICE (log 81). -/
def State.clearWhat (s : State) (n : Nat) : Option (State → State) :=
  if n == 15 && s.mayClearLatch then some State.clearLatch
  else if s.mayClearPair n then some fun s => s.clearPair n else none

/-- SAF_CTRL.CMD: 1 CLEAR, 2 and 3 BADSTATE. -/
def State.safCtrl (s : State) (who : Who) (v : Word) : State :=
  let cmd := v.bits 1 0
  let n := v.bits 11 8
  match s.refuse who Reg.SAF_CTRL v with
  | some c => s.answer c
  | none =>
    if cmd == 0 then s.answer ansOK
    else if !(cmd == 1) || !s.safReads then s.answer ansBADSTATE
    else match s.clearWhat n with
      | none => s.answer ansBADSTATE
      | some f => ((s.safStep f).recordBy who 0x8009 [n2w n, n2w who.role.num, n2w who.session]).answer ansOK

def execSafClearPair (w : When) (who : Who) (pair : Nat) (s : State) : Out :=
  .next ((s.advance w).safCtrl who (n2w (pair % 16 * 256 + 1)))

def execSafClearLatch (w : When) (who : Who) (s : State) : Out := .next ((s.advance w).safCtrl who 0xF01)

/-! ## Diagnostics and start (R364, R365, R372, R373) -/

/-- The number of a diagnostic for the snapshot numbering. -/
def Diag.code : Diag → Nat
  | .rom => 0 | .ram => 1 | .alu => 2 | .ramEcc => 3 | .paramCopy => 4 | .clock => 5

/-- A failed diagnostic: 16#800A and the latch with its cause (R372). -/
def State.diagFails (s : State) (code cause : Nat) : State :=
  s.safStep fun s => (s.record 0x800A [Config.snapNum 0x800A code]).safLatch cause

/-- SAFETY_DIAGNOSTIC_RUN: in START as later. -/
def execSafetyDiagnosticRun (w : When) (d : Diag) (passed : Bool) (s : State) : Out :=
  let s := s.advance w
  .next (if s.safRuns then
      if passed then { s with saf := { s.saf with passed := if s.saf.passed.contains d then s.saf.passed else d :: s.saf.passed } }
      else s.diagFails (Diag.code d) 3
    else s)

/-- SAFETY_SUPPLY_FAULT: for 1 ms the supply has stood at a voltage, or an internal rail is out of its limits: below 16.0 V
or above 34 V is cause 6. A supply that falls after PFAIL only cuts the outputs (R372, R373). -/
def execSafetySupplyFault (sf : SupplyFault) (s : State) : Out :=
  let s := s.advance sf.w
  .next (if !s.safRuns || !(decide (sf.mv < 16000 ∨ 34000 < sf.mv) || sf.rails) then s
    else if s.pwr.pfail && decide (sf.mv < 16000) then { s with saf := { s.saf with cut := true } }.safStep id
    else s.diagFails 6 6)

/-- SAFETY_WATCHDOG_EXPIRY: the hardware cuts every output; the unit is LATCHED with cause 5 at its next start. -/
def execSafetyWatchdogExpiry (w : When) (s : State) : Out :=
  let s := s.advance w
  .next (if s.safRuns then { s with saf := { s.saf with stopped := true, wdog := true } }.safStep id else s)

/-- The pairs and functions as parameters begin with them. -/
def State.safLoad (s : State) : State :=
  let s : State := { s with saf := { s.saf with own := s.saf.stored, funcs := [] } }
  let s := (List.range 16).foldl (fun s n =>
    let use := sfUse (s.sfPairRec n)
    if use == 0 then (s.wr (Reg.SAF_PAIR n) 0).setSafPair n .new
    else if s.pairState n == prUNUSED then (s.wr (Reg.SAF_PAIR n) (n2w prOPEN)).setSafPair n .new else s) s
  let s := (List.range 16).foldl (fun s f =>
    let t := sfTmpl (s.sfFuncRec f)
    let s := s.setFld (F.SAF_FUNC_TMPL f) t
    s.setFld (F.SAF_FUNC_STATE f) (if t == 0 then fnUNUSED else fnTRIPPED)) s
  let s := (List.range 8).foldl (fun s o => s.setFld (F.SAF_OUT_OMODE o) (sfOmode (sfOut s.saf.own o))) s
  let s := s.wr Reg.SAF_CHECK (n2w (sfCheck s.saf.stored))
  s.setFlag F.SAF_CONFSTAT_OK (!(s.saf.stored.isEmpty) && s.safConfirmed)

/-- The unit begins at START: with REF, and when the ladder returns from SLEEP (R373). Pairs, functions, outputs and LCAUSE
begin anew; counts and SAF_SEAL are those of REF, which only its reset clears. -/
def State.safBegin (s : State) : State :=
  let s : State := { s with saf := { s.saf with pairs := [], passed := [], stopped := false, inStart := true, cut := false } }
  let s := (List.range 16).foldl (fun s n => s.wr (Reg.SAF_PAIR n) 0) s
  let s := (List.range 8).foldl (fun s o => s.setFld (F.SAF_OUT_FAULT o) 0) s
  s.safStep fun s => ((s.setFld F.SAF_STATUS_LCAUSE 0).setSafState sfSTART).safLoad

/-- Every output off, the unit halted: rungs SLEEP and below (R373). -/
def State.safHalt (s : State) : State :=
  { s with saf := { s.saf with stopped := true } }.safStep id

/-- The end of START: the seal switches are read, the degraded and latch record is read (R354, R392), and the first state
of R365's list applies. A failed test is cause 3, a watchdog that cut the outputs cause 5, a stored latch or degraded
pair, or a record without a valid slot, cause 7; a latch that START has met stands. -/
def State.safStarted (s : State) (testsOk : Bool) (seals : Nat) : State :=
  let s := s.setFld F.SAF_SEAL_SW seals
  let wd := s.saf.wdog
  let found : Nat × List (Nat × Nat) := s.saf.latch.get (7, [])
  let s := found.2.foldl (fun s e => if s.pairState e.1 == prUNUSED then s else s.setFld (F.SAF_PAIR_PSTATE e.1) e.2) s
  let s : State := { s with saf := { s.saf with wdog := false, inStart := false } }
  let s := if testsOk then s else (s.record 0x800A [Config.freeWord s.free]).freeNext
  let s := if wd then s.record 0x800A [Config.snapNum 0x800A 7] else s
  if s.safState == sfLATCHED then s
  else
    let cause := if !testsOk then 3 else if wd then 5 else if !(found.1 == 0) || !(found.2.isEmpty) then 7 else 0
    let first := s.safFirst (!(cause == 0))
    if first == sfLATCHED then s.safLatch cause else (s.setFld F.SAF_STATUS_LCAUSE cause).setSafState first

/-- SAFETY_START_DONE. -/
def execSafetyStartDone (w : When) (r : SafStart) (s : State) : Out :=
  let s := s.advance w
  .next (if s.safRuns && s.saf.inStart then s.safStep fun s => s.safStarted r.testsOk r.seals.toNat else s)

/-- A SAFETY section takes effect at the switch point of an arm (R89, R368 step 1): the parameters are stored, and the
unit is UNCONF, or NOPARAM without a section; OFF, START and a latch stand. -/
def State.safTake (s : State) (recs : List Rec) : State :=
  let p : List Byte := recs.headD []
  if decide (p = s.saf.stored) then s
  else
    let s : State := { s with saf := { s.saf with stored := p } }
    s.safStep fun s =>
      let s := s.safLoad
      if decide (s.safState ∈ [sfOFF, sfSTART, sfLATCHED]) then s
      else s.setSafState (if p.isEmpty then sfNOPARAM else sfUNCONF)

end Sys2Proof.Machine
end

