-- ==== Sys2Proof/Machine/Limits.lean ====
section
/-! DEFINITION. Step 9 of a manifest's validation (R76): the limits of R70 and of each unit's chapter on the records of a
section. -/

namespace Sys2Proof.Machine

/-- The decoded sections of a manifest under validation: records by type, the bytes of OBJECTS, the types present. -/
structure Cand where
  recs : Tab (List Rec)
  obj : List Byte
  types : List Nat
  deriving DecidableEq, Repr

/-- The records of a type, and whether a type is present. -/
def Cand.r (m : Cand) (t : Nat) : List Rec := m.recs.getD t []
def Cand.has (m : Cand) (t : Nat) : Bool := m.types.contains t

/-- The program of a candidate. -/
def Cand.program (m : Cand) : Program := ⟨m.r 11, m.obj, m.r 13⟩

/-- The sections of a slot's manifest. -/
def State.cand (s : State) (n : Nat) : Cand :=
  ⟨([1, 2, 3, 4, 5, 7, 8, 9, 10, 11, 13, 14, 15, 16, 17, 18, 19, 20, 21, 22]).foldl (fun t k => Tab.put t k (s.slotRecs n k)) [],
    s.slotStream n 12, (List.range (s.manNsect n)).map fun i => s.secType n i⟩

/-! ## Field checks -/

/-- Bytes `a` to `b - 1` are 16#00. -/
def zeros (r : Rec) (a b : Nat) : Bool := ((r.drop a).take (b - a)).all fun x => x == 0

/-- Printable ASCII padded with 16#00. -/
def text (r : Rec) (a n : Nat) : Bool :=
  let bs := (r.drop a).take n
  let body := bs.takeWhile fun b => !(b == 0)
  body.all (fun b => decide (32 ≤ b.toNat ∧ b.toNat ≤ 126)) && (bs.drop body.length).all fun b => b == 0

/-- A number within bounds. -/
def inR (v lo hi : Nat) : Bool := decide (lo ≤ v ∧ v ≤ hi)

/-- A key that no two records share. -/
def uniq (l : List Nat) : Bool := decide l.Nodup

/-- No two byte ranges (start, length) overlap. -/
def apart : List (Nat × Nat) → Bool
  | [] => true
  | a :: t => t.all (fun b => decide (a.1 + a.2 ≤ b.1) || decide (b.1 + b.2 ≤ a.1)) && apart t

/-- REAL32 checks: finite, above 0, not below 0. -/
def fin32 (r : Rec) (o : Nat) : Bool := finite32 (Rec.w r o)
def pos32 (r : Rec) (o : Nat) : Bool := fin32 r o && decide (0 < real32D (Rec.w r o))
def nneg32 (r : Rec) (o : Nat) : Bool := fin32 r o && decide (0 ≤ real32D (Rec.w r o))
def num32 (r : Rec) (o : Nat) : Rat := real32D (Rec.w r o)

/-! ## The sections -/

/-- DOMAINS (R71). -/
def limDomains (r : Rec) : Bool := inR (Rec.u16 r 0) 0 127 && inR (Rec.u8 r 2) 0 15 && zeros r 3 16

/-- TIMEBASE: PMK_CFG, the phases and the class-F rate (R49, R105). -/
def limTimebase (r : Rec) : Bool :=
  (Rec.w r 0 &&& 0xFF00008A) == 0 && bitsOf (Rec.u32 r 4) 30 20 == 0 && decide (Rec.u32 r 8 < 2 ^ 20)
    && decide (Rec.u32 r 12 < 2 ^ 20)

/-- The parameters of a CAN FD group (R422, R425). -/
def limCan (r : Rec) : Bool :=
  let apre := Rec.u8 r 4
  let dpre := Rec.u8 r 8
  let nom := apre * (1 + Rec.u8 r 5 + Rec.u8 r 6)
  let dat := dpre * (1 + Rec.u8 r 9 + Rec.u8 r 10)
  inR (Rec.u8 r 3) 0 7 && inR apre 1 64 && inR (Rec.u8 r 5) 2 255 && inR (Rec.u8 r 6) 1 127
    && inR (Rec.u8 r 7) 1 (Rec.u8 r 6) && inR dpre 1 16 && inR (Rec.u8 r 9) 1 63 && inR (Rec.u8 r 10) 1 31
    && inR (Rec.u8 r 11) 1 (Rec.u8 r 10) && inR (Rec.u8 r 12) 0 31 && inR (Rec.u8 r 13) 0 127 && zeros r 14 64
    && decide (80 ≤ nom) && decide (10 ≤ dat) && decide (dat ≤ nom)

/-- The parameters of a UART group (R423, R425). -/
def limUart (r : Rec) : Bool :=
  let mstp := Rec.u8 r 9 == 1
  inR (Rec.u32 r 4) 16 (2 ^ 20 - 1) && inR (Rec.u8 r 8) 0 15 && decide (bitsOf (Rec.u8 r 8) 2 1 ≤ 2) && inR (Rec.u8 r 9) 0 1
    && inR (Rec.u8 r 10) 0 15 && inR (Rec.u8 r 11) 0 15 && zeros r 0x11 64
    && (if mstp then
          inR (Rec.u8 r 14) 0 127 && inR (Rec.u8 r 15) (Rec.u8 r 14) 127 && inR (Rec.u8 r 16) 1 255 && Rec.u8 r 8 == 0
            && [9600, 19200, 38400, 57600, 76800, 115200].any fun (q : Nat) =>
              decide (1000 * ratAbs (uartRate r - q) ≤ q)
        else zeros r 14 17)

/-- A PORTS record (R421 to R424). -/
def limPort (r : Rec) : Bool :=
  inR (Rec.u8 r 0) 0 23 && inR (Rec.u8 r 2) 0 1 &&
    (match Rec.u8 r 1 with
     | 0 => zeros r 3 64
     | 1 => limCan r
     | 2 => Rec.u8 r 3 == 0 && limUart r
     | 3 => Rec.u8 r 3 == 0 && inR (Rec.u8 r 4) 0 1 && zeros r 5 64
     | 4 => Rec.u8 r 3 == 0 && decide (Rec.u32 r 4 < 2 ^ 20) && zeros r 8 64
     | _ => false)

/-- PORTS (R420, R425). -/
def limPorts (l : List Rec) : Bool :=
  let uses := fun u => (l.filter fun r => Rec.u8 r 1 == u).length
  l.all limPort && uniq (l.map fun r => Rec.u8 r 0) && decide (uses 1 ≤ 8) && decide (uses 2 ≤ 16) && decide (uses 3 ≤ 16)
    && decide (uses 4 ≤ 8) && uniq ((l.filter fun r => Rec.u8 r 1 == 1).map fun r => Rec.u8 r 3)

/-- The line rate of a MAC in kbit/s (R452). -/
def lineKbit (r : Rec) : Nat :=
  if Rec.u8 r 0 < 2 then 1000000 else if Rec.u8 r 0 < 6 then 10000 else if Rec.bit r 1 6 then 10000 else 100000

/-- A NETWORK record (R455, R456). -/
def limNet (r : Rec) : Bool :=
  let m := Rec.u8 r 0
  let t1 := inR m 2 5
  let idle := fun q => Rec.u32 r (0x90 + 8 * q)
  inR m 0 6 && inR (Rec.u8 r 1) 0 127 && zeros r 2 4 && zeros r 0xD0 256 && (!t1 || zeros r 0x0C 0x10)
    && Rec.bit r 0x16 0 && !(Rec.bit r 0x10 0)
    && ((List.range 16).all fun i => inR (Rec.u8 r (0x16 + 8 * i)) 0 1 && Rec.u8 r (0x17 + 8 * i) == 0)
    && (t1 || !(Rec.bit r 1 5)) && (m == 6 || !(Rec.bit r 1 6))
    && ((List.range 8).all fun q => idle q == 0 || (decide (4 * idle q ≤ 3 * lineKbit r)
        && decide (0 ≤ Rec.i r (0x94 + 8 * q) 2) && decide (Rec.i r (0x96 + 8 * q) 2 ≤ 0)))
    && decide (4 * ((List.range 8).map idle).sum ≤ 3 * lineKbit r)

def limNetwork (l : List Rec) : Bool := l.all limNet && uniq (l.map fun r => Rec.u8 r 0)

/-- The areas of a mailbag in shared SRAM: ring and buffers (R465). -/
def mbAreas (r : Rec) : List (Nat × Nat) := [(mbRing r, 16 * mbEntries r), (mbBuf r, mbEntries r * mbBufsz r)]

/-- The binding of a mailbag (R436, R465); `use` is the use of a port group. -/
def limBind (r : Rec) (use : Nat) : Bool :=
  if mbPort r < 128 then
    if use == useCAN then
      let top := if Rec.bit r 0x12 0 then 2 ^ 29 else 2 ^ 11
      inR (Rec.u8 r 0x11) 1 3 && inR (Rec.u8 r 0x12) 0 7 && zeros r 0x13 0x14
        && decide (Rec.u32 r 0x14 < top) && decide (Rec.u32 r 0x18 < top) && zeros r 0x1C 0x20
    else zeros r 0x11 0x20
  else if mbDir r == 1 then zeros r 0x11 0x20
  else inR (Rec.u8 r 0x11) 0 3 && inR (Rec.u8 r 0x12) 0 1 && zeros r 0x13 0x14 && decide (Rec.u16 r 0x16 < 4096)
    && zeros r 0x18 0x20

/-- A MAILBAGS record (R465). -/
def limMail (m : Cand) (r : Rec) : Bool :=
  let use := ((m.r 3).find? fun p => Rec.u8 p 0 == mbPort r).elim 0 fun p => Rec.u8 p 1
  inR (Rec.u8 r 0) 0 127 && (inR (mbPort r) 0 23 || inR (mbPort r) 0x80 0x86) && inR (mbOwner r) 0 2 && zeros r 3 4
    && [16, 32, 64, 128, 256, 512, 1024, 2048, 4096].contains (mbEntries r)
    && inR (mbBufsz r) 64 2048 && mbBufsz r % 16 == 0 && mbRing r % 16 == 0 && mbBuf r % 16 == 0
    && (mbAreas r).all (fun a => decide (a.1 + a.2 ≤ 4194304)) && inR (Rec.u8 r 0x10) 0 1 && limBind r use

def limMailbags (m : Cand) (l : List Rec) : Bool :=
  l.all (limMail m) && uniq (l.map fun r => Rec.u8 r 0) && apart (l.flatMap mbAreas)

/-- The form of a value in a POINTS record (R95). -/
def formOk (typ : Nat) (w : Word) : Bool := !((typ == 0 && !(w.bits 31 1 == 0)) || (typ == 3 && !(w.bits 31 16 == 0)))

/-- ADDR of a DALI-2 point with its type, direction and class (R447). -/
def limDali (r : Rec) : Bool :=
  let a := ptAddr r
  let low := a % 2 ^ 24
  let lvl := ptType r == 2 && ptOut r && (ptClass r == 1 || ptClass r == 2)
  match a / 2 ^ 24 with
  | 0 => decide (low < 64) && lvl
  | 1 => decide (low < 16) && lvl
  | 2 => low == 0 && lvl
  | 3 => decide (low < 64) && ptType r == 3 && !(ptOut r) && ptClass r == 3
  | 4 => decide (low < 64) && ptType r == 2 && !(ptOut r) && ptClass r == 3
  | 5 => decide (low < 0x2000) && bitsOf low 7 6 == 0 && ptType r == 1 && !(ptOut r) && ptClass r == 3
  | _ => false

/-- BACnet object types: analog 0 to 2, binary 3 to 5, multi-state 13, 14 and 19, accumulator 23 (the numbers are those of
the BACnet standard: PRESUMED, log 68). -/
def bacnetTypes : List Nat := [0, 1, 2, 3, 4, 5, 13, 14, 19, 23]

/-- ADDR by the station's protocol (R113, R447): discrete inputs and input registers hold no output. -/
def limAddr (r : Rec) (proto : Nat) : Bool :=
  if proto ≤ 1 then decide (ptAddr r < 65536)
  else if proto ≤ 3 then decide (mbTable (ptAddr r) ≤ 3) && bitsOf (ptAddr r) 23 16 == 0
    && !(ptOut r && mbTable (ptAddr r) % 2 == 1)
  else if proto ≤ 5 then bacnetTypes.contains (ptAddr r / 2 ^ 22)
  else if proto == 6 then limDali r
  else true

/-- A POINTS record (R100, R101). -/
def limPoint (m : Cand) (r : Rec) : Bool :=
  let t := ptType r
  let st := (m.r 8).find? fun x => Rec.u16 x 0 == ptStation r
  decide (Rec.u32 r 0 < 2 ^ 17) && (ptInternal r || inR (ptStation r) 0 2047) && inR t 0 4
    && (ptInternal r || inR (Rec.u8 r 7) 0 3) && inR (ptPh r) 0 63 && inR (Rec.u8 r 9) 0 15
    && (ptInternal r || !(ptTwr r)) && (ptOut r || ptSafe r == 0)
    && [ptSubval r, ptLo r, ptHi r, ptSafe r].all (formOk t)
    && (!(ptRange r) || (!(t == 0) && decide (valKey t (ptLo r) ≤ valKey t (ptHi r))))
    && (match st with | some x => limAddr r (stProto x) | none => true)

/-- POINTS with the capacities of R102. -/
def limPoints (m : Cand) (l : List Rec) : Bool :=
  let cls := fun c => (l.filter fun r => !(ptInternal r) && Rec.u8 r 7 == c).length
  l.all (limPoint m) && uniq (l.map fun r => Rec.u32 r 0) && decide (cls 0 ≤ 16384) && decide (cls 1 ≤ 65536)

/-- Bytes of the longest frame that the lane sends to a Modbus RTU station: unit, request and CRC; a read request has 8
bytes, and the longest write is part of the full output image (R113). -/
def modbusBytes (m : Cand) (sr : Rec) : Nat :=
  let outs := (m.r 7).filter fun r => !(ptInternal r) && ptStation r == Rec.u16 sr 0 && ptOut r
  (mbRuns (outs.map fun r => mbObject sr r 0)).foldl (fun n q => max n ((mbWrite q).length + 3)) 8

/-- The points of a station in a candidate. -/
def Cand.pointsOf (m : Cand) (sr : Rec) : List Rec := (m.r 7).filter fun r => !(ptInternal r) && ptStation r == Rec.u16 sr 0

/-- Octets of the longest frame that the lane sends to a BACnet MS/TP device: the reads of a class's input points, a write, a
subscription (R113), with the 8 octets of the frame's header, 2 of the network layer and its 2 of CRC (log 78). -/
def mstpBytes (m : Cand) (sr : Rec) : Nat :=
  let pts := m.pointsOf sr
  let reads := (List.range 4).flatMap fun c =>
    bacReads 0 false ((pts.filter fun r => !(ptOut r) && serves c (ptClass r)).map ptAddr)
  let writes := (pts.filter ptOut).map fun r => bacWrite 0 (ptAddr r) (ptType r) 0xFFFFFFFF
  let subs := (pts.filter fun r => !(ptOut r) && ptClass r == 3).map fun r => bacSubscribe 0 (ptAddr r)
  (reads ++ writes ++ subs).foldl (fun n q => max n q.length) 0 + 12

/-- The duration in ns of characters on the station's UART. -/
def charsNs (m : Cand) (sr : Rec) (n : Nat) : Rat :=
  match (m.r 3).find? fun p => Rec.u8 p 0 == stPort sr with
  | none => 0
  | some p =>
    let bits := 1 + utDATA p + (if utPARITY p == 0 then 0 else 1) + utSTOP p
    if Rec.u32 p 4 == 0 then 0 else (n * bits : Nat) * 1000000000 / uartRate p

/-- A STATIONS record (R110, R122); in pair mode also R334: no frame to a Modbus RTU or BACnet MS/TP device lasts longer
than 69 ms; a DALI-2 frame never does (log 40). -/
def limStation (m : Cand) (pair : Bool) (r : Rec) : Bool :=
  let n := Rec.u16 r 0
  let pts := (m.r 7).filter fun p => ptStation p == n
  let outs := (pts.filter ptOut).length
  let ins := pts.length - outs
  let addr := Rec.u32 r 4
  inR n 0 2047 && inR (stProto r) 0 6 && (inR (stPort r) 0 23 || inR (stPort r) 0x80 0x86) && inR (stPclass r) 0 2
    && inR (Rec.u8 r 9) 0 16 && (Rec.u16 r 0x0C == 0 || inR (Rec.u16 r 0x0C) 10 60000) && inR (Rec.u8 r 0x0E) 0 1
    && zeros r 0x0F 0x10 && zeros r 0x20 64
    && (match stProto r with
        | 0 => decide (ins ≤ 112) && decide (outs ≤ 80)
        | 1 => decide (ins ≤ 2912) && decide (outs ≤ 2880)
        | 2 => inR addr 1 247 && (!pair || decide (charsNs m r (modbusBytes m r) ≤ 69000000))
        | 4 => inR addr 0 127 && (!pair || decide (charsNs m r (mstpBytes m r) ≤ 69000000))
        | 6 => addr == 0
        | _ => true)

def limStations (m : Cand) (pair : Bool) (l : List Rec) : Bool :=
  l.all (limStation m pair) && uniq (l.map fun r => Rec.u16 r 0)

/-- PIGEONHOLES (R490). -/
def limPigeon (r : Rec) : Bool :=
  inR (Rec.u8 r 0) 0 63 && inR (Rec.u8 r 1) 0 1 && text r 4 32 && zeros r 0x24 128
    && (!(Rec.u8 r 0 == 0) || (Rec.u8 r 1 == 0 && Rec.u16 r 2 == 0))

/-- ROLES (R478). -/
def limRole (r : Rec) : Bool :=
  inR (Rec.u8 r 0) 2 255 && inR (Rec.u8 r 1) 0 3 && (if Rec.u8 r 1 == 3 then inR (Rec.u8 r 2) 1 63 else Rec.u8 r 2 == 0)
    && inR (Rec.u8 r 3) 0 15 && inR (Rec.u8 r 4) 0 31 && zeros r 5 8 && (Rec.u16 r 0x10 == 0 || inR (Rec.u16 r 0x10) 10 3600)
    && zeros r 0x12 0x20 && text r 0x20 32 && zeros r 0x40 128

/-- PARAM of an event source (R157). -/
def limParam (m : Cand) (src : Nat) (p : Word) : Bool :=
  if src < 64 then decide (p.toNat < 65536)
  else if src < 96 then
    (p &&& 0xFCFE0000) == 0 && (!(p.bits 25 24 == 1 || p.bits 25 24 == 2)
      || (match (m.r 7).find? fun r => Rec.u32 r 0 == p.bits 16 0 with | some r => ptType r == 0 | none => true))
  else if src < 104 then decide (p.toNat < 65536)
  else if src < 112 then decide (p.toNat < 128)
  else if src == 115 then decide (p.toNat < 16)
  else if src == 127 then decide (p.toNat < 16) || p == 0xFF
  else p == 0

/-- A TASKS record (R146, R147). -/
def limTask (m : Cand) (r : Rec) : Bool :=
  let t := Rec.u8 r 0
  let k := tkKind r
  let ev := tkQdepth r == 0 && tkSource r == 0 && tkParam r == 0
  inR t 0 63 && inR (tkPrio r) 0 31 && inR (tkCore r) 1 3 && inR k 0 3 && inR (tkWdog r) 1 4 && decide (Rec.u32 r 8 < 2 ^ 20)
    && zeros r 0x1A 0x20 && text r 0x20 16 && zeros r 0x30 64 && decide (t < 32) == !(k == 3)
    && (match k with
        | 0 => inR (tkK r) 1 64 && decide (Rec.u32 r 0x0C < tkK r) && tkPeriod r == 0 && ev
        | 1 => inR (tkK r) 1 64 && Rec.u32 r 0x0C == 0 && tkPeriod r == 0 && ev
        | 2 => tkK r == 0 && inR (tkPeriod r) 1 86400 && decide (Rec.u32 r 0x0C < tkPeriod r) && ev
        | _ => tkK r == 0 && Rec.u32 r 0x0C == 0 && tkPeriod r == 0 && inR (tkQdepth r) 1 16 && inR (tkSource r) 0 127
            && limParam m (tkSource r) (tkParam r))

def limTasks (m : Cand) (l : List Rec) : Bool := l.all (limTask m) && uniq (l.map fun r => Rec.u8 r 0)

/-- Directory fields (R171). -/
def obNobj (b : List Byte) : Nat := Rec.u16 b 6
def obPages (e : Rec) : Nat := (obDatalen e + 4095) / 4096
/-- WPAGES; 0 acts as every page. -/
def obWpages (e : Rec) : Nat := if Rec.u32 e 0x30 == 0 then obPages e else Rec.u32 e 0x30
def Program.entries (p : Program) : List Rec := (List.range (obNobj p.objects)).map p.entry

/-- A directory entry of a container of `n` bytes (R171). -/
def limEntry (p : Program) (n : Nat) (e : Rec) : Bool :=
  let spans := [(Rec.u32 e 0, Rec.u32 e 4), (Rec.u32 e 8, Rec.u32 e 0x0C), (obInit e, obDatalen e),
    (Rec.u32 e 0x20, 8 * Rec.u32 e 0x24), (Rec.u32 e 0x28, 8 * Rec.u32 e 0x2C)]
  spans.all (fun a => decide (a.1 + a.2 ≤ n)) && decide (obRetoff e ≤ obPersoff e) && decide (obPersoff e ≤ obDatalen e)
    && decide (Rec.u32 e 0x30 ≤ obPages e) && zeros e 0x34 64
    && (p.ioList (Rec.u32 e 0x20) (Rec.u32 e 0x24)).all (fun x => decide (x.2 + 8 ≤ obDatalen e))
    && (p.ioList (Rec.u32 e 0x28) (Rec.u32 e 0x2C)).all fun x => decide (obRetoff e ≤ x.2) && decide (x.2 < obPersoff e)
        && decide (x.2 + 4 ≤ obDatalen e)

/-- OBJECTS (R145, R170, R171), RTVER apart. The instance data of an entry that several tasks name counts once in the total
of R145, a DESIGN CHOICE; each of those tasks has a checkpoint of its own (log 83). -/
def limObjects (p : Program) : Bool :=
  let b := p.objects
  let n := b.length
  decide (64 ≤ n) && Rec.u32 b 0 == 0x4A424F54 && Rec.u16 b 4 == 1 && inR (obNobj b) 1 64 && inR p.start 0 2
    && inR (Rec.u8 b 0x0D) 0 1 && zeros b 0x0E 0x10 && inR (Rec.u32 b 0x10) 0 (LanePart.code 0).size
    && inR (Rec.u32 b 0x14) 0 (LanePart.data 0).size
    && Rec.u32 b 0x18 == 64 && zeros b 0x1C 0x20 && zeros b 0x30 0x40 && decide (64 + 64 * obNobj b ≤ n)
    && p.entries.all (limEntry p n)
    && decide ((p.entries.map fun e => Rec.u32 e 4 + Rec.u32 e 0x0C).sum ≤ (LanePart.code 0).size)
    && decide ((p.entries.map obDatalen).sum ≤ (LanePart.data 0).size)

/-- An INSTMAP record after record 0 (R180 to R182). -/
def limInst (r : Rec) : Bool :=
  let nl := Rec.u r 8 3
  let ol := Rec.u r 11 3
  inR nl 1 2097152 && inR ol 1 2097152 && inR (Rec.u8 r 14) 0 4 && inR (Rec.u8 r 15) 0 63
    && (!(Rec.u8 r 14 == 0) || nl == ol)

/-- An AXES record (R198, R199, R233). -/
def limAxis (r : Rec) : Bool :=
  let nl := axNloop r
  inR (Rec.u8 r 0) 0 63 && inR (axLink r) 0 23 && inR (axDrv r) 0 7 && [8, 16, 32, 64, 128, 160].contains (axN r)
    && inR nl 1 3
    && ((List.range 3).all fun l =>
        if l < nl then inR (axKind r l) 0 2 && decide (1 ≤ axNsec r l) && (l == 0 || decide (axKind r (l - 1) < axKind r l))
        else axKind r l == 255 && axNsec r l == 0)
    && decide (axSecs r ≤ 12) && (inR (axGroup r) 0 7 || axGroup r == 255) && zeros r 0x0C 0x10
    && inR (Rec.u32 r 0x18) 255 (2 ^ 31 - 1) && inR (Rec.u32 r 0x1C) 1024 (2 ^ 30) && pos32 r 0x20 && pos32 r 0x24
    && pos32 r 0x28 && nneg32 r 0x2C && nneg32 r 0x30 && decide (Rec.u32 r 0x34 < 2 ^ 20) && inR (Rec.u8 r 0x38) 0 3
    && inR (Rec.u8 r 0x39) 0 8 && decide (Rec.u32 r 0x3C < 2 ^ 17)

/-- AXES (R199, R200): every N divides the largest N of its link. -/
def limAxes (l : List Rec) : Bool :=
  let nlink := fun g => ((l.filter fun r => axLink r == g).map axN).foldl max 0
  l.all limAxis && uniq (l.map fun r => Rec.u8 r 0) && uniq (l.map fun r => 8 * axLink r + axDrv r)
    && l.all fun r => nlink (axLink r) % axN r == 0

/-- A section entry of CASCADES (R213, R214). -/
def limSec (e : Rec) : Bool :=
  ((List.range 5).all fun i => Rec.u8 e (4 * i + 3) == (if Rec.bit e (4 * i + 2) 7 then 255 else 0))
    && decide (-32 ≤ Rec.i e 0x14 1 ∧ Rec.i e 0x14 1 ≤ 31) && inR (Rec.u8 e 0x15) 0 1 && zeros e 0x16 32

/-- A CASCADES record (R212, R214). -/
def limCascade (m : Cand) (r : Rec) : Bool :=
  let total := match (m.r 14).find? fun x => Rec.u8 x 0 == Rec.u8 r 0 with | some x => axSecs x | none => 12
  inR (Rec.u8 r 0) 0 63 && inR (Rec.u8 r 1) 0 15 && inR (Rec.u8 r 3) 0 1
    && ((List.range 3).all fun l =>
        let lo := Rec.w r (4 + 8 * l)
        let hi := Rec.w r (8 + 8 * l)
        !(isNaN32 lo) && !(isNaN32 hi) && decide (real32Key lo ≤ real32Key hi))
    && fin32 r 0x1C && fin32 r 0x20 && fin32 r 0x24 && !(num32 r 0x24 == 0) && zeros r 0x28 0x80
    && (List.range 12).all fun j => if j < total then limSec (caSec r j) else zeros (caSec r j) 0 32

/-- A TABLES record (R242). -/
def limTable (r : Rec) : Bool := (List.range 1280).all fun i => fin32 r (4 * i)

/-- A channel's GAIN, DELAY and scale (R266, R267). -/
def limChan (r : Rec) (o : Nat) : Bool :=
  inR (Rec.u32 r o) 2097152 8388607 && decide (-4096 ≤ Rec.i r (o + 4) 4 ∧ Rec.i r (o + 4) 4 ≤ 4096) && pos32 r (o + 8)

/-- A METERING record (R269, R276, R279, R291). -/
def limMeter (r : Rec) : Bool :=
  let ne := Rec.u8 r 2
  inR (Rec.u8 r 0) 0 15 && inR (Rec.u8 r 1) 0 1 && inR ne 0 4 && (meEn r || ne == 0) && zeros r 3 4
    && ((List.range 4).all fun i => if i < ne then inR (Rec.u8 r (4 + 4 * i)) 0 7 && inR (Rec.u8 r (5 + 4 * i)) 0 31
          && inR (Rec.u8 r (6 + 4 * i)) 0 1 && Rec.u8 r (7 + 4 * i) == 0
        else zeros r (4 + 4 * i) (8 + 4 * i))
    && ((List.range 6).all fun i => inR (meQty r i) 0 2 && inR (meMode r i) 0 3 && inR (meWunit r i) 0 6)
    && zeros r 0x26 0x28 && limChan r 0x28 && limChan r 0x34 && zeros r 0x4C 0x50 && zeros r 0x58 256
    && (if Rec.u8 r 0 < 8 then limChan r 0x40 && inR (Rec.u8 r 0x50) 0 15 && inR (Rec.u8 r 0x51) 0 5
          && !(Rec.u8 r 0x52 == 1) && inR (Rec.u8 r 0x53) 0 1 && (!(Rec.bit r 0x53 0) || decide (1000 ≤ Rec.u32 r 0x54))
        else zeros r 0x40 0x4C && zeros r 0x50 0x58)

/-- The sum of KV × KI over a group's elements (R270). -/
def fullScale (l : List Rec) (r : Rec) : Rat :=
  ((List.range (Rec.u8 r 2)).map fun i =>
    let kv := num32 (l.getD (Rec.u8 r (4 + 4 * i)) []) 0x48
    let c := Rec.u8 r (5 + 4 * i)
    kv * num32 (l.getD (c / 2) []) (if c % 2 == 0 then 0x30 else 0x3C)).sum

/-- METERING (R270): all 16 records in ascending order. -/
def limMetering (l : List Rec) : Bool :=
  l.map (fun r => Rec.u8 r 0) == List.range 16 && l.all limMeter && l.all fun r => decide (fullScale l r ≤ 40000000)

/-- A feeder record (R298). -/
def limFeeder (r : Rec) : Bool :=
  inR (Rec.u8 r 1) 0 15 && inR (Rec.u8 r 2) 0 1 && inR (Rec.u8 r 3) 1 60 && pos32 r 4 && inR (Rec.u16 r 8) 0 200
    && inR (Rec.u16 r 0x0A) 1 200
    && (if Rec.u8 r 2 == 0 then Rec.u16 r 0x0C == 0 else inR (Rec.u16 r 0x0C) 1 (60 * Rec.u8 r 3)) && inR (Rec.u8 r 0x0E) 1 10
    && inR (Rec.u8 r 0x0F) 1 16 && pos32 r 0x10 && fin32 r 0x14 && zeros r 0x18 64

/-- A load record (R299, R300). -/
def limLoad (m : Cand) (l : List Rec) (r : Rec) : Bool :=
  let out := (m.r 7).find? fun p => Rec.u32 p 0 == Rec.u32 r 8
  let fd := l.find? fun f => Rec.u8 f 0 == 1 && Rec.u8 f 1 == Rec.u8 r 1
  inR (Rec.u8 r 1) 0 15 && inR (Rec.u8 r 2) 0 1 && inR (Rec.u8 r 3) 0 63 && decide (Rec.u32 r 4 < 2 ^ 17)
    && decide (Rec.u32 r 8 < 2 ^ 17) && (decide (Rec.u32 r 0x0C < 2 ^ 17) || Rec.u32 r 0x0C == 0xFFFFFFFF) && pos32 r 0x10
    && nneg32 r 0x14 && inR (Rec.u8 r 0x18) 0 7 && inR (Rec.u8 r 0x1A) 0 3 && zeros r 0x1B 0x1C
    && decide (Rec.u32 r 0x1C < 2 ^ 20) && fin32 r 0x24 && fin32 r 0x28 && zeros r 0x2C 64
    && (match fd with | some f => decide (num32 r 0x14 ≤ num32 f 0x10) | none => true)
    && (!(Rec.bit r 0x1A 0) || decide (num32 r 0x24 ≤ num32 r 0x28))
    && (match out with | some p => ptType p == (if Rec.u8 r 2 == 0 then 0 else 2) | none => true)

/-- GOVERNOR (R300). -/
def limGovernor (m : Cand) (l : List Rec) : Bool :=
  l.all (fun r => if Rec.u8 r 0 == 1 then limFeeder r else Rec.u8 r 0 == 2 && limLoad m l r)
    && decide ((l.filter fun r => Rec.u8 r 0 == 1).length ≤ 16) && decide ((l.filter fun r => Rec.u8 r 0 == 2).length ≤ 4080)

/-- A RECORDER record (R559, R560). No code's own words leave room for fewer than four more. -/
def limRecorder (r : Rec) : Bool :=
  let code := Rec.u16 r 0
  let fixed := (inR code 0xE001 0xE004 || inR code 0x8000 0x8FFF || code == 0xB001)
  inR (Rec.u8 r 2) 0 3 && inR (Rec.u8 r 3) 0 4 && inR (Rec.u32 r 4) 0 3600000
    && (if Rec.u32 r 4 == 0 then Rec.u16 r 8 == 0 else decide (1 ≤ Rec.u16 r 8)) && zeros r 0x0A 0x10
    && ((List.range 4).all fun i => if i < Rec.u8 r 3 then decide (Rec.u32 r (16 + 4 * i) < 0x03000000) else Rec.u32 r (16 + 4 * i) == 0)
    && !(fixed && !(Rec.u8 r 2 == 0 && Rec.u32 r 4 == 0))

/-- A pair entry of SAFETY (R348, R360, R363). -/
def limPair (e : Rec) : Bool :=
  let tp := fun o => inR (Rec.u8 e o) 0 7
  let ff := fun o => Rec.u8 e o == 255
  zeros e 8 16 && inR (Rec.u8 e 3) 1 20 && inR (Rec.u16 e 4) 1 1000 && inR (Rec.u16 e 6) 0 1440 &&
    (match sfUse e with
     | 0 => (tp 1 || ff 1) && (tp 2 || ff 2)
     | 3 => ff 1 && ff 2
     | u => inR u 1 2 && tp 1 && tp 2 && !(Rec.u8 e 1 == Rec.u8 e 2))

/-- A function entry (R358, R361, R363): ranges, and the pairs and reset kind of its template. -/
def limFunc (e : Rec) : Bool :=
  let p0 := inR (sfPair0 e) 0 15
  let p1 := inR (sfPair1 e) 0 15
  let man := inR (sfRst e) 0 15
  let auto := sfRst e == 255
  let side := fun v => inR v 0 15 || v == 255
  zeros e 5 8 && zeros e 18 32 && inR (sfGroup e) 0 5 && side (sfPair0 e) && side (sfPair1 e) && side (sfRst e) &&
    (match sfTmpl e with
     | 0 => true
     | t => inR t 1 8 &&
        (match t with
         | 1 => p0 && man
         | 2 => p0
         | 3 => p0 && auto && inR (sfT1 e) 100 60000 && inR (sfT2 e) 100 360000
         | 4 => p0 && p1 && man
         | 5 => auto && inR (sfT1 e) 0 1000
         | 6 => p0 && p1 && auto
         | 7 => p0 && man && inR (sfT1 e) 0 360000
         | _ => p0))

/-- An output entry (R355, R362, R363). -/
def limOut (e : Rec) : Bool :=
  inR (sfOmode e) 0 3 && zeros e 1 2 && zeros e 4 16 && (sfOmode e == 0 || !(Rec.u16 e 2 == 0))

/-- SAFETY (R359 to R363). -/
def limSafety (r : Rec) : Bool :=
  inR (Rec.u16 r 0) 10 1000 && inR (Rec.u8 r 2) 4 20 && zeros r 3 0x10 && zeros r 0x390 0x7FC && sfCheck r == Rec.u32 r 0x7FC
    && ((List.range 16).all fun n => limPair (sfPair r n)) && ((List.range 16).all fun f => limFunc (sfFunc r f))
    && (List.range 8).all fun o => limOut (sfOut r o)

/-- A TRENDS record (R174). -/
def limTrend (r : Rec) : Bool :=
  inR (Rec.u16 r 0) 0 1023 && inR (trTask r) 0 63 && zeros r 3 4 && trOff r % 64 == 0 && inR (trEntry r) 64 4032
    && trEntry r % 64 == 0 && zeros r 0x0A 0x0C && inR (trNent r) 1 16777216
    && decide (trOff r + 64 + trEntry r * trNent r ≤ 0x40000000) && text r 0x10 16

/-- TRENDS (R174). -/
def limTrends (l : List Rec) : Bool :=
  l.all limTrend && uniq (l.map fun r => Rec.u16 r 0) && apart (l.map fun r => (trOff r, 64 + trEntry r * trNent r))

/-- Whether a section is within the limits of its unit's chapter; `pair`: the module is in pair mode. -/
def unitLimits (m : Cand) (pair : Bool) (t : Nat) : Bool :=
  let l := m.r t
  match t with
  | 1 => l.all limDomains
  | 2 => l.all limTimebase
  | 3 => limPorts l
  | 4 => limNetwork l
  | 5 => limMailbags m l
  | 6 => true
  | 7 => limPoints m l
  | 8 => limStations m pair l
  | 9 => l.all limPigeon && uniq (l.map fun r => Rec.u8 r 0)
  | 10 => l.all limRole && uniq (l.map fun r => Rec.u8 r 0)
  | 11 => limTasks m l
  | 12 => limObjects m.program
  | 13 => (l.drop 1).all limInst
  | 14 => limAxes l
  | 15 => l.all (limCascade m)
  | 16 => l.all limTable
  | 17 => limMetering l
  | 18 => limGovernor m l
  | 19 => l.all limRecorder && uniq (l.map fun r => Rec.u16 r 0)
  | 20 => l.all limSafety
  | 21 => l.all fun r => zeros r 0x1F 64
  | 22 => limTrends l
  | _ => false

/-- The most records of a type, and whether it holds exactly one (R70 to R72, R359). -/
def maxRecs (t : Nat) : Nat :=
  [0, 1, 1, 24, 7, 128, 16777216, 131072, 2048, 64, 256, 64, 4194304, 262144, 64, 64, 64, 16, 4096, 256, 1, 1, 1024].getD t 0
def oneRec (t : Nat) : Bool := [1, 2, 20, 21].contains t

/-- Step 9 for table entry `i` of a slot: R67, R68, R70 and the unit's chapter. -/
def State.secLimits (s : State) (n : Nat) (m : Cand) (i : Nat) : Bool :=
  let t := s.secType n i
  let k := s.secRecords n i
  inR t 1 22 && s.manNum n (256 + 64 * i + 2) 2 == 1 && s.manNum n (s.secOffset n i + 4) 2 == recSize t
    && decide (k ≤ maxRecs t) && (!(oneRec t) || k == 1) && unitLimits m s.paired t

end Sys2Proof.Machine
end

