-- ==== Sys2Proof/Machine/Refs.lean ====
section
/-! DEFINITION. Steps 10 to 12 of a manifest's validation (R76): references between sections, the class of the change
(R79 to R81), and the budgets (R78, R411). -/

namespace Sys2Proof.Machine

/-! ## References (step 10) -/

/-- Records of a candidate by their number. -/
def Cand.port (m : Cand) (g : Nat) : Option Rec := (m.r 3).find? fun r => Rec.u8 r 0 == g
def Cand.use (m : Cand) (g : Nat) : Nat := (m.port g).elim 0 fun r => Rec.u8 r 1
def Cand.point (m : Cand) (p : Nat) : Option Rec := (m.r 7).find? fun r => Rec.u32 r 0 == p
def Cand.sta (m : Cand) (n : Nat) : Option Rec := (m.r 8).find? fun r => Rec.u16 r 0 == n
/-- Whether a MAC has a NETWORK record with EN = 1. -/
def Cand.macOn (m : Cand) (k : Nat) : Bool := (m.r 4).any fun r => Rec.u8 r 0 == k && Rec.bit r 1 0

/-- DOMAINS agrees with the sections present (R71). -/
def refDomains (m : Cand) (r : Rec) : Bool :=
  Rec.u16 r 0 == 0x5F + (if m.has 14 then 32 else 0) && Rec.bit r 2 0 == m.has 20 && Rec.bit r 2 1 == m.has 17
    && Rec.bit r 2 2 == m.has 18

/-- PORTS: the PROTO of every station on a port group agrees with the group's use (R425). -/
def refPorts (m : Cand) : Bool :=
  (m.r 8).all fun st =>
    if 24 ≤ stPort st then true
    else match stProto st with
      | 0 => m.use (stPort st) == useCAN
      | 2 => m.use (stPort st) == useUART && (m.port (stPort st)).any fun r => Rec.u8 r 9 == 0
      | 4 => m.use (stPort st) == useUART && (m.port (stPort st)).any fun r => Rec.u8 r 9 == 1
      | 6 => m.use (stPort st) == useDALI
      | _ => true

/-- MAILBAGS (R466). A mailbag of the program without any task has no task object that names it. -/
def refMail (m : Cand) (r : Rec) : Bool :=
  let g := mbPort r
  let u := m.use g
  (if 128 ≤ g then m.macOn (g - 128) else !(u == 0)) && !((decide (g < 24) && (u == useUART || u == useDALI)) && !(mbOwner r == 2))
    && !(mbOwner r == 1 && !(m.has 11))

/-- The poll class of a station by its points (R105). -/
def Cand.pollClass (m : Cand) (n : Nat) : Nat :=
  ((m.r 7).filter fun r => ptStation r == n).foldl (fun c r => min c (Rec.u8 r 7)) 2

/-- A STATIONS record (R105, R110, R435). -/
def refStation (m : Cand) (r : Rec) : Bool :=
  let g := stPort r
  let eth := stProto r == 1 || stProto r == 3 || stProto r == 5
  (if 128 ≤ g then eth && m.macOn (g - 128) else !eth && (m.port g).isSome) && stPclass r == m.pollClass (Rec.u16 r 0)
    && (!(stProto r == 0) || (Rec.u32 r 4 % 4 == 0 && decide (Rec.u32 r 4 ≤ 0x7FC)
        && !((m.r 8).any fun x => stProto x == 0 && stPort x == g && Rec.u32 x 4 == Rec.u32 r 4 && !(Rec.u16 x 0 == Rec.u16 r 0))))

/-- A ROLES record: the tenant's pigeonhole is enabled (R478). -/
def refRole (m : Cand) (r : Rec) : Bool :=
  !(Rec.u8 r 1 == 3) || (m.r 9).any fun p => Rec.u8 p 0 == Rec.u8 r 2 && Rec.bit p 1 0

/-- SOURCE and PARAM of an event task name things that exist (R147, R157). That a feeder which GOVERNOR does not list is
such a thing is a DESIGN CHOICE: R147's list names no feeder (log 83). -/
def refSource (m : Cand) (src : Nat) (p : Nat) : Bool :=
  if src < 64 then (m.r 14).any fun r => Rec.u8 r 0 == src
  else if src < 96 then (m.point (p % 2 ^ 17)).isSome
  else if src < 104 then p == 65535 || (m.sta p).isSome
  else if src < 112 then (m.r 5).any fun r => Rec.u8 r 0 == p
  else if src == 115 then m.has 17
  else if src == 127 then p == 255 || (m.r 18).any fun r => Rec.u8 r 0 == 1 && Rec.u8 r 1 == p
  else true

/-- TASKS (R147). -/
def refTasks (m : Cand) (l : List Rec) : Bool :=
  let ev := l.filter fun r => tkKind r == 3
  uniq (ev.map tkSource) && l.all (fun r => decide (tkObj r < obNobj m.obj))
    && ev.all fun r => refSource m (tkSource r) (tkParam r).toNat

/-- OBJECTS: the points of its lists exist, and outputs with a station are output points (R171). -/
def refObjects (m : Cand) : Bool :=
  m.program.entries.all fun e =>
    (m.program.ioList (Rec.u32 e 0x20) (Rec.u32 e 0x24)).all (fun x => (m.point x.1).isSome)
      && (m.program.ioList (Rec.u32 e 0x28) (Rec.u32 e 0x2C)).all fun x =>
        match m.point x.1 with
        | some r => ptInternal r || ptOut r
        | none => false

/-- INSTMAP (R182): `old` is the program that it is compared with and applied to, none where it is checked against the new
program alone. -/
def refInst (new : Program) (old : Option Program) : Bool :=
  let rs := new.instmap.drop 1
  let len := fun (p : Program) (t : Nat) => obDatalen (p.taskEntry t)
  old.all (fun o => (new.instmap.headD []) == o.progid)
    && rs.all (fun r =>
      let t := Rec.u8 r 15
      (new.rec? t).isSome && decide (Rec.u32 r 0 + Rec.u r 8 3 ≤ len new t)
        && old.all fun o => (o.rec? t).isSome && decide (Rec.u32 r 4 + Rec.u r 11 3 ≤ len o t))
    && (List.range 64).all fun t => apart ((rs.filter fun r => Rec.u8 r 15 == t).map fun r => (Rec.u32 r 0, Rec.u r 8 3))

/-- An AXES record: its link is a Dexjo group; CMPFAB names 16 internal COUNT points (R76, R233). -/
def refAxis (m : Cand) (r : Rec) : Bool :=
  m.use (axLink r) == useDEXJO
    && (!(moCmpfab r) || (List.range 16).all fun i =>
        match m.point (moCmpbase r + i) with
        | some p => ptInternal p && ptType p == 4
        | none => false)

/-- A METERING record among all: the pulse output of each of the first eight records names an enabled group and a register
that is not SIGNED, whether its EN is set or not (R270). -/
def refMeter (l : List Rec) (r : Rec) : Bool :=
  uniq ((List.range (Rec.u8 r 2)).map fun i => Rec.u8 r (5 + 4 * i))
    && (!(decide (Rec.u8 r 0 < 8))
        || (match l.find? fun x => Rec.u8 x 0 == Rec.u8 r 0x50 with
            | some g => meEn g && !(meMode g (Rec.u8 r 0x51) == 0)
            | none => false))

/-- A GOVERNOR record (R300). -/
def refGov (m : Cand) (l : List Rec) (r : Rec) : Bool :=
  let grp := (m.r 17).find? fun g => Rec.u8 g 0 == Rec.u8 r 1
  if Rec.u8 r 0 == 1 then grp.any meEn
  else
    l.any (fun f => Rec.u8 f 0 == 1 && Rec.u8 f 1 == Rec.u8 r 1)
      && (grp.any fun g => (List.range (Rec.u8 g 2)).any fun i => Rec.u8 g (4 + 4 * i) == ldVch r)
      && (match m.point (ldOut r) with
          | some p => ptOut p && (m.sta (ptStation p)).any fun st => stProto st ≤ 1
          | none => false)
      && !(m.program.entries.any fun e => (m.program.ioList (Rec.u32 e 0x28) (Rec.u32 e 0x2C)).any fun x => x.1 == ldOut r)
      && decide ((l.filter fun x => Rec.u8 x 0 == 2 && ldOut x == ldOut r).length ≤ 1) && (m.point (ldReq r)).isSome
      && (match ldInh r with | some i => (m.point i).isSome | none => true)

/-- Whether an address is a register once the candidate is in force (R28, R560). -/
def Cand.register (m : Cand) (a : Nat) : Bool :=
  match blockOf a with
  | some .cle => (findReg a).isSome && (decide (0xF00 ≤ a % 0x1000) || (m.r 14).any fun r => Rec.u8 r 0 == (a - 0x200000) / 0x1000)
  | some .cleTab => a % 4 == 0 && decide ((a - 0x300000) % 0x2000 < 5120)
      && (m.r 14).any fun r => Rec.u8 r 0 == (a - 0x300000) / 0x2000
  | some .pts => a % 4 == 0 && (m.point ((a - 0x1000000) / 16)).isSome
  | some .fpt => (findReg a).isSome || (a % 4 == 0 && canWindow a)
  | some .pmw => false
  | _ => (findReg a).isSome

def refRecorder (m : Cand) (r : Rec) : Bool :=
  (List.range (Rec.u8 r 3)).all fun i => m.register (Rec.u32 r (16 + 4 * i))

/-- SAFETY (R363). -/
def refSafety (r : Rec) : Bool :=
  let fs := (List.range 16).map fun f => sfFunc r f
  let live := fs.filter fun e => !(sfTmpl e == 0)
  let tm := fun f => sfTmpl (fs.getD f [])
  let named := fun v => v == 255 || !(sfUse (sfPair r v) == 0)
  let sides := live.flatMap fun e => [sfPair0 e, sfPair1 e].filter fun v => !(v == 255)
  live.all (fun e => named (sfPair0 e) && named (sfPair1 e) && named (sfRst e)
      && (!(sfTmpl e == 8) || sfUse (sfPair r (sfPair0 e)) == 3)
      && (sfRst e == 255 || !(sides.contains (sfRst e))))
    && ((List.range 16).all fun f =>
        let e := fs.getD f []
        (List.range 16).all fun g => !(sfMask e g)
          || (if tm f == 5 then !(g == f) && !(tm g == 5) else if tm f == 6 then tm g == 2 else true))
    && (List.range 8).all fun o => !(sfOmode (sfOut r o) == 3)
        || (List.range 16).all fun f => !(sfFmask (sfOut r o) f) || tm f == 3

/-- Whether every reference of a section resolves; `old` is that of INSTMAP. -/
def unitRefs (m : Cand) (old : Option Program) (t : Nat) : Bool :=
  let l := m.r t
  match t with
  | 1 => l.all (refDomains m)
  | 3 => refPorts m
  | 5 => l.all (refMail m)
  | 7 => l.all fun r => ptInternal r || (m.sta (ptStation r)).isSome
  | 8 => l.all (refStation m)
  | 10 => l.all (refRole m)
  | 11 => refTasks m l
  | 12 => refObjects m
  | 13 => refInst m.program old
  | 14 => l.all (refAxis m)
  | 15 => l.all fun r => (m.r 14).any fun x => Rec.u8 x 0 == Rec.u8 r 0
  | 16 => l.length == (m.r 14).length
  | 17 => l.all (refMeter l)
  | 18 => l.all (refGov m l)
  | 19 => l.all (refRecorder m)
  | 20 => l.all refSafety
  | 22 => l.all fun r => (m.r 11).any fun x => Rec.u8 x 0 == trTask r
  | _ => true

/-! ## Class of a change (R79 to R81) -/

/-- Classes as CLASS numbers them (R66). -/
def clFIRST : Nat := 0
def clP : Nat := 1
def clS : Nat := 2
def clW : Nat := 3

/-- Keys whose record differs between two lists, where an absent record counts as one. -/
def changedKeys (old new : List Rec) : List Nat :=
  let ks := (old ++ new).map fun r => Rec.u8 r 0
  ks.eraseDups.filter fun k => !((old.find? fun r => Rec.u8 r 0 == k) == (new.find? fun r => Rec.u8 r 0 == k))

/-- The use that a PORTS section gives a group. -/
def useIn (l : List Rec) (g : Nat) : Nat := (l.find? fun r => Rec.u8 r 0 == g).elim 0 fun r => Rec.u8 r 1

/-- The class of the manifest in a slot against the ARMED one (R79 to R81). -/
def State.changeClass (s : State) (n : Nat) : Nat :=
  match s.armedSlot with
  | none => clFIRST
  | some a =>
    let d := fun t => s.secDiffers a n t
    let oldP := s.slotRecs a 3
    let newP := s.slotRecs n 3
    let ports := changedKeys oldP newP
    let moved := ports.filter fun g => !(useIn oldP g == useIn newP g)
    let dexjo := moved.any fun g => useIn oldP g == useDEXJO || useIn newP g == useDEXJO
    let macs := changedKeys (s.slotRecs a 4) (s.slotRecs n 4)
    if d 1 || d 6 || d 14 || dexjo || decide (1 < moved.length) || decide (4 < ports.length + macs.length) then clW
    else if d 2 || d 3 || d 4 || d 5 || d 7 || d 8 || d 9 || d 10 || d 17 || d 20 then clS
    else clP

/-! ## Budgets (R78) -/

/-- f_max in Hz. -/
def Cand.fmax (m : Cand) : Rat :=
  let w := Rec.w ((m.r 2).headD []) 0
  if w.bit 0 then 69 else if w.bit 2 then 60 else 50

/-- Fabric round load in point updates per second. -/
def Cand.fabricLoad (m : Cand) : Rat :=
  let pts := (m.r 7).filter fun r => !(ptInternal r)
  let cnt := fun c => (((pts.filter fun r => Rec.u8 r 7 == c).length : Nat) : Rat)
  let rf : Rat := if bitsOf (Rec.u32 ((m.r 2).headD []) 4) 31 31 == 1 then 2 else 1
  (cnt 0 * rf + cnt 1 / 5 + ((pts.length : Nat) : Rat) / 50) * m.fmax

/-- Control-engine load in sections per second. -/
def Cand.cleLoad (m : Cand) : Rat := (((m.r 14).map fun r => axSecs r * axN r).sum : Nat) * m.fmax

/-- The largest of some numbers. -/
def maxOf (l : List Nat) : Nat := l.foldl max 0

/-- Highest load of one Dexjo link in bit/s (R253). -/
def Cand.dexjoLoad (m : Cand) : Rat :=
  (maxOf ((List.range 24).map fun g => (((m.r 14).filter fun r => axLink r == g).map axN).sum) : Nat) * 160 * m.fmax

/-- Commits of a task per second at f_max (R411). -/
def Cand.commitRate (m : Cand) (r : Rec) : Rat :=
  match tkKind r with
  | 0 => m.fmax / (tkK r : Rat)
  | 1 => m.fmax * (tkK r : Rat)
  | 2 => 1 / (tkPeriod r : Rat)
  | _ => m.fmax

/-- Write load of ranks 0 to 6 in bytes per second (R411). -/
def Cand.trunkLoad (m : Cand) : Rat :=
  let f := m.fmax
  let ck := ((m.r 11).map fun r => m.commitRate r * ((obWpages (m.program.entry (tkObj r)) * 4100 + 272 : Nat) : Rat)).sum
  let n := (m.r 7).length
  ck + f / 10 * (64 * 4100 + 272) + f / 50 * ((32 * n + 1152 * ((n + 255) / 256) : Nat) : Rat) + 4880 * f + 8000000

/-- Checkpoint bytes: the instance data of the tasks, their output buffers included (R145). -/
def Cand.ckptBytes (m : Cand) : Nat := ((m.r 11).map fun r => obDatalen (m.program.entry (tkObj r))).sum

/-- Shared SRAM bytes. -/
def Cand.sramBytes (m : Cand) : Nat := ((m.r 5).map fun r => 16 * mbEntries r + mbEntries r * mbBufsz r).sum

/-- Message objects, standard and extended filter elements that a CAN FD group needs (R435). -/
def Cand.canNeed (m : Cand) (g : Nat) : Nat × Nat × Nat :=
  let st := ((m.r 8).filter fun r => stProto r == 0 && stPort r == g).length
  let mb := (m.r 5).filter fun r => mbPort r == g
  let rx := mb.filter fun r => mbDir r == 0
  let ext := (rx.filter fun r => Rec.bit r 0x12 0).length
  (2 * st + mb.length, st + rx.length - ext, ext)

/-- The figures of R72 by field offset, with the limits of R78. -/
def Cand.figures (m : Cand) : List (Nat × Rat × Rat) :=
  let cans := ((List.range 24).filter fun g => m.use g == useCAN).map m.canNeed
  [(0x00, m.fmax * 1000000, 69000000), (0x04, m.fabricLoad, 4000000), (0x08, m.cleLoad, 100000000),
    (0x0C, m.dexjoLoad, 20000000), (0x10, m.trunkLoad, 1700000000), (0x14, (m.ckptBytes : Rat), 67108864),
    (0x18, (m.sramBytes : Rat), 4194304), (0x1C, (maxOf (cans.map fun c => c.1) : Nat), 128),
    (0x1D, (maxOf (cans.map fun c => c.2.1) : Nat), 128), (0x1E, (maxOf (cans.map fun c => c.2.2) : Nat), 64)]

/-- Step 12: every budget within its limit. -/
def Cand.budgetOk (m : Cand) : Bool := m.figures.all fun f => decide (f.2.1 ≤ f.2.2)

/-- The figures that differ by more than 1 % from those of BUDGET: offset, recorded figure, the module's figure rounded to
nearest (R72). -/
def Cand.budgetDiffs (m : Cand) : List (List Word) :=
  let b := (m.r 21).headD []
  (m.figures.filterMap fun f =>
    let rec_ := if f.1 < 0x1C then Rec.u32 b f.1 else Rec.u8 b f.1
    if (rec_ : Rat) < 100 * ratAbs (f.2.1 - rec_) then some [n2w f.1, n2w rec_, n2w (roundEven f.2.1).toNat] else none)

end Sys2Proof.Machine
end

