-- ==== Sys2Proof/Machine/Images.lean ====
section
/-! DEFINITION. Firmware images (chapter 19): their layout, the checks of R523, delta images, and which keys REF may use
(R499). -/

namespace Sys2Proof.Machine

/-! ## Keys that REF uses (R499) -/

/-- Whether a key slot may be used: VALID, of the kind, by master bit `m`, in the current life-cycle state, for the
pigeonhole. -/
def State.keyUsable (s : State) (slot kind m ph : Nat) : Bool :=
  let w := s.rd (Reg.KEY_SLOT0 slot)
  let lc := s.fld F.KEY_STATUS_LC
  decide (slot < 32) && w.bits 2 0 == 1 && w.bits 7 4 == kind && w.bit (8 + m)
    && decide (1 ≤ lc ∧ lc ≤ 3) && w.bit (15 + lc)
    && (if ph < 32 then (s.rd (Reg.KEY_SLOT1 slot)).bit ph else (s.rd (Reg.KEY_SLOT2 slot)).bit (ph - 32))

/-- The key words of a slot. -/
def State.keyWords (s : State) (slot : Nat) : List Word := s.keys.store.getD slot []

/-! ## Layout (R518 to R520) -/

def imgBase (n : Nat) : Nat := 0xC0000000 + n * 0x4000000
def imgMax : Nat := 67108864
/-- The size of a signature trailer (R69). -/
def trailerLen : Nat := 16256

def State.imgNum (s : State) (n off len : Nat) : Nat := s.pm.num (imgBase n + off) len
def State.imgBytes (s : State) (n off len : Nat) : List Byte := s.pm.bytes (imgBase n + off) len
def State.imgLength (s : State) (n : Nat) : Nat := s.imgNum n 8 4
def State.imgVersion (s : State) (n : Nat) : Nat := s.imgNum n 0x0C 4
def State.imgRtver (s : State) (n : Nat) : Nat := s.imgNum n 0x18 4

/-- Fields of component entry `i`. -/
def State.compType (s : State) (n i : Nat) : Nat := s.imgNum n (0x40 + 48 * i) 2
def State.compOff (s : State) (n i : Nat) : Nat := s.imgNum n (0x40 + 48 * i + 4) 4
def State.compLen (s : State) (n i : Nat) : Nat := s.imgNum n (0x40 + 48 * i + 8) 4
def State.compHash (s : State) (n i : Nat) : List Byte := s.imgBytes n (0x40 + 48 * i + 16) 32

/-- The largest component of a type (R520). -/
def compMax (t : Nat) : Nat := if t == 1 then 0x1000000 else if t == 2 then 0x400000 else if t == 3 then 0x100000 else 0x2000000

/-- Whether the components obey R520: each type once, aligned, in front of the trailer, without overlap. -/
def State.compsOk (s : State) (n : Nat) : Bool :=
  let cs := (List.range 4).map fun i => (s.compType n i, s.compOff n i, s.compLen n i)
  let top := s.imgLength n - trailerLen
  [1, 2, 3, 4].all (fun t => cs.any fun c => c.1 == t)
    && cs.all (fun c => c.2.1 % 64 == 0 && decide (256 ≤ c.2.1) && decide (c.2.1 + c.2.2 ≤ top) && decide (c.2.2 ≤ compMax c.1))
    && (List.range 4).all fun i => s.imgNum n (0x40 + 48 * i + 2) 2 == 0 && s.imgNum n (0x40 + 48 * i + 12) 4 == 0
        && (List.range 4).all fun j => i == j || decide (s.compOff n i + s.compLen n i ≤ s.compOff n j)
          || decide (s.compOff n j + s.compLen n j ≤ s.compOff n i)

/-! ## Checks (R523) -/

/-- Step 1: the format. -/
def State.imgFormat (s : State) (n : Nat) : Bool :=
  let len := s.imgLength n
  !(s.pm.anyBad (imgBase n) 256) && s.imgNum n 0 4 == 0x4D495453 && s.imgNum n 4 2 == 1 && s.imgNum n 6 2 == 256 && s.imgNum n 0x10 4 == 0x6413
    && s.imgNum n 0x16 1 == 4 && !(s.imgRtver n == 0) && decide (256 + trailerLen ≤ len ∧ len ≤ imgMax) && s.compsOk n

/-- The trailer's fields (R69). -/
def State.imgTrailer (s : State) (n off len : Nat) : Nat := s.imgNum n (s.imgLength n - trailerLen + off) len

/-- The REASON of the first step of R523 that fails, 0 when all pass. A word that cannot be read fails the step that reads it
(R396): 1 the header, 3 the trailer, 5 what lies between. -/
def State.imgReason (s : State) (n : Nat) : Nat :=
  let len := s.imgLength n
  let kslot := s.imgTrailer n 5 1
  if !(s.imgFormat n) then 1
  else if s.fld F.MOD_HWREV_MAJOR < s.imgNum n 0x14 2 then 2
  else if s.pm.anyBad (imgBase n + len - trailerLen) trailerLen || !(s.imgTrailer n 0 4 == 0x4E474953 && s.imgTrailer n 4 1 == 3 && s.keyUsable kslot 5 2 0) then 3
  else if !(Config.sigVerifies (s.imgBytes n 0 256) (s.imgBytes n (len - trailerLen + 0x20) 16224) (s.keyWords kslot)) then 4
  else if s.pm.anyBad (imgBase n + 256) (len - trailerLen - 256) || !(sha256 (s.imgBytes n 256 (len - trailerLen - 256)) == s.imgBytes n 0x20 32
      && (List.range 4).all fun i => sha256 (s.imgBytes n (s.compOff n i) (s.compLen n i)) == s.compHash n i) then 5
  else 0

/-- The state of an image slot, with its REASON; its words go into the twin record of the slot states (R379, R521). -/
def State.setImg (s : State) (n st reason : Nat) : State :=
  let s := (s.setFld (F.MOD_IMG_SLOT0_STATE n) st).setFld (F.MOD_IMG_SLOT0_REASON n) reason
  s.persist 0 1 8 (.counters ([Reg.MOD_IMG_SLOT0 n, Reg.MOD_IMG_SLOT1 n].map fun a => (a, s.rd a)))

/-- The apply has so many blocks of the result; its progress record is durable before it goes on (R527). -/
def State.imgProgress (s : State) (blocks : Nat) : State :=
  let s := s.setFld F.MOD_IMG_PROG_BLOCKS blocks
  s.persistNow 6 1 12 (.counters [(Reg.MOD_IMG_PROG, s.rd Reg.MOD_IMG_PROG)])

/-- The HASH of a component type. -/
def State.hashOfComp (s : State) (n t : Nat) : List Byte :=
  match (List.range 4).find? fun i => s.compType n i == t with
  | some i => s.compHash n i
  | none => []

/-- The end of R523: VERIFIED with its hashes, VERSION and RTVER, or REJECTED; 16#C001. -/
def State.imgChecked (s : State) (n reason : Nat) : State :=
  let s :=
    if reason == 0 then
      let s := (s.wr (Reg.MOD_IMG_SLOT1 n) (n2w (s.imgVersion n))).setImg n 3 0
      { s with img := { s.img with
          lane := s.img.lane.put n (s.hashOfComp n 1)
          pm := s.img.pm.put n (s.hashOfComp n 2)
          rtver := s.img.rtver.put n (s.imgRtver n) } }
    else s.setImg n 4 reason
  s.record 0xC001 [n2w n, n2w (s.imgVersion n), n2w reason]

/-! ## Delta images (R525 to R528) -/

def deltaBase : Nat := 0xD0000000

/-- Runs the instructions of a delta: `n` bounds their number, `off` is the place of the next one, `out` the output so
far in reverse order of its parts, `len` its length. Answers none for a bad delta. -/
def deltaRun (base : Nat → Nat → List Byte) (baseLen : Nat) (d : Nat → Nat → List Byte) (dlen resLen : Nat) :
    Nat → Nat → List (List Byte) → Nat → Option (List Byte)
  | 0, _, _, _ => none
  | n + 1, off, out, len =>
    if dlen < off + 4 then none
    else
      let op := leNat (d off 1)
      let l := leNat (d (off + 1) 3)
      if op == 0 then (if len == resLen then some out.reverse.flatten else none)
      else if l == 0 || decide (resLen < len + l) then none
      else if op == 1 then
        let src := leNat (d (off + 4) 4)
        if dlen < off + 8 || decide (baseLen < src + l) then none
        else deltaRun base baseLen d dlen resLen n (off + 8) (base src l :: out) (len + l)
      else if op == 2 then
        if dlen < off + 4 + l then none
        else deltaRun base baseLen d dlen resLen n (off + 4 + (l + 3) / 4 * 4) (d (off + 4) l :: out) (len + l)
      else none

/-- A number and bytes of the delta work area. -/
def State.deltaNum (s : State) (off len : Nat) : Nat := s.pm.num (deltaBase + off) len
def State.resultLen (s : State) : Nat := s.deltaNum 8 4

/-- The header of a delta (R525). -/
def State.deltaHeader (s : State) : Bool :=
  s.deltaNum 0 4 == 0x4C445453 && s.deltaNum 4 2 == 1 && decide (s.resultLen ≤ imgMax)
    && decide (64 ≤ s.deltaNum 0x0C 4 ∧ s.deltaNum 0x0C 4 ≤ imgMax)

/-- The base of a delta is the image in slot `src`. -/
def State.deltaOnBase (s : State) (src : Nat) : Bool :=
  !(s.pm.anyBad (imgBase src) (s.imgLength src)) && sha256 (s.imgBytes src 0 (s.imgLength src)) == s.pm.bytes (deltaBase + 0x10) 32

/-- The result of the delta on the image in slot `src`; a delta with a word that cannot be read is a bad one (R396). -/
def State.deltaResult (s : State) (src : Nat) : Option (List Byte) :=
  let dlen := s.deltaNum 0x0C 4
  if s.pm.anyBad deltaBase dlen then none
  else deltaRun (fun o n => s.imgBytes src o n) (s.imgLength src) (fun o n => s.pm.bytes (deltaBase + o) n) dlen s.resultLen
    (dlen / 4 + 1) 64 [] 0

/-- Blocks of 64 KiB. -/
def blocksOf (len : Nat) : Nat := (len + 65535) / 65536

/-- The end of an apply (R527 steps 3 and 4): the result is written and checked; 16#C003. Answers the RESULT. -/
def State.endDelta (s : State) (src dst : Nat) : State × Nat :=
  let ms := n2w ((s.ns - s.img.deltaNs) / 1000000)
  let s : State := { s with img := { s.img with delta := none } }
  let st := s.fld (F.MOD_IMG_SLOT0_STATE dst)
  let s :=
    if !(st == 2) then s
    else if !(s.deltaOnBase src) then s.setImg dst 4 6
    else match s.deltaResult src with
      | none => s.setImg dst 4 7
      | some bs =>
        let s := s.trunk 6 3 (s.imgLength src + s.deltaNum 0x0C 4) .read
        let s := (s.pmPut (imgBase dst) bs).trunk 6 3 bs.length
        let s := (List.range (blocksOf bs.length)).foldl (fun s k => s.imgProgress (k + 1)) s
        s.imgChecked dst (s.imgReason dst)
  let reason := s.fld (F.MOD_IMG_SLOT0_REASON dst)
  (s.record 0xC003 [n2w dst, n2w reason, ms], reason)

/-- An apply is cut by a reset or a Postmaster restart (R528): how many blocks are durable by then no command tells, a
free value up to TOTAL; they stand in the target slot. -/
def State.cutDelta (s : State) : State :=
  match s.img.delta with
  | none => s
  | some (src, dst) =>
    if s.fld (F.MOD_IMG_SLOT0_STATE dst) == 2 then
      let k := Config.freeNat s.free % (s.fld F.MOD_IMG_PROG_TOTAL + 1)
      let s := s.freeNext.setFld F.MOD_IMG_PROG_BLOCKS k
      match s.deltaResult src with
      | some bs => s.pmPut (imgBase dst) (bs.take (65536 * k))
      | none => s
    else s

/-- A long operation that goes on after a reset shows and answers as before (R486), under the OPID it had. -/
def State.resumeLong (s : State) (kind : Nat) (work : LongWork) : State :=
  let id := match s.ctr.aborted with | some (_, i, _) => i | none => (s.fld F.CTR_STATUS_OPID + 1) % 256
  let s := ((s.setFld F.CTR_STATUS_OPID id).setFld F.CTR_STATUS_OPKIND kind).setFld F.CTR_STATUS_BUSY 1
  s.setCtr { s.ctr with long := some ⟨kind, id, s.ns, 0, 0xFF, work⟩ }

/-! ## A long operation that something ends (R486, R487, R600) -/

/-- An arm is given up before its switch point: the old manifest stays ARMED, the new slot VERIFIED (R90, R600). Tasks still
pending after a base switch keep the map that they switch by (R196). -/
def State.dropArm (s : State) : State :=
  let s : State := { s with man := { s.man with arm := none, idleLoaded := false, late := none } }
  let s := s.setFld F.MOD_MAN_STATUS_STEP 0
  if s.fld F.TSK_OC_STATUS_PHASE == 3 then s
  else { s with prog := { s.prog with useMap := false } }.setFld F.TSK_OC_STATUS_PHASE 0

/-- Whether an arm has passed its switch point: that of its structure, or the base switch. -/
def State.armSwitched (s : State) (a : Arm) : Bool := (a.structDone && !(a.cls == 1)) || s.fld F.TSK_OC_STATUS_PHASE == 3

/-- What the abandonment of a long operation leaves of it. -/
def State.undoLong (s : State) (w : LongWork) : State :=
  match w with
  | .manVerify _ _ _ _ => s.setFld F.MOD_MAN_STATUS_STEP 0
  | .manArm _ => match s.man.arm with
    | some a => if s.armSwitched a then s else s.dropArm
    | none => s
  | .delta _ dst => { (s.setImg dst 0 0) with img := { s.img with delta := none } }
  | .attest _ => { s with keys := { s.keys with stmt := [], attbuf := [] } }
  | .keyWrite _ _ => { s with keys := { s.keys with win := [], winBy := 0 } }
  | .zero _ _ => s
  | .safConfirm _ => s
  | .protect _ => s.setFld F.PMC_STATUS_PROTBUSY 0
  | .imgVerify _ _ => s

/-- Tamper abandons every long operation but a zeroing (R487): RESULT ABORTED. Answers its OPID, 0 for none. -/
def State.tamperLong (s : State) : State × Nat :=
  match s.ctr.long with
  | none => (s, 0)
  | some o => match o.work with
    | .zero _ _ => (s, 0)
    | _ => ((s.undoLong o.work).endLong ansABORTED, o.id)

/-- A reset of REF, or what counts as one, ends a long operation (R486, R587): a delta apply and a zeroing resume, and the
first request afterwards is told. -/
def State.resetLong (s : State) : State :=
  match s.ctr.long with
  | none => s
  | some o => match o.work with
    | .zero _ _ => s.cutLong true
    | .delta _ _ => s.cutDelta.cutLong s.img.delta.isSome
    | .manArm _ => (match s.man.arm with
      | some _ => s.dropArm
      | none => s).cutLong false
    | w => (s.undoLong w).cutLong false

end Sys2Proof.Machine
end

