-- ==== Sys2Proof/Machine/Calls.lean ====
section
/-! DEFINITION. Runtime calls (R172, R173): a task that a core executes calls the lane firmware. Calls at commit are
queued in the task. -/

namespace Sys2Proof.Machine

/-- Statuses of R173. -/
def rtOK : Nat := 0
def rtRANGE : Nat := 1
def rtNOTOWNED : Nat := 2
def rtNOTREADY : Nat := 3
def rtFULL : Nat := 4

/-- A call returns a status and words to its task. -/
def State.ret (s : State) (status : Nat) (data : List Word := []) : State :=
  { s with prog := { s.prog with ret := status, retData := data } }

/-- Queues a call for the commit of its task. -/
def State.queueCall (s : State) (t : Nat) (c : Call) : State :=
  let k := s.task t
  s.setTask t { k with calls := k.calls ++ [c] }

/-- A call is made by a task that a core executes; otherwise nothing happens. -/
def State.rt (s : State) (t : Nat) (f : State → State) : State := if s.executes t && !s.pwr.pfail then f s else s

/-- A call at commit: a status, and with OK the call is queued. -/
def State.rtQueue (s : State) (t status : Nat) (c : Call) : State :=
  if status == rtOK then (s.queueCall t c).ret rtOK else s.ret status

/-- RT_POSTMARK: the current postmark. -/
def execRtPostmark (w : When) (t : Nat) (s : State) : Out :=
  .next ((s.advance w).rt t fun s => s.ret rtOK (words64 s.pmNow))

/-- RT_RELEASE: the release postmark of this cycle. -/
def execRtRelease (w : When) (t : Nat) (s : State) : Out :=
  .next ((s.advance w).rt t fun s => s.ret rtOK (words64 (s.task t).rel))

/-- RT_RTC: RTC seconds and RTC_SUBSEC, from the lane firmware's coherent shadows (R541); SUBSEC is 0 during HALT. -/
def execRtRtc (w : When) (t : Nat) (s : State) : Out :=
  .next ((s.advance w).rt t fun s => s.ret rtOK [n2w s.rtcSec, s.peek Reg.RTC_SUBSEC])

/-- The 16 bytes of event data (R159). -/
def eventWords (e : TEvent) : List Word :=
  [n2w (e.source + b2n e.skip * 2 ^ 8 + e.lost * 2 ^ 16)] ++ words64 e.pm ++ [e.value]

/-- RT_EVENT: event data in an event task, NOTREADY in a cyclic one. -/
def execRtEvent (w : When) (t : Nat) (s : State) : Out :=
  .next ((s.advance w).rt t fun s =>
    match (s.task t).ev with
    | some e => s.ret rtOK (eventWords e)
    | none => s.ret rtNOTREADY)

/-- RT_TRIGGER: sources 118 to 125. -/
def execRtTrigger (w : When) (t source : Nat) (v : Word) (s : State) : Out :=
  .next ((s.advance w).rt t fun s =>
    s.rtQueue t (if 118 ≤ source ∧ source ≤ 125 then rtOK else rtRANGE) (.trigger source v))

/-- The status of a call on an axis: RANGE, NOTOWNED, NOTREADY, or OK. -/
def State.axStatus (s : State) (k : Nat) : Nat :=
  if 64 ≤ k then rtRANGE else if !(s.hasAx k) then rtNOTOWNED else if !(s.good .cle) then rtNOTREADY else rtOK

/-- RT_AXIS_SET. A limit that is no number of R238 is out of range. -/
def execRtAxisSet (w : When) (t k : Nat) (target vlim alim : Word) (pos : Int) (s : State) : Out :=
  .next ((s.advance w).rt t fun s =>
    let bad := fun (v : Word) => !(finite32 v) || decide (real32D v < 0)
    let st := if bad vlim || bad alim || !(finite32 target) then rtRANGE else s.axStatus k
    s.rtQueue t st (.axisSet k target vlim alim pos))

/-- RT_AXIS_ENABLE: a HALTED engine answers NOTREADY, and so does a frequency deviation with DEVACT 1 to an enable (R220,
R226). -/
def execRtAxisEnable (w : When) (t k : Nat) (on : Bool) (s : State) : Out :=
  .next ((s.advance w).rt t fun s =>
    let st := s.axStatus k
    let st := if st == rtOK && (s.engMode == engHALTED || (on && s.axDevStop k)) then rtNOTREADY else st
    s.rtQueue t st (.axisEnable k on))

/-- RT_AXIS_STOP. -/
def execRtAxisStop (w : When) (t k : Nat) (s : State) : Out :=
  .next ((s.advance w).rt t fun s => s.rtQueue t (s.axStatus k) (.axisStop k))

/-- RT_AXIS_STATE: position, velocity and the state word of the last sample. -/
def execRtAxisState (w : When) (t k : Nat) (s : State) : Out :=
  .next ((s.advance w).rt t fun s =>
    let st := s.axStatus k
    if st == rtOK then
      let x := s.axis k
      s.ret rtOK [i2w x.pos, i2w (x.pos / 2 ^ 32), i2w x.vel, s.rd (Reg.CLE_AX_STATUS k)]
    else s.ret st)

/-- RT_CMP_SET: comparators 0 to 15, directions 0 to 3. -/
def execRtCmpSet (w : When) (t k j : Nat) (pos : Int) (dir : Nat) (s : State) : Out :=
  .next ((s.advance w).rt t fun s =>
    s.rtQueue t (if 16 ≤ j ∨ 4 ≤ dir then rtRANGE else s.axStatus k) (.cmpSet k j pos dir))

/-- RT_MTR_READ: P, Q or S of a group in the last mains cycle, numbered as in R269. Whether other quantities exist, and what
they read, is not stated: a free status and value. A group that is not enabled is not configured: NOTREADY, not NOTOWNED, a
DESIGN CHOICE (log 83). -/
def execRtMtrRead (w : When) (t g qty : Nat) (s : State) : Out :=
  .next ((s.advance w).rt t fun s =>
    if 16 ≤ g then s.ret rtRANGE
    else if !(s.good .mtr) || !(s.flag (F.MTR_G_STATUS_EN g)) then s.ret rtNOTREADY
    else if qty < 3 then s.ret rtOK [s.rd (Reg.MTR_G_P g + 4 * qty)]
    else (if Config.freeNat s.free % 2 == 0 then s.ret rtOK [Config.freeWord (s.free + 1)] else s.ret rtRANGE).freeNext.freeNext)

/-- RT_SAF_STATUS: SAF_STATUS (R347). -/
def execRtSafStatus (w : When) (t : Nat) (s : State) : Out :=
  .next ((s.advance w).rt t fun s => s.ret rtOK [s.peek Reg.SAF_STATUS])

/-- The status of a call on a mailbag of direction `dir`. -/
def State.mbStatus (s : State) (m dir : Nat) : Nat :=
  if 128 ≤ m then rtRANGE
  else match s.mbRec m with
    | some r => if !(mbOwner r == 1) || !(mbDir r == dir) then rtNOTOWNED else if s.good .net then rtOK else rtNOTREADY
    | none => rtNOTOWNED

/-- RT_MB_SEND: FULL when the ring has no room beside the sends already queued in this cycle. -/
def execRtMbSend (w : When) (t m : Nat) (data : List Byte) (s : State) : Out :=
  .next ((s.advance w).rt t fun s =>
    let st := s.mbStatus m 1
    match s.mbRec m with
    | none => s.ret st
    | some r =>
      let queued := ((s.task t).calls.filter fun c => match c with | .mbSend n _ => n == m | _ => false).length
      let st := if !(st == rtOK) then st
        else if data.isEmpty || decide (mbBufsz r < data.length) then rtRANGE
        else if s.mbRoom m r ≤ queued then rtFULL else rtOK
      s.rtQueue t st (.mbSend m data))

/-- Bytes as words, the last one filled up with zeros. -/
def wordsOf (bs : List Byte) : List Word := (List.range ((bs.length + 3) / 4)).map fun i => Rec.w bs (4 * i)

/-- RT_MB_RECV: the length of the next received frame and its bytes, or NOTREADY with none. The receive position moves on
at the commit (R330). -/
def execRtMbRecv (w : When) (t m : Nat) (s : State) : Out :=
  .next ((s.advance w).rt t fun s =>
    let st := s.mbStatus m 0
    match s.mbRec m with
    | none => s.ret st
    | some r =>
      if !(st == rtOK) then s.ret st
      else
        let taken := (s.task t).calls.foldl (fun n c => match c with | .mbAdvance k i => if k == m then n + i else n | _ => n) 0
        let i := ((s.mb m).rd + taken) % max 1 (mbEntries r)
        if i == (s.rd (Reg.MBG_HEAD m)).toNat then s.ret rtNOTREADY
        else
          let d := s.desc r i
          ((s.queueCall t (.mbAdvance m 1)).trunk 3 0 (16 + deLen d) .read).ret rtOK (n2w (deLen d) :: wordsOf (s.sramBytes (deBuf d) (deLen d))))

/-- RT_TREND (R176). -/
def execRtTrend (w : When) (t n : Nat) (data : List Byte) (s : State) : Out :=
  .next ((s.advance w).rt t fun s =>
    if 1024 ≤ n then s.ret rtRANGE
    else match (s.recs 22).find? fun r => Rec.u16 r 0 == n with
      | none => s.ret rtNOTOWNED
      | some r =>
        let queued := ((s.task t).calls.filter fun c => match c with | .trend _ _ => true | _ => false).length
        if data.isEmpty || decide (trEntry r - 16 < data.length) then s.ret rtRANGE
        else if !(trTask r == t) then s.ret rtNOTOWNED
        else if 32 ≤ queued then s.ret rtFULL
        else if s.protects (trOff r) then (s.recordProt (trOff r)).ret rtNOTREADY
        else s.rtQueue t rtOK (.trend n data))

/-- RT_LOG: a user event with four words. -/
def execRtLog (w : When) (t code : Nat) (w1 w2 w3 w4 : Word) (s : State) : Out :=
  .next ((s.advance w).rt t fun s =>
    if 0xF000 ≤ code ∧ code ≤ 0xFFFF then (s.record code [w1, w2, w3, w4]).ret rtOK else s.ret rtRANGE)

/-- RT_TASKINFO: cycle count, LATE, SKIP. -/
def execRtTaskinfo (w : When) (t : Nat) (s : State) : Out :=
  .next ((s.advance w).rt t fun s =>
    s.ret rtOK [s.rd (Reg.TSK_CYC t), n2w (s.fld (F.TSK_LATE_LATE t)), n2w (b2n (s.task t).skip)])

end Sys2Proof.Machine
end

