-- ==== Sys2Proof/Machine/Lanes.lean ====
section
/-! DEFINITION. Lanes, the Postmaster and franks (chapter 11): lane failures, franks, takeover, planned handover, spare
tests, the Postmaster restart, and pair mode. -/

namespace Sys2Proof.Machine

/-! ## Lanes (R314) -/

/-- The number of a lane: 1 A, 2 B (R321). -/
def laneNum : Lane → Nat
  | .a => 1
  | .b => 2

/-- Lane states of R314. -/
def lsSPARE : Nat := 0
def lsTESTING : Nat := 1
def lsBOOTING : Nat := 2
def lsTRACKING : Nat := 3
def lsACTIVE : Nat := 4
def lsFAILED : Nat := 5

def State.laneState (s : State) (l : Nat) : Nat := s.fld (F.PMS_LANE_STATE (l - 1))
def State.setLaneState (s : State) (l st : Nat) : State := s.setFld (F.PMS_LANE_STATE (l - 1)) st

/-- The other lane. -/
def otherLane (l : Nat) : Nat := 3 - l

def State.setPms (s : State) (p : Pms) : State := { s with pms := p }

/-- A lane's domain is powered, or switched off. -/
def State.laneOn (s : State) (l : Nat) : State :=
  if s.goodN (6 + l) then s else (s.setDom (6 + l) .good 0).perfStart (l - 1)
def State.laneOff (s : State) (l : Nat) : State :=
  let s := (s.perfClear (l - 1)).setDom (6 + l) .off 6
  if s.pms.romWait == l then s.setPms { s.pms with romWait := 0 } else s

/-- The TSK registers of a lane that becomes active: those of a domain after its power-on (R8), and what goes from lane to
lane in the checkpoints: mode, area and restart counts, and the online change in progress with its count (R168, R196, R197).
The tasks' counters follow with their checkpoints. -/
def State.newLaneRegs (s : State) : State :=
  let w := fun a => s.rd a
  let pendn := s.fld F.TSK_OC_STATUS_PENDN
  let phase := s.fld F.TSK_OC_STATUS_PHASE
  let mode := s.fld F.TSK_STATUS_MODE
  let cause := s.fld F.TSK_STATUS_CAUSE
  let area := s.fld F.TSK_STATUS_AREA
  let n := s.resetRegs 7
  let n := ((n.setFld F.TSK_STATUS_MODE mode).setFld F.TSK_STATUS_CAUSE cause).setFld F.TSK_STATUS_AREA area
  let n := (n.setFld F.TSK_OC_STATUS_PHASE phase).setFld F.TSK_OC_STATUS_PENDN pendn
  [Reg.TSK_RESTARTS, Reg.TSK_OC_PEND_LO, Reg.TSK_OC_PEND_HI, Reg.TSK_OC_COUNT].foldl (fun n a => n.wr a (w a)) n

/-- Criteria as event 16#7001 numbers them. -/
def critNum : Criterion → Nat
  | .heartbeat => 1
  | .selfTest => 2
  | .ecc => 3
  | .hwWatchdog => 4

/-! ## Franks (R321 to R324) -/

/-- Epochs in a block (R338). -/
def blockSize : Nat := 4096

/-- The first epoch from `p` on that lies in a block. -/
def epochIn (p b : Nat) : Option Nat :=
  let e := max p (b * blockSize)
  if e < (b + 1) * blockSize && e ≤ 0xFFFFFF then some e else none

/-- The epoch that the next frank takes (R323, R338), if one is left: the persisted epoch plus 1, and in an epoch block at
least its first, or when the block is at its end the first of the next one; without a record, the highest epoch in the
headers of the checkpoints plus 2^12. -/
def State.nextEpoch (s : State) : Option Nat :=
  let p := match s.pms.epoch.use? with
    | some (_, e) => e + 1
    | none =>
      let fr := (s.prog.tasks.flatMap fun (e : Nat × Task) => e.2.ck.headers.map fun c => c.frank)
        ++ s.prog.fw.headers.map fun f => f.frank
      (fr.map fun f => f.toNat / 256).foldl max 0 + blockSize
  match s.pms.pair.block, s.paired with
  | some b, true => (epochIn p b).or (s.pms.pair.more.bind (epochIn p))
  | _, _ => if p ≤ 0xFFFFFF then some p else none

/-- What an issued epoch leaves of the blocks: the next block comes into use with its first epoch, and when 16 epochs remain
without a next one the module asks the witness for it (R338). -/
def Pair.useEpoch (p : Pair) (e : Nat) : Pair :=
  match p.block with
  | none => p
  | some b =>
    let p := if (b + 1) * blockSize ≤ e then { p with block := some (e / blockSize), more := none } else p
    { p with asksBlock := p.asksBlock || (p.more.isNone && decide (e / blockSize * blockSize + blockSize ≤ e + 17)) }

/-- The frank of a lane at an epoch (R321). -/
def State.frankOf (s : State) (l e : Nat) : Word :=
  n2w (e * 256 + (if s.paired then s.fld F.PMS_PAIRCFG_MEMBER else 0) * 16 + l)

/-- Writes a frank into PMS_FRANK and into the current-frank registers of the stages whose domains run. -/
def State.putFrank (s : State) (f : Word) : State :=
  let s := s.wr Reg.PMS_FRANK f
  let s := s.setPms { s.pms with
    frMux := if s.good .net then f else s.pms.frMux
    frCle := if s.good .cle then f else s.pms.frCle
    frPulse := if s.good .mtr then f else s.pms.frPulse }
  s

/-- Issues a frank to a lane: the epoch becomes durable first, as one Registry atomic group, then every stage takes the
frank, and the main path has a holder again (R322, R324). Answers whether one could be issued; at exhaustion NOCOVER takes
cause 4 (R323). Without persistent memory no epoch becomes durable and the lane waits. -/
def State.issueFrank (s : State) (l occasion : Nat) : State × Bool :=
  if !(s.good .pmm) then (s, false)
  else match s.nextEpoch with
  | none =>
    let last := match s.pms.epoch.use? with | some (_, e) => e | none => 0xFFFFFF
    ((s.nocover 4).record 0x700C [n2w last], false)
  | some e =>
    let f := s.frankOf l e
    let s := s.persistNow 0 1 8 (.epoch e)
    let s := s.setPms { s.pms with noHolderNs := none, pair := if s.paired then s.pms.pair.useEpoch e else s.pms.pair }
    let s := (s.putFrank f).setFld F.PMS_STATUS_HOLDER 1
    ((s.record 0x7007 [f, Config.snapNum 0x7007 occasion]), true)

/-! ## Fence and boot -/

/-- Groups of a fenced lane's checkpoints whose commit record is not complete never become durable (R594); that of a base switch
does (log 75). -/
def State.dropHeaders (s : State) : State :=
  let open_ := fun (p : Payload) => match p with | .header _ => true | _ => false
  let s := s.tearOpen
  { s with pm := { s.pm with
      journal := s.pm.journal.filter fun e => e.durable || !(open_ e.load)
      waiting := s.pm.waiting.filter fun g => !(open_ g.load) } }.showFill

/-- MOD_DOMAINS.DECL: DECL of the ARMED manifest with the bit of the active lane (R71). -/
def State.showDecl (s : State) : State :=
  s.setFld F.MOD_DOMAINS_DECL (match s.recs 1 with
    | r :: _ => Rec.u16 r 0 + (if s.lane == 0 then 0 else 2 ^ (6 + s.lane))
    | [] => 0)

/-- The main path has no holder from now on (R324). -/
def State.noHolder (s : State) : State :=
  let s := s.setPms { s.pms with noHolderNs := some (s.pms.noHolderNs.getD s.ns) }
  ((s.setFld F.PMS_STATUS_HOLDER 0).setFld F.PMS_STATUS_ACTIVE 0).showDecl

/-- Fences a lane that is judged failed (R326 step 1): power off, FAILED, 16#7001; the active lane's descriptors are
discarded (R428). -/
def State.fenceLane (s : State) (l crit : Nat) (pm : Postmark) : State :=
  let was := s.laneState l
  let s := (s.laneOff l).setLaneState l lsFAILED
  let s := (s.setFld (F.PMS_LANE_CAUSE (l - 1)) crit).inc (F.PMS_LANE_FAILS (l - 1))
  let s := s.record 0x7001 ([n2w l, n2w crit] ++ words64 pm)
  if was == lsACTIVE then s.noHolder.fencePorts.dropHeaders else s

/-- The takeover step 2 (R326), or step 1 of a handover: the incoming lane is powered and boots. A spare test that runs
on it is abandoned (R317). -/
def State.bootLane (s : State) (l : Nat) : State :=
  let s := (s.laneOn l).setLaneState l lsBOOTING
  match s.pms.change with
  | some c => s.setPms { s.pms with change := some { c with incoming := l, ready := false } }
  | none => s

/-- No lane is available (R328): NOCOVER with cause 1, and both lanes are tested every 60 s. -/
def State.noLane (s : State) : State :=
  let s := match s.pms.change with
    | some c => s.setPms { s.pms with change := some { c with incoming := 0 } }
    | none => s
  let due := s.ns + 60000000000
  (s.setPms { s.pms with testDue := [(1, due), (2, due)] }).nocover 1

/-- A RETIRE zeroing runs (R599): a lane fault then causes no takeover. -/
def State.retiring (s : State) : Bool :=
  match s.ctr.long with
  | some o => (match o.work with | .zero _ true => true | _ => false)
  | none => false

/-! ## The end of a takeover (R326 steps 5 and 6) -/

/-- The first cycle of a takeover: every output of each task's list whose point is not INIT, at its checkpointed value. -/
def State.commitKept (s : State) : State :=
  if s.good .fab then
    s.taskNums.foldl (fun s t =>
      match (s.task t).outs with
      | none => s
      | some os => os.foldl (fun s e =>
          if qGet (s.point e.1).qual qINIT then s else s.commitPoint s.pmNow e.1 e.2) s) s
  else s

/-- A lane becomes the active lane: shown, and persisted as the last active lane (R315). -/
def State.laneActive (s : State) (l : Nat) : State :=
  let s := ((s.setLaneState l lsACTIVE).setFld F.PMS_STATUS_ACTIVE l).showDecl
  (s.setPms { s.pms with hbNs := s.ns }).persist 0 1 8 (.lastLane l)

/-- Whether a base switch lies ahead: the change is prepared or waits, or its arm is still being validated. -/
def State.ocAhead (s : State) : Bool :=
  s.fld F.TSK_OC_STATUS_PHASE == 1 || s.fld F.TSK_OC_STATUS_PHASE == 2 ||
    (match s.ctr.long, s.armedSlot with
      | some o, some a => (match o.work with | .manArm n => s.man.arm.isNone && s.programDiffers a n | _ => false)
      | _, _ => false)

/-- A base switch that a takeover postpones (R195): 16#300A, POSTP. -/
def State.ocPostpone (s : State) (pm : Postmark) : State :=
  if s.ocAhead then
    let s := { s with prog := { s.prog with firstCycle := 1 } }
    (s.setFld F.TSK_OC_STATUS_POSTP 1).record 0x300A (words64 pm)
  else s

/-- The third takeover within 600 s sets NOCOVER with cause 2 (R328). -/
def State.countTakeover (s : State) : State :=
  let tos := s.ns :: s.pms.tos.filter fun t => decide (s.ns < t + 600000000000)
  let s := (s.setPms { s.pms with tos := tos }).inc F.PMS_TOCNT_TAKEOVERS
  if 3 ≤ tos.length then s.nocover 2 else s

/-- Whether a takeover or start waits for a lane (R328). -/
def State.noLaneLeft (s : State) : Bool := match s.pms.change with | some c => c.incoming == 0 | none => false

/-- A spare test of a lane has ended: the next is due HOURS later, or while no lane is available after 60 s (R316, R328). -/
def State.testAgain (s : State) (l : Nat) : State :=
  if s.noLaneLeft then s.setPms { s.pms with testDue := s.pms.testDue.put l (s.ns + 60000000000) }
  else s.setPms { s.pms with testDue := s.pms.testDue.del l, testEnd := s.pms.testEnd.put l s.ns }

/-- Whether a spare test of a lane is due: at the moment set for it, or HOURS after its last one, by PMS_SPARECFG as it stands
(R316). -/
def State.testIsDue (s : State) (l : Nat) : Bool :=
  let h := s.fld F.PMS_SPARECFG_HOURS
  (match s.pms.testDue.get? l with | some t => decide (t ≤ s.ns) | none => false)
    || (!(h == 0) && (match s.pms.testEnd.get? l with | some t => decide (t + h * 3600000000000 ≤ s.ns) | none => false))

/-- The spare tests after a takeover: 60 s later one on the lane that failed; on the other lane where none failed, as after
a power-up, a DESIGN CHOICE (log 41). The lane that took over has none ahead (R316). -/
def State.testAfter (s : State) (c : Change) : State :=
  let l := otherLane c.incoming
  let due := if c.outgoing == l || (s.pms.testDue.get? l).isNone then s.ns + 60000000000 else s.pms.testDue.getD l 0
  s.setPms { s.pms with testDue := (s.pms.testDue.del c.incoming).put l due, testEnd := s.pms.testEnd.del c.incoming }

/-- Tasks still tagged with the old area after a power cut or a pair takeover run one cycle in the old code and then switch
(R196, R600). -/
def State.oldTasks (s : State) : State :=
  let ts := (List.range 64).filter fun t => (s.prog.tasks.get? t).isSome && !((s.task t).area == s.areaN)
  if ts.isEmpty then s else (s.setFld F.TSK_OC_STATUS_PHASE 3).showPending ts

/-- Steps 5 and 6: the frank, the resumption of every task, the first commit, 16#7002. Without a frank the booted lane
waits (R323). -/
def State.finishTakeover (s : State) : State :=
  match s.pms.change with
  | none => s
  | some c =>
    match s.issueFrank c.incoming (if s.fld F.PMS_STATUS_PHASE == 3 then 4 else 2) with
    | (s, false) => s.setPms { s.pms with change := some { c with ready := true } }
    | (s, true) =>
      let s := (s.newLaneRegs.laneActive c.incoming).resumeTasks
      let s := (s.ocPostpone c.faultPm).commitKept.applyPulses.govStarted
      let took := min 0xFFFFFFFF ((s.ns - c.faultNs) / 1000)
      let s := s.wr Reg.PMS_LASTTO (n2w took)
      let s := s.record 0x7002 ([c.oldFrank, s.rd Reg.PMS_FRANK] ++ words64 c.faultPm ++ words64 s.pmNow ++ [n2w took])
      let s := s.setFld F.PMS_STATUS_PHASE 0
      let s := (s.setPms { s.pms with change := none }).testAfter c
      (if c.outgoing == 0 then s.oldTasks else s).countTakeover.ocIdleSwitch

/-! ## Lane failure (R318, R328, R331) -/

/-- Starts a takeover from detection. -/
def State.startTakeover (s : State) (failed faultNs : Nat) (pm : Postmark) : State :=
  let c : Change := ⟨0, failed, faultNs, pm, s.rd Reg.PMS_FRANK, 0, false, (0xFF, 0)⟩
  let limit := s.flag F.PMS_STATUS_NOCOVER && s.fld F.PMS_STATUS_NOCAUSE == 2
  let s := (s.setPms { s.pms with change := some c, pair := { s.pms.pair with swap := false } }).setFld F.PMS_STATUS_PHASE 1
  if limit || s.laneState (otherLane failed) == lsFAILED then s.noLane else s.bootLane (otherLane failed)

/-- Whether the lane that boots is to take over: in a takeover, and in a pair takeover once the module is ACTIVE; in a
planned handover and a pair swap it tracks first (R326, R329, R341). -/
def State.takesOver (s : State) : Bool :=
  s.fld F.PMS_STATUS_PHASE == 1 || (s.fld F.PMS_STATUS_PHASE == 3 && s.fld F.PMS_PAIRSTAT_ROLE == 1)

/-- A lane is judged failed. -/
def State.judge (s : State) (l crit faultNs : Nat) (pm : Postmark) : State :=
  let st := s.laneState l
  if st == lsSPARE || st == lsFAILED then s
  else
    let s1 := s.fenceLane l crit pm
    if st == lsACTIVE then
      if s.retiring then s1
      else match s.pms.change with
      | some c =>
        let s1 := s1.setPms { s1.pms with change := some { c with faultNs := faultNs, faultPm := pm, outgoing := l } }
        let s1 := s1.setFld F.PMS_STATUS_PHASE 1
        if s.laneState c.incoming == lsTRACKING then (s1.setLaneState c.incoming lsBOOTING).finishTakeover else s1
      | none => s1.startTakeover l faultNs pm
    else if st == lsTESTING then
      (s1.record 0x7004 [n2w l, Config.snapNum 0x7004 1, Config.snapNum 0x7004 3]).testAgain l
    else
      match s.pms.change with
      | none => s1
      | some _ =>
        if s.takesOver then
          if s.laneState (otherLane l) == lsFAILED then s1.noLane else s1.bootLane (otherLane l)
        else
          let s1 := (s1.setPms { s1.pms with change := none }).setFld F.PMS_STATUS_PHASE 0
          s1.record 0x700B [n2w (if st == lsBOOTING then 1 else 2), n2w l]

/-- A report of a failure: latched while the Postmaster restarts (R332), ignored in PFAIL (R584). -/
def State.laneFault (s : State) (l crit faultNs : Nat) (pm : Postmark) : State :=
  if s.pwr.pfail || !(s.good .ref) || !(s.goodN (6 + l)) then s
  else if s.pms.restart.isSome then s.setPms { s.pms with latch := s.pms.latch ++ [(l, crit, faultNs, pm)] }
  else s.judge l crit faultNs pm

/-- HEARTBEAT_SEND: core 0 of the active lane. -/
def execHeartbeatSend (w : When) (s : State) : Out :=
  let s := s.advance w
  .next (if s.laneUp then s.setPms { s.pms with hbNs := s.ns } else s)

/-- HEARTBEAT_TIMEOUT: no heartbeat in 3 consecutive windows of 1 ms. -/
def execHeartbeatTimeout (w : When) (lane : Lane) (faultNs : Nat) (faultPm : Postmark) (s : State) : Out :=
  let s := s.advance w
  .next (if s.laneState (laneNum lane) == lsACTIVE && decide (s.ns < s.pms.hbNs + 3000000) then s
    else s.laneFault (laneNum lane) 1 faultNs faultPm)

/-- FAULT_LINE_REPORT. -/
def execFaultLineReport (w : When) (lane : Lane) (crit : Criterion) (faultNs : Nat) (faultPm : Postmark) (s : State) : Out :=
  .next ((s.advance w).laneFault (laneNum lane) (critNum crit) faultNs faultPm)

/-- Whether some slot holds a VERIFIED image, whose hash is in the Postmaster's table (R523). -/
def State.imgTable (s : State) : Bool := (List.range 4).any fun n => s.fld (F.MOD_IMG_SLOT0_STATE n) == 3

/-- The ROM check of a booting lane fails: the lane fails (R328, R532). While no image is in the Postmaster's table, the lane's
ROM waits in its recovery mode for a VERIFIED slot (R535). -/
def State.romFails (s : State) (l : Nat) : State :=
  if s.imgTable then s.judge l 2 s.ns s.pmNow else s.setPms { s.pms with romWait := l }

/-- The Postmaster passes a slot that has become VERIFIED over the trunk to the lane whose ROM waits; the lane boots it
(R535). That it reads the slot as validation and image verification do, at rank 6, is DEDUCED (log 65). -/
def State.passImage (s : State) (n : Nat) : State :=
  if s.pms.romWait == 0 || !(s.fld (F.MOD_IMG_SLOT0_STATE n) == 3) then s
  else (s.setPms { s.pms with romWait := 0 }).trunk 6 2 (s.imgLength n) .read

/-- The bytes that a booting lane loads over the trunk: the lane component of its image, the programs of both areas, and
each task's checkpoint (R326 steps 3 and 4). -/
def State.loadBytes (s : State) (img : Nat) : Nat :=
  let comps := (List.range 4).filter fun i => s.compType img i == 1
  (comps.map fun i => s.compLen img i).sum + s.prog.area0.objects.length + s.prog.area1.objects.length
    + (s.prog.tasks.map fun (e : Nat × Task) => match e.2.ck.use? with | some (_, c) => c.len | none => 0).sum

/-- The loads of a booting lane carry rank 3 (R327). That they all count when the boot ends is a DESIGN CHOICE (log 43). -/
def State.bootLoads (s : State) (img : Nat) : State := s.trunk 3 1 (s.loadBytes img) .read

/-- LANE_BOOT_DONE: the incoming lane has passed its ROM check and loaded the runtime and the checkpoints, or has failed
it (R326 steps 3 to 6, R329 step 2, R532). -/
def execLaneBootDone (w : When) (romOk : Bool) (s : State) : Out :=
  let s := s.advance w
  .next (match s.pms.change with
    | none => s
    | some c =>
      if c.incoming == 0 || !(s.laneState c.incoming == lsBOOTING) || !(s.pms.romWait == 0) || s.pms.restart.isSome || s.pwr.pfail then s
      else
        let s := s.bootLoads c.img
        if !romOk then s.romFails c.incoming
        else if s.takesOver then s.finishTakeover
        else
          let s := s.setLaneState c.incoming lsTRACKING
          if s.fld F.PMS_STATUS_PHASE == 3 then s else s.setFld F.PMS_STATUS_PHASE 2)

/-! ## Spare tests (R316) -/

/-- A test starts on a lane. -/
def State.testLane (s : State) (l : Nat) : State :=
  let s := (s.laneOn l).setLaneState l lsTESTING
  s.setPms { s.pms with testDue := s.pms.testDue.del l, testEnd := s.pms.testEnd.del l }

/-- Whether a lane can be put through a spare test. -/
def State.testable (s : State) (l : Nat) : Bool :=
  (s.laneState l == lsSPARE || s.laneState l == lsFAILED) && !(s.lane == l)

/-- SPARE_TEST_START: a test that is due. -/
def execSpareTestStart (w : When) (s : State) : Out :=
  let s := s.advance w
  .next (match [1, 2].find? fun l => s.testIsDue l && s.testable l with
    | some l => if s.good .ref && s.pms.restart.isNone && !s.pwr.pfail && s.drives then s.testLane l else s
    | none => s)

/-- A spare test has ended: the lane is off, SPARE or FAILED, 16#7004; the next test is due after HOURS. With no lane
available, the first lane that passes takes over (R328). -/
def State.testDone (s : State) (l failing : Nat) : State :=
  let ok := failing == 0
  let s := (s.laneOff l).setLaneState l (if ok then lsSPARE else lsFAILED)
  let s := s.record 0x7004 [n2w l, Config.snapNum 0x7004 (b2n (!ok)), Config.snapNum 0x7004 (2 + failing)]
  if s.noLaneLeft && ok then s.bootLane l else s.testAgain l

/-- SPARE_TEST_DONE: `failing` is 0 or the failing test. -/
def execSpareTestDone (w : When) (lane : Lane) (failing : Nat) (s : State) : Out :=
  let s := s.advance w
  .next (if s.laneState (laneNum lane) == lsTESTING then s.testDone (laneNum lane) failing else s)

/-! ## Commands of PMS_CTRL (R329, R344) -/

/-- The word of a command. -/
def pmsCmd (cmd img : Nat) : Word := n2w (cmd + img * 256)

/-- A command of PMS_CTRL: checks, the maker alone for the pair commands (R7), the condition, the effect. -/
def State.pmsCommand (s : State) (who : Who) (cmd img : Nat) (ok : State → Bool) (f : State → State) : State :=
  match s.refuse who Reg.PMS_CTRL (pmsCmd cmd img) with
  | some c => s.answer c
  | none =>
    if decide (4 ≤ cmd ∧ cmd ≤ 6) && !(who.role == .maker) then s.answer ansDENIED
    else if ok s then (f s).answer ansOK else s.answer ansBADSTATE

/-- The state of an image slot (R521): 3 is VERIFIED. -/
def State.imgState (s : State) (n : Nat) : Nat := s.fld (F.MOD_IMG_SLOT0_STATE n)

/-- The images in use, with the marks of their slots; 16#C005 when MOD_IMG_USE changes. -/
def State.setUse (s : State) (lane pm : Nat) (by_ : Nat × Nat) : State :=
  let ol := s.fld F.MOD_IMG_USE_LANE
  let op := s.fld F.MOD_IMG_USE_PM
  if ol == lane && op == pm then s
  else
    let s := (s.setFld F.MOD_IMG_USE_LANE lane).setFld F.MOD_IMG_USE_PM pm
    let s := (List.range 4).foldl (fun s i =>
      (s.setFlag (F.MOD_IMG_SLOT0_LANEUSE i) (i == lane)).setFlag (F.MOD_IMG_SLOT0_PMUSE i) (i == pm)) s
    let s := s.persist 0 1 4 (.counters [(Reg.MOD_IMG_USE, s.rd Reg.MOD_IMG_USE)])
    s.record 0xC005 [n2w ol, n2w lane, n2w op, n2w pm, n2w by_.1, n2w by_.2] by_.1 0 by_.2

/-- MINIMG of the ARMED manifest (R66). -/
def State.minImg (s : State) : Nat := match s.armedSlot with | some n => s.manNum n 0x24 4 | none => 0

/-- Whether a planned handover to an image may start (R329, R531). -/
def State.handoverOk (s : State) (img : Nat) : Bool :=
  s.laneUp && s.laneState (otherLane s.lane) == lsSPARE && s.pms.change.isNone && s.fld F.PMS_STATUS_PHASE == 0
    && s.man.arm.isNone && s.fld F.TSK_OC_STATUS_PHASE == 0 && !(s.flag F.PMS_STATUS_NOCOVER)
    && s.imgState img == 3 && decide (s.minImg ≤ (s.rd (Reg.MOD_IMG_SLOT1 img)).toNat)

/-- PMS_HANDOVER: the spare boots the image. -/
def State.cmdHandover (s : State) (who : Who) (img : Nat) : State :=
  s.pmsCommand who 1 img (fun s => s.handoverOk img) fun s =>
    let c : Change := ⟨0, s.lane, s.ns, s.pmNow, s.rd Reg.PMS_FRANK, img, false, (who.role.num, who.session)⟩
    (s.setPms { s.pms with change := some c }).bootLane (otherLane s.lane)

def execPmsHandover (w : When) (who : Who) (img : Nat) (s : State) : Out :=
  .next ((s.advance w).cmdHandover who (img % 4))

/-- PMS_SPARETEST: the lane that is not active is tested now, unless it is powered. -/
def State.cmdSparetest (s : State) (who : Who) : State :=
  s.pmsCommand who 2 0 (fun s => s.pms.change.isNone && s.fld F.PMS_STATUS_PHASE == 0
      && s.testable (if s.lane == 1 then 2 else 1)) fun s =>
    s.testLane (if s.lane == 1 then 2 else 1)

def execPmsSparetest (w : When) (who : Who) (s : State) : Out := .next ((s.advance w).cmdSparetest who)

/-- PMS_RECOVER: NOCOVER causes 1 and 2 are cleared, FAILED lanes are due for a spare test. -/
def State.cmdRecover (s : State) (who : Who) : State :=
  s.pmsCommand who 3 0 (fun _ => true) fun s =>
    let s := s.clearNocover [1, 2]
    let due := [1, 2].foldl (fun (t : Tab Nat) l => if s.laneState l == lsFAILED then t.put l s.ns else t) s.pms.testDue
    s.setPms { s.pms with testDue := due }

def execPmsRecover (w : When) (who : Who) (s : State) : Out := .next ((s.advance w).cmdRecover who)

/-! ## The switch of a planned handover (R329, R330) -/

/-- The release of the base task at which a handover switches; in HOLD and STOP, and without a cyclic task, any postmark
(R331). -/
def State.handoverDue (s : State) : Bool :=
  if s.mode == modeRUN then
    !s.prog.holdReq && (match s.program.base with
      | none => true
      | some b => s.baseReleased b)
  else true

/-- Tasks whose cycle is re-run, or whose release is not yet dispatched, with their cycle (R330). -/
def State.rerun (s : State) : List (Nat × Task) :=
  if s.mode == modeRUN then
    (s.taskNums.map fun t => (t, s.task t)).filter fun e => e.2.phase == .running || e.2.phase == .ready
  else []

/-- The incoming lane takes each of them up with its original release postmark, from which, for an event task its first
dispatch, the watchdog of an abandoned cycle goes on (R330). -/
def State.putRerun (s : State) (l : List (Nat × Task)) : State :=
  l.foldl (fun s e => s.setTask e.1 { s.task e.1 with
    phase := .ready, rel := e.2.rel, relNs := e.2.relNs, seqNo := e.2.seqNo, skip := e.2.skip, ev := e.2.ev
    again := if e.2.phase == .running then some (e.2.again.getD e.2.disp) else none }) s

/-- The spare test that was due on the incoming lane is due on the lane that becomes SPARE (R316). -/
def State.moveTest (s : State) (incoming outgoing : Nat) : State :=
  let move := fun (t : Tab Nat) => match t.get? incoming with | some v => (t.del incoming).put outgoing v | none => t
  s.setPms { s.pms with testDue := move s.pms.testDue, testEnd := move s.pms.testEnd }

/-- The outgoing lane is switched off and SPARE. -/
def State.dropLane (s : State) (l : Nat) : State := if l == 0 then s else (s.laneOff l).setLaneState l lsSPARE

/-- A handover ends without a switch: the incoming lane is off again. -/
def State.abandonHandover (s : State) (c : Change) (step : Nat) : State :=
  let s := ((s.dropLane c.incoming).setPms { s.pms with change := none }).setFld F.PMS_STATUS_PHASE 0
  s.record 0x700B [n2w step, n2w c.incoming]

/-- Steps 3 to 5 of R329. The lane firmware's checkpoint goes with the last commits, so that the incoming lane finds the mode
and the governor as they stand. -/
def State.handover (s : State) (c : Change) : State :=
  let s := s.finishCommits
  let s := if s.good .pmm then (s.saveFw []).durableNow else s
  let again := s.rerun
  let n := (again.filter fun e => e.2.phase == .running).length
  match s.issueFrank c.incoming 3 with
  | (s, false) => s.abandonHandover c 3
  | (s, true) =>
    let s := ((s.newLaneRegs.laneActive c.incoming).resumeTasks.putRerun again).applyPulses
    let s := ((s.dropLane c.outgoing).moveTest c.incoming c.outgoing).setUse c.img (s.fld F.MOD_IMG_USE_PM) c.by_
    let s := (s.inc F.PMS_TOCNT_HANDOVERS).record 0x7003
      ([c.oldFrank, s.rd Reg.PMS_FRANK] ++ words64 s.pmNow ++ [n2w n])
    (s.setPms { s.pms with change := none }).setFld F.PMS_STATUS_PHASE 0

/-! ## Pair mode (R334 to R341) -/

def State.setPair (s : State) (p : Pair) : State := s.setPms { s.pms with pair := p }
def State.pairRole (s : State) : Nat := s.fld F.PMS_PAIRSTAT_ROLE

/-- Pair roles of PMS_PAIRSTAT.ROLE. -/
def prNONE : Nat := 0
def prACTIVE : Nat := 1
def prPARTNER : Nat := 2
def prFENCED : Nat := 3
def prWITNESS : Nat := 4

/-- The pair role changes: 16#7008 with the epoch block. -/
def State.setRole (s : State) (r : Nat) : State :=
  let old := s.pairRole
  if old == r then s
  else
    let blk := match s.pms.pair.block with | some b => n2w b | none => Config.snapNum 0x7008 0
    (s.setFld F.PMS_PAIRSTAT_ROLE r).record 0x7008 [n2w old, n2w r, blk]

/-- A module outside a pair takes role 4 while it serves as witness (R344). -/
def State.unpaired (s : State) : State := s.setRole (if s.flag F.PMS_PAIRCFG_WITNESS then prWITNESS else prNONE)

/-- PMS_PAIRCFG has been written: a module outside a pair begins or ends its service as witness. -/
def State.pairCfgWritten (s : State) : State := if s.paired then s else s.unpaired

/-- The frank is withdrawn from every stage: commands are refused, frames not yet started are discarded (R336). -/
def State.withdraw (s : State) : State := (s.putFrank 0).dropFrames

/-- Both lanes are switched off, without a failure. -/
def State.lanesOff (s : State) : State :=
  let s := [1, 2].foldl (fun s l => if s.laneState l == lsFAILED then s else s.dropLane l) s
  let s := s.setPms { s.pms with change := none, testDue := [], testEnd := [], pair := { s.pms.pair with swap := false, again := none } }
  (s.noHolder.dropHeaders).setFld F.PMS_STATUS_PHASE 0

/-- LEASE_REQUEST_SEND: the next request goes to the witness and to the partner. -/
def execLeaseRequestSend (w : When) (s : State) : Out :=
  let s := s.advance w
  .next (if s.good .ref && s.pms.restart.isNone && s.pairRole == prACTIVE then
      let p := s.pms.pair
      let n := p.leaseNo + 1
      s.setPair { p with leaseNo := n, sent := (n, s.ns) :: p.sent.filter fun e => decide (s.ns ≤ e.2 + 40000000) }
    else s)

/-- A reply confirms the lease when it echoes a request of the last 40 ms, and, from the partner, when that is PARTNER
and has not asked for a grant. -/
def State.leaseReply (s : State) (src : LeaseFrom) (number : Nat) (isPartner noGrant : Bool) : State :=
  let p := s.pms.pair
  match p.sent.find? fun e => e.1 == number && decide (s.ns ≤ e.2 + 40000000) with
  | none => s
  | some e =>
    let s := match src with
      | .witness => s
      | .partner ready rev => (s.setPair { p with peerRev := rev, peerReady := isPartner && ready }).pairRevs
    let good := match src with | .witness => true | .partner _ _ => isPartner && noGrant
    if !good then s
    else
      let p := s.pms.pair
      let p := match src with
        | .witness => { p with witNs := some s.ns }
        | .partner _ _ => { p with peerNs := some s.ns }
      s.setPair (if p.confNo < number then { p with confNo := number, confNs := e.2 } else p)

/-- LEASE_REPLY_RECEIVED: the partner's also says its armed REV, and in a swap whether its lane tracks and it holds its
grant (R334, R341). -/
def execLeaseReplyReceived (w : When) (src : LeaseFrom) (number : Nat) (isPartner noGrant : Bool) (s : State) : Out :=
  let s := s.advance w
  .next (if s.good .ref && s.pms.restart.isNone && s.pairRole == prACTIVE then s.leaseReply src number isPartner noGrant else s)

/-- SELF_FENCE: 60 ms after the newest confirmed request was sent. -/
def State.selfFence (s : State) : State :=
  let s := (s.withdraw.lanesOff).inc F.PMS_PAIRCNT_FENCES
  (s.record 0x7009 [n2w s.pms.pair.confNo]).setRole prFENCED

def execSelfFence (w : When) (s : State) : Out :=
  let s := s.advance w
  .next (if s.good .ref && s.pairRole == prACTIVE && decide (s.pms.pair.confNs + 60000000 ≤ s.ns) then s.selfFence else s)

/-- A lane that the pair may boot: the one that was active last, or the other where that one has failed. -/
def State.pairLane (s : State) : Nat :=
  let l := match s.pms.lastLane.use? with | some (_, 2) => 2 | _ => 1
  if s.laneState l == lsFAILED then otherLane l else l

/-- A lane boots on a module of the pair: for a takeover, or to track the partner's stream (R337, R341). -/
def State.bootPair (s : State) : State :=
  let c : Change := ⟨s.pairLane, 0, s.ns, s.pmNow, s.rd Reg.PMS_FRANK, s.fld F.MOD_IMG_USE_LANE, false, (0xFF, 0)⟩
  let s := (s.setPms { s.pms with change := some c }).setFld F.PMS_STATUS_PHASE 3
  if s.laneState c.incoming == lsFAILED then s.noLane else s.bootLane c.incoming

/-- The lane that tracks the stream for a pair swap, if one does. -/
def State.swapLane? (s : State) : Option Change :=
  if s.pairRole == prPARTNER then s.pms.change.filter fun c => s.laneState c.incoming == lsTRACKING else none

/-- What the ACTIVE module's lease requests tell a PARTNER: while a swap runs it boots a lane, which then tracks; when the
swap is off again that lane goes (R341). -/
def State.swapAsked (s : State) (swap : Bool) : State :=
  match s.pms.change, swap with
  | none, true =>
    if s.pwr.pfail then s
    else (s.setPair { s.pms.pair with grant := none, again := none }).bootPair
  | some c, false => s.abandonHandover c (if s.laneState c.incoming == lsTRACKING then 2 else 1)
  | _, _ => s

/-- LEASE_REQUEST_RECEIVED: the partner, or the witness, restarts its silence timer and replies. The request carries the
sender's armed REV and whether a swap runs (log 80). -/
def execLeaseRequestReceived (w : When) (rq : LeaseRequest) (s : State) : Out :=
  let s := s.advance w
  .next (if s.good .ref && s.pms.restart.isNone && (s.pairRole == prPARTNER || s.flag F.PMS_PAIRCFG_WITNESS) then
      let no := if s.pairRole == prACTIVE then s.pms.pair.leaseNo else rq.number
      let s := s.setPair { s.pms.pair with heardNs := s.ns, leaseNo := no }
      if s.pairRole == prPARTNER then ((s.setPair { s.pms.pair with peerRev := rq.rev }).pairRevs).swapAsked rq.swap else s
    else s)

/-- Whether nothing has been heard of the ACTIVE module for 30 ms (R337). -/
def State.silent (s : State) : Bool := decide (s.pms.pair.heardNs + 30000000 ≤ s.ns)

/-- GRANT_REQUEST: the PARTNER has heard nothing for 30 ms, or in a swap its lane tracks and has no grant yet (R337, R341). -/
def execGrantRequest (w : When) (s : State) : Out :=
  let s := s.advance w
  .next (if s.good .ref && s.pms.restart.isNone && s.pairRole == prPARTNER
      && (s.silent || (s.swapLane?.isSome && s.pms.pair.grant.isNone)) then
      s.setPair { s.pms.pair with asked := true }
    else s)

/-- The witness assigns a block above every one it has granted; the block is durable in its own Registry before it goes out
(R337). -/
def State.grantBlock (s : State) : State :=
  if s.good .pmm then s.persistNow 0 1 8 (.block (s.pms.pair.granted + 1)) else s

/-- WITNESS_GRANT: after 30 ms without a request from the ACTIVE module; for a swap, at once (R337, R341). -/
def execWitnessGrant (gc : GrantCase) (s : State) : Out :=
  let s := s.advance gc.w
  .next (if s.good .ref && s.pms.restart.isNone && s.flag F.PMS_PAIRCFG_WITNESS && (gc.swap || s.silent) then s.grantBlock else s)

/-- EPOCH_BLOCK_REQUEST: the witness gives the next block (R338). -/
def execEpochBlockRequest (w : When) (s : State) : Out :=
  let s := s.advance w
  .next (if s.good .ref && s.pms.restart.isNone && s.flag F.PMS_PAIRCFG_WITNESS then s.grantBlock else s)

/-- A module takes a block: the next one while its own still has epochs. A lane that waited for a frank takes over (R323,
R338). -/
def State.takeBlock (s : State) (block : Nat) : State :=
  let p := s.pms.pair
  let p := if p.block.isSome && s.nextEpoch.isSome then { p with more := some block } else { p with block := some block, more := none }
  let s := (s.setPair { p with asksBlock := false }).clearNocover [4]
  match s.pms.change with
  | some c => if c.ready then s.finishTakeover else s
  | none => s

/-- EPOCH_BLOCK_RECEIVED. -/
def execEpochBlockReceived (w : When) (block : Nat) (s : State) : Out :=
  let s := s.advance w
  .next (if s.good .ref && s.pms.restart.isNone && s.paired then s.takeBlock block else s)

/-- The PARTNER's lane takes over what was streamed (R337): the ARMED slot's program in the area that the lane firmware's
checkpoint names, INSTMAP for tasks of the other area, each task's newest checkpoint, and the streamed ONLINE stations as
ONLINE, which the first output phase sends their full output image. -/
def State.takeStream (s : State) : State :=
  let p := s.pms.pair
  let s := s.loadAreas (match s.prog.fw.use? with | some (_, f) => f.area | none => 0)
  let s : State := { s with prog := { s.prog with useMap := s.mapsFrom s.areaN } }
  let s := p.repl.foldl (fun s (e : Nat × CkSlots) => s.setTask e.1 { s.task e.1 with ck := e.2 }) s
  if s.good .fab then
    (p.online.filter fun n => (s.staRec n).isSome).foldl (fun s n =>
      (s.setStaState n saONLINE).setSta n { s.sta n with imageDue := true }) s
  else s

/-- A module becomes ACTIVE by a grant: the block, and a lease that counts from now. -/
def State.becomeActive (s : State) (block : Nat) : State :=
  let p := s.pms.pair
  ((s.setPair { p with
      block := some block, more := none, asksBlock := false, asked := false, grant := none, confNo := p.leaseNo, confNs := s.ns
      sent := [] }).setRole prACTIVE).takeStream

/-- GRANT_RECEIVED after silence: the PARTNER becomes ACTIVE and runs takeover steps 2 to 6 on the streamed checkpoints,
from the step that a lane of a swap has reached (R331, R337). -/
def State.takeGrant (s : State) (block : Nat) : State :=
  let s := (s.inc F.PMS_PAIRCNT_GRANTS).becomeActive block
  match s.pms.change with
  | none => s.bootPair
  | some c => if s.laneState c.incoming == lsTRACKING then (s.setLaneState c.incoming lsBOOTING).finishTakeover else s

/-- GRANT_RECEIVED: while the ACTIVE module is heard, the grant of a swap, which waits for the switch. -/
def execGrantReceived (w : When) (block : Nat) (s : State) : Out :=
  let s := s.advance w
  .next (if s.good .ref && s.pms.restart.isNone && s.pairRole == prPARTNER then
      if s.swapLane?.isSome && !s.silent then
        (s.setPair { s.pms.pair with grant := some block, asked := false }).inc F.PMS_PAIRCNT_GRANTS
      else s.takeGrant block
    else s)

/-- The program of the area that a streamed checkpoint is tagged with: the ARMED slot's in the area of the lane firmware's
checkpoint, the FALLBACK slot's in the other (R196). -/
def State.streamProgram (s : State) (area : Nat) : Program :=
  let f := match s.prog.fw.use? with | some (_, f) => f.area | none => 0
  let st := if area == f then slARMED else slFALLBACK
  match (List.range 4).find? fun i => s.slotState i == st with | some k => s.slotProgram k | none => .empty

/-- PAIR_STREAM_RECEIVE: a streamed slot is made current by a header group of the module's own Registry (R394). -/
def State.streamItem (s : State) (item : PairItem) : State :=
  let p := s.pms.pair
  match item with
  | .checkpoint t _ area relpm frank data cyc late maxexec =>
    let d : Mem := Mem.setCells [] data
    let g := s.streamProgram (b2n area)
    (s.trunk 6 1 data.length).persist 6 1 64
      (.repl t ⟨b2n area, frank, relpm, obDatalen (g.taskEntry t), d, g.outVals t d, cyc, late, maxexec⟩)
  | .stations online => s.setPair { p with online := online }
  | .firmware area mode cause restarts frank relpm gmode held =>
    s.persist 6 1 64 (.replFw ⟨b2n area, mode, cause, restarts, frank, relpm, gmode, held⟩)
  | .handover again => if s.swapLane?.isSome then s.setPair { p with again := some again } else s

def execPairStreamReceive (w : When) (item : PairItem) (s : State) : Out :=
  let s := s.advance w
  .next (if s.good .ref && s.pairRole == prPARTNER then s.streamItem item else s)

/-- PAIR_STREAM_ACK: LAG falls by the commits acknowledged. -/
def execPairStreamAck (w : When) (commits : Nat) (s : State) : Out :=
  let s := s.advance w
  .next (if s.good .ref && s.pairRole == prACTIVE then
      let lag := s.fld F.PMS_PAIRSTAT_LAG - commits
      let s := s.setFld F.PMS_PAIRSTAT_LAG lag
      if lag == 0 then s.setPair { s.pms.pair with lagNs := none } else s
    else s)

/-- The state a module takes as PARTNER: both lanes off, nothing driven, the silence timer from now (R335, R340). -/
def State.becomePartner (s : State) : State :=
  let s := s.withdraw.lanesOff
  let s := s.setPair { s.pms.pair with
    heardNs := s.ns, asked := false, lagNs := none, repl := [], online := [], asksBlock := false, peerReady := false, grant := none }
  (s.setFld F.PMS_PAIRSTAT_LAG 0).setRole prPARTNER

/-- PAIR_REJOIN: a FENCED module hears the witness again. -/
def execPairRejoin (w : When) (s : State) : Out :=
  let s := s.advance w
  .next (if s.good .ref && s.pms.restart.isNone && s.pairRole == prFENCED then s.becomePartner else s)

/-- PMS_PAIRJOIN (R334). The peer's SITE and REV, whether every station is reachable from both members, whether every
frame keeps to 69 ms, and whether the peer is already ACTIVE are facts of the installation. -/
def State.cmdPairjoin (s : State) (who : Who) (site rev : Word) (reachable framesOk peerActive : Bool) : State :=
  let same := s.armed && s.rd Reg.MOD_MAN_REV == rev
    && (match s.armedSlot with | some n => n2w (s.manSite n) == site | none => false)
  s.pmsCommand who 4 0
    (fun s => same && !(s.rd Reg.PMS_PAIR_PEER == 0) && !(s.rd Reg.PMS_PAIR_WIT == 0) && reachable && framesOk) fun s =>
    if !s.paired then
      let s := s.setPair { s.pms.pair with peerRev := rev, confNs := s.ns, confNo := s.pms.pair.leaseNo, sent := [] }
      (if peerActive then s.becomePartner else s.setRole prACTIVE).clearNocover [3]
    else s

def execPmsPairjoin (w : When) (who : Who) (site rev : Word) (reachable framesOk peerActive : Bool) (s : State) : Out :=
  .next ((s.advance w).cmdPairjoin who site rev reachable framesOk peerActive)

/-- PMS_PAIRLEAVE: a swap that runs is off. -/
def State.cmdPairleave (s : State) (who : Who) : State :=
  s.pmsCommand who 5 0 (fun _ => true) fun s =>
    let s := match s.pms.change, s.pairRole == prPARTNER with
      | some c, true => s.abandonHandover c (if s.laneState c.incoming == lsTRACKING then 2 else 1)
      | _, _ => if s.pms.pair.swap then s.setFld F.PMS_STATUS_PHASE 0 else s
    ((s.setPair { s.pms.pair with swap := false, asksBlock := false }).unpaired).clearNocover [3]

def execPmsPairleave (w : When) (who : Who) (s : State) : Out := .next ((s.advance w).cmdPairleave who)

/-- PMS_PAIRSWAP (R341): the partner boots and tracks; the handover takes place at a base release. -/
def State.cmdPairswap (s : State) (who : Who) : State :=
  let stale := match s.pms.pair.lagNs with | some t => decide (t + 1000000000 ≤ s.ns) | none => false
  s.pmsCommand who 6 0 (fun s => s.pairRole == prACTIVE && s.recent s.pms.pair.witNs && s.recent s.pms.pair.peerNs
      && !stale && s.pms.change.isNone && s.laneUp) fun s =>
    (s.setPair { s.pms.pair with swap := true, peerReady := false }).setFld F.PMS_STATUS_PHASE 3

def execPmsPairswap (w : When) (who : Who) (s : State) : Out := .next ((s.advance w).cmdPairswap who)

/-- What the partner needs to run a cycle again. -/
def Task.toRerun (t : Nat) (k : Task) : Rerun :=
  ⟨t, k.rel, k.skip, if k.phase == .running then some (k.again.getD k.disp) else none,
    (k.ev.map fun e => e.lost).getD 0, (k.ev.map fun e => e.value).getD 0⟩

/-- The old ACTIVE module's side of a pair swap: cycles are abandoned as at STOP and handed over, the frank is withdrawn,
and the module becomes PARTNER. -/
def State.swapOut (s : State) : State :=
  let s := s.finishCommits
  let again := s.rerun.map fun e => Task.toRerun e.1 e.2
  let s := s.abandonCycles.becomePartner
  s.setPair { s.pms.pair with again := some again }

/-- A handed-over cycle as the task of this module that runs it again. -/
def State.fromRerun (s : State) (r : Rerun) : Nat × Task :=
  let k := s.task r.task
  let ev := if r.task < 32 then none
    else some ⟨match s.taskRec r.task with | some x => tkSource x | none => 0, r.skip, r.lost, r.relpm, r.value⟩
  (r.task, { k with
    phase := if r.first.isSome then .running else .ready, rel := r.relpm, relNs := s.ns, seqNo := s.prog.relCount, skip := r.skip
    ev := ev, again := r.first })

/-- The partner's side: the block granted, a new frank, every task from its streamed checkpoint, and the cycles handed over
(R329, R330, R341). -/
def State.swapIn (s : State) (c : Change) (block : Nat) (again : List Rerun) : State :=
  let s := s.becomeActive block
  match s.issueFrank c.incoming 4 with
  | (s, false) => (s.setLaneState c.incoming lsBOOTING).setPms { s.pms with change := some { c with ready := true } }
  | (s, true) =>
    let s := (s.newLaneRegs.laneActive c.incoming).resumeTasks
    let s := ((s.putRerun (again.map s.fromRerun)).oldTasks.govStarted).applyPulses
    let n := (again.filter fun r => r.first.isSome).length
    let s := (s.inc F.PMS_TOCNT_HANDOVERS).record 0x7003 ([c.oldFrank, s.rd Reg.PMS_FRANK] ++ words64 s.pmNow ++ [n2w n])
    ((s.setPms { s.pms with change := none, pair := { s.pms.pair with again := none } }).testAfter c).setFld F.PMS_STATUS_PHASE 0

/-- HANDOVER_SWITCH: the first base release after TRACKING, or that of a pair swap: the ACTIVE module stops at it when the
partner tracks and holds its grant, and the partner takes the handed-over cycles up. -/
def execHandoverSwitch (w : When) (s : State) : Out :=
  let s := s.advance w
  .next (if s.pms.restart.isSome || s.pwr.pfail then s
    else match s.swapLane?, s.pms.pair.grant, s.pms.pair.again with
    | some c, some b, some again => s.swapIn c b again
    | _, _, _ =>
      if !s.laneUp || !s.handoverDue then s
      else match s.pms.change with
      | some c => if s.laneState c.incoming == lsTRACKING then s.handover c else s
      | none => if s.pms.pair.swap && s.pms.pair.peerReady then s.swapOut else s)

/-! ## Postmaster restart (R332, R333) -/

/-- POSTMASTER_RESTART: cause 1 lockstep, 2 watchdog, 3 update. Image verification and attestation are abandoned, a delta
apply resumes (R528, R600). -/
def State.pmRestart (s : State) (cause : Nat) : State :=
  let s := (s.setFld F.PMS_PMRST_CAUSE cause).inc F.PMS_PMRST_COUNT
  let s := s.setPms { s.pms with restart := some (cause, s.ns) }
  match s.ctr.long with
  | some o => (match o.work with 
      | .imgVerify _ _ => s.cutLong false
      | .attest _ => (s.undoLong o.work).cutLong false
      | .delta _ _ => s.cutDelta.cutLong s.img.delta.isSome
      | _ => s)
  | none => s

def execPostmasterRestart (w : When) (cause : Nat) (s : State) : Out :=
  let s := s.advance w
  .next (if s.good .ref && s.pms.restart.isNone && !s.pwr.pfail && decide (1 ≤ cause ∧ cause ≤ 3) then s.pmRestart cause
    else s)

/-- Whether the current-frank registers hold the persisted frank. -/
def State.frankAgrees (s : State) : Bool :=
  let f := s.rd Reg.PMS_FRANK
  let e := match s.pms.epoch.use? with | some (_, e) => e | none => 0
  f.toNat / 256 == e && (!(s.good .net) || s.pms.frMux == f) && (!(s.good .cle) || s.pms.frCle == f)
    && (!(s.good .mtr) || s.pms.frPulse == f)

/-- The Postmaster runs again: 16#7006, the frank check, the latch; a takeover that it was in begins again from
detection (R33). An online change that waited for it while the program stands in STOP or HOLD switches now (R32, R194). -/
def State.pmRestarted (s : State) (cause since : Nat) : State :=
  let latch := s.pms.latch
  let s := s.setPms { s.pms with restart := none, latch := [] }
  let s := s.record 0x7006
    [n2w cause, n2w ((s.ns - since) / 1000), Config.snapNum 0x7006 (latch.foldl (fun n e => n * 16 + e.1 * 8 + e.2.1) 0)]
  let s := if s.laneUp && s.flag F.PMS_STATUS_HOLDER && !s.frankAgrees then ((s.issueFrank s.lane 5).1).applyPulses else s
  let s := latch.foldl (fun s e => s.judge e.1 e.2.1 e.2.2.1 e.2.2.2) s
  let s := match s.pms.change with
    | some c =>
      if s.fld F.PMS_STATUS_PHASE == 1 && !(c.incoming == 0) && s.laneState c.incoming == lsBOOTING then
        s.setPms { s.pms with change := some { c with ready := false } }
      else s
    | none => s
  if s.laneUp then s.ocIdleSwitch else s

end Sys2Proof.Machine
end

