-- ==== Sys2Proof/Machine/Cycle.lean ====
section
/-! DEFINITION. The postmark cycle boundary for the whole module (R49 to R52, R220, R268, R271, R297). -/

namespace Sys2Proof.Machine

/-- What happens at a boundary: the clock first, then the control engine's checks, the governor section that waits for
the boundary, metering, and the staging assist. -/
def State.boundary (s : State) : State :=
  (s.cycleBoundary.cleCycle (s.rd Reg.PMK_FREQ).toNat).lateSecs.mtrBoundary.stagingAdd

/-- CLOCK_CYCLE_BOUNDARY. -/
def execClockCycleBoundary (w : When) (s : State) : Out :=
  let s := s.advance w
  .next (if s.good .mtr then s.boundary else s)

end Sys2Proof.Machine
end

