-- ==== Sys2Proof/Machine/Recorder.lean ====
section
/-! DEFINITION. The recorder engine's ring (R557, R562 to R566): how a record is laid out and written, and how the
sequence is resumed. -/

namespace Sys2Proof.Machine

/-- Slots of the ring and its offset in the array (R565). -/
def ringSlots : Nat := 2097152
def ringBase : Nat := 0x40000000

/-- The first 124 bytes of a record (R557). -/
def EvRec.body (r : EvRec) : List Byte :=
  leBytes 4 (r.seq.getD 0) ++ leBytes 2 r.code ++ leBytes 1 r.flags ++ leBytes 1 r.snap.length ++ leBytes 8 r.pm.toNat
    ++ leBytes 4 r.sec ++ leBytes 2 r.subsec ++ leBytes 1 r.role ++ leBytes 1 r.ph ++ leBytes 2 r.suppr
    ++ leBytes 2 r.session ++ leBytes 4 r.frank.toNat
    ++ ((List.range 16).flatMap fun i => leBytes 4 (r.snap.getD i 0).toNat)
    ++ leBytes 4 r.drops ++ leBytes 24 0

/-- A record in its 128 bytes: its CRC-32C stands over the bytes before it. -/
def EvRec.bytes (r : EvRec) : List Byte := r.body ++ leBytes 4 (crc32c r.body)

/-- One record becomes durable in the ring (R565): EVR_NEWEST, EVR_OLDEST and WRAPPED follow, and every 4,096 records
the engine saves its next SEQ (R566). -/
def State.ringPut (s : State) (r : EvRec) : State :=
  match r.seq with
  | none => s
  | some q =>
    let s := (s.pmPut (ringBase + 128 * (q % ringSlots)) r.bytes).trunk 7 0 128
    let wr := s.evr.wrapped || decide (ringSlots ≤ q)
    let s : State := { s with evr := { s.evr with
        newest := q
        wrapped := wr
        oldest := if wr then (q + 2 ^ 32 - (ringSlots - 1)) % 2 ^ 32 else 0 } }
    if (q + 1) % 4096 == 0 then s.persist 7 1 8 (.evrNext ((q + 1) % 2 ^ 32)) else s

/-- Puts a record before those of the same postmark with a higher code; the list has the newest first. -/
def insertCode (r : EvRec) : List EvRec → List EvRec
  | [] => [r]
  | x :: t => if x.pm == r.pm && decide (r.code < x.code) then x :: insertCode r t else r :: x :: t

/-- The buffer in the order of acceptance: events of one postmark in the order of their codes (R562). What belongs to a place
in that order stays there: the SEQ, DROPGAP and DROPS (log 43). -/
def acceptOrder (l : List EvRec) : List EvRec :=
  (l.zip (l.foldl (fun acc r => insertCode r acc) []).reverse).map fun e =>
    { e.2 with seq := e.1.seq, flags := putBit e.2.flags 3 (e.1.flags / 8 % 2 == 1), drops := e.1.drops }

/-- The buffer is written to the ring in SEQ order, as far as its records have one, and empties; when it has dropped
events and holds fewer than 512 entries, 16#0202 tells how many and when (R563). -/
def State.ringDrain (s : State) : State :=
  let s := (acceptOrder s.evr.buf).foldl (fun s r => s.ringPut r) s
  let s : State := { s with evr := { s.evr with buf := s.evr.buf.filter fun r => r.seq.isNone } }
  if s.evr.dropping && decide (s.evr.buf.length < 512) then
    let e := s.evr
    let s : State := { s with evr := { e with dropping := false, dropCount := 0 } }
    s.record 0x0202 ([n2w e.dropCount] ++ words64 e.dropFirst ++ words64 e.dropLast)
  else s

/-- RECORDER_RING_WRITE: the engine writes what its buffer holds; below IDLE it buffers (R596). -/
def execRecorderRingWrite (w : When) (s : State) : Out :=
  let s := s.advance w
  .next (if s.evr.run && s.good .pmm && !s.pwr.pfail && decide (s.fld F.PWR_STATUS_RUNG ≤ 1) then s.ringDrain else s)

/-! ## Resuming the sequence (R566) -/

/-- The SEQ of the record in a slot of the ring, when its CRC is correct (R567) and all of it can be read (R396). -/
def PMem.ringSeq (m : PMem) (slot : Nat) : Option Nat :=
  let bs := m.bytes (ringBase + 128 * slot) 128
  if !(m.anyBad (ringBase + 128 * slot) 128) && leNat (bs.drop 124) == crc32c (bs.take 124) then some (leNat (bs.take 4)) else none

/-- SEQ order in serial-number arithmetic: whether `a` is greater than `b`. -/
def seqGreater (a b : Nat) : Bool :=
  let d := (a + 2 ^ 32 - b % 2 ^ 32) % 2 ^ 32
  decide (1 ≤ d) && decide (d < 2 ^ 31)

/-- The records that continue the sequence from `q` on, at most `n` slots forward: how many there are. -/
def PMem.ringScan (m : PMem) : Nat → Nat → Nat
  | 0, _ => 0
  | n + 1, q => if m.ringSeq (q % ringSlots) == some q then 1 + m.ringScan n ((q + 1) % 2 ^ 32) else 0

/-- The slots of the ring of which a byte was ever written: every other slot reads 16#00 and holds no valid record. -/
def PMem.ringUsed (m : PMem) : List Nat :=
  (m.home.filterMap fun c =>
    if ringBase ≤ c.1 ∧ c.1 < ringBase + 128 * ringSlots then some ((c.1 - ringBase) / 128) else none).dedup

/-- The greatest SEQ among the valid records, and their number. -/
def PMem.ringBest (m : PMem) : Option Nat × Nat :=
  (m.ringUsed.filterMap m.ringSeq).foldl (fun acc q =>
    (match acc.1 with
     | none => some q
     | some b => if seqGreater q b then some q else some b, acc.2 + 1)) (none, 0)

/-- The next SEQ and the records found: from the saved value, or from the whole ring when neither slot of it is
valid. -/
def State.ringFind (s : State) : Nat × Nat :=
  match s.evr.saved.use? with
  | some (_, q) => let n := s.pm.ringScan 4096 q; ((q + n) % 2 ^ 32, n)
  | none => match s.pm.ringBest with
    | (some q, n) => ((q + 1) % 2 ^ 32, n)
    | (none, _) => (0, 0)

/-- Gives the records that waited their SEQ, in acceptance order. -/
def numberFrom (q : Nat) : List EvRec → List EvRec
  | [] => []
  | r :: t => { r with seq := some (q % 2 ^ 32) } :: numberFrom (q + 1) t

/-- The sequence is resumed (R566), once after each start of REF and when PMM reports good. The ring has been overwritten
when the slot that is written next holds the record one ring before (log 43). -/
def State.ringResume (s : State) : State :=
  let q := s.ringFind
  let e := s.evr
  let newest := (q.1 + 2 ^ 32 - 1) % 2 ^ 32
  let wr := s.pm.ringSeq (q.1 % ringSlots) == some ((q.1 + 2 ^ 32 - ringSlots) % 2 ^ 32)
  let s : State := { s with evr := { e with
    buf := numberFrom q.1 e.buf
    next := (q.1 + e.buf.length) % 2 ^ 32
    resumed := true, run := true
    newest := newest
    wrapped := wr
    oldest := if wr then (newest + 2 ^ 32 - (ringSlots - 1)) % 2 ^ 32 else 0 } }
  (s.resolveTwin e.saved).record 0x0201 [n2w q.1, n2w q.2]

/-- RECORDER_RESUME. -/
def execRecorderResume (w : When) (s : State) : Out :=
  let s := s.advance w
  .next (if s.good .pmm && !s.evr.resumed then s.ringResume else s)

end Sys2Proof.Machine
end

