-- ==== Sys2Proof/Machine/Sessions.lean ====
section
/-! DEFINITION. The sessions of the Counter, which several units close (R478 to R482). -/

namespace Sys2Proof.Machine

/-- The table entry of a session. -/
def State.sessOf (s : State) (num : Nat) : Option (Nat × Session) := s.ctr.sessions.find? fun e => e.2.num == num

/-- A session ends; the load window that it wrote is zeroed (R501). -/
def State.dropSession (s : State) (entry num : Nat) : State :=
  let s := s.setCtr { s.ctr with sessions := s.ctr.sessions.del entry }
  if s.keys.winBy == num then { s with keys := { s.keys with win := [], winBy := 0 } } else s

/-- A session closed by any cause except CLOSE: 16#E003 (R481). -/
def State.closeSession (s : State) (entry cause : Nat) : State :=
  match s.ctr.sessions.get? entry with
  | none => s
  | some x => (s.dropSession entry x.num).record 0xE003 [n2w x.num, n2w cause] x.role.num x.ph x.num

/-- Every session of the table. -/
def State.closeAll (s : State) (cause : Nat) : State :=
  (List.range 8).foldl (fun s k => s.closeSession k cause) s

end Sys2Proof.Machine
end

