-- ==== Sys2Proof/Machine/Keys.lean ====
section
/-! DEFINITION. Keys, life cycle and tamper (chapter 18). -/

namespace Sys2Proof.Machine

def State.setKeys (s : State) (k : Keys) : State := { s with keys := k }

/-- States of a key slot. -/
def ksEMPTY : Nat := 0
def ksVALID : Nat := 1
def ksLOST : Nat := 2
def ksCORRUPT : Nat := 3

def State.keyState (s : State) (n : Nat) : Nat := s.fld (F.KEY_SLOT0_STATE n)
def State.keyKind (s : State) (n : Nat) : Nat := s.fld (F.KEY_SLOT0_KIND n)
def State.rootOk (s : State) : Bool := s.flag F.KEY_STATUS_ROOTOK

/-- A slot becomes EMPTY: its words and stored bytes are zeroed (R502). -/
def State.emptyKey (s : State) (n : Nat) : State :=
  let s := ((s.wr (Reg.KEY_SLOT0 n) 0).wr (Reg.KEY_SLOT1 n) 0).wr (Reg.KEY_SLOT2 n) 0
  (s.wr (Reg.KEY_SLOT3 n) 0).setKeys { s.keys with store := s.keys.store.del n }

/-- Every slot of a secret kind reads LOST (R497, R510). -/
def State.loseKeys (s : State) : State :=
  (List.range 32).foldl (fun s n => if secretKind (s.keyKind n) then s.setFld (F.KEY_SLOT0_STATE n) ksLOST else s) s

/-- The words of slots go into the wrapped key store as one Registry atomic group, which is durable before the key unit goes
on (R379, R500, R502). -/
def State.saveKeys (s : State) (ns : List Nat) (bytes : Nat) : State :=
  let ws := ns.flatMap fun n => [Reg.KEY_SLOT0 n, Reg.KEY_SLOT1 n, Reg.KEY_SLOT2 n, Reg.KEY_SLOT3 n].map fun a => (a, s.rd a)
  s.persistNow 0 (2 * ns.length) bytes (.counters ws) 2

/-- A new root is drawn from the random source. A tamper source that is still active zeroes it at once (R512; log 44). -/
def State.drawRoot (s : State) : State :=
  let r := (List.range 8).map fun i => Config.randomWord (s.ctr.draws + i)
  let s := s.setCtr { s.ctr with draws := s.ctr.draws + 8 }
  let kept := s.keys.active.isEmpty
  (s.setKeys { s.keys with root := if kept then some r else none }).setFlag F.KEY_STATUS_ROOTOK kept

/-! ## Writing and erasing (R500 to R502) -/

/-- KEY_CTRL as a command with its fields. -/
def keyWord (cmd slot zmask : Nat) : Word := n2w (cmd + slot * 256 + zmask * 65536)

/-- The RESULT that refuses a key write (R501), or OK. The attributes stand in KEY_LOADATTR0 to 2. -/
def State.keyWriteCode (s : State) (slot : Nat) : Nat :=
  let a := s.rd (Reg.KEY_LOADATTR 0)
  let kind := a.bits 7 4
  let masters := a.bits 12 8
  let lc := s.fld F.KEY_STATUS_LC
  if lc == 0 || lc == 4 || (secretKind kind && !s.rootOk) then ansBADSTATE
  else if kind == 0 || decide (7 < kind) || a.bits 18 16 == 0 then ansBADSTATE
  else if (decide (kind ∈ [1, 3, 4, 5, 6]) && !(Nat.land masters 0x1B == 0)) || (kind == 2 && !(Nat.land masters 0x0B == 0))
  then ansBADSTATE
  else if (decide (slot < 2) && !(kind == 1)) || (slot == 2 && !(kind == 2)) then ansBADSTATE
  else ansOK

/-- The bytes of a key by its kind (R498). -/
def keyBytes (kind : Nat) : Nat := if decide (kind ∈ [3, 4, 5]) then 48 else if kind == 6 then 96 else 32

/-- The end of a key write: the slot takes its attributes and key, 16#B003; the load window is zeroed in every case. -/
def State.endKeyWrite (s : State) (slot code role session : Nat) : State :=
  let a := s.rd (Reg.KEY_LOADATTR 0)
  let s :=
    if code == ansOK then
      let kind := a.bits 7 4
      let s0 := s.wr (Reg.KEY_SLOT0 slot) ((a &&& 0x00071FF0) ||| 1)
      let s1 := (s0.wr (Reg.KEY_SLOT1 slot) (s.rd (Reg.KEY_LOADATTR 1))).wr (Reg.KEY_SLOT2 slot) (s.rd (Reg.KEY_LOADATTR 2))
      let s2 := s1.wr (Reg.KEY_SLOT3 slot) (n2w s.rtcSec)
      let ws := (List.range (keyBytes kind / 4)).map fun i => s.keys.win.getD i 0
      let s3 := s2.setKeys { s.keys with store := s.keys.store.put slot ws }
      (s3.saveKeys [slot] (keyBytes kind)).record 0xB003
        [n2w slot, n2w kind, n2w (a.bits 12 8), n2w (a.bits 18 16), n2w role, n2w session] role 0 session
    else s
  s.setKeys { s.keys with win := [], winBy := 0 }

/-- A write of the load window (R500): the clear key is held in REF. -/
def State.loadWin (s : State) (who : Who) (i : Nat) (v : Word) : State :=
  let w := (List.range 24).map fun j => if j == i then v else s.keys.win.getD j 0
  s.setKeys { s.keys with win := w, winNs := s.ns, winBy := who.session }

/-- KEY_LOADWIN_TIMEOUT: 10 s after the last write (R501). -/
def execKeyLoadwinTimeout (w : When) (s : State) : Out :=
  let s := s.advance w
  .next (if s.keys.winNs + 10000000000 ≤ s.ns then s.setKeys { s.keys with win := [], winBy := 0 } else s)

/-- The statement that an attestation signs (R515). -/
def State.statement (s : State) (slot : Nat) : List Byte :=
  let w (a : Nat) : List Byte := leBytes 4 (s.rd a).toNat
  let hash (slot t : Nat) : List Byte := (s.img.lane.getD slot [], s.img.pm.getD slot []) |> fun p =>
    let h := if t == 1 then p.1 else p.2
    if h.length == 32 then h else s.hashOfComp slot t
  leBytes 4 0x54415453 ++ leBytes 2 1 ++ leBytes 1 (s.fld F.KEY_STATUS_LC) ++ leBytes 1 slot ++ w Reg.MOD_ID ++ w Reg.MOD_HWREV
    ++ leBytes 8 s.pmNow.toNat ++ leBytes 4 s.rtcSec ++ w Reg.PMS_FRANK ++ w Reg.MOD_MAN_REV
    ++ leBytes 4 (s.fld F.KEY_TAMPER_TCOUNT) ++ leBytes 8 0
    ++ ((List.range 8).flatMap fun i => w (Reg.KEY_NONCE i))
    ++ (match s.armedSlot with | some n => s.manBytes n 0x30 32 | none => leBytes 32 0)
    ++ hash (s.fld F.MOD_IMG_USE_LANE) 1 ++ hash (s.fld F.MOD_IMG_USE_PM) 2

/-- The end of an attestation: statement and signature appear together; 16#B006. -/
def State.endAttest (s : State) (slot : Nat) : State :=
  let sig := Config.sign s.keys.stmt (s.keyWords slot)
  let s := s.setKeys { s.keys with attbuf := s.keys.stmt ++ sig, stmt := [] }
  s.record 0xB006 [n2w slot, s.rd (Reg.KEY_NONCE 0), s.rd (Reg.KEY_NONCE 1)]

/-! ## Persistent zeroing (R513) -/

/-- Whether a zeroing covers an offset: the regions of ZMASK, or for RETIRE the whole array but the system records. -/
def zeroes (mask : Nat) (retire : Bool) (o : Nat) : Bool :=
  match regionOf o with
  | .system => false
  | .user => retire || mask % 2 == 1
  | .ring => retire || mask / 2 % 2 == 1
  | .ckpt => retire || mask / 4 % 2 == 1
  | .repl => retire || mask / 4 % 2 == 1
  | _ => retire

/-- A journal entry without the cells that a zeroing covers. -/
def Payload.without (hit : Nat → Bool) : Payload → Payload
  | .bytes cs => .bytes (cs.filter fun c => !(hit c.1))
  | p => p

/-- The array after a zeroing; with RETIRE also what the model keeps of the zeroed regions as records. -/
def State.zeroArray (s : State) (mask : Nat) (retire : Bool) : State :=
  let hit := zeroes mask retire
  let s : State := { s with pm := { s.pm with
    home := s.pm.home.filter fun c => !(hit c.1)
    journal := if retire then [] else s.pm.journal.map fun (e : JEntry) => { e with load := e.load.without hit }
    waiting := if retire then [] else s.pm.waiting.map fun (g : Waiting) => { g with load := g.load.without hit }
    bad := s.pm.bad.filter fun o => !(hit o)
    energy := if retire then [] else s.pm.energy
    mirror := if retire then [] else s.pm.mirror } }
  let ck := retire || mask / 4 % 2 == 1
  let s : State := if ck then
      { s with
        prog := { s.prog with
          tasks := s.prog.tasks.map fun (e : Nat × Task) => (e.1, { e.2 with ck := .empty })
          fw := .empty }
        pms := { s.pms with pair := { s.pms.pair with repl := [] } } }
    else s
  let s : State := if retire || mask / 2 % 2 == 1 then
      { s with evr := { s.evr with newest := 0xFFFFFFFF, oldest := 0, wrapped := false } }
    else s
  if retire then
    let s : State := { s with saf := { s.saf with stored := [], confirmed := .empty, latch := .empty } }
    (List.range 32).foldl (fun s n => s.emptyKey n) s
  else s

/-- The end of a zeroing: 16#B008. -/
def State.endZero (s : State) (mask : Nat) (retire : Bool) : State :=
  let ms := match s.ctr.long with | some o => (s.ns - o.startNs) / 1000000 | none => 0
  let s := (s.zeroArray mask retire).setKeys { s.keys with zero := none }
  (if retire then s.setKeys { s.keys with store := [], zero := none } else s).record 0xB008 [n2w mask, n2w ms]

/-- ZEROIZE_RESUME: a zeroing that a reset ended goes on at the next power-up (R486, R513). -/
def execZeroizeResume (w : When) (s : State) : Out :=
  let s := s.advance w
  .next (match s.keys.zero with
    | some (m, r) => if s.good .pmm && s.ctr.long.isNone then s.resumeLong 5 (.zero m r) else s
    | none => s)

/-! ## KEY_CTRL -/

/-- A command of the key unit (R500 to R515), after the checks of R488. -/
def State.keyAct (s : State) (who : Who) (v : Word) : State :=
  let cmd := v.bits 3 0
  let slot := v.bits 12 8
  let mask := v.bits 18 16
  if cmd == 0 then s.answer ansOK
  else if 5 < cmd then s.answer ansBADSTATE
  else if !(who.role == .maker) && !(cmd == 3 && who.role == .installer) then s.answer ansDENIED
  else if cmd == 1 then s.startLong 4 who (.keyWrite slot (s.keyWriteCode slot))
  else if cmd == 2 then
    if s.fld F.KEY_STATUS_LC == 0 || s.fld F.KEY_STATUS_LC == 4 then s.answer ansBADSTATE
    else ((s.emptyKey slot).saveKeys [slot] 104).answer ansOK
  else if cmd == 3 then
    if s.keyUsable slot 6 2 0 then
      (s.setKeys { s.keys with stmt := s.statement slot, attbuf := [] }).startLong 3 who (.attest slot)
    else s.answer ansBADSTATE
  else if cmd == 4 then
    let lc := s.fld F.KEY_STATUS_LC
    if !(s.keys.active.isEmpty) || lc == 0 || lc == 4 || s.rootOk then s.answer ansBADSTATE
    else
      let gone := (List.range 32).filter fun n => s.keyState n == ksLOST || s.keyState n == ksCORRUPT
      let s := (gone.foldl (fun s n => s.emptyKey n) s.drawRoot).saveKeys gone (104 * gone.length)
      (s.record 0xB007 [n2w (gone.foldl (fun m n => m + 2 ^ n) 0)]).answer ansOK
  else
    if mask / 4 % 2 == 1 && !(s.mode == modeSTOP) then s.answer ansBADSTATE
    else (s.setKeys { s.keys with zero := some (mask, false) }).startLong 5 who (.zero mask false)

/-- A write of KEY_CTRL by `who`. -/
def State.keyCommand (s : State) (who : Who) (v : Word) : State :=
  match s.refuse who Reg.KEY_CTRL v with
  | some c => s.answer c
  | none => s.keyAct who v

def execKeyWriteCmd (w : When) (who : Who) (slot : Nat) (s : State) : Out := .next ((s.advance w).keyCommand who (keyWord 1 (slot % 32) 0))
def execKeyErase (w : When) (who : Who) (slot : Nat) (s : State) : Out := .next ((s.advance w).keyCommand who (keyWord 2 (slot % 32) 0))
def execKeyAttest (w : When) (who : Who) (slot : Nat) (s : State) : Out := .next ((s.advance w).keyCommand who (keyWord 3 (slot % 32) 0))
def execKeyRekey (w : When) (who : Who) (s : State) : Out := .next ((s.advance w).keyCommand who (keyWord 4 0 0))
def execKeyZeroize (w : When) (who : Who) (zmask : Nat) (s : State) : Out :=
  .next ((s.advance w).keyCommand who (keyWord 5 0 (zmask % 8)))

/-! ## Life cycle (R505 to R508) -/

/-- A change of the life-cycle state: 16#B005. -/
def State.setLc (s : State) (n role session : Nat) : State :=
  let old := s.fld F.KEY_STATUS_LC
  (s.setFld F.KEY_STATUS_LC n).record 0xB005 [n2w old, n2w n, n2w role, n2w session] role 0 session

/-- SERVICE ends: points forced while the program runs lose FORCED at their next round (R598). -/
def State.endService (s : State) (role session : Nat) : State :=
  let forced := (s.recs 7).filterMap fun r =>
    let p := Rec.u32 r 0
    if qGet (s.point p).qual qFORCED then some p else none
  let s := s.setKeys { s.keys with svcEnd := none, unforce := if s.mode == modeRUN then forced else s.keys.unforce }
  s.setLc 2 role session

/-- Hours of SERVICE: 0 acts as 8 (R508). -/
def State.svcHours (s : State) : Nat := let h := s.fld F.KEY_LCCTRL_SVCHOURS; if h == 0 then 8 else h

/-- RETIRE: the fuse, the root, and the domains that a retired module keeps off; then the zeroing (R506, R507). -/
def State.retire (s : State) (who : Who) : State :=
  let s := s.setLc 4 who.role.num who.session
  let s := (s.setKeys { s.keys with root := none, svcEnd := none, zero := some (7, true) }).setFld F.KEY_STATUS_ROOTOK 0
  let s := s.lanesOff
  let s := [8, 7, 6, 5, 4].foldl (fun s n => s.setDom n .off 6) s
  s.startLong 5 who (.zero 7 true)

/-- KEY_LCCTRL (R506): SVCHOURS is stored by every write that is executed, before its command acts. -/
def State.lcWrite (s : State) (who : Who) (v : Word) : State :=
  let cmd := v.bits 2 0
  let lc := s.fld F.KEY_STATUS_LC
  let ok : Bool := cmd == 0
    || (cmd == 1 && (lc == 0 || (lc == 1 && s.keyState 0 == ksVALID && s.keyState 1 == ksVALID)))
    || (cmd == 2 && lc == 2) || (cmd == 3 && lc == 3)
    || (cmd == 4 && decide (1 ≤ lc ∧ lc ≤ 3) && s.mode == modeSTOP)
  match s.refuse who Reg.KEY_LCCTRL v with
  | some c => s.answer c
  | none =>
    if (cmd == 1 || cmd == 4) && !(who.role == .maker) then s.answer ansDENIED
    else if !ok then s.answer ansBADSTATE
    else
      let s := s.setFld F.KEY_LCCTRL_SVCHOURS (v.bits 15 8)
      if cmd == 0 then s.answer ansOK
      else if cmd == 1 then
        if lc == 0 then
          let s := ((List.range 32).foldl (fun s n => s.emptyKey n) s.drawRoot).saveKeys (List.range 32) 3328
          (s.setLc 1 who.role.num who.session).answer ansOK
        else (s.setLc 2 who.role.num who.session).answer ansOK
      else if cmd == 2 then
        ((s.setKeys { s.keys with svcEnd := some (s.ns + s.svcHours * 3600000000000) }).setLc 3 who.role.num who.session).answer
          ansOK
      else if cmd == 3 then (s.endService who.role.num who.session).answer ansOK
      else s.retire who

/-- A life-cycle command that leaves SVCHOURS as it is. -/
def State.lcCommand (s : State) (who : Who) (cmd : Nat) : State :=
  s.lcWrite who (n2w (s.fld F.KEY_LCCTRL_SVCHOURS * 256 + cmd))

def execLcAdvance (w : When) (who : Who) (s : State) : Out := .next ((s.advance w).lcCommand who 1)
def execLcService (w : When) (who : Who) (s : State) : Out := .next ((s.advance w).lcCommand who 2)
def execLcField (w : When) (who : Who) (s : State) : Out := .next ((s.advance w).lcCommand who 3)
def execLcRetire (w : When) (who : Who) (s : State) : Out := .next ((s.advance w).lcCommand who 4)

/-- SERVICE_TIMER_EXPIRY (R508): the flag is held and timed in BAK. -/
def execServiceTimerExpiry (w : When) (s : State) : Out :=
  let s := s.advance w
  .next (match s.keys.svcEnd with
    | some t => if t ≤ s.ns && s.fld F.KEY_STATUS_LC == 3 then s.endService 0xFF 0 else s
    | none => s)

/-! ## Tamper (R509, R510, R512) -/

/-- The number of a source (R509). -/
def Tamper.bit : Tamper → Nat
  | .lid => 0 | .mesh => 1 | .loopA => 2 | .loopB => 3 | .temp => 4 | .vbak => 5 | .clock => 6

/-- Whether a source is watched: the loops only while they are enabled. -/
def State.watched (s : State) (t : Tamper) : Bool :=
  match t with
  | .loopA => s.flag F.KEY_TAMPCFG_LOOPAEN
  | .loopB => s.flag F.KEY_TAMPCFG_LOOPBEN
  | _ => true

/-- Steps 1 and 2: BAK zeroes the root and writes the log entry, whether or not REF runs. -/
def State.tamperLog (s : State) (bits : Nat) : State :=
  let i := s.keys.tlog % 16
  let s := s.setKeys { s.keys with root := none, tlog := s.keys.tlog + 1 }
  let s := s.setFld F.KEY_TAMPER_TCOUNT (min 65535 s.keys.tlog)
  let s := s.setFld F.KEY_TAMPER_SRC (Nat.lor (s.fld F.KEY_TAMPER_SRC) bits)
  let s := s.wr (Reg.KEY_TLOG0 i) (n2w s.rtcSec)
  s.wr (Reg.KEY_TLOG1 i) (n2w (min 65535 s.keys.tlog * 65536 + 32768 + s.fld F.KEY_STATUS_LC * 256 + bits))

/-- Steps 3 to 7, in REF, and the attestation buffer (R515). -/
def State.tamperRef (s : State) (bits : Nat) : State :=
  let s := s.setKeys { s.keys with win := [], winBy := 0, wk := none, wait := [], stmt := [], attbuf := [], pend := 0 }
  let s := (s.setFld F.KEY_STATUS_ROOTOK 0).loseKeys
  let r := s.tamperLong
  let s := r.1.closeAll 4
  s.record 0xB001 [n2w bits, n2w (s.fld F.KEY_STATUS_LC), n2w r.2]

/-- TAMPER_DETECT. -/
def execTamperDetect (w : When) (src : Tamper) (s : State) : Out :=
  let s := s.advance w
  .next (if s.watched src then
      let bits := 2 ^ Tamper.bit src
      let s := s.setKeys { s.keys with active := if s.keys.active.contains src then s.keys.active else src :: s.keys.active }
      let s := s.tamperLog bits
      if s.good .ref then s.tamperRef bits else s.setKeys { s.keys with pend := Nat.lor s.keys.pend bits }
    else s)

/-- TAMPER_SOURCE_CLEARED: a source has returned to normal (R512). -/
def execTamperSourceCleared (w : When) (src : Tamper) (s : State) : Out :=
  let s := s.advance w
  .next (s.setKeys { s.keys with active := s.keys.active.filter fun t => !(t == src) })

/-- The key unit at a start of REF (R497, R510): in MAKER, FIELD and SERVICE the root is checked; a tamper that happened
while REF was off has its steps 3 to 7 now. -/
def State.keyStart (s : State) : State :=
  let lc := s.fld F.KEY_STATUS_LC
  let s := s.setKeys { s.keys with win := [], winBy := 0, wk := none, wait := [], stmt := [], attbuf := [] }
  let s :=
    if decide (1 ≤ lc ∧ lc ≤ 3) then
      if s.keys.root.isSome then s.setFld F.KEY_STATUS_ROOTOK 1
      else ((s.setFld F.KEY_STATUS_ROOTOK 0).loseKeys).record 0xB002 [s.rd Reg.KEY_TAMPER]
    else s
  if s.keys.pend == 0 then s else s.tamperRef s.keys.pend

/-! ## The working key register (R503, R504) -/

/-- The MASTERS bit of a master, and its place in trunk rank order (R403). -/
def Master.bit : Master → Nat
  | .lna => 0 | .lnb => 1 | .ref => 2 | .fab => 3 | .net => 4
def Master.rank : Master → Nat
  | .ref => 0 | .fab => 2 | .lna => 3 | .lnb => 3 | .net => 5

/-- A request that R499 refuses: 16#B004, at most once per second; NOTOWNED to a lane. -/
def State.wkDeny (s : State) (r : WkReq) : State :=
  let s := if (match s.keys.denyNs with | some t => decide (s.ns < t + 1000000000) | none => false) then s
    else (s.setKeys { s.keys with denyNs := some s.ns }).record 0xB004 [n2w r.slot, n2w (Master.bit r.m), n2w r.ph]
  if r.m == .lna || r.m == .lnb then { s with prog := { s.prog with ret := 2, retData := [] } } else s

/-- The register takes a request: a failed unwrap makes the slot CORRUPT (16#B009). -/
def State.wkGrant (s : State) (r : WkReq) : State :=
  if !(s.keyUsable r.slot (s.keyKind r.slot) (Master.bit r.m) r.ph) then s.wkDeny r
  else if r.ok || !(secretKind (s.keyKind r.slot)) then s.setKeys { s.keys with wk := some r }
  else
    let s := (s.setFld (F.KEY_SLOT0_STATE r.slot) ksCORRUPT).record 0xB009 [n2w r.slot]
    if r.m == .lna || r.m == .lnb then { s with prog := { s.prog with ret := 2, retData := [] } } else s

/-- WORKING_KEY_REQUEST: granted when the register is free, else it waits. -/
def execWorkingKeyRequest (w : When) (m : Master) (slot ph : Nat) (integrityOk : Bool) (s : State) : Out :=
  let s := s.advance w
  let r : WkReq := ⟨m, slot % 32, ph % 64, integrityOk⟩
  .next (if !(s.good .ref) then s
    else if s.keys.wk.isSome then s.setKeys { s.keys with wait := s.keys.wait ++ [r] }
    else s.wkGrant r)

/-- Grants the waiting requests in rank order until the register is held. -/
def State.wkNext : Nat → State → State
  | 0, s => s
  | n + 1, s =>
    match s.keys.wait with
    | [] => s
    | r :: rest =>
      let best := rest.foldl (fun b x => if Master.rank x.m < Master.rank b.m then x else b) r
      let s := (s.setKeys { s.keys with wait := s.keys.wait.erase best }).wkGrant best
      if s.keys.wk.isSome then s else State.wkNext n s

/-- WORKING_KEY_RELEASE: the job ends. -/
def execWorkingKeyRelease (w : When) (s : State) : Out :=
  let s := s.advance w
  .next (match s.keys.wk with
    | some _ => State.wkNext s.keys.wait.length (s.setKeys { s.keys with wk := none })
    | none => s)

/-- The domain of the register's holder stops: it is zeroed (R504). -/
def State.wkStop (s : State) (n : Nat) : State :=
  let dom : Master → Nat | .lna => 7 | .lnb => 8 | .ref => 1 | .fab => 4 | .net => 6
  let s := s.setKeys { s.keys with wait := s.keys.wait.filter fun r => !(dom r.m == n) }
  match s.keys.wk with
  | some r => if dom r.m == n then State.wkNext s.keys.wait.length (s.setKeys { s.keys with wk := none }) else s
  | none => s

end Sys2Proof.Machine
end

