-- ==== Sys2Proof/Machine/Rtc.lean ====
section
/-! DEFINITION. The real-time clock and the backup domain (chapter 20) and the correlation record (R61 to R63). -/

namespace Sys2Proof.Machine

/-! ## The calendar -/

/-- The last second of the calendar (R539). -/
def rtcLast : Nat := secondsOf 2135 12 31 23 59 59

/-- The calendar registers take a time in RTC seconds, with WDAY (R538). -/
def State.setCalendar (s : State) (n : Nat) : State :=
  let d := n / 86400
  let t := n % 86400
  let s := ((s.setFld F.RTC_SEC_SEC (t % 60)).setFld F.RTC_MIN_MIN (t / 60 % 60)).setFld F.RTC_HOUR_HOUR (t / 3600)
  let s := (s.setFld F.RTC_DATE_DATE (dateOf d)).setFld F.RTC_MONTH_MONTH (monthOf d)
  (s.setFld F.RTC_YEAR_YEAR (yearOf d)).setFld F.RTC_WDAY_WDAY (weekday d)

/-- The time that the calendar registers hold. -/
def State.calSec (s : State) : Nat :=
  secondsOf (s.fld F.RTC_YEAR_YEAR) (s.fld F.RTC_MONTH_MONTH) (s.fld F.RTC_DATE_DATE) (s.fld F.RTC_HOUR_HOUR)
    (s.fld F.RTC_MIN_MIN) (s.fld F.RTC_SEC_SEC)

def State.setRtc (s : State) (r : Rtc) : State := { s with rtc := r }

/-- The moment of a 16#100A within the last second keeps a further one back (R545). -/
def State.werr (s : State) (a : Nat) (v : Word) : State :=
  let s := s.setFld F.RTC_STATUS_WERR 1
  let again := match s.rtc.werrNs with | some n => decide (s.ns < n + 1000000000) | none => false
  if again then s else (s.setRtc { s.rtc with werrNs := some s.ns }).record 0x100A [n2w a, v]

/-! ## PWRON (R553) -/

/-- PWRON changes: shown, 16#100B with the cause. -/
def State.setPwron (s : State) (on : Bool) (cause : Nat) : State :=
  if s.flag F.BAK_PWRON_STATE == on then s
  else ((s.setFlag F.BAK_PWRON_STATE on).setFld F.BAK_PWRON_CAUSE cause).record 0x100B [n2w (b2n on), n2w cause]

/-- A write of BAK_PWRON. -/
def State.pwronCmd (s : State) (who : Who) (on : Bool) : State :=
  match s.refuse who Reg.BAK_PWRON (if on then 1 else 2) with
  | some c => s.answer c
  | none => (s.setPwron on 4).answer ansOK

def execPwronAssertCmd (w : When) (who : Who) (s : State) : Out := .next ((s.advance w).pwronCmd who true)
def execPwronDeassertCmd (w : When) (who : Who) (s : State) : Out := .next ((s.advance w).pwronCmd who false)

/-- WAKE_EDGE: a rising edge on WAKE that has held for 1 ms. -/
def execWakeEdge (w : When) (s : State) : Out := .next ((s.advance w).setPwron true 3)

/-! ## Alarms (R547 to R550) -/

/-- Whether a date, as a day number, is one of an alarm's instances (R547). -/
def almDay (kind : Nat) (date : Word) (d : Nat) : Bool :=
  let dd := dateOf d == date.bits 4 0
  let mm := monthOf d == date.bits 19 16
  match kind with
  | 0 => yearOf d == date.bits 31 20 && mm && dd
  | 1 => true
  | 2 => weekday d == date.bits 10 8
  | 3 => dd
  | 4 => mm && dd
  | _ => false

/-- The time of day of an alarm, in seconds. -/
def almTod (time : Word) : Nat := time.bits 20 16 * 3600 + time.bits 13 8 * 60 + time.bits 5 0

/-- The newest instance date d with lo < instance time ≤ hi, searched back over `n` days from day `d`. -/
def almNewest (kind : Nat) (date : Word) (tod lo hi : Nat) : Nat → Nat → Option Nat
  | _, 0 => none
  | d, n + 1 =>
    let t := d * 86400 + tod
    if t ≤ lo then none
    else if t ≤ hi && almDay kind date d then some d
    else if d == 0 then none else almNewest kind date tod lo hi (d - 1) n

/-- An alarm fires for an instance (R548, R550). -/
def State.fireAlarm (s : State) (i d : Nat) (skip : Bool) : State :=
  let s := s.wr (Reg.RTC_ALM_LAST i) (n2w d)
  let s := if s.fld (F.RTC_ALM_CTRL_KIND i) == 0 then s.setFld (F.RTC_ALM_CTRL_EN i) 0 else s
  let s := (s.setFld (if i == 0 then F.RTC_STATUS_AF1 else F.RTC_STATUS_AF2) 1).setFlag
    (if i == 0 then F.RTC_STATUS_SKIP1 else F.RTC_STATUS_SKIP2) skip
  let s := s.record 0x1009 [n2w (i + 1), n2w d, n2w (b2n skip)]
  let s := if s.flag (F.RTC_ALM_CTRL_PWR i) then s.setPwron true (i + 1) else s
  s.fireWhere (fun x _ => x == 112 + i) skip (n2w (b2n skip))

/-- LAST as a signed count of days: the day before day 0 reads -1. -/
def State.almLast (s : State) (i : Nat) : Int := (s.rd (Reg.RTC_ALM_LAST i)).toInt

/-- The alarms for instances in (told, tnew] whose date is later than LAST: each fires once, for the newest. -/
def State.alarms (s : State) (told tnew : Nat) (skip : Bool) : State :=
  if tnew ≤ told then s
  else
    [0, 1].foldl (fun s i =>
      if !(s.flag (F.RTC_ALM_CTRL_EN i)) then s
      else
        match almNewest (s.fld (F.RTC_ALM_CTRL_KIND i)) (s.rd (Reg.RTC_ALM_DATE i)) (almTod (s.rd (Reg.RTC_ALM_TIME i))) told
            tnew (tnew / 86400) (tnew / 86400 + 1) with
        | some d => if s.almLast i < d then s.fireAlarm i d skip else s
        | none => s) s

/-- Whether the fields that an alarm's KIND matches are in range (R538, R550). -/
def State.almRange (s : State) (i kind : Nat) : Bool :=
  let t := s.rd (Reg.RTC_ALM_TIME i)
  let d := s.rd (Reg.RTC_ALM_DATE i)
  let date := decide (1 ≤ d.bits 4 0 ∧ d.bits 4 0 ≤ 31)
  let month := decide (1 ≤ d.bits 19 16 ∧ d.bits 19 16 ≤ 12)
  decide (t.bits 20 16 ≤ 23) && decide (t.bits 13 8 ≤ 59) && decide (t.bits 5 0 ≤ 59) &&
    match kind with
    | 0 => date && month && decide (2000 ≤ d.bits 31 20 ∧ d.bits 31 20 ≤ 2135)
    | 1 => true
    | 2 => decide (1 ≤ d.bits 10 8)
    | 3 => date
    | _ => date && month

/-- LAST when EN is set (R548): the date of the newest instance up to now, else the day before the first instance. -/
def State.almArm (s : State) (i : Nat) : State :=
  let kind := s.fld (F.RTC_ALM_CTRL_KIND i)
  let date := s.rd (Reg.RTC_ALM_DATE i)
  let tod := almTod (s.rd (Reg.RTC_ALM_TIME i))
  let now := s.rtcSec
  let past := (List.range (now / 86400 + 1)).reverse.find? fun d => decide (d * 86400 + tod ≤ now) && almDay kind date d
  match past with
  | some d => s.wr (Reg.RTC_ALM_LAST i) (n2w d)
  | none =>
    match (List.range 49673).find? fun d => almDay kind date d with
    | some d => s.wr (Reg.RTC_ALM_LAST i) (i2w ((d : Int) - 1))
    | none => s

/-- What makes a write of an alarm word BADSTATE (R547, R550): `o` is 0 for the control word, 4 TIME, 8 DATE. -/
def State.almBad (s : State) (i o : Nat) (v : Word) : Bool :=
  if o == 0 then decide (5 ≤ v.bits 2 0) || (v.bit 7 && !(s.almRange i (v.bits 2 0)))
  else s.flag (F.RTC_ALM_CTRL_EN i)

/-- Stores an alarm word. -/
def State.almPut (s : State) (who : Who) (i o : Nat) (v : Word) : State :=
  let a := Reg.RTC_ALM_CTRL i + o
  let was := s.flag (F.RTC_ALM_CTRL_EN i)
  let s := match findReg a with | some d => s.wr a (d.store who.role (s.rd a) v) | none => s
  if o == 0 && !was && s.flag (F.RTC_ALM_CTRL_EN i) then s.almArm i else s

/-- RTC_ALARM_WRITE: a write of RTC_ALMn, RTC_ALMn_TIME or RTC_ALMn_DATE. -/
def State.almWrite (s : State) (who : Who) (a : Nat) (v : Word) : State :=
  if !(decide (0x40040 ≤ a) && decide (a < 0x40060) && a % 4 == 0) then s
  else
    match s.refuse who a v with
    | some c => s.answer c
    | none =>
      let i := (a - 0x40040) / 16
      if s.almBad i (a % 16) v then s.answer ansBADSTATE else (s.almPut who i (a % 16) v).answer ansOK

def execRtcAlarmWrite (w : When) (who : Who) (addr : Nat) (v : Word) (s : State) : Out :=
  .next ((s.advance w).almWrite who addr v)

/-! ## Setting the clock (R542 to R545, R62) -/

/-- What every set brings about: PMK_EVT.RTCSET and SET of the next correlation record, or BAK remembers it; the demand
intervals; the alarms; 16#1008. -/
def State.rtcWasSet (s : State) (cls told tnew role session : Nat) : State :=
  let s := s.setRtc { s.rtc with stepped := some (s.rtc.stepped.getD told), setWhileOff := s.rtc.setWhileOff || !(s.good .mtr) }
  let s := if s.good .mtr then (s.setFld F.PMK_EVT_RTCSET 1).setClk { s.clk with setSince := true } else s
  let s := s.record 0x1008 [n2w cls, n2w told, n2w tnew, n2w role, n2w session] role 0 session
  (s.govRtcSet).alarms told tnew true

/-- RTC_HALT_SET: counting stops, T_old is taken. -/
def State.halt (s : State) : State :=
  if s.flag F.RTC_CTRL_HALT then s
  else
    let s := s.setRtc { s.rtc with told := s.rtcSec, sub := 0 }
    (s.setFld F.RTC_CTRL_HALT 1).setFld F.RTC_STATUS_HALTED 1

def State.haltSet (s : State) (who : Who) : State :=
  match s.refuse who Reg.RTC_CTRL 1 with
  | some c => s.answer c
  | none => s.halt.answer ansOK

def execRtcHaltSet (w : When) (who : Who) (s : State) : Out := .next ((s.advance w).haltSet who)

/-- Whether the calendar fields form a valid date (R542 step 3). -/
def State.dateOk (s : State) : Bool := validDate (s.fld F.RTC_YEAR_YEAR) (s.fld F.RTC_MONTH_MONTH) (s.fld F.RTC_DATE_DATE)

/-- The release of HALT with a valid date. -/
def State.unhalt (s : State) (who : Who) : State :=
  if !(s.flag F.RTC_CTRL_HALT) then s
  else
    let told := s.rtc.told
    let new := s.calSec
    let s := (s.setFld F.RTC_CTRL_HALT 0).setFld F.RTC_STATUS_HALTED 0
    let s := (s.setCalendar new).setRtc { s.rtc with sub := 0 }
    (s.setFld F.RTC_STATUS_VALID 1).rtcWasSet 1 told new who.role.num who.session

/-- RTC_HALT_RELEASE: BADSTATE when the fields do not form a valid date (R543). -/
def State.haltRelease (s : State) (who : Who) : State :=
  match s.refuse who Reg.RTC_CTRL 0 with
  | some c => s.answer c
  | none => if s.flag F.RTC_CTRL_HALT && !s.dateOk then s.answer ansBADSTATE else (s.unhalt who).answer ansOK

def execRtcHaltRelease (w : When) (who : Who) (s : State) : Out := .next ((s.advance w).haltRelease who)

/-- The range of a calendar register (R538). -/
def rtcRange (a v : Nat) : Bool :=
  if a == Reg.RTC_SEC || a == Reg.RTC_MIN then decide (v ≤ 59)
  else if a == Reg.RTC_HOUR then decide (v ≤ 23)
  else if a == Reg.RTC_DATE then decide (1 ≤ v ∧ v ≤ 31)
  else if a == Reg.RTC_MONTH then decide (1 ≤ v ∧ v ≤ 12)
  else decide (2000 ≤ v ∧ v ≤ 2135)

/-- The calendar registers that the Counter writes. -/
def rtcFields : List Nat := [Reg.RTC_SEC, Reg.RTC_MIN, Reg.RTC_HOUR, Reg.RTC_DATE, Reg.RTC_MONTH, Reg.RTC_YEAR]

/-- The bits of a calendar or trim register that belong to its field; the others are reserved (R5). -/
def rtcMask (a : Nat) (v : Word) : Nat :=
  if a == Reg.RTC_HOUR || a == Reg.RTC_DATE then v.bits 4 0 else if a == Reg.RTC_MONTH then v.bits 3 0
  else if a == Reg.RTC_YEAR || a == Reg.RTC_TRIM then v.bits 11 0 else v.bits 5 0

/-- A Counter write of a calendar field: stored in HALT when in range, else ignored with WERR (R542, R545); 16#800 in
RTC_TRIM is ignored with WERR. -/
def State.rtcPut (s : State) (a : Nat) (v : Word) : State :=
  let n := rtcMask a v
  if a == Reg.RTC_TRIM then (if n == 0x800 then s.werr a v else s.wr a (n2w n))
  else if s.flag F.RTC_CTRL_HALT && rtcRange a n then s.wr a (n2w n)
  else s.werr a v

/-- RTC_FIELD_WRITE. -/
def State.rtcFieldWrite (s : State) (who : Who) (a : Nat) (v : Word) : State :=
  if !(a == Reg.RTC_TRIM || rtcFields.contains a || a == Reg.RTC_WDAY || a == Reg.RTC_SUBSEC) then s
  else
    match s.refuse who a v with
    | some c => s.answer c
    | none => (s.rtcPut a v).answer ansOK

def execRtcFieldWrite (w : When) (who : Who) (addr : Nat) (v : Word) (s : State) : Out :=
  .next ((s.advance w).rtcFieldWrite who addr v)

/-- RTC_DISCIPLINE_WRITE: the lane firmware writes RTC_SEC outside HALT (R544). -/
def State.discipline (s : State) (v : Nat) : State :=
  if s.flag F.RTC_CTRL_HALT then s
  else if 59 < v then s.werr Reg.RTC_SEC (n2w v)
  else
    let told := s.rtcSec
    let s := (s.setFld F.RTC_SEC_SEC v).setRtc { s.rtc with sub := 0 }
    s.rtcWasSet 2 told s.calSec 0xFF 0

def execRtcDisciplineWrite (w : When) (v : Nat) (s : State) : Out :=
  let s := s.advance w
  .next (if s.good .bak && s.laneUp then s.discipline v else s)

/-! ## Reading (R540, R541) -/

/-- The eight calendar words as a reader would copy them: T_old for the lane during HALT (R543). -/
def State.liveCal (s : State) (lane : Bool) : List Word :=
  let t := if lane && s.flag F.RTC_CTRL_HALT then s.setCalendar s.rtc.told else s
  t.peek Reg.RTC_SUBSEC :: ([Reg.RTC_SEC, Reg.RTC_MIN, Reg.RTC_HOUR, Reg.RTC_WDAY, Reg.RTC_DATE, Reg.RTC_MONTH,
    Reg.RTC_YEAR].map fun a => t.rd a)

def State.shadow? (s : State) (lane : Bool) : Option (List Word) := if lane then s.rtc.shadowL else s.rtc.shadowC
def State.setCalShadow (s : State) (lane : Bool) (v : Option (List Word)) : State :=
  s.setRtc (if lane then { s.rtc with shadowL := v, frzL := s.ns } else { s.rtc with shadowC := v, frzC := s.ns })

/-- When the freeze of a reader began. -/
def State.frozenNs (s : State) (lane : Bool) : Nat := if lane then s.rtc.frzL else s.rtc.frzC

/-- A read of a calendar word: the first one freezes, RTC_YEAR releases. Answers the word. -/
def State.readCal (s : State) (lane : Bool) (a : Nat) : State × Word :=
  let live := s.liveCal lane
  let i := (a - Reg.RTC_SUBSEC) / 4
  match s.shadow? lane with
  | some sh => (if a == Reg.RTC_YEAR then s.setCalShadow lane none else s, sh.getD i 0)
  | none => (if a == Reg.RTC_YEAR then s else s.setCalShadow lane (some live), live.getD i 0)

/-- What a read by the Counter or by the lane firmware does. -/
def State.calRead (s : State) (lane : Bool) (a : Nat) : State :=
  let r := s.readCal lane a
  if lane then r.1 else r.1.answer ansOK [r.2]

/-- RTC_CALENDAR_READ: a register from RTC_SUBSEC to RTC_MONTH. -/
def execRtcCalendarRead (w : When) (lane : Bool) (addr : Nat) (s : State) : Out :=
  let s := s.advance w
  .next (if decide (Reg.RTC_SUBSEC ≤ addr) && decide (addr < Reg.RTC_YEAR) && addr % 4 == 0 then s.calRead lane addr else s)

/-- RTC_YEAR_READ. -/
def execRtcYearRead (w : When) (lane : Bool) (s : State) : Out := .next ((s.advance w).calRead lane Reg.RTC_YEAR)

/-- RTC_FREEZE_EXPIRY: 1 s has passed before RTC_YEAR was read. -/
def execRtcFreezeExpiry (w : When) (lane : Bool) (s : State) : Out :=
  let s := s.advance w
  .next (if (s.shadow? lane).isSome && decide (s.frozenNs lane + 1000000000 ≤ s.ns) then
      let s := s.setCalShadow lane none
      if lane then s else s.setFld F.RTC_STATUS_FRZLOST 1
    else s)

/-! ## The second boundary -/

/-- The trim accumulator after one second, in 10^-7 counts (R546): TRIM × 0.0032768 counts, less the whole count that
the prescaler adds or skips. -/
def State.trimSecond (s : State) : State :=
  let acc := s.rtc.trimAcc + (BitVec.ofNat 12 (s.fld F.RTC_TRIM_TRIM)).toInt * 32768
  let acc := if 10000000 ≤ acc then acc - 10000000 else if acc ≤ -10000000 then acc + 10000000 else acc
  s.setRtc { s.rtc with trimAcc := acc }

/-- The calendar goes on by one second; past its end it wraps and clears VALID (R539). -/
def State.tickCalendar (s : State) : State :=
  if s.calSec == rtcLast then (s.setCalendar 0).setFld F.RTC_STATUS_VALID 0 else s.setCalendar (s.calSec + 1)

/-- The correlation record at a second boundary (R61 to R63), with the save of the cycle count and the
RTC time as one group of the Registry (R40, R385). -/
def State.correlate (s : State) : State :=
  if !(s.good .mtr) then s
  else
    let pm := s.pmNow
    let set := s.clk.setSince
    let seq := match s.clk.cor with | some c => (c.seq + 1) % 2 ^ 32 | none => 0
    let delta := match s.clk.cor with
      | some c => if set then 0 else (pm - c.pm).toNat % 2 ^ 32
      | none => 0
    let c : Cor := ⟨seq, pm, s.rtcSec, delta, s.fld F.PMK_STATUS_STATE, s.fld F.PMK_STATUS_SLEW, b2n set,
      s.fld F.PMK_STATUS_CNTEST⟩
    let first := s.clk.stateChanged
    let s := s.setClk { s.clk with cor := some c, setSince := false, stateChanged := false }
    let s := if s.pwr.pfail then s else s.persist 0 1 16 (.clock s.clk.cycle.toNat c.sec)
    if seq % 3600 == 0 || set || first then
      s.record 0x1006 ([n2w seq] ++ words64 pm ++ [n2w c.sec, n2w delta, n2w c.state, n2w c.slew, n2w c.set, n2w c.cntest])
    else s

/-- ARB_WLOAD and ARB_WLOAD7 take the bytes of the second that ends (R411). -/
def State.showLoad (s : State) : State :=
  let s := if s.good .pmm then
      (s.wr Reg.ARB_WLOAD (n2w (min 0xFFFFFFFF s.perf.wb))).wr Reg.ARB_WLOAD7 (n2w (min 0xFFFFFFFF s.perf.wb7))
    else s
  { s with perf := { s.perf with wb := 0, wb7 := 0 } }

/-- VBAK is measured once per second while the 24 V supply is present, and whether the charger delivers current: values
of the supply, free (R551, R552). -/
def State.showVbak (s : State) : State :=
  if s.pwr.started then
    let s := (s.setFld F.BAK_STATUS_VBAK (Config.freeNat s.free)).freeNext
    if s.flag F.BAK_CHG_EN then (s.setFld F.BAK_STATUS_CHARGING (Config.freeNat s.free)).freeNext
    else s.setFld F.BAK_STATUS_CHARGING 0
  else s

/-- RTC_SECOND_BOUNDARY. -/
def State.rtcSecond (s : State) : State :=
  let told := s.rtcSec
  let s := s.trimSecond.tickCalendar
  let sec := s.rtcSec
  let stepped := s.rtc.stepped
  let s := s.setRtc { s.rtc with stepped := none }
  let s := if told < sec then s.alarms told sec false else s
  ((s.correlate.govSecond sec).calendar sec stepped).showLoad.showVbak

def execRtcSecondBoundary (w : When) (s : State) : Out :=
  let s := s.advance w
  .next (if s.flag F.RTC_CTRL_HALT then s else s.rtcSecond)

end Sys2Proof.Machine
end

