-- ==== Sys2Proof/Machine/Power.lean ====
section
/-! DEFINITION. Power domains, the ladder and reset (chapter 22): starts of the module and of its domains, descents and
ascents, supply loss, PFAIL and the final flush. -/

namespace Sys2Proof.Machine

/-! ## The Postmaster's image at a start (R532) -/

/-- Whether the Postmaster firmware of a slot hashes to the value recorded by R523; the factory image has none recorded
(log 4). -/
def State.pmHashOk (s : State) (n : Nat) : Bool :=
  s.imgState n == 3 && (match s.img.pm.get? n with
    | none => true
    | some h =>
      match (List.range 4).find? fun i => s.compType n i == 2 with
      | some i => sha256 (s.imgBytes n (s.compOff n i) (s.compLen n i)) == h
      | none => false)

/-- The slot that passes with the highest VERSION. -/
def State.pmBest (s : State) : Option Nat :=
  ((List.range 4).filter fun n => s.pmHashOk n).foldl (fun (b : Option Nat) n =>
    match b with
    | none => some n
    | some m => if (s.rd (Reg.MOD_IMG_SLOT1 m)).toNat < (s.rd (Reg.MOD_IMG_SLOT1 n)).toNat then some n else some m) none

/-- Recovery mode is entered: 16#C006 (R533). -/
def State.enterRecovery (s : State) (cause : Nat) : State :=
  let s := (s.setPwr { s.pwr with recovery := true }).setFld F.MOD_IMG_USE_RECOV 1
  (s.setFld F.PWR_RSTCAUSE_CAUSE 6).record 0xC006 [n2w cause]

/-- The Postmaster ROM's check. -/
def State.pmCheck (s : State) : State :=
  let u := s.fld F.MOD_IMG_USE_PM
  if s.pmHashOk u then s
  else match s.pmBest with
    | some n => (s.setUse (s.fld F.MOD_IMG_USE_LANE) n (0xFF, 0)).record 0xC007 [n2w u, n2w n]
    | none => s.enterRecovery 1

/-! ## REF starts -/

/-- The recorder engine at a start of REF: its buffer is gone, which DROPGAP tells when records were in it or a flush fell
short (R564, R586); NEWEST and OLDEST keep their values (R569). -/
def State.evrStart (s : State) : State :=
  let e := s.evr
  { s with evr := { Evr.reset with
      dropgap := !e.buf.isEmpty || s.pwr.flushLost, newest := e.newest, oldest := e.oldest, saved := e.saved } }

/-- The Counter at a reset of REF: sessions and queue are gone (R481); a long operation is cut (R486). -/
def State.ctrStart (s : State) : State :=
  let s := s.setCtr { s.ctr with
    sessions := [], fails := [], lockout := [], queue := [], txEnd := s.ns, answer := none, spi := none, spiWait := false }
  s.resetLong

/-- What a Postmaster that starts afresh keeps: its twin records, its pair role with the epoch blocks, and the pair
replication buffer, which lies in persistent memory; nothing is in progress. -/
def State.pmsStart (s : State) : State :=
  let p := s.pms.pair
  s.setPms { s.pms with
    frMux := 0, frCle := 0, frPulse := 0, change := none, tos := [], noHolderNs := none, restart := none, latch := [],
    testDue := [], testEnd := [], hbNs := s.ns, romWait := 0,
    pair := { p with
      sent := [], confNs := s.ns, witNs := none, peerNs := none, heardNs := s.ns, asked := false, swap := false,
      lagNs := none, peerReady := false, grant := none, again := none } }

/-- Every domain but BAK and REF is off. A checkpoint that is being written stays half written: its task keeps the newer slot
(R394). -/
def State.domainsOff (s : State) : State := [8, 7, 6, 5, 4, 3, 2].foldl (fun s n => s.setDom n .off 6) s.tearCks.abandonCycles

/-- A start of the module (R570, R588): REF reports good, every other domain is off and waits for the staged start.
Cause 1 to 7 by R588; `cmd` for recovery mode by command. -/
def State.refStart (s : State) (cause : Nat) (cmd : Bool) : State :=
  let short := s.pwr.flushLost
  let s := s.evrStart.resetRegs 1
  let s := (s.domainsOff.setDom 0 .good 0).setDom 1 .good 0
  let s := ({ s with pm := { s.pm with waiting := [] } } : State).ctrStart.pmsStart
  let p := s.pwr
  let s := s.setPwr { p with
    tries := p.tries.filter (fun e => e.1 == 1),
    staged := true, lastStartNs := s.ns, vinNs := s.ns, refNs := s.ns, vinRead := s.ns / 1000000, manDone := false, rstLow := false, move := none, lostNs := none, stage := 0,
    postponed := none, pfail := false, pfailLow := false, flushLost := false, thermArmed := true, started := true, next := 0, recovery := false }
  let s := (s.setFld F.PWR_RSTCAUSE_CAUSE cause).setFlag F.PWR_RSTCAUSE_LASTFLUSH s.pwr.flushed
  let s := if short then s.inc F.PWR_PFCNT_SHORT else s
  let s : State := { s with man := { s.man with cfg := [], arm := none, idleLoaded := false, quiesced := [], late := none, pts := [] } }
  let s := if cause == 1 && s.lc == lcSERVICE then s.endService 0xFF 0 else s
  let s := s.keyStart.safBegin
  if cmd then s.enterRecovery 3 else if s.pwr.recovStrap then s.enterRecovery 2 else s.pmCheck

/-- VIN_VALID: REF is off and VIN is valid. From BACKUP only PWRON wakes the module (R580). -/
def execVinValid (w : When) (recovStrap : Bool) (s : State) : Out :=
  let s := s.advance w
  let p := s.pwr
  .next (if p.rstLow || !(s.domSt 1 == .off) || (p.backup.isSome && !(s.flag F.BAK_PWRON_STATE) && p.next == 0)
    then s.setPwr { p with started := true }
    else
      let cause := if !(p.next == 0) then p.next else if p.backup.isSome then 7 else 2
      (s.setPwr { p with recovStrap := recovStrap }).refStart cause false)

/-! ## PMM starts (R386) -/

/-- Whether a manifest slot holds any byte other than that of blank memory (R388). -/
def State.slotHolds (s : State) (n : Nat) : Bool :=
  s.pm.home.any fun c => decide (regionOf c.1 = .manifest n) && !(c.2 == 0)

/-- What REF reloads from the twin records once PMM is good (R386, R590): the slot states, and the governor's MODE. While
neither slot of the record is valid, every slot that holds bytes is LOADED (R392). -/
def State.reload (s : State) : State :=
  let s := match s.man.slots.use? with
    | some (_, ws) => (List.range 4).foldl (fun (s : State) i => s.wr (Reg.MOD_MAN_SLOT i) (ws.getD i 0)) s
    | none => (List.range 4).foldl (fun (s : State) i =>
        s.setFld (F.MOD_MAN_SLOT_STATE i) (if s.slotHolds i then slLOADED else slEMPTY)) s
  { s with gov := { s.gov with saved := (s.pm.words.getD Reg.GOV_CTRL 0).toNat } }

/-- The end of the recovery: RECOVD, and its duration in PMC_RECTIME and 16#9001. How long within 15 ms it takes is not
stated: a free value (log 82). -/
def State.recovered (s : State) : State :=
  let t := n2w (Config.freeNat s.free % 15001)
  let s := (s.freeNext.setFld F.PMC_STATUS_RECOVD 1).wr Reg.PMC_RECTIME t
  s.record 0x9001 [n2w (s.fld F.PMC_RECOV_REDONE), n2w (s.fld F.PMC_RECOV_DISCARD), t]

/-- Recovery of the Registry: the journal, the twin records of R392 (the recorder's is resolved at its own start), the
block-protect level; 16#9001. The arbiter begins anew. Failures of REF and PMM that came first are recorded now (R572). -/
def State.startPmm (s : State) : State :=
  let s := ({ s.resetRegs 2 with arb := .reset } : State).redo
  let s := (s.prog.tasks.foldl (fun (s : State) (e : Nat × Task) => s.resolveTwin e.2.ck.merge) s).resolveTwin s.prog.fw
  let s := ((((((s.resolveTwin s.pms.epoch).resolveTwin s.pms.lastLane).resolveTwin s.man.slots).resolveTwin
    s.clk.saved).resolveTwin s.pm.level).resolveTwin s.saf.confirmed).resolveTwin s.saf.latch
  let s := (s.reload.setFld F.PMC_STATUS_LEVEL (s.pm.level.get 2)).showFill
  let s := s.recovered
  let s := [1, 2].foldl (fun s n =>
    let k := s.pwr.tries.getD n 0
    if k < 2 then s else (s.setFld F.PWR_STATUS_DOMFAIL 1).record 0xD005 [n2w n, n2w k]) s
  s.setPwr { s.pwr with tries := s.pwr.tries.filter fun e => 2 < e.1 }

/-! ## MTR starts (R40, R285) -/

/-- Whether the system records region is empty (R40). -/
def State.sysEmpty (s : State) : Bool :=
  s.pms.epoch.isBlank && s.pms.lastLane.isBlank && s.man.slots.isBlank && s.clk.saved.isBlank && s.pm.level.isBlank
    && s.evr.saved.isBlank

/-- The highest cycle in the checkpoint headers and the energy store (R40): every header whose own check passes, the lane
firmware's included, whether or not its slot is valid. -/
def State.highCycle (s : State) : Nat :=
  let cs := (s.prog.tasks.flatMap fun (e : Nat × Task) => e.2.ck.headers.map fun c => c.relpm)
    ++ s.prog.fw.headers.map fun f => f.relpm
  let es := s.pm.energy.map fun v => v.pm
  ((cs ++ es).map fun p => p.toNat / 2 ^ 20).foldl max 0

/-- The cycle count that a start of MTR takes, and whether it is an estimate (R40). -/
def State.startCycle (s : State) : Nat × Bool :=
  if s.sysEmpty then (0, false)
  else match s.clk.saved.use? with
    | none => (s.highCycle + 2 ^ 24, true)
    | some (_, c, sec) => if s.flag F.RTC_STATUS_VALID then (c + 70 * (s.rtcSec - sec + 1), false) else (c + 2 ^ 24, true)

/-- PMK_CFG takes TIMEBASE (R49). -/
def State.takeTimebase (s : State) : State :=
  match s.recs 2 with
  | r :: _ => if s.good .mtr then s.setPmkCfg (Rec.w r 0) 0xFF else s
  | [] => s

/-- The clock: NOMINAL at 50 Hz from the value of R40, 16#1005; a set made while MTR was not running is shown (R62). The saved
cycle count that 16#1005 gives while no saved group is valid is not stated: 0, a DESIGN CHOICE (log 56). -/
def State.startClock (s : State) : State :=
  let c := s.startCycle
  let old := match s.clk.saved.use? with | some (_, n, _) => n | none => 0
  let set := s.rtc.setWhileOff
  let s : State := { s with
    clk := { Clock.reset with saved := s.clk.saved, cycle := BitVec.ofNat 44 c.1, setSince := set },
    rtc := { s.rtc with setWhileOff := false } }
  let s := s.setFlag F.PMK_STATUS_CNTEST c.2
  let s := if set then s.setFld F.PMK_EVT_RTCSET 1 else s
  (s.record 0x1005 (words64 (BitVec.ofNat 64 old) ++ words64 (BitVec.ofNat 64 (c.1 % 2 ^ 44)) ++ [n2w (b2n c.2)])).takeTimebase

def State.startMtrDom (s : State) : State :=
  let s := (s.resetRegs 3).startClock
  (s.setPms { s.pms with frPulse := s.rd Reg.PMS_FRANK }).startMtr

/-! ## FAB, CLE and NET start -/

def State.startFabDom (s : State) : State := ((s.resetRegs 4).startFab.startGov.canTake).perfStart 2

def State.startCleDom (s : State) (test : Nat) : State :=
  let s := s.startCle test
  (s.setPms { s.pms with frCle := s.rd Reg.PMS_FRANK }).perfStart 3

/-- NET: port groups stay high-impedance and MACs with a NETWORK record wait for the first class-S round (R427). -/
def State.startNet (s : State) : State :=
  let s : State := { s.resetRegs 6 with net := ⟨[], [], [], [], [], [], 0, 0, [], [], []⟩ }
  let s : State := { s with man := { s.man with quiesced := s.macsOn.map fun m => ((0x80 + m) * 4 + 3, 0) } }
  s.setPms { s.pms with frMux := s.rd Reg.PMS_FRANK }

/-! ## The active lane starts (R315, R164, R196, R573) -/

/-- The lane that starts as the active lane: the last one, or the other if it has failed; 0 for none. -/
def State.laneToStart (s : State) : Nat :=
  if s.pairRole == prPARTNER || s.pairRole == prFENCED then 0
  else if !(s.lane == 0) then s.lane
  else
    let l := match s.pms.lastLane.use? with | some (_, 2) => 2 | _ => 1
    if !(s.laneState l == lsFAILED) then l
    else if !(s.laneState (otherLane l) == lsFAILED) then otherLane l else 0

/-- Tasks as a lane that starts holds them: nothing in progress, each in the area of its checkpoint with the data and the
counters that this carries (R168, R183). -/
def State.freshTasks (s : State) : State :=
  let a := s.areaN
  let s : State := { s with prog := { s.prog with
    holdReq := false, fwPend := [], ret := 0, retData := [], firstCycle := 0 } }
  (List.range 64).foldl (fun s t =>
    if ((s.prog.area a).rec? t).isSome || (s.prog.tasks.get? t).isSome then s.loadTask t else s) s

/-- The runtime begins by START and STARTHOLD, or after BACKUP by the row for STOP with CAUSE 2 (R573). -/
def State.beginRuntime (s : State) : State :=
  let back := s.pwr.backup
  let s := if back.isSome then s.persistNow 0 1 8 (.backup none) else s
  let s := match back with
    | some (m + 1) => if s.program.none? then s.startRuntime else s.restart 1 (m + 1 == modeHOLD) noBody
    | _ => s.startRuntime
  if s.mode == modeSTOP then s.ocStop else s

/-- A lane starts at a start of the module: frank, runtime, first cycle. Without a frank the booted lane waits for an
epoch block (R323). An online change whose arm came before the lane is prepared on it (R190). -/
def State.startLane (s : State) (l : Nat) : State :=
  let ahead := s.fld F.TSK_OC_STATUS_PHASE == 1 || s.fld F.TSK_OC_STATUS_PHASE == 2
  let s := (s.resetRegs 7).loadAreas (match s.armedSlot with | some n => s.armedArea n | none => 0)
  let s := if ahead then s.setFld F.TSK_OC_STATUS_PHASE 1 else s
  let s : State := { s with prog := { s.prog with useMap := s.mapsFrom s.areaN } }
  let s := (s.laneOn l).freshTasks
  let other := otherLane l
  let s := s.setPms { s.pms with testDue := s.pms.testDue.put other (s.ns + 60000000000) }
  match s.issueFrank l 1 with
  | (s, false) =>
    ((s.setPms { s.pms with change := some ⟨l, 0, s.ns, s.pmNow, s.rd Reg.PMS_FRANK, 0, true, (0xFF, 0)⟩ }).setLaneState l lsBOOTING).setFld
      F.PMS_STATUS_PHASE 1
  | (s, true) =>
    let s := ((s.laneActive l).oldTasks.beginRuntime.govStarted).applyPulses
    s.wr Reg.PWR_STARTT (n2w ((s.ns - s.pwr.vinNs) / 1000000))

/-- The active lane returns to RUN of the ladder: from retention as it was, from off with its checkpoints and registers at
their reset values but for the mode, its cause and the area (R574). A program that
the descent stopped restarts WARM into the mode it left (R164, R578). -/
def State.returnLane (s : State) (l : Nat) (off : Bool) : State :=
  let m := s.mode
  let c := s.fld F.TSK_STATUS_CAUSE
  let s := if off then ((s.newLaneRegs.wr Reg.TSK_RESTARTS 0).wr Reg.TSK_OC_COUNT 0).freshTasks else s
  let s := s.laneOn l
  let s := (s.setPms { s.pms with hbNs := s.ns }).govStarted
  if m == modeSTOP && c == 2 && !(s.prog.remembered == 0) then
    let h := s.prog.remembered == modeHOLD
    let s : State := { s with prog := { s.prog with remembered := 0 } }
    s.restart 1 h noBody
  else s

/-! ## The staged start (R570 to R572) -/

/-- Whether a domain works as rung RUN asks. -/
def State.domUp (s : State) (n : Nat) : Bool := s.domSt n == .good && decide (s.domRung n ≤ 1)

/-- Whether an arm waits whose manifest declares CLE, before its switch point (R84). -/
def State.newCle (s : State) : Bool :=
  match s.man.arm with
  | some a => !a.structDone && (s.secOf a.slot 14).isSome
  | none => false

/-- Domains that a start passes over (R13, R572). -/
def State.skipped (s : State) (n : Nat) : Bool :=
  (n == 5 && s.armed && (s.recs 14).isEmpty && !s.newCle) || ((n == 5 || n == 6) && s.domSt n == .failed)

/-- The domains that a start brings up after REF, in order (R12, R507, R533). -/
def State.startOrder (s : State) : List Nat :=
  if s.pwr.recovery then [2]
  else if s.lc == lcRETIRED then [2, 3]
  else [2, 3, 4, 5, 6] ++ (if s.laneToStart == 0 then [] else [6 + s.laneToStart])

/-- The next domain to start; none when all are up, or when a domain has stopped the start (R572). -/
def State.nextDom (s : State) : Option Nat :=
  match s.startOrder.find? fun n => !(s.domUp n) && !(s.skipped n) with
  | some n => if s.domSt n == .failed then none else some n
  | none => none

/-- Whether a domain may start at this moment. -/
def State.mayStart (s : State) (n : Nat) : Bool :=
  if n == 1 then s.domSt 1 == .starting && s.pwr.started && !s.pwr.rstLow
  else
    s.good .ref && !s.pwr.pfail && !s.pwr.rstLow && (s.pwr.staged || (n == 5 && s.newCle && s.fld F.PWR_STATUS_RUNG == 0))
      && s.nextDom == some n && !(s.domSt n == .retry)
      && (decide (s.domSt n = .good) || decide (s.domSt n = .retention)
        || (decide (s.pwr.lastStartNs + 5000000 ≤ s.ns) && (!(n == 4) || s.pwr.manDone)))

/-- The end of a start or ascent, once every domain is up: 16#D002, or rung 0. -/
def State.endStart (s : State) : State :=
  match s.nextDom with
  | some _ => s
  | none =>
    if !s.pwr.staged then s
    else
      let s1 := s.setPwr { s.pwr with staged := false, move := none }
      match s.pwr.move with
      | some _ => ((s1.setFld F.PWR_STATUS_RUNG 0).setFld F.PWR_STATUS_MOVING 0).setFld F.PWR_STATUS_TARGET 0
      | none => s1.record 0xD002
          [n2w (s.fld F.PWR_RSTCAUSE_CAUSE), n2w (s.fld F.PWR_RSTCAUSE_LASTFLUSH), s.rd Reg.PWR_STARTT]

/-- A domain starts and reports good, or leaves retention or its low rung. -/
def State.startDom (s : State) (n test : Nat) : State :=
  let st := s.domSt n
  let fresh := decide (7 ≤ n) && !(st == .good || st == .retention)
  let up := (if fresh then s.perfStart (n - 7) else s).setDom n .good 0
  let s := up.setPwr { up.pwr with lastStartNs := if st == .good || st == .retention then s.pwr.lastStartNs else s.ns }
  let s :=
    if 7 ≤ n then
      if s.pwr.move.isSome then s.returnLane (n - 6) (!(st == .retention)) else s.startLane (n - 6)
    else if st == .retention then (if n == 4 then s.govAwake.canTake else if n == 2 then s.admitWaiting else s)
    else if n == 2 then s.startPmm
    else if n == 3 then (if st == .good then s.resumeMtr else s.startMtrDom)
    else if n == 4 then s.startFabDom
    else if n == 5 then s.startCleDom test
    else s.startNet
  s.endStart

/-- DOMAIN_START. `cleTest` is what the start tests of R228 find. -/
def execDomainStart (w : When) (d : Dom) (cleTest : Nat) (s : State) : Out :=
  let s := s.advance w
  .next (if !(s.mayStart d.idx) then s
    else if d.idx == 1 then
      let s1 := s.refStart (if s.pwr.next == 0 then 2 else s.pwr.next) false
      if 2 ≤ s.pwr.tries.getD 1 0 then s1.setFld F.PWR_STATUS_DOMFAIL 1 else s1
    else s.startDom d.idx cleTest)

/-- A domain that has failed twice (R572): DOMFAIL, 16#D005, and what goes on without it. -/
def State.domFails (s : State) (n k : Nat) : State :=
  let s := s.setFld F.PWR_STATUS_DOMFAIL 1
  let s := if s.good .pmm then s.record 0xD005 [n2w n, n2w k] else s
  let s := s.setPwr { s.pwr with lastStartNs := s.ns }
  if 7 ≤ n then
    let s := (s.setDom n .off 6).fenceLane (n - 6) 2 s.pmNow
    if s.laneToStart == 0 && s.laneState 1 == lsFAILED && s.laneState 2 == lsFAILED then
      (s.setPms { s.pms with change := some ⟨0, n - 6, s.ns, s.pmNow, s.rd Reg.PMS_FRANK, 0, false, (0xFF, 0)⟩ }).noLane.endStart
    else s
  else if n ≤ 4 then
    (s.setPwr { s.pwr with staged := false }).setDom n .failed 6
  else (s.setDom n .failed 6).endStart

/-- DOMAIN_GOOD_TIMEOUT: in place of its start, a domain does not report good within its bound. It is off, and after
100 ms starts once more; REF goes on trying each second. -/
def execDomainGoodTimeout (w : When) (d : Dom) (s : State) : Out :=
  let s := s.advance w
  let n := d.idx
  .next (if n == 0 || !(s.mayStart n) || s.domSt n == .good || s.domSt n == .retention then s
    else
      let k := s.pwr.tries.getD n 0 + 1
      let s := s.setPwr { s.pwr with tries := s.pwr.tries.put n k, lastStartNs := s.ns }
      if k < 2 || n == 1 then s.setDom n .retry 6 else s.domFails n k)

/-- DOMAIN_RETRY. -/
def execDomainRetry (w : When) (d : Dom) (s : State) : Out :=
  let s := s.advance w
  let n := d.idx
  let wait := if n == 1 && decide (2 ≤ s.pwr.tries.getD 1 0) then 1000000000 else 100000000
  .next (if s.domSt n == .retry && decide (s.pwr.lastStartNs + wait ≤ s.ns) then
      let s := s.setDom n .starting 6
      s.setPwr { s.pwr with lastStartNs := s.ns - 5000000 }
    else s)

/-! ## The ladder (R574 to R579) -/

/-- What each domain does at a rung of 2 or more (R574), lanes as one: off, retention, or powered. -/
def planOf (rung n : Nat) : DomSt :=
  match rung, n with
  | 2, 1 => .good | 2, 2 => .good | 2, 3 => .good | 2, 4 => .retention | 2, 7 => .retention | 2, 8 => .retention
  | 3, 1 => .good | 3, 2 => .retention | 3, 3 => .good
  | 4, 1 => .retention | 4, 3 => .good
  | 5, 1 => .retention
  | _, _ => .off

/-- A domain of R574 that is On at a rung shows rung 0; MTR keeps only its clock at DOZE and below. -/
def rungShown (rung n : Nat) : Nat := if planOf rung n == .good && !(n == 3) then 0 else rung

/-- A domain goes down to a rung. What is off already stays off (spare lanes show rung 6). -/
def State.lowerDom (s : State) (rung n : Nat) : State :=
  let st := s.domSt n
  if 7 ≤ n && !(s.lane == n - 6) then s
  else if st == .off || st == .failed || st == .retry || st == .starting then s.setDomRung n (if 7 ≤ n then 6 else rung)
  else
    let p := planOf rung n
    let s := if p == .good then s else s.wkStop n
    s.setDom n p (rungShown rung n)

/-- The BACKUP record is written as a Registry group (R577, R379); from a rung at which PMM does not work it is written as
well, a DESIGN CHOICE (log 55). -/
def State.saveBackup (s : State) : State :=
  let b : Payload := .backup (some s.prog.remembered)
  if s.good .pmm then s.persistNow 0 1 8 b else s.landed b

/-- Step 4 of a descent, after step 3: domains in the reverse of the start order, 16#D003; below NAP the safety unit halts,
below SLEEP every session closes (R579), and BACKUP writes its record and drops PWRON. -/
def State.endDescent (s : State) (target : Nat) (m : Move) : State :=
  let old := s.fld F.PWR_STATUS_RUNG
  let s := s.setFld F.PWR_STATUS_AXWAIT 0
  let s := if s.on .mtr then s.flushMtr else s
  let s := s.record 0xD003 [n2w old, n2w target, n2w m.cause, n2w m.role, n2w m.session] m.role 0 m.session
  let s := ((s.setFld F.PWR_STATUS_RUNG target).setFld F.PWR_STATUS_MOVING 0).setFld F.PWR_STATUS_TARGET target
  let s := s.setPwr { s.pwr with move := none, staged := false }
  let s := if 4 ≤ target then s.safHalt else s
  let s := if 5 ≤ target then
      s.setCtr { s.ctr with sessions := [], queue := [], fails := [], lockout := [], answer := none, spi := none, spiWait := false }
    else s
  let s := if target == 6 then s.saveBackup.setPwron false 5 else s
  [8, 7, 6, 5, 4, 3, 2, 1].foldl (fun s n => s.lowerDom target n) s

/-- Axes that are not yet DISABLED, STO or FAULT (R577). -/
def State.axesOn (s : State) : List Nat := if s.good .cle then s.axisNums.filter fun k => s.axOn k else []

/-- Steps 2 and 3. -/
def State.descentStep (s : State) (m : Move) : State :=
  let target := s.fld F.PWR_STATUS_TARGET
  if m.step == 1 then
    if m.classes.isEmpty || decide (m.waitNs ≤ s.ns) then
      let s := (s.axesOn).foldl (fun s k => s.axDisableReq k) s
      let m := { m with step := 2, waitNs := s.ns }
      if s.axesOn.isEmpty then s.endDescent target m
      else (s.setPwr { s.pwr with move := some m }).setFld F.PWR_STATUS_AXWAIT 1
    else s
  else if m.step == 2 && s.axesOn.isEmpty then s.endDescent target m
  else s

/-- DESCENT_CONTINUE. -/
def execDescentContinue (w : When) (s : State) : Out :=
  let s := s.advance w
  .next (match s.pwr.move with
    | some m => if m.step ≤ 2 && !s.pwr.pfail then s.descentStep m else s
    | none => s)

/-- AXWAIT_REPORT: 16#D004 every 60 s that an axis is still enabled. -/
def execAxwaitReport (w : When) (s : State) : Out :=
  let s := s.advance w
  .next (match s.pwr.move with
    | some m =>
      if m.step == 2 && !(s.axesOn.isEmpty) && decide (m.waitNs + 60000000000 ≤ s.ns) then
        (s.setPwr { s.pwr with move := some { m with waitNs := s.ns } }).record 0xD004 (axMask s.axesOn)
      else s
    | none => s)

/-- One class-S round in TCXO nanoseconds, at the clock's frequency. -/
def State.roundNs (s : State) : Nat := 50 * 1000000000000000 / max 1 (s.rd Reg.PMK_FREQ).toNat

/-- Step 1 of a descent, or a new target for the move in progress (R576, R577). -/
def State.descend (s : State) (target cause role session : Nat) : State :=
  let s := (s.setFld F.PWR_STATUS_TARGET target).setFld F.PWR_STATUS_MOVING 1
  match s.pwr.move with
  | some m =>
    if m.step ≤ 2 then s.setPwr { s.pwr with move := some { m with cause := cause, role := role, session := session } }
    else s.setPwr { s.pwr with staged := false, move := some ⟨1, cause, role, session, [], s.ns⟩ }
  | none =>
    let classes := if s.laneUp && s.good .fab && !(s.mode == modeSTOP) then
        ((s.outPoints.filterMap fun p => (s.ptRec p).map fun r => treatClass (ptClass r)).eraseDups)
      else []
    let s := if s.laneUp && !(s.mode == modeSTOP) then
        let m := s.mode
        let s : State := { s with prog := { s.prog with remembered := m } }
        s.enterStop 2 (role, session)
      else if s.laneUp then { s with prog := { s.prog with remembered := 0 } }
      else s
    s.setPwr { s.pwr with staged := false, move := some ⟨1, cause, role, session, classes, s.ns + s.roundNs⟩ }

/-- REF returns from SHELF: the Postmaster has kept its state; the rest of REF starts afresh (R579, R596). -/
def State.leaveShelf (s : State) : State :=
  let r := s.regs.filter fun e => blockOf e.1 == some .pms || blockOf e.1 == some .mod || blockOf e.1 == some .pwr
  let s := s.evrStart
  let s : State := { s with evr := { s.evr with dropgap := true } }
  let s := s.resetRegs 1
  let s := r.foldl (fun (s : State) e => s.wr e.1 e.2) s
  s.ctrStart.keyStart

/-- An ascent to RUN begins: 16#D003; REF runs again, the other domains follow in the staged order. A descent that has
switched nothing yet turns back at once. -/
def State.ascend (s : State) (cause role session : Nat) : State :=
  let old := s.fld F.PWR_STATUS_RUNG
  let early := match s.pwr.move with | some m => decide (m.step ≤ 2) && old == 0 | none => false
  let s := if s.domSt 1 == .retention then
      let s := s.setDom 1 .good 0
      (if old == 5 then s.leaveShelf else s).safBegin
    else s
  let s := s.record 0xD003 [n2w old, 0, n2w cause, n2w role, n2w session] role 0 session
  let s := ((s.setFld F.PWR_STATUS_TARGET 0).setFld F.PWR_STATUS_MOVING 1).setFld F.PWR_STATUS_AXWAIT 0
  let s := s.setPwr { s.pwr with staged := true, move := some ⟨9, cause, role, session, [], s.ns⟩ }
  let s := if early && s.laneUp then s.returnLane s.lane false else s
  s.endStart

/-! ## Commands -/

/-- Whether a takeover, handover, online change or structure switch is in progress (R576). -/
def State.changing (s : State) : Bool :=
  s.pms.change.isSome || !(s.fld F.PMS_STATUS_PHASE == 0) || !(s.fld F.TSK_OC_STATUS_PHASE == 0) || s.man.arm.isSome

/-- The RUNG command (R576). -/
def State.rungCmd (s : State) (who : Who) (n : Nat) : State :=
  if n == 1 || 6 < n || (n == 6 && s.rd Reg.PWR_WAKE == 0) || s.changing then s.answer ansBADSTATE
  else
    let s := s.answer ansOK
    if n == 0 then
      if s.fld F.PWR_STATUS_RUNG == 0 && s.pwr.move.isNone then s else s.ascend 1 who.role.num who.session
    else if s.fld F.PWR_STATUS_RUNG == n && s.pwr.move.isNone then s
    else s.descend n 1 who.role.num who.session

/-- A write of PWR_CTRL. -/
def State.pwrWrite (s : State) (who : Who) (v : Word) : State :=
  match s.refuse who Reg.PWR_CTRL v with
  | some c => s.answer c
  | none =>
    let cmd := v.bits 1 0
    if cmd == 0 then s.answer ansOK
    else if cmd == 1 then s.rungCmd who (v.bits 10 8)
    else if cmd == 2 then (if who.role == .maker then (s.refStart 5 false).answer ansOK else s.answer ansDENIED)
    else s.answer ansBADSTATE

def execPwrRungCmd (w : When) (who : Who) (rung : Nat) (s : State) : Out :=
  .next ((s.advance w).pwrWrite who (n2w (1 + rung % 8 * 256)))

def execPwrResetCmd (w : When) (who : Who) (s : State) : Out := .next ((s.advance w).pwrWrite who 2)

/-- The bit of PWR_WAKE that enables a source (R580). -/
def wakeBit : Wake → Nat
  | .wakePin => 0 | .alarm1 => 1 | .alarm2 => 2 | .spi => 3 | .supply => 4

/-- WAKE_SOURCE: from DOZE to SHELF; CTR_CS_N at SLEEP only. -/
def execWakeSource (w : When) (src : Wake) (s : State) : Out :=
  let s := s.advance w
  let r := s.fld F.PWR_STATUS_RUNG
  .next (if decide (2 ≤ r ∧ r ≤ 5) && (s.rd Reg.PWR_WAKE).bit (wakeBit src) && (!(src == .spi) || r == 4) && !s.pwr.rstLow
      && !s.pwr.pfail && !(s.pwr.move.any fun m => m.step == 9)
    then s.ascend 4 0xFF 0 else s)

/-! ## The building supply (R581, R582, R597) -/

/-- SUPPLY_LOSS, as SUPSRC judges it. -/
def execSupplyLoss (w : When) (s : State) : Out :=
  let s := s.advance w
  let src := s.fld F.PWR_LADCFG_SUPSRC
  let seen := src == 2 || (src == 1 && !(s.fld F.PMK_STATUS_STATE == 1) && s.fld F.PMK_STATUS_LOSS == 1)
  .next (if s.good .ref && seen && !(s.flag F.PWR_STATUS_SUPLOST) then
      let s := (s.setFld F.PWR_STATUS_SUPLOST 1).setPwr { s.pwr with lostNs := some s.ns, stage := 0, postponed := none }
      s.record 0xD006 [1, n2w src]
    else s)

/-- What holds a descent by the policy back (R597). -/
def State.policyWaits (s : State) : Bool := s.longBusy || s.changing

/-- A stage of the policy: its descent starts, or waits. A rung not below the present one asks for nothing. -/
def State.policyStage (s : State) (stage rung : Nat) : State :=
  let s := s.setPwr { s.pwr with stage := stage }
  if rung == 0 || decide (rung ≤ max (s.fld F.PWR_STATUS_RUNG) (if s.pwr.move.isSome then s.fld F.PWR_STATUS_TARGET else 0)) then s
  else if s.policyWaits then s.setPwr { s.pwr with postponed := some rung }
  else s.descend rung 2 0xFF 0

/-- SUPPLY_LOSS_DELAY_EXPIRY: DLY1 or DLY2 minutes after the loss. -/
def execSupplyLossDelayExpiry (w : When) (second : Bool) (s : State) : Out :=
  let s := s.advance w
  let dly := if second then s.fld F.PWR_LADCFG_DLY2 else s.fld F.PWR_LADCFG_DLY1
  let rung := if second then s.fld F.PWR_LADCFG_RUNG2 else s.fld F.PWR_LADCFG_RUNG1
  .next (match s.pwr.lostNs with
    | some t =>
      if decide (t + dly * 60000000000 ≤ s.ns) && decide (s.pwr.stage < 1 + b2n second) && !s.pwr.pfail then
        s.policyStage (1 + b2n second) rung
      else s
    | none => s)

/-- POSTPONED_DESCENT_START: 16#D003 with cause 2 at the start. -/
def execPostponedDescentStart (w : When) (s : State) : Out :=
  let s := s.advance w
  .next (match s.pwr.postponed with
    | some n =>
      if s.policyWaits || s.pwr.pfail then s
      else
        let s := s.setPwr { s.pwr with postponed := none }
        (s.record 0xD003 [n2w (s.fld F.PWR_STATUS_RUNG), n2w n, 2, 0xFF, 0]).descend n 2 0xFF 0
    | none => s)

/-- SUPPLY_RESTORE: the timers stop, a postponed descent is dropped, and with PWR_WAKE.SUPPLY the module ascends. -/
def execSupplyRestore (w : When) (s : State) : Out :=
  let s := s.advance w
  .next (if s.flag F.PWR_STATUS_SUPLOST && !(s.domSt 1 == .off) then
      let s := (s.setFld F.PWR_STATUS_SUPLOST 0).setPwr { s.pwr with lostNs := none, stage := 0, postponed := none }
      let up := s.flag F.PWR_WAKE_SUPPLY && (!(s.fld F.PWR_STATUS_RUNG == 0) || s.pwr.move.isSome)
        && !(s.pwr.move.any fun m => m.step == 9)
      (if up then s.ascend 3 0xFF 0 else s).record 0xD006 [0, n2w (s.fld F.PWR_LADCFG_SUPSRC)]
    else s)

/-! ## PFAIL (R583 to R587) -/

/-- The header of a commit that has reached step 4 becomes durable; its outputs are not sent and its calls not executed, so
that the first commit after the next start sends every output. A task that was pending in an online change switches in the
same group (R192). -/
def State.flushHeader (s : State) (t : Nat) : State :=
  let k := s.task t
  match k.phase, k.pend with
  | .committing, some c =>
    let s := s.incWord (Reg.TSK_CYC t)
    let c := { c with cyc := s.rd (Reg.TSK_CYC t), late := s.rd (Reg.TSK_LATE t), maxexec := s.rd (Reg.TSK_MAXEXEC t) }
    let s := s.setTask t { k with phase := .idle, data := c.data, pend := none, outs := none, calls := [], ck := k.ck.write c }
    if s.ocOld t then s.translate t else s
  | _, _ => s

/-- Every group in the journal becomes durable, in order (R382, R584 step 3). -/
def State.flushAll (s : State) : State :=
  (List.range s.pm.journal.length).foldl (fun s _ =>
    match s.durableNext with
    | (s, some e) => (match e.load with | .header t => if t == 64 then s.fwDurable else s.flushHeader t | _ => s)
    | (s, none) => s) s

/-- The final flush of R584, in one step: groups that still wait for room are not started. -/
def State.pfailFlush (s : State) (vinMv source : Nat) : State :=
  let s := s.setPwr { s.pwr with pfail := true, pfailLow := true, flushed := true, staged := false, move := none }
  let s := (s.record 0xD001 ([n2w vinMv, n2w source] ++ words64 s.pmNow)).inc F.PWR_PFCNT_PFAILS
  let s := s.resetLong
  let s := if s.on .mtr then s.flushMtr else s
  let s : State := { s with pm := { s.pm with waiting := if s.good .pmm then [] else s.pm.waiting.filter Waiting.ofLatch } }
  let s := if s.good .pmm then s.flushAll.ringDrain else s
  let s := if s.good .mtr then s.persist 0 1 16 (.clock s.clk.cycle.toNat s.rtcSec) else s
  let s := if s.evr.resumed then s.persist 7 1 8 (.evrNext s.evr.next) else s
  let s := if s.good .pmm then s.flushAll else s
  let s : State := { s with evr := { s.evr with resumed := false, run := false } }
  s.domainsOff

/-- Whether the module lets PFAIL_N go high: it drives the pin low from the detection until REF next starts, or the PFAIL
restart has the supply back; while RST_N holds it, it leaves the pin released (R583, R620; log 47). -/
def State.pfailPin (s : State) : Bool := !s.pwr.pfailLow || s.pwr.rstLow

/-- PULSEp: high for a pulse and low otherwise; high-impedance while MTR is off (R613). -/
def State.pulsePin (s : State) (p : Nat) : Drive :=
  if !(s.good .mtr) then .z else if (s.pulse p).high then .high else .low

/-- PFAIL_DETECT: VIN below 16.5 V, or PFAIL_N low, for 20 µs; not while RST_N holds the module (R620). -/
def execPfailDetect (w : When) (vinMv : Nat) (byPin : Bool) (s : State) : Out :=
  let s := s.advance w
  .next (if s.good .ref && !s.pwr.pfail && !s.pwr.rstLow && (byPin || decide (vinMv < 16700)) then
      s.pfailFlush vinMv (1 + b2n byPin) else s)

/-- PFAIL_RESTART: the staged start from PMM on, REF has run through (R585, R588); the supply is back, and the safety unit's
outputs are no longer cut (R373). -/
def execPfailRestart (w : When) (s : State) : Out :=
  let s := s.advance w
  .next (if s.pwr.pfail && s.good .ref then
      let s := s.setPwr { s.pwr with
        pfail := false, pfailLow := false, staged := true, vinNs := s.ns, lastStartNs := s.ns - 5000000, manDone := false, tries := [], lostNs := none,
        stage := 0, postponed := none, started := true }
      let s := (s.setFld F.PWR_RSTCAUSE_CAUSE 3).setFld F.PWR_RSTCAUSE_LASTFLUSH 1
      let s := s.wr Reg.PWR_STATUS (s.rd Reg.PWR_STATUS &&& 0x800)
      let s := s.pmsStart
      let s := (((s.setFld F.PMS_STATUS_PHASE 0).setFld F.PMS_STATUS_HOLDER 0).setFld F.PMS_STATUS_ACTIVE 0).setFld
        F.MOD_DOMAINS_DECL 0
      let s := [1, 2].foldl (fun s l => s.setLaneState l lsSPARE) s
      { s with
        man := { s.man with cfg := [], arm := none, idleLoaded := false, quiesced := [], late := none, pts := [] }
        saf := { s.saf with cut := false } }.safStep id
    else s)

/-- REF is switched off; a flush that never ran counts as short (R586). -/
def State.refOff (s : State) (collapse : Bool) : State :=
  let lost := collapse && s.good .pmm && !s.pwr.pfail
  let s := s.setPwr { s.pwr with
    flushLost := s.pwr.flushLost || lost, flushed := s.pwr.flushed && !lost, pfail := false, staged := false, move := none,
    started := s.pwr.started && !collapse, tries := [] }
  let s := s.domainsOff.setDom 1 .off 6
  { s.safHalt with keys := { s.keys with wk := none, wait := [] } }

/-- BAK runs from VBAK, which is not charged meanwhile (R551, R552). -/
def State.onVbak (s : State) : State := (s.setFld F.BAK_STATUS_ONVBAK 1).setFld F.BAK_STATUS_CHARGING 0

/-- VIN_COLLAPSE: VIN below 12.0 V; BAK goes on from VBAK. -/
def execVinCollapse (w : When) (s : State) : Out := .next ((s.advance w).refOff true).onVbak

/-! ## RST_N, BAK power-on, temperature -/

/-- RST_N_LOW: every domain except BAK is held in reset (R619). -/
def execRstNLow (w : When) (s : State) : Out :=
  let s := (s.advance w).refOff false
  .next (s.setPwr { s.pwr with rstLow := true })

/-- RST_N_RELEASE: with valid VIN, REF starts. -/
def execRstNRelease (w : When) (recovStrap : Bool) (s : State) : Out :=
  let s := s.advance w
  .next (if s.pwr.rstLow then
      let s := s.setPwr { s.pwr with rstLow := false, recovStrap := recovStrap }
      if s.pwr.started then s.refStart 4 false else s
    else s)

/-- BAK_POWER_ON: VIN and VBAK were both absent (R539, R588); the root is lost (R497), PWRON asserted (R553). -/
def execBakPowerOn (w : When) (s : State) : Out :=
  let s := (s.advance w).refOff true
  let s : State := { s.resetRegs 0 with
    rtc := Rtc.reset, keys := { s.keys with root := none, svcEnd := if s.lc == lcSERVICE then some s.ns else none } }
  .next (s.setPwr { s.pwr with next := 1 })

/-- THERMAL_WARNING: 95 °C at the die of REF, in 0.1 °C; armed again below 90 °C (R628). -/
def execThermalWarning (w : When) (temp : Int) (s : State) : Out :=
  let s := s.advance w
  .next (if s.good .ref && s.pwr.thermArmed && decide (950 ≤ temp) then
      (s.setPwr { s.pwr with thermArmed := false }).record 0xD007
        [i2w temp, n2w (s.fld F.PWR_STATUS_RUNG), s.peek Reg.PWR_VIN]
    else s)

def execThermalFallBelow90 (w : When) (s : State) : Out :=
  let s := s.advance w
  .next (if s.good .ref then s.setPwr { s.pwr with thermArmed := true } else s)

end Sys2Proof.Machine
end

