-- ==== Sys2Proof/Machine/Update.lean ====
section
/-! DEFINITION. MOD_IMG_CTRL (chapter 19): verification, delta apply, taking effect, recovery mode; Counter writes into the
persistent memory window (R74, R379, R398, R522). -/

namespace Sys2Proof.Machine

/-! ## MOD_IMG_CTRL -/

/-- The word of a command. -/
def imgCmd (cmd src dst : Nat) : Word := n2w (cmd + src % 4 * 256 + dst % 4 * 4096)

/-- Whether the Postmaster can work on image slots: PMM reports good and no restart runs. -/
def State.pmWorks (s : State) : Bool := s.on .pmm && s.pms.restart.isNone

/-- VERIFY: long operation 8, R523 alone. -/
def State.imgVerify (s : State) (who : Who) (n : Nat) : State :=
  if s.pmWorks then (s.trunk 6 2 (s.imgLength n) .read).startLong 8 who (.imgVerify n (s.imgReason n)) else s.answer ansBADSTATE

/-- A planned handover in progress names an image (R329). -/
def State.handoverImg (s : State) (n : Nat) : Bool :=
  match s.pms.change with
  | some c => c.img == n && !(s.fld F.PMS_STATUS_PHASE == 1) && !(s.fld F.PMS_STATUS_PHASE == 3)
  | none => false

/-- APPLY (R527): step 1 judges the header and the base; step 2 sets DST to BUILDING. 16#C002. -/
def State.imgApply (s : State) (who : Who) (src dst : Nat) : State :=
  if !(s.pmWorks && s.imgState src == 3 && !(src == dst) && !(s.imgInUse dst) && !(s.imgState dst == 2) && !(s.handoverImg dst))
  then s.answer ansBADSTATE
  else
    let s := s.recordBy who 0xC002 [n2w src, n2w dst, n2w s.resultLen]
    let s : State := { s with img := { s.img with delta := some (src, dst), deltaNs := s.ns } }
    let total := blocksOf s.resultLen
    let s : State :=
      if !(s.deltaHeader) then { (s.setImg dst 4 1) with img := { s.img with delta := none } }
      else if !(s.deltaOnBase src) then { (s.setImg dst 4 6) with img := { s.img with delta := none } }
      else ((s.setImg dst 2 0).setFld F.MOD_IMG_PROG_TOTAL total).imgProgress 0
    s.startLong 2 who (.delta src dst)

/-- PMSWITCH (R530, R531): PM names SRC and the Postmaster restarts with cause 3. -/
def State.imgPmswitch (s : State) (who : Who) (src : Nat) : State :=
  if !(s.imgState src == 3) || s.pms.change.isSome || !(s.fld F.PMS_STATUS_PHASE == 0) || s.pms.restart.isSome then
    s.answer ansBADSTATE
  else ((s.setUse (s.fld F.MOD_IMG_USE_LANE) src (who.role.num, who.session)).pmRestart 3).answer ansOK

/-- CLEAR: a slot that is neither in use nor BUILDING becomes EMPTY. -/
def State.imgClear (s : State) (n : Nat) : State :=
  if s.imgInUse n || s.imgState n == 2 then s.answer ansBADSTATE
  else
    let s := s.setImg n 0 0
    let s : State := { s with img := { s.img with lane := s.img.lane.del n, pm := s.img.pm.del n, rtver := s.img.rtver.del n } }
    s.answer ansOK

/-- BOOT, in recovery mode only (R534): both images are SRC, and the module starts normally. -/
def State.imgBoot (s : State) (who : Who) (src : Nat) : State :=
  if !(s.pwr.recovery) || !(s.imgState src == 3) then s.answer ansBADSTATE
  else ((s.setUse src src (who.role.num, who.session)).refStart 5 false).answer ansOK

/-- A write of MOD_IMG_CTRL. Recovery mode executes VERIFY, CLEAR and BOOT only (R534). -/
def State.imgCtrl (s : State) (who : Who) (v : Word) : State :=
  match s.refuse who Reg.MOD_IMG_CTRL v with
  | some c => s.answer c
  | none =>
    let cmd := v.bits 3 0
    let src := v.bits 9 8
    if cmd == 0 then s.answer ansOK
    else if s.pwr.recovery && !(decide (cmd ∈ [1, 4, 6])) then s.answer ansBADSTATE
    else if cmd == 1 then s.imgVerify who src
    else if cmd == 2 then s.imgApply who src (v.bits 13 12)
    else if cmd == 3 then s.imgPmswitch who src
    else if cmd == 4 then s.imgClear src
    else if cmd == 5 then (s.refStart 6 true).answer ansOK
    else if cmd == 6 then s.imgBoot who src
    else s.answer ansBADSTATE

def execImgVerify (w : When) (who : Who) (slot : Nat) (s : State) : Out := .next ((s.advance w).imgCtrl who (imgCmd 1 slot 0))
def execImgApply (w : When) (who : Who) (src dst : Nat) (s : State) : Out :=
  .next ((s.advance w).imgCtrl who (imgCmd 2 src dst))
def execImgPmswitch (w : When) (who : Who) (src : Nat) (s : State) : Out :=
  .next ((s.advance w).imgCtrl who (imgCmd 3 src 0))
def execImgClear (w : When) (who : Who) (slot : Nat) (s : State) : Out := .next ((s.advance w).imgCtrl who (imgCmd 4 slot 0))
def execImgRecover (w : When) (who : Who) (s : State) : Out := .next ((s.advance w).imgCtrl who (imgCmd 5 0 0))
def execImgBoot (w : When) (who : Who) (src : Nat) (s : State) : Out := .next ((s.advance w).imgCtrl who (imgCmd 6 src 0))

/-! ## The Postmaster starts again (R332, R528, R532) -/

/-- DELTA_APPLY_RESUME: before the Counter executes any request; 16#C004. -/
def execDeltaApplyResume (w : When) (s : State) : Out :=
  let s := s.advance w
  .next (match s.img.delta with
    | some (src, dst) =>
      if s.pmWorks && s.ctr.long.isNone then
        (s.resumeLong 2 (.delta src dst)).record 0xC004 [n2w dst, n2w (s.fld F.MOD_IMG_PROG_BLOCKS)]
      else s
    | none => s)

/-- POSTMASTER_RESTART_DONE: the ROM checks the Postmaster's image first; with none left, the module is in recovery mode. -/
def execPostmasterRestartDone (w : When) (s : State) : Out :=
  let s := s.advance w
  .next (match s.pms.restart with
    | some (cause, since) =>
      if !(s.good .ref) then s
      else
        let s1 := s.pmCheck
        if s1.pwr.recovery && !(s.pwr.recovery) then
          let s2 := [8, 7, 6, 5, 4, 3].foldl (fun s n => s.setDom n .off 6) (s1.setPms { s1.pms with restart := none, latch := [] })
          s2
        else s1.pmRestarted cause since
    | none => s)

/-! ## The persistent memory window (R377, R379) -/

/-- Whether a role reads a region through the Counter. -/
def Region.readable (g : Region) (r : Role) : Bool :=
  match g with
  | .user => !(r == .tenant)
  | .ring => r == .installer || r == .maker
  | .ckpt => r == .maker
  | .repl => r == .maker
  | .energy => r == .installer || r == .maker
  | .mirror => r == .installer || r == .maker
  | .system => r == .installer || r == .maker
  | .safety => r == .installer || r == .maker
  | .journal => r == .maker
  | .manifest _ => r == .installer || r == .maker
  | .keys => false
  | .image _ => r == .maker
  | .delta => r == .maker
  | .reserve => !(r == .tenant)

/-- Whether a role writes a region through the Counter. -/
def Region.writable (g : Region) (r : Role) : Bool :=
  match g with
  | .user => r == .installer || r == .maker
  | .manifest _ => r == .installer || r == .maker
  | .image _ => r == .maker
  | .delta => r == .maker
  | _ => false

/-- The answer that refuses a read at an offset of the array (R379, R396); recovery mode reads image slots only (R534). -/
def State.refuseWinRead (s : State) (who : Who) (o : Nat) : Option Nat :=
  let g := regionOf o
  if who.role == .tenant then some ansHIDDEN
  else if !(g.readable who.role) then some ansDENIED
  else if !(s.on .pmm) || s.pm.bad.contains (o / 8 * 8) then some ansBADSTATE
  else if s.pwr.recovery && !(match g with | .image _ => true | _ => false) then some ansBADSTATE
  else none

/-- The answer that refuses a write at an offset (R74, R379, R398, R522). Block protect records 16#9003. Unarmed, the
window takes manifest and image slots only (R92). -/
def State.refuseWinWrite (s : State) (who : Who) (o : Nat) : Option Nat :=
  let g := regionOf o
  let slot := match g with | .image _ => true | .manifest _ => true | _ => false
  if who.role == .tenant then some ansHIDDEN
  else if g == .reserve then some ansBADADDR
  else if !(g.writable who.role) then some ansDENIED
  else if !(s.on .pmm) || !(s.armed || slot) then some ansBADSTATE
  else if s.pwr.recovery && !(match g with | .image _ => true | _ => false) then some ansBADSTATE
  else if s.protects o then some ansPROTECTED
  else match g with
    | .manifest n => if s.slotState n == slARMED || s.slotState n == slFALLBACK then some ansPROTECTED else none
    | .image n => if s.imgInUse n || s.imgState n == 2 then some ansPROTECTED else none
    | _ => none

/-- One word written through the window outside the user store: a manifest slot or image slot becomes LOADED. -/
def State.winWord (s : State) (o : Nat) (v : Word) : State :=
  let s := (s.pmPut o (leBytes 4 v.toNat)).trunk 7 3 4
  match regionOf o with
  | .manifest n => if s.slotState n == slLOADED then s else s.setSlot n slLOADED
  | .image n => if s.imgState n == 1 then s else s.setImg n 1 0
  | _ => s

/-- Consecutive words written: in the user store as one Registry group (R379), elsewhere directly. -/
def State.winPut (s : State) (o : Nat) (data : List Word) : State :=
  if regionOf o == .user then s.submitBytes 7 3 (cellsAt o (data.flatMap fun v => leBytes 4 v.toNat))
  else (List.range data.length).foldl (fun s i => s.winWord (o + 4 * i) (data.getD i 0)) s

/-- The first refusal among consecutive words, with its offset. -/
def State.refuseWin (s : State) (who : Who) (o n : Nat) : Option (Nat × Nat) :=
  (List.range n).findSome? fun i => (s.refuseWinWrite who (o + 4 * i)).map fun c => (c, o + 4 * i)

/-- A write of consecutive words into a region, whole or not at all. -/
def State.winWrite (s : State) (who : Who) (o : Nat) (data : List Word) : State :=
  if s.longBusy then s.answer ansBUSY
  else if !(o % 4 == 0) then s.answer (if who.role == .tenant then ansHIDDEN else ansBADADDR)
  else match s.refuseWin who o data.length with
    | some (c, at_) => (if s.protects at_ && c == ansPROTECTED then s.recordProt at_ else s).answer c
    | none => (s.winPut o data).answer ansOK

/-- MAN_SLOT_WRITE (R74). -/
def execManSlotWrite (w : When) (who : Who) (slot offset : Nat) (data : List Word) (s : State) : Out :=
  .next ((s.advance w).winWrite who (slotBase (slot % 4) + offset % 0x8000000) data)

/-- IMG_SLOT_WRITE (R522). -/
def execImgSlotWrite (w : When) (who : Who) (slot offset : Nat) (data : List Word) (s : State) : Out :=
  .next ((s.advance w).winWrite who (imgBase (slot % 4) + offset % 0x4000000) data)

end Sys2Proof.Machine
end

