-- ==== Sys2Proof/Machine/Manifest.lean ====
section
/-! DEFINITION. Manifests (chapter 3): validation (R76, R77), the commands of MOD_MAN_CTRL, the switches of the change
classes (R82 to R90), and the check at power-up (R91). -/

namespace Sys2Proof.Machine

/-! ## Validation (R76, R77) -/

/-- What a validation is for. -/
inductive Ask where
  | verify | arm | armfb | power
  deriving DecidableEq, Repr

/-- A failed step: REASON, step, and where the fault lies: nowhere in particular, in a table entry, or a missing type. -/
structure Fail where
  reason : Nat
  step : Nat
  sectv : Bool
  missing : Bool
  sect : Nat
  deriving DecidableEq, Repr

/-- A failure that concerns no section, and one of a table entry. -/
def failAt (step reason : Nat) : Fail := ⟨reason, step, false, false, 0⟩
def failIn (step reason i : Nat) : Fail := ⟨reason, step, true, false, i⟩

/-- Step 1. The bytes that R66 to R69 give as 0 in the header, table entries, section headers and trailer are checked by no
step, as R76 names none for them (DESIGN CHOICE, log 67). -/
def State.manFormat (s : State) (n : Nat) : Bool :=
  !(s.pm.anyBad (slotBase n) 256) && s.manNum n 0 4 == 0x464D5453 && s.manNum n 4 2 == 1 && s.manNum n 6 2 == 256 && s.manNum n 0x1C 4 == 0x6413
    && inR (s.manLength n) (256 + trailerLen) 134217728 && !(s.manRev n == 0)

/-- The VERSION of the lane image in use (R519, R521). -/
def State.laneVersion (s : State) : Nat := (s.rd (Reg.MOD_IMG_SLOT1 (s.fld F.MOD_IMG_USE_LANE))).toNat

/-- Step 2. -/
def State.manPart (s : State) (n : Nat) : Bool :=
  decide (s.manNum n 0x20 2 ≤ s.fld F.MOD_HWREV_MAJOR) && decide (s.manNum n 0x24 4 ≤ s.laneVersion)

/-- The trailer's fields (R69), and the kind of key that SIGNER names. -/
def State.manTrailer (s : State) (n off len : Nat) : Nat := s.manNum n (s.manLength n - trailerLen + off) len
def State.manSigner (s : State) (n : Nat) : Nat := s.manTrailer n 4 1
def State.manKslot (s : State) (n : Nat) : Nat := s.manTrailer n 5 1

/-- Step 3. A trailer without its MAGIC, or with a SIGNER other than 1 and 2, names no key and fails here (DESIGN CHOICE: R76
names no step for it; log 67). -/
def State.manKey (s : State) (n : Nat) : Bool :=
  !(s.pm.anyBad (slotBase n + s.manLength n - trailerLen) trailerLen)
    && s.manTrailer n 0 4 == 0x4E474953 && (s.manSigner n == 1 || s.manSigner n == 2)
    && s.keyUsable (s.manKslot n) (2 + s.manSigner n) 2 0

/-- Step 4. -/
def State.manSig (s : State) (n : Nat) : Bool :=
  Config.sigVerifies (s.manBytes n 0 256) (s.manBytes n (s.manLength n - trailerLen + 0x20) 16224) (s.keyWords (s.manKslot n))

/-- Step 5: BODYHASH, then the HASH of each section. A word of the manifest that cannot be read makes it invalid at the step
that reads it (R396): 1 the header, 3 the trailer, 5 what lies between. -/
def State.manHash (s : State) (n : Nat) : Option Fail :=
  if s.pm.anyBad (slotBase n + 256) (s.manLength n - trailerLen - 256)
    || !(sha256 (s.manBytes n 256 (s.manLength n - trailerLen - 256)) == s.manBytes n 0x30 32) then some (failAt 5 5)
  else ((List.range (s.manNsect n)).find? fun i =>
    !(sha256 (s.manBytes n (s.secOffset n i) (s.secLength n i)) == s.secHash n i)).map fun i => failIn 5 5 i

/-- The required types among those present (R70). -/
def requiredTypes (has_ : Nat → Bool) : List Nat :=
  (List.range 23).filter fun t => [1, 2, 3, 6, 7, 9, 10, 19, 21].contains t || ((t == 12 || t == 13) && has_ 11)
    || ((t == 15 || t == 16) && has_ 14)

/-- Whether table entry `i` is laid out as R65, R67 and R68 say: its header agrees, it lies in front of the trailer on a
boundary of 64, and no earlier entry overlaps it or carries its type. -/
def State.secLayout (s : State) (n i : Nat) : Bool :=
  let o := s.secOffset n i
  let l := s.secLength n i
  s.manNum n o 2 == s.secType n i && s.manNum n (o + 2) 2 == s.manNum n (256 + 64 * i + 2) 2
    && s.manNum n (o + 8) 4 == s.secRecords n i && l == 16 + s.secRecords n i * s.manNum n (o + 4) 2 && o % 64 == 0
    && decide (256 + 64 * s.manNsect n ≤ o) && decide (o + l ≤ s.manLength n - trailerLen)
    && (List.range i).all fun j => !(s.secType n j == s.secType n i)
        && (decide (s.secOffset n j + s.secLength n j ≤ o) || decide (o + l ≤ s.secOffset n j))

/-- Whether every byte between the end of one part and the start of the next is 16#00 (R65). -/
def State.gapsZero (s : State) (n : Nat) : Bool :=
  let k := s.manNsect n
  (List.range (s.manLength n - trailerLen)).all fun b => decide (b < 256 + 64 * k)
    || (List.range k).any (fun i => decide (s.secOffset n i ≤ b) && decide (b < s.secOffset n i + s.secLength n i))
    || s.manNum n b 1 == 0

/-- Step 8. That an NSECT outside 3 to 32, and a byte other than 16#00 between parts, fail at this step and concern no section
is a DESIGN CHOICE, as R76 names no step for them (log 67). -/
def State.manLayout (s : State) (n : Nat) : Option Fail :=
  if !(inR (s.manNsect n) 3 32) then some (failAt 8 8)
  else match (List.range (s.manNsect n)).find? fun i => !(s.secLayout n i) with
    | some i => some (failIn 8 8 i)
    | none =>
      match (requiredTypes fun t => (s.secOf n t).isSome).find? fun t => (s.secOf n t).isNone with
      | some t => some ⟨8, 8, false, true, t⟩
      | none => if s.gapsZero n then none else some (failAt 8 8)

/-- Step 9: the first table entry beyond a limit; an RTVER above that of the lane image in use fails with PART (R171). -/
def State.manLimits (s : State) (n : Nat) (m : Cand) : Option Fail :=
  (List.range (s.manNsect n)).findSome? fun i =>
    if !(s.secLimits n m i) then some (failIn 9 9 i)
    else if s.secType n i == 12 && decide (s.img.rtver.getD (s.fld F.MOD_IMG_USE_LANE) 0 < m.program.rtver) then some (failIn 9 2 i)
    else none

/-- Whether INSTMAP is compared and applied (R182): under VERIFY or ARM, while the ARMED manifest holds TASKS and the
program differs. -/
def State.mapApplies (s : State) (n : Nat) (q : Ask) : Option Nat :=
  if q == .verify || q == .arm then
    s.armedSlot.filter fun a => (s.secOf a 11).isSome && s.programDiffers a n
  else none

/-- Step 10. -/
def State.manRefs (s : State) (n : Nat) (m : Cand) (q : Ask) : Option Fail :=
  let old := (s.mapApplies n q).map fun k => s.slotProgram k
  ((List.range (s.manNsect n)).find? fun i => !(unitRefs m old (s.secType n i))).map fun i => failIn 10 10 i

/-- The roles that may arm a class (R85). -/
def mayArm (cls : Nat) (r : Role) : Bool := if cls == clW then r == .maker else r == .installer || r == .maker

/-- The first step of R76 that fails; none when all pass. Steps 6, 7 and 11 are for VERIFY and ARM, steps 11 to 14 not for
the check at power-up (R91). -/
def State.validate (s : State) (n : Nat) (q : Ask) (role : Role) : Option Fail :=
  let m := s.cand n
  let full := q == .verify || q == .arm
  let cls := s.changeClass n
  if !(s.manFormat n) then some (failAt 1 1)
  else if !(s.manPart n) then some (failAt 2 2)
  else if !(s.manKey n) then some (failAt 3 3)
  else if !(s.manSig n) then some (failAt 4 4)
  else match s.manHash n with
  | some f => some f
  | none =>
    let back := match s.armedSlot with
      | some a => decide (s.manRev n ≤ s.manRev a) || !(s.manSite n == s.manSite a)
      | none => false
    let base := match s.armedSlot with | some a => s.manRev a | none => 0
    if full && back then some (failAt 6 6)
    else if full && !(s.manBaserev n == base) then some (failAt 7 7)
    else match s.manLayout n with
    | some f => some f
    | none => match s.manLimits n m with
      | some f => some f
      | none => match s.manRefs n m q with
        | some f => some f
        | none =>
          if q == .power then none
          else if full && (!(s.manClass n == cls) || (s.manSigner n == 2 && (cls == clW || cls == clFIRST))) then some (failAt 11 11)
          else if !m.budgetOk then some (failAt 12 12)
          else if (match s.armedSlot with | some a => s.secDiffers a n 20 | none => false) && !(s.seal 1) then some (failAt 13 14)
          else if !(mayArm cls role && inR s.lc 1 3) then some (failAt 14 15)
          else none

/-- MOD_MAN_RESULT of a validation; CLASS from step 11 on. -/
def resultWord (slot cls : Nat) (f : Option Fail) : Word :=
  match f with
  | none => n2w (cls * 2 ^ 28 + slot * 2 ^ 24)
  | some f => n2w ((if 11 ≤ f.step then cls else 0) * 2 ^ 28 + slot * 2 ^ 24 + b2n f.sectv * 2 ^ 22 + b2n f.missing * 2 ^ 21
      + f.sect % 32 * 2 ^ 16 + f.step * 2 ^ 8 + f.reason)

/-! ## MOD_MAN_CTRL -/

/-- The word of a command. -/
def manCmd (cmd slot : Nat) : Word := n2w (cmd + slot % 4 * 256)

/-- The reads of a manifest validation at rank 6 (R403). -/
def State.manReads (s : State) (n : Nat) : State := s.trunk 6 2 (s.manLength n) .read

/-- A validation starts as long operation 1. -/
def State.manStart (s : State) (who : Who) (n : Nat) (q : Ask) : State :=
  let s := s.manReads n
  let f := s.validate n q who.role
  let cls := s.changeClass n
  let work := if f.isNone && (q == .arm || q == .armfb) then LongWork.manArm n
    else .manVerify n (resultWord n cls f) cls (s.manSigner n)
  (s.setFld F.MOD_MAN_STATUS_STEP 1).startLong 1 who work

/-- CLEAR. -/
def State.manClear (s : State) (n : Nat) : State :=
  if s.slotState n == slARMED || s.slotState n == slFALLBACK then s.answer ansBADSTATE
  else (s.setSlot n slEMPTY).answer ansOK

/-- Whether a slot may be validated by VERIFY or ARM: it holds a manifest that is neither ARMED nor FALLBACK. -/
def State.checkable (s : State) (n : Nat) : Bool := !(decide (s.slotState n ∈ [slEMPTY, slARMED, slFALLBACK]))

/-- A write of MOD_MAN_CTRL. ARMFB takes the FALLBACK slot, and no installer's write (R75). -/
def State.manCtrl (s : State) (who : Who) (v : Word) : State :=
  match s.refuse who Reg.MOD_MAN_CTRL v with
  | some c => s.answer c
  | none =>
    let cmd := v.bits 2 0
    let n := v.bits 9 8
    let fb := (List.range 4).find? fun i => s.slotState i == slFALLBACK
    if cmd == 0 then s.answer ansOK
    else if cmd == 3 && !(who.role == .maker) then s.answer ansDENIED
    else if s.pwr.recovery || !s.pmWorks || s.man.arm.isSome || !s.pwr.manDone then s.answer ansBADSTATE
    else if cmd == 1 then (if s.checkable n then s.manStart who n .verify else s.answer ansBADSTATE)
    else if cmd == 2 then (if s.checkable n then s.manStart who n .arm else s.answer ansBADSTATE)
    else if cmd == 3 then
      (match fb with
       | some k => s.manStart who k .armfb
       | none => s.answer ansBADSTATE)
    else if cmd == 4 then s.manClear n
    else s.answer ansBADSTATE

def execManVerify (w : When) (who : Who) (slot : Nat) (s : State) : Out := .next ((s.advance w).manCtrl who (manCmd 1 slot))
def execManArm (w : When) (who : Who) (slot : Nat) (s : State) : Out := .next ((s.advance w).manCtrl who (manCmd 2 slot))
def execManArmfb (w : When) (who : Who) (s : State) : Out := .next ((s.advance w).manCtrl who (manCmd 3 0))
def execManClear (w : When) (who : Who) (slot : Nat) (s : State) : Out := .next ((s.advance w).manCtrl who (manCmd 4 slot))

/-! ## The end of a validation -/

/-- The 16#0105 events of step 12 (R72). -/
def State.budgetEvents (s : State) (n : Nat) : State :=
  (s.cand n).budgetDiffs.foldl (fun s w => s.record 0x0105 w) s

/-- A slot becomes VERIFIED with its CLASS and SIGNER; the FALLBACK slot of an ARMFB stays FALLBACK. -/
def State.manVerified (s : State) (n cls signer : Nat) : State :=
  let s := (s.setFld (F.MOD_MAN_SLOT_CLASS n) cls).setFld (F.MOD_MAN_SLOT_SIGNER n) signer
  s.setSlot n (if s.slotState n == slFALLBACK then slFALLBACK else slVERIFIED)

/-- A slot is rejected (R77): RESULT, 16#0102. -/
def State.manRejected (s : State) (n : Nat) (result : Word) : State :=
  ((s.setSlot n slREJECTED).wr Reg.MOD_MAN_RESULT result).record 0x0102 [result]

/-- The end of a VERIFY, or of a validation that failed. Answers the RESULT of the long operation. -/
def State.endManVerify (s : State) (n : Nat) (result : Word) (cls signer : Nat) : State × Nat :=
  let s := s.setFld F.MOD_MAN_STATUS_STEP 0
  let s := if result.bits 11 8 == 0 || decide (12 ≤ result.bits 11 8) then s.budgetEvents n else s
  if result.bits 11 8 == 0 then ((s.wr Reg.MOD_MAN_RESULT result).manVerified n cls signer, ansOK)
  else (s.manRejected n result, result.bits 7 0)

/-- Validation has passed under ARM or ARMFB: the arm waits for its switch point (STEP 15), and a program that differs is to be
prepared (R190), by the lane that is active when its preparation ends. -/
def State.beginArm (s : State) (n : Nat) (who : Who) : State :=
  let cls := s.changeClass n
  let fb := s.slotState n == slFALLBACK
  let differs := match s.armedSlot with | some a => s.programDiffers a n | none => false
  let s := (s.budgetEvents n).wr Reg.MOD_MAN_RESULT (resultWord n cls none)
  let map := !fb && differs && (match s.armedSlot with | some a => (s.secOf a 11).isSome | none => false)
  let s := (s.manVerified n cls (s.manSigner n)).setFld F.MOD_MAN_STATUS_STEP 15
  let s : State := { s with
    man := { s.man with arm := some ⟨n, cls, fb, cls == clP, differs, 0, who⟩, idleLoaded := cls == clW || cls == clFIRST },
    prog := { s.prog with useMap := map } }
  if differs then s.setFld F.TSK_OC_STATUS_PHASE 1 else s

/-! ## Structure (R83, R84, R86, R87) -/

/-- Records of two lists without an equal in the other, by key and by what counts of them. -/
def diffRecs (key : Rec → Nat) (view : Rec → Rec) (old new : List Rec) : List Rec :=
  (old.filter fun r => !(new.any fun x => key x == key r && view x == view r))
    ++ new.filter fun r => !(old.any fun x => key x == key r && view x == view r)

/-- What a point asks of its port: station, type, direction and address. -/
def ptCarried (r : Rec) : Rec := (r.drop 4).take 3 ++ [BitVec.ofNat 8 (b2n (ptOut r))] ++ (r.drop 0x0C).take 4

/-- The ports whose configuration differs between two sets of sections: PORTS and NETWORK records, and stations, points
and mailbags on a port. -/
def affectedPorts (old new : Nat → List Rec) : List Nat :=
  let portOf := fun n => ((old 8 ++ new 8).filter fun r => Rec.u16 r 0 == n).map stPort
  ((diffRecs (fun r => Rec.u8 r 0) id (old 3) (new 3)).map (fun r => Rec.u8 r 0)
    ++ (diffRecs (fun r => Rec.u8 r 0) id (old 4) (new 4)).map (fun r => 0x80 + Rec.u8 r 0)
    ++ (diffRecs (fun r => Rec.u16 r 0) id (old 8) (new 8)).map stPort
    ++ ((diffRecs (fun r => Rec.u32 r 0) ptCarried (old 7) (new 7)).filter fun r => !(ptInternal r)).flatMap (fun r => portOf (ptStation r))
    ++ (diffRecs (fun r => Rec.u8 r 0) id (old 5) (new 5)).map mbPort).eraseDups

/-- The points are carried over (R86): the same identifier and type keeps its record, any other begins at value 0 with
quality INIT only. -/
def State.carryPoints (s : State) (old new : List Rec) : State :=
  if !(s.good .fab) then s
  else { s with fab := { s.fab with points := new.foldl (fun (t : Tab Point) r =>
    let p := Rec.u32 r 0
    t.put p (if old.any fun o => Rec.u32 o 0 == p && ptType o == ptType r then s.point p else ⟨0, 0x80, s.pmNow, false⟩)) [] } }

/-- A record with the pigeonhole, scan class and substitution that the point had (R86); a point that was internal had no scan
class, and takes that of its record. -/
def ptKept (o r : Rec) : Rec :=
  r.take 7 ++ (if ptInternal o then (r.drop 7).take 1 else (o.drop 7).take 1) ++ (o.drop 8).take 1
    ++ [BitVec.ofNat 8 (putBit (Rec.u8 r 9) 2 (ptSub o))] ++ (r.drop 10).take 6 ++ (o.drop 16).take 4 ++ r.drop 20

/-- POINTS in force after the switch, and the records that wait for a round of their class. A point that is internal after
the switch has no round (R104): that its changed pigeonhole and substitution take effect at the switch point is a DESIGN
CHOICE (log 76). -/
def splitPoints (old new : List Rec) : List Rec × List Rec :=
  let now := new.map fun r =>
    match old.find? fun o => Rec.u32 o 0 == Rec.u32 r 0 && ptType o == ptType r with
    | some o => if ptInternal r then r else ptKept o r
    | none => r
  (now, new.filter fun r => !(now.contains r))

/-- Stations that appear begin ABSENT with cleared registers, and age from FAB's start (R130); those that disappear are
forgotten. -/
def State.carryStations (s : State) (old new : List Rec) : State :=
  if !(s.good .fab) then s
  else
    let ids := fun (l : List Rec) => l.map fun r => Rec.u16 r 0
    let gone := (ids old).filter fun n => !((ids new).contains n)
    let fresh := (ids new).filter fun n => !((ids old).contains n)
    let s : State := { s with fab := { s.fab with
      stations := fresh.foldl (fun t n => Tab.put t n (.new s.fab.start)) (s.fab.stations.filter fun e => !(gone.contains e.1)) } }
    (gone ++ fresh).foldl (fun s n => s.wr (Reg.FPT_STA n) 0) s

/-- BACnet devices with a class-E input point that they did not have before subscribe anew (R113). -/
def State.resubscribe (s : State) (old new : List Rec) : State :=
  if !(s.good .fab) then s
  else
    let reports := fun (l : List Rec) => (l.filter fun r => !(ptInternal r) && !(ptOut r) && ptClass r == 3).map
      fun r => (ptStation r, Rec.u32 r 0)
    let added := ((reports new).filter fun e => !((reports old).contains e)).map (·.1)
    { s with fab := { s.fab with stations := s.fab.stations.map fun (e : Nat × Station) =>
        (e.1, if added.contains e.1 then { e.2 with cov := false } else e.2) } }

/-- Mailbags whose record changes begin again with an empty ring. -/
def State.carryMail (s : State) (old new : List Rec) : State :=
  if !(s.good .net) then s
  else (diffRecs (fun r => Rec.u8 r 0) id old new).foldl (fun s r =>
    let m := Rec.u8 r 0
    let s := (((s.wr (Reg.MBG_HEAD m) 0).wr (Reg.MBG_TAIL m) 0).wr (Reg.MBG_CNT m) 0).wr (Reg.MBG_DROP m) 0
    { s with net := { s.net with mbs := s.net.mbs.del m } }) s

/-- A MAC without a NETWORK record, or without EN, has its link down (R455); MAC 6 without a record serves the Counter
(R475). A link that goes down here is shown and recorded as any other. -/
def State.dropMacs (s : State) : State :=
  ((List.range 7).filter fun m => s.flag (F.ETH_STATUS_LINK m)
      && !(match s.netRec m with | some r => Rec.bit r 1 0 | none => m == 6)).foldl
    (fun s m => (s.setFld (F.ETH_STATUS_LINK m) 0).record 0xA00A [n2w m, 0, n2w (s.fld (F.ETH_STATUS_RATE m))]) s

/-- The affected groups take their use, MACs no longer used lose their link, and every affected port is quiesced (R83).
`all`: the first arm, at which no group has taken a use yet. -/
def State.carryPorts (s : State) (ports : List Nat) (all : Bool) : State :=
  if !(s.good .net) || (s.net.ports.isEmpty && !all) then s
  else
    let s := (ports.filter fun g => decide (g < 24)).foldl (fun s g =>
      match (s.recs 3).find? fun r => Rec.u8 r 0 == g with
      | some r => s.takePort g r
      | none => s.dropPort g) s
    s.dropMacs.quiesce (ports.filter fun p => if 128 ≤ p then s.macsOn.contains (p - 128) else (s.recs 3).any fun r => Rec.u8 r 0 == p)

/-- Sessions whose binding is gone or whose ROLE, PH, KSLOT or TFLAGS changed are closed (R491). -/
def State.carrySessions (s : State) : State :=
  (List.range 8).foldl (fun s k =>
    match s.ctr.sessions.get? k with
    | none => s
    | some x =>
      if !x.opened || x.binding < 2 then s
      else match (s.recs 10).find? fun r => Rec.u8 r 0 == x.binding with
        | some r => if Rec.u8 r 1 == x.role.num && Rec.u8 r 2 == x.ph && Rec.u8 r 4 == x.kslot && Rec.u8 r 3 == x.tflags then s
            else s.closeSession k 3
        | none => s.closeSession k 3) s

/-- METERING takes force at the next cycle boundary, or at once while MTR is off (R271). -/
def State.carryMeter (s : State) (old new : List Rec) : State :=
  if decide (old = new) then s
  else if s.good .mtr then { s with mtr := { s.mtr with next := some new, due := false } }
  else { s with man := { s.man with cfg := s.man.cfg.put 17 new } }

/-- CLE is powered down when it is no longer declared (R84). -/
def State.dropCle (s : State) : State :=
  if (s.recs 14).isEmpty && !(s.domSt 5 == .off) then (s.wkStop 5).setDom 5 .off 6 else s

/-- The structure of a slot takes effect at the switch point: every class-S difference, for class W and a first arm also
domains, fabric and axes. -/
def State.takeStructure (s : State) (a : Arm) : State :=
  let old := fun t => s.recs t
  let wide := a.cls == clW || a.cls == clFIRST
  let pts := splitPoints (s.recs 7) (s.slotRecs a.slot 7)
  let types := [2, 3, 4, 5, 8, 9, 10, 20, 21] ++ (if wide then [1, 14] else []) ++ (if a.cls == clFIRST then [15, 16] else [])
  let s := s.loadSecs a.slot types
  let s : State := { s with man := { s.man with
    cfg := s.man.cfg.put 7 pts.1, pts := pts.2, plane := if wide then 1 - s.man.plane else s.man.plane, idleLoaded := false } }
  let s := ((s.carryPoints (old 7) pts.1).carryImage (old 7) pts.1).carryStations (old 8) (s.recs 8)
  let s := s.resubscribe (old 7) (s.slotRecs a.slot 7)
  let s := s.carryMail (old 5) (s.recs 5)
  let s := (s.carryPorts (affectedPorts old s.recs) (a.cls == clFIRST)).takeTimebase
  let s := s.carryMeter (old 17) (s.slotRecs a.slot 17)
  let s := if a.cls == clW then s.orderTables (old 14) else s
  let s := if wide && s.good .cle then s.takeAxes (old 14) else s
  let s := (s.safTake (s.recs 20)).carrySessions
  let s := if wide then s.dropCle.showDecl else s
  let busy := match s.program.base with | some b => (s.task b).inCycle | none => false
  { s with
    man := { s.man with arm := s.man.arm.map fun x => { x with structDone := true } },
    prog := { s.prog with firstCycle := if a.progDiffers && s.mode == modeRUN then 1 + b2n busy else 0 } }

/-- The class whose next input phase is the switch point of a class-S arm: the fastest scan class of a point, before or after
the switch, on a port that it changes; class S where it changes no port with points (R83; with several ports DESIGN CHOICE,
log 66). -/
def State.switchClass (s : State) (a : Arm) : Nat :=
  let new := fun t => s.slotRecs a.slot t
  let ports := affectedPorts s.recs new
  let cls := fun (st pts : List Rec) =>
    ((pts.filter fun r => !(ptInternal r) && st.any fun x => Rec.u16 x 0 == ptStation r && ports.contains (stPort x)).map
      fun r => treatClass (ptClass r)).foldl min 2
  min (cls (s.recs 8) (s.recs 7)) (cls (new 8) (new 7))

/-- Whether an input phase of a class starts now and has not yet been opened: the structure switches first. -/
def State.phaseStarts (s : State) (c : Nat) : Bool := s.roundDue c && (s.round c).phase == .idle

/-- CLASS_S_SWITCH (R83). -/
def State.classS (s : State) : State :=
  match s.man.arm with
  | some a =>
    if a.cls == clS && !a.structDone && s.good .fab && !s.switchWaits && s.phaseStarts (s.switchClass a) then
      (s.takeStructure a).ocIdleSwitch
    else s
  | none => s

def execClassSSwitch (w : When) (s : State) : Out := .next (s.advance w).classS

/-- Enabled axes whose AXES record changes (R87). -/
def State.busyAxes (s : State) (n : Nat) : List Nat :=
  let new := s.slotRecs n 14
  s.axesOn.filter fun k => match s.axRec k with | some r => !(new.contains r) | none => false

/-- The program of a first arm and the class-P sections take effect with the structure; the arm ends (R84, R90). -/
def State.firstArm (s : State) (a : Arm) : State :=
  let p := s.slotProgram a.slot
  let s := ((s.loadProgram p).classP a).tradeSlots a.slot a.fb
  let s := s.switchNow p.nums s.slotWords
  s.armEnd s.pmNow

/-- Whether a class-S input phase starts now by the TIMEBASE of a first arm: no other is in force (R84). -/
def State.firstPhase (s : State) (a : Arm) : Bool := roundAt (s.slotRecs a.slot 2) s.clk 2

/-- CLASS_W_SWITCH (R84, R87): postponed while an axis whose record changes is enabled, given up after 30 postponements; a
newly declared CLE has started before. -/
def State.classW (s : State) : State :=
  match s.man.arm with
  | some a =>
    if !(a.cls == clW || a.cls == clFIRST) || a.structDone || !(s.good .fab) || s.switchWaits
        || (a.cls == clW && !(s.phaseStarts 2)) || (a.cls == clFIRST && !(s.firstPhase a)) then s
    else if (s.secOf a.slot 14).isSome && !(s.good .cle) && !(s.domSt 5 == .failed) then s
    else match s.busyAxes a.slot with
      | k :: _ =>
        if 30 ≤ a.postponed then
          let s := s.wr Reg.MOD_MAN_RESULT (n2w (a.cls * 2 ^ 28 + a.slot * 2 ^ 24 + 0x10))
          s.dropArm.endLong 0x10
        else
          let s : State := { s with man := { s.man with arm := some { a with postponed := a.postponed + 1 } } }
          s.record 0x0104 [n2w (a.postponed + 1), n2w k]
      | [] =>
        let s := s.takeStructure a
        if a.cls == clFIRST then s.firstArm a else s.ocIdleSwitch
  | none => s

def execClassWSwitch (w : When) (s : State) : Out := .next (s.advance w).classW

/-! ## The program switch (R82, R190, R191) -/

/-- Tasks take their data from their checkpoints, in the program that they still run. -/
def State.fromCk (s : State) (ts : List Nat) : State :=
  ts.foldl (fun s t => s.setTask t { s.task t with data := (s.restData t 3).1 }) s

/-- A program that changes while no lane is active: each task's checkpoint is translated, and the new area is in force with the
slot states. -/
def State.offlineSwitch (s : State) (a : Arm) : State :=
  let old := s.areaN
  let na := 1 - old
  let s := s.setArea na (s.slotProgram a.slot)
  let ts := (List.range 64).filter fun t => (s.prog.tasks.get? t).isSome || ((s.prog.area na).rec? t).isSome
  let s := ts.foldl (fun s t => s.setTask t { s.task t with area := old }) s
  let s := (((s.fromCk ts).switchTasks na ts).tradeSlots a.slot a.fb).setFld F.TSK_STATUS_AREA na
  let s := (s.switchNow ts s.slotWords).setFld F.TSK_OC_STATUS_PHASE 0
  { s with prog := { s.prog with useMap := false } }

/-- Tasks still pending when the lane goes without a fault, by a self-fence or a pair swap, switch from their last
checkpoints, which ends the change (R193, R194). -/
def State.offlineRest (s : State) : State := (s.fromCk s.ocPending).ocRest.durableNow.ocFinish

/-- PROGRAM_SWITCH_BOUNDARY: the first cycle boundary after validation, or after the structure switch, of an arm whose
program does not differ. Without an active lane a program that differs is switched here too, or what is left of it. -/
def State.progBoundary (s : State) : State :=
  match s.man.arm with
  | some a =>
    if !a.structDone || (a.progDiffers && !(s.lane == 0)) || s.switchWaits || !(s.clk.angle == 0) then s
    else if s.fld F.TSK_OC_STATUS_PHASE == 3 then s.offlineRest
    else
      let s := if a.progDiffers then s.offlineSwitch a else s.armSlots a.slot a.fb
      (s.classP a).armEnd s.pmNow
  | none => s

def execProgramSwitchBoundary (w : When) (s : State) : Out :=
  let s := s.advance w
  .next (if s.good .mtr then s.progBoundary else s)

/-- The new program of an arm holds no task: STOP with CAUSE 3 before the switch (R164). -/
def State.stopForNone (s : State) : State :=
  if (s.prog.area (1 - s.areaN)).none? && !(s.mode == modeSTOP) then s.enterStop 3 noBody else s

/-- OC_PREPARATION_DONE (R190): code, constants and images of the new program lie in the idle area. In STOP or HOLD the
switch follows at once (R194). -/
def State.ocPrepared (s : State) : State :=
  match s.man.arm with
  | some a =>
    if s.fld F.TSK_OC_STATUS_PHASE == 1 then
      let s := (s.setArea (1 - s.areaN) (s.slotProgram a.slot)).setFld F.TSK_OC_STATUS_PHASE 2
      if s.mode == modeHOLD && a.structDone then s.stopForNone.ocIdleSwitch else s.ocIdleSwitch
    else s
  | none => s

def execOcPreparationDone (w : When) (s : State) : Out :=
  let s := s.advance w
  .next (if s.laneUp && !s.pwr.pfail then s.ocPrepared else s)

/-- BASE_SWITCH (R191). A program without TASKS stops the old one first. -/
def State.baseCmd (s : State) : State :=
  match s.man.arm with
  | some a =>
    if !(s.fld F.TSK_OC_STATUS_PHASE == 2) || !a.structDone || s.switchWaits || s.mode == modeSTOP then s
    else if (s.prog.area (1 - s.areaN)).none? then (if s.baseDue then s.stopForNone else s)
    else if s.mode == modeRUN && s.baseDue then s.baseSwitch a else s
  | none => s

def execBaseSwitch (w : When) (s : State) : Out :=
  let s := s.advance w
  .next (if s.laneUp then s.baseCmd else s)

/-! ## Power-up (R91) -/

/-- The units are configured from a slot: every section in force, PMK_CFG, metering, safety and recorder. FAB and the
lanes start later and take theirs then. -/
def State.configure (s : State) (n : Nat) : State :=
  let s := s.loadSecs n [1, 2, 3, 4, 5, 7, 8, 9, 10, 14, 15, 16, 17, 18, 19, 20, 21, 22]
  let s := ((s.wr Reg.MOD_MAN_REV (n2w (s.manRev n))).showDecl.takeTimebase).takeRecorder (s.recs 19)
  let began := s.mtr.startNs
  let s := if s.good .mtr then (let s := s.startMtr; { s with mtr := { s.mtr with startNs := began } }) else s
  (s.safTake (s.recs 20)).pairRevs

/-- The module runs with no manifest armed (R91): no revision, no declared domain, no safety parameters. -/
def State.noManifest (s : State) : State := ((s.wr Reg.MOD_MAN_REV 0).showDecl).safTake []

/-- POWERUP_MANIFEST_CHECK: the ARMED slot, or the FALLBACK slot in its place. -/
def State.powerCheck (s : State) : State :=
  let s := (s.setPwr { s.pwr with manDone := true }).showSlots
  match s.armedSlot with
  | none => s.noManifest
  | some n =>
    let s := s.manReads n
    match s.validate n .power .maker with
    | none => s.configure n
    | some f =>
      let fb := (List.range 4).find? fun i => s.slotState i == slFALLBACK
      let s := s.manRejected n (resultWord n 0 (some f))
      match fb with
      | none => s.noManifest
      | some k =>
        let s := s.manReads k
        match s.validate k .power .maker with
        | some g => (s.manRejected k (resultWord k 0 (some g))).noManifest
        | none =>
          let s := (s.setSlot k slARMED).setFld F.MOD_MAN_STATUS_FBUSED 1
          (s.record 0x0103 [n2w n, n2w f.reason]).configure k

def execPowerupManifestCheck (w : When) (s : State) : Out :=
  let s := s.advance w
  .next (if s.pmWorks && s.good .ref && !s.pwr.manDone && !s.pwr.recovery && !s.pwr.pfail then s.powerCheck else s)

/-! ## LONG_OPERATION_END (R484) -/

/-- What the end of a long operation does, with the RESULT it reports. A validation under ARM that passes goes on as an
arm; an image that becomes VERIFIED goes to a lane that waits for one (R535). -/
def State.longEnd (s : State) (o : LongOp) : State :=
  match o.work with
  | .manVerify n r cls signer => let e := s.endManVerify n r cls signer; e.1.endLong e.2
  | .manArm n => if s.man.arm.isSome then s else s.beginArm n ⟨Role.ofNum o.role, 0, o.session⟩
  | .delta src dst => let e := s.endDelta src dst; (e.1.endLong e.2).passImage dst
  | .attest slot => (s.endAttest slot).endLong ansOK
  | .keyWrite slot code => (s.endKeyWrite slot code o.role o.session).endLong code
  | .zero mask retire => (s.endZero mask retire).endLong ansOK
  | .safConfirm v => if s.good .pmm then (let e := s.endConfirm v o.session; e.1.endLong e.2) else s
  | .protect level => ((s.persistNow 0 1 8 (.level level)).endProtect level o.role o.session).endLong ansOK
  | .imgVerify slot reason => ((s.imgChecked slot reason).endLong reason).passImage slot

def execLongOperationEnd (w : When) (s : State) : Out :=
  let s := s.advance w
  .next (match s.ctr.long with
    | some o =>
      let waits := match o.work with
        | .manVerify _ _ _ _ => s.pms.restart.isSome
        | .manArm _ => s.pms.restart.isSome
        | _ => false
      if s.good .ref && !s.pwr.pfail && !waits then s.longEnd o else s
    | none => s)

end Sys2Proof.Machine
end

