-- ==== Sys2Proof/Machine/Store.lean ====
section
/-! DEFINITION. The bytes of the array as a reader of the window finds them (R379, R381, R383, R393 to R395): checkpoint slots in
the format of R393, energy slots, the journal, the point-store mirror and the module's other records. What the spec gives no
place or layout is a free byte that the record's contents determine (log 74). -/

namespace Sys2Proof.Machine

/-- The kinds of `Config.recordByte` beside those of `RecKind`. -/
def byEnergy : Nat := 20
def byFw : Nat := 21
def byTorn : Nat := 22
def byEntry : Nat := 23
def byCommit : Nat := 24
def byGroup : Nat := 25
def byOld : Nat := 26

/-! ## Checkpoint slots (R393) -/

/-- A slot's header, data and page table, whatever record it holds: `data` gives the bytes of the instance data. -/
structure SlotView where
  task : Nat
  area : Nat
  seq : Nat
  frank : Word
  len : Nat
  relpm : Postmark
  data : Nat → Byte

/-- Bytes of a slot. -/
def SlotView.size (v : SlotView) : Nat := ckHeader 0 v.len + 64

/-- The page table: one CRC-32C for each page of the data. -/
def SlotView.table (v : SlotView) : List Byte :=
  (List.range (pagesOf v.len)).flatMap fun p =>
    leBytes 4 (crc32c ((List.range (min 4096 (v.len - 4096 * p))).map fun i => v.data (4096 * p + i)))

/-- The header before its own check, and whole. -/
def SlotView.head (v : SlotView) : List Byte :=
  leBytes 4 0x54504B43 ++ leBytes 1 v.task ++ leBytes 1 v.area ++ leBytes 2 0 ++ leBytes 8 v.seq ++ leBytes 4 v.frank.toNat
    ++ leBytes 4 v.len ++ leBytes 8 v.relpm.toNat ++ leBytes 4 (pagesOf v.len) ++ leBytes 4 (crc32c v.table) ++ leBytes 20 0
def SlotView.header (v : SlotView) : List Byte := v.head ++ leBytes 4 (crc32c v.head)

/-- Byte `i` of a slot: data, page table, header. -/
def SlotView.byte (v : SlotView) (i : Nat) : Byte :=
  if i < v.len then v.data i
  else if i < ckHeader 0 v.len then v.table.getD (i - v.len) 0
  else v.header.getD (i - ckHeader 0 v.len) 0

/-- A task's slot. -/
def Ckpt.view (c : Ckpt) (task seq : Nat) : SlotView := ⟨task, c.area, seq, c.frank, c.len, c.relpm, Mem.byte c.data⟩

/-- A postmark that may be absent, as one number. -/
def pmNum (p : Option Postmark) : Nat := match p with | some p => p.toNat + 1 | none => 0

/-- The lane firmware's slot: 64 pages, whose contents the spec does not lay out. -/
def Fw.view (f : Fw) (seq : Nat) : SlotView :=
  ⟨64, f.area, seq, f.frank, 64 * 4096, f.relpm,
    Config.recordByte byFw f.area ([f.mode, f.cause, f.restarts.toNat, f.gmode] ++ f.held.flatMap fun l =>
      [l.outpt, l.level.num.natAbs, l.level.den, l.cause, b2n l.below, pmNum l.onPm, pmNum l.offPm])⟩

/-- What a slot holds: blank nothing; a torn one its header's fields, where they still pass their check, and bytes of both
records. -/
def TSlot.bytes {α : Type} (x : TSlot α) (view : α → Nat → SlotView) (task i : Nat) : Option Byte :=
  match x with
  | .blank => none
  | .valid n c => if i < (view c n).size then some ((view c n).byte i) else none
  | .invalid none => if i < 64 then some (Config.recordByte byTorn task [] i) else none
  | .invalid (some c) =>
    if i < (view c 0).size then some (Config.recordByte byTorn task [(view c 0).area, (view c 0).relpm.toNat] i) else none

/-- The older slot while a commit is on its way: the new pages and page-table entries, and the header as it was (R394). -/
def TSlot.mixed (x : TSlot Ckpt) (c : Ckpt) (task i : Nat) : Option Byte :=
  let v := c.view task 0
  if i < ckHeader 0 v.len then some (v.byte i)
  else match x with
    | .valid n o => (o.view task n).header[i - ckHeader 0 v.len]?
    | .blank => none
    | .invalid _ => if i < v.size then some (Config.recordByte byTorn task [] i) else none

/-- Byte `i` of a task's slot in checkpoint area A or B, or in the pair replication buffer, for a program area. -/
def CkSlots.byte (k : CkSlots) (pend : Option Ckpt) (isA : Bool) (area task i : Nat) : Option Byte :=
  let x := (k.half area).slot isA
  match pend with
  | some c => if c.area == area && k.merge.toA == isA then x.mixed c task i else x.bytes (fun c n => c.view task n) task i
  | none => x.bytes (fun c n => c.view task n) task i

/-- The four halves in which slots lie. -/
def ckHalves : List (Bool × Nat) := [(true, 0), (true, 1), (false, 0), (false, 1)]

/-- The byte of whichever slot of a task lies at an offset. -/
def CkSlots.at_ (k : CkSlots) (pend : Option Ckpt) (repl : Bool) (task o : Nat) : Option Byte :=
  ckHalves.findSome? fun h =>
    let start := ckSlotAt repl h.1 h.2 task
    if start ≤ o then k.byte pend h.1 h.2 task (o - start) else none

/-- The byte of the lane firmware's slot at an offset. -/
def Twin.fwAt (t : Twin Fw) (o : Nat) : Option Byte :=
  ckHalves.findSome? fun h =>
    let x := t.slot h.1
    let inHalf := match x with | .valid _ f => f.area == h.2 | .invalid (some f) => f.area == h.2 | _ => h.2 == 0
    let start := ckSlotAt false h.1 h.2 64
    if inHalf && decide (start ≤ o) then x.bytes (fun f n => f.view n) 64 (o - start) else none

/-- A byte of the checkpoint areas and of the pair replication buffer. -/
def State.ckByte (s : State) (o : Nat) : Byte :=
  ((s.prog.tasks.findSome? fun (e : Nat × Task) => e.2.ck.at_ e.2.pend false e.1 o).or (s.prog.fw.fwAt o)).getD 0
def State.replByte (s : State) (o : Nat) : Byte :=
  (s.pms.pair.repl.findSome? fun (e : Nat × CkSlots) => e.2.at_ none true e.1 o).getD 0

/-! ## Energy store and mirror -/

/-- The numbers that a save holds. -/
def EnergySave.nums (v : EnergySave) : List Nat :=
  let pairs := fun (l : List (Nat × Nat)) => l.flatMap fun e => [e.1, e.2]
  [v.seq, v.pm.toNat, v.sec, b2n v.secValid, b2n v.flush] ++ pairs v.energy ++ pairs v.flags ++ pairs v.residues

/-- A byte of the energy store: slot `i` of 4,096 bytes (R395). -/
def State.energyByte (s : State) (i : Nat) : Byte :=
  match s.pm.energy.find? fun v => v.slot == i / 4096 with
  | some v => Config.recordByte byEnergy (i / 4096) v.nums (i % 4096)
  | none => 0

/-- A byte of the point-store mirror: the record of a point, 16 bytes. -/
def State.mirrorByte (s : State) (i : Nat) : Byte :=
  match s.pm.mirror.get? (i / 16) with
  | some ws => (ws.flatMap fun v => leBytes 4 v.toNat).getD (i % 16) 0
  | none => 0

/-! ## The journal (R381) -/

/-- The cells that an entry's bytes fall into, first named first, and those bytes in the order of their cells. -/
def cellsOf (cs : List (Nat × Byte)) : List Nat := (cs.map fun c => c.1 / 64 * 64).eraseDups
def cellMask (cs : List (Nat × Byte)) (cell : Nat) : Nat :=
  ((List.range 64).filter fun i => cs.any fun c => c.1 == cell + i).foldl (fun m i => m + 2 ^ i) 0

/-- The cell list: of each cell its offset and its byte mask, 8 bytes each. -/
def cellList (cs : List (Nat × Byte)) : List Byte :=
  (cellsOf cs).flatMap fun c => leBytes 8 c ++ leBytes 8 (cellMask cs c)

/-- Cell list and data of an entry; of a record whose places the spec does not give, free bytes that its sequence determines. -/
def JEntry.body (e : JEntry) : List Byte :=
  match e.load with
  | .bytes cs => cellList cs ++ cs.map (·.2)
  | _ => (List.range (16 * e.cells + e.data)).map (Config.recordByte byGroup e.seq [e.cells, e.data])

/-- Byte `i` of an entry: the header with the sequence first, then n, d and the CRC-32C over header and cell list; cell list;
data; the commit record with the CRC-32C over the data, written when the group is durable. -/
def JEntry.byteAt (e : JEntry) (i : Nat) : Byte :=
  if i < 8 then (leBytes 8 e.seq).getD i 0
  else if i < 64 then Config.recordByte byEntry e.seq [e.cells, e.data, crc32c (e.body.take (16 * e.cells))] i
  else if i < 64 + 16 * e.cells + e.data then e.body.getD (i - 64) 0
  else if e.durable then
    Config.recordByte byCommit e.seq [crc32c (e.body.drop (16 * e.cells))] (i - 64 - 16 * e.cells - e.data)
  else Config.recordByte byOld e.seq [] i

/-- A byte of the journal; outside its unapplied entries, what entries applied earlier left there. -/
def State.journalByte (s : State) (i : Nat) : Byte :=
  let from_ := fun (e : JEntry) => (i + journalSize - e.pos) % journalSize
  match s.pm.journal.find? fun e => decide (from_ e < e.len) with
  | some e => e.byteAt (from_ e)
  | none => if s.groupSeq == 0 then 0 else Config.recordByte byOld s.groupSeq [s.pm.next] i

/-! ## System records and safety parameter store -/

/-- The byte of a twin record's slots at an offset. -/
def Twin.at_ {α : Type} (t : Twin α) (k : RecKind) (nums : α → List Nat) (o : Nat) : Option Byte :=
  [(0, t.a), (1, t.b)].findSome? fun (e : Nat × TSlot α) =>
    if k.holds e.1 o then
      match e.2 with
      | .blank => none
      | .invalid _ => some (Config.recordByte k.num e.1 [] (o - (k.place e.1).1))
      | .valid n c => some (Config.recordByte k.num e.1 (n :: nums c) (o - (k.place e.1).1))
    else none

/-- The byte of a record with one slot. -/
def RecKind.at_ (k : RecKind) (nums : List Nat) (o : Nat) : Option Byte :=
  if k.holds 0 o then some (Config.recordByte k.num 0 nums (o - (k.place 0).1)) else none

/-- A byte of the system records (R378, R392). -/
def State.systemByte (s : State) (o : Nat) : Byte :=
  ((((((((s.pms.epoch.at_ .epoch (fun n => [n]) o).or (s.pms.lastLane.at_ .lastLane (fun n => [n]) o)).or
    (s.man.slots.at_ .slots (fun ws => ws.map (·.toNat)) o)).or (s.clk.saved.at_ .clock (fun e => [e.1, e.2]) o)).or
    (s.pm.level.at_ .level (fun n => [n]) o)).or (s.evr.saved.at_ .evrNext (fun n => [n]) o)).or
    (RecKind.at_ .words (s.pm.words.flatMap fun e => [e.1, e.2.toNat]) o)).or
    ((RecKind.at_ .backup (match s.pwr.backup with | some m => [m] | none => []) o).or
      (RecKind.at_ .block [s.pms.pair.granted] o))).getD 0

/-- A byte of the safety parameter store: the SAFETY record as it was stored, and the unit's two twin records. -/
def State.safetyByte (s : State) (o : Nat) : Byte :=
  if RecKind.safety.holds 0 o then s.saf.stored.getD (o - (RecKind.safety.place 0).1) 0
  else ((s.saf.confirmed.at_ .confirmed (fun v => [v.toNat]) o).or
    (s.saf.latch.at_ .latch (fun e => e.1 :: e.2.flatMap fun d => [d.1, d.2]) o)).getD 0

/-! ## The window -/

/-- The byte of the record that a unit keeps at an offset. -/
def State.unitByte (s : State) (o : Nat) : Byte :=
  match regionOf o with
  | .ckpt => s.ckByte o
  | .repl => s.replByte o
  | .energy => s.energyByte (o - 0x70000000)
  | .journal => s.journalByte (o - 0x71000000)
  | .mirror => s.mirrorByte (o - 0x72000000)
  | .system => s.systemByte o
  | .safety => s.safetyByte o
  | _ => 0

/-- The byte that a read of the window finds: one written as a byte of the array (R383), else that of a unit's record. -/
def State.storeByte (s : State) (o : Nat) : Byte := if s.pm.read o == 0 then s.unitByte o else s.pm.read o

/-- The word at an offset, little-endian. -/
def State.storeWord (s : State) (o : Nat) : Word := n2w (leNat ((List.range 4).map fun i => s.storeByte (o + i)))

end Sys2Proof.Machine
end

