-- ==== Sys2Proof/Machine/Access.lean ====
section
/-! DEFINITION. Register access by the Counter (R4 to R9, R488 checks 5 to 8, R489, R492): what a read of one word
answers and does, what a write of one word does, and consecutive words. -/

namespace Sys2Proof.Machine

/-! ## Who sees what (R489, R490, R492) -/

/-- GRPMASK of a pigeonhole (R490). -/
def State.grpMask (s : State) (ph : Nat) : Nat :=
  match (s.recs 9).find? fun r => Rec.u8 r 0 == ph with
  | some r => Rec.u16 r 2
  | none => 0

/-- The registers of R489 that a tenant sees beside points: MOD_ID, MOD_HWREV, CTR_STATUS, CTR_SELF, its metering groups,
GOV_RTS of its pigeonhole and GOV_LD of loads of its pigeonhole. -/
def State.tenantSees (s : State) (who : Who) (a : Nat) : Bool :=
  if a == Reg.MOD_ID || a == Reg.MOD_HWREV || a == Reg.CTR_STATUS || a == Reg.CTR_SELF then true
  else if decide (0x102000 ≤ a) && decide (a < 0x103000) then
    s.grpMask who.ph / 2 ^ ((a - 0x102000) / 0x100) % 2 == 1 && s.mapped a
  else if a == Reg.GOV_RTS0 who.ph || a == Reg.GOV_RTS1 who.ph then true
  else if decide (0x404000 ≤ a) && s.mapped a then
    (match s.govLoads.find? fun l => l.1 == (a - 0x404000) / 8 with
     | some l => ldPh l.2 == who.ph
     | none => false)
  else false

/-- The answer to an address that is not there, or not in a tenant's view (R28, R492). -/
def noSuch (who : Who) : Nat := if who.role == .tenant then ansHIDDEN else ansBADADDR

/-- Registers that recovery mode reads (R534). -/
def recovReg (a : Nat) : Bool := a == Reg.MOD_ID || a == Reg.MOD_HWREV || imgReg a

/-- Checks 5 to 7 of R488 for a read of one word. -/
def State.refuseWordRead (s : State) (who : Who) (a : Nat) : Option Nat :=
  if !(a % 4 == 0) then some (noSuch who)
  else
    match blockOf a with
    | none => some (noSuch who)
    | some .pts => s.refusePoint who ((a - 0x1000000) / 16)
    | some .pmw => s.refuseWinRead who (a - 0x100000000)
    | some b =>
      if who.role == .tenant && !(s.tenantSees who a) then some ansHIDDEN
      else if !(s.mapped a) then some ansBADADDR
      else if (b == .key || (b == .fpt && canWindow a)) && who.role == .operator then some ansDENIED
      else if !(s.addrGood a) || (s.pwr.recovery && !(recovReg a)) then some ansBADSTATE
      else none

/-! ## Reading one word -/

/-- The _LO registers of R9, each with its _HI register 4 above; the shadows of PRF and the correlation postmark are not
latched this way. -/
def isLo (a : Nat) : Bool :=
  decide (a ∈ [Reg.PMK_NOW_LO, Reg.TSK_OC_PEND_LO, Reg.TSK_OC_PM_LO, Reg.PMC_GROUPS_LO, Reg.PRF_SNAPPM_LO, Reg.CTR_FACTMAC_LO])
    || (decide (0x200000 ≤ a) && decide (a < 0x240000)
      && (a % 0x1000 == 0x604 || (decide (0x700 ≤ a % 0x1000) && decide (a % 0x1000 < 0x800) && a % 16 == 0)))
    || (decide (0x102000 ≤ a) && decide (a < 0x103000) && decide (0x40 ≤ a % 0x100) && decide (a % 0x100 < 0xA0) && a % 16 == 0)

/-- Words that read as one sample from their word at +0 on: points (R99) and sections (R231). -/
def isQuad (a : Nat) : Bool :=
  decide (0x1000000 ≤ a) && decide (a < 0x1200000)
    || (decide (0x200000 ≤ a) && decide (a < 0x240000) && decide (0x100 ≤ a % 0x1000) && decide (a % 0x1000 < 0x1C0))

/-- The registers that a read of `a` latches, and those whose latch it ends (R9, R99, R231). -/
def latchesOf (a : Nat) : List Nat :=
  if isLo a then [a + 4] else if isQuad a && a % 16 == 0 then [a + 4, a + 8, a + 12] else []
def releasesOf (a : Nat) : List Nat :=
  if isQuad a then (if a % 16 == 12 then [a - 8, a - 4, a] else []) else [a]

/-- CTR_SELF of the reading session (R495). -/
def State.selfWord (s : State) (who : Who) : Word :=
  let b := match s.sessOf who.session with | some e => e.2.binding | none => 0
  n2w (who.session * 2 ^ 16 + b * 2 ^ 8 + who.role.num * 2 ^ 6 + who.ph)

/-- The word that a read finds, before latches. -/
def State.wordAt (s : State) (who : Who) (a : Nat) : Word :=
  if a == Reg.CTR_SELF then s.selfWord who
  else if blockOf a == some .pmw then s.storeWord (a - 0x100000000)
  else s.peek a

/-- The latches after a read of `a`. -/
def State.relatch (s : State) (who : Who) (a : Nat) : State :=
  let kept := (releasesOf a).foldl (fun (t : Tab Word) b => t.del b) s.latch
  { s with latch := (latchesOf a).foldl (fun (t : Tab Word) b => t.put b (s.wordAt who b)) kept }

/-- What a read does besides latching (R6, R61, R280, R540): RC fields clear, PMK_COR_SEQ freezes, a view's WIN is a
clearing read. -/
def State.readEffect (s : State) (a : Nat) : State :=
  if a == Reg.PMK_COR_SEQ then s.freezeCor
  else if decide (Reg.ARB_RANK_WAIT 0 ≤ a) && decide (a < Reg.ARB_RANK_WAIT 8) && a % 8 == 0 then s.clearWait a
  else if a == Reg.PWR_VIN then s.setPwr { s.pwr with vinRead := s.ns / 1000000 }
  else if a == Reg.EVR_HIGHFILL then { s with evr := { s.evr with highfill := 0 } }
  else if decide (0x102000 ≤ a) && decide (a < 0x103000) && decide (0x40 ≤ a % 0x100) && decide (a % 0x100 < 0xA0) && a % 16 == 8
  then s.clearView ((a - 0x102000) / 0x100) ((a % 0x100 - 0x40) / 16)
  else if blockOf a == some .pmw then s.trunk 7 3 4 .read
  else
    match findReg a with
    | some d => if d.hasRC then s.wr (canonAddr a) (d.cleared (s.rd (canonAddr a))) else s
    | none => s

/-- The calendar registers, which a reader reads through its shadows (R540). -/
def isCal (a : Nat) : Bool := decide (Reg.RTC_SUBSEC ≤ a) && decide (a ≤ Reg.RTC_YEAR)

/-- Whether a read that starts at `start` finds a point word at `a` live: one that starts at word1, word2 or word3 of the
record does (R99). -/
def liveFrom (start a : Nat) : Bool :=
  decide (0x1000000 ≤ a) && decide (a < 0x1200000) && decide (a / 16 * 16 < start)

/-- The Counter's access to one register word, at rank 0 (R403); accesses to the window have rank 7. -/
def State.regAccess (s : State) (a : Nat) (x : Xfer) : State := if blockOf a == some .pmw then s else s.trunk 0 3 4 x

/-- One word of a read that starts at `start`: the state after it, and the word. -/
def State.readWord (s : State) (who : Who) (start a : Nat) : State × Word :=
  if isCal a then (let r := s.readCal false a; (r.1.regAccess a .read, r.2))
  else
    (((s.relatch who a).readEffect a).regAccess a .read,
      match if liveFrom start a then none else s.latch.get? a with | some v => v | none => s.wordAt who a)

/-- Consecutive words of a read that starts at `start`. -/
def State.readWords (s : State) (who : Who) (start a : Nat) : Nat → State × List Word
  | 0 => (s, [])
  | n + 1 =>
    let r := s.readWord who start a
    let t := r.1.readWords who start (a + 4) n
    (t.1, r.2 :: t.2)

/-- A read of one register by a session, with its answer. -/
def State.readReg (s : State) (who : Who) (a : Nat) : State :=
  if s.longBusy then s.answer ansBUSY
  else match s.refuseWordRead who a with
    | some c => s.answer c
    | none => let r := s.readWord who a a; r.1.answer ansOK [r.2]

/-- LO_REGISTER_READ (R9). -/
def execLoRegisterRead (w : When) (who : Who) (addr : Nat) (s : State) : Out := .next ((s.advance w).readReg who addr)

/-- READ_CLEAR_ACCESS (R6). -/
def execReadClearAccess (w : When) (who : Who) (addr : Nat) (s : State) : Out := .next ((s.advance w).readReg who addr)

/-- WINDOW_CLEARING_READ (R280). -/
def execWindowClearingRead (w : When) (who : Who) (g i : Nat) (s : State) : Out :=
  let s := s.advance w
  .next (if g < 16 ∧ i < 6 then s.readReg who (Reg.MTR_G_WIN g i) else s.answer (noSuch who))

/-! ## Writing one word -/

/-- A write of PMK_CFG (R49). -/
def State.cfgWrite (s : State) (who : Who) (v : Word) : State :=
  match s.refuse who Reg.PMK_CFG v with
  | some c => s.answer c
  | none => (s.setPmkCfg v who.role.num).answer ansOK

/-- A write of TSK_CTRL (R164). -/
def State.tskWrite (s : State) (who : Who) (v : Word) : State :=
  let cmd := v.bits 3 0
  if cmd == 1 then s.cmdStop who
  else if cmd == 2 then s.cmdHold who
  else if cmd == 3 then s.cmdResume who
  else if cmd == 4 then s.cmdStep who (v.bits 13 8)
  else if cmd == 5 then s.cmdRestart who 1 (v.bit 16)
  else if cmd == 6 then s.cmdRestart who 2 (v.bit 16)
  else s.tskCommand who v (fun _ => cmd == 0) fun s => s

/-- A write of PMS_CTRL (R344). What PAIRJOIN finds at the peer is not in the write: free values. -/
def State.pmsWrite (s : State) (who : Who) (v : Word) : State :=
  let cmd := v.bits 2 0
  if cmd == 1 then s.cmdHandover who (v.bits 9 8)
  else if cmd == 2 then s.cmdSparetest who
  else if cmd == 3 then s.cmdRecover who
  else if cmd == 4 then
    let f := fun i => Config.freeNat (s.free + i) % 2 == 1
    let s' := s.cmdPairjoin who (Config.freeWord s.free) (Config.freeWord (s.free + 1)) (f 2) (f 3) (f 4)
    { s' with free := s.free + 5 }
  else if cmd == 5 then s.cmdPairleave who
  else if cmd == 6 then s.cmdPairswap who
  else s.pmsCommand who cmd 0 (fun _ => cmd == 0) fun s => s

/-- A write of CLE_AXk_CTRL: COPY acts before SWAP where both are written. -/
def State.axCtrl (s : State) (who : Who) (k : Nat) (v : Word) : State :=
  if v.bit 1 && v.bit 0 then
    let t := s.coeffSwap who k
    if t.ctr.answer.map Answer.code == some ansOK then (s.coeffCopy who k).coeffSwap who k else t
  else if v.bit 1 then s.coeffCopy who k
  else if v.bit 0 then s.coeffSwap who k
  else match s.refuse who (Reg.CLE_AX_CTRL k) v with
    | some c => s.answer c
    | none => s.answer ansOK

/-- A write of the shadow bank window (R216). -/
def State.shadowWrite (s : State) (who : Who) (k j : Nat) (v : Word) : State :=
  match s.refuse who (Reg.CLE_AX_SHADOW k j) v with
  | some c => s.answer c
  | none => (s.writeShadow k j v).answer ansOK

/-- A write of FPT_PGg_CANCTRL: BOREC and RESTR (R439, R440). -/
def State.canCtrl (s : State) (who : Who) (g : Nat) (v : Word) : State :=
  match s.refusePort who (Reg.FPT_PG_CANCTRL g) g useCAN v with
  | some c => s.answer c
  | none =>
    let s := if v.bit 0 == s.flag (F.FPT_PG_CANCTRL_RESTR g) then s else s.restrWrite who g (v.bit 0)
    let s := if v.bit 1 && s.portState g == psBUSOFF then s.setCan g { s.can g with borec := true } else s
    s.answer ansOK

/-- A write of PRF_CTRL (R416). -/
def State.prfWrite (s : State) (who : Who) (v : Word) : State :=
  match s.refuse who Reg.PRF_CTRL v with
  | some c => s.answer c
  | none => (if v.bit 0 then s.perfSnap else s).answer ansOK

/-- A write of CTR_KILL: the named session closes with cause 2, the writer's own after the answer (R495). -/
def State.killWrite (s : State) (who : Who) (v : Word) : State :=
  match s.refuse who Reg.CTR_KILL v with
  | some c => s.answer c
  | none =>
    let s := s.answer ansOK
    match s.sessOf (v.bits 15 0) with
    | some e => s.closeSession e.1 2
    | none => s

/-- A write of RTC_CTRL (R542). -/
def State.rtcCtrl (s : State) (who : Who) (v : Word) : State := if v.bit 0 then s.haltSet who else s.haltRelease who

/-- A write of BAK_PWRON (R553). -/
def State.pwronWrite (s : State) (who : Who) (v : Word) : State :=
  if v.bits 1 0 == 1 then s.pwronCmd who true
  else if v.bits 1 0 == 2 then s.pwronCmd who false
  else match s.refuse who Reg.BAK_PWRON v with
    | some c => s.answer c
    | none => s.answer (if v.bits 1 0 == 0 then ansOK else ansBADSTATE)

/-- PWR_LADCFG values that are answered BADSTATE (R581, R590): SUPSRC 3, rung 1, a second stage not after the first. -/
def ladBad (v : Word) : Bool :=
  v.bits 1 0 == 3 || v.bits 6 4 == 1 || v.bits 18 16 == 1
    || (!(v.bits 18 16 == 0) && !(decide (v.bits 6 4 < v.bits 18 16) && decide (v.bits 15 8 < v.bits 31 24)))

/-- Values and conditions that a register's own Meaning answers with BADSTATE (check 7 of R488). -/
def State.valueBad (s : State) (a : Nat) (v : Word) : Bool :=
  if a == Reg.PWR_LADCFG then ladBad v
  else if a == Reg.BAK_CHG then v.bits 3 2 == 3
  else if a == Reg.KEY_TAMPCFG then !(s.lc == lcMAKER || s.lc == lcSERVICE)
  else if decide (0x400100 ≤ a) && decide (a < 0x400300) && a % 32 == 12 then govOptBad v
  else false

/-- A write of a register that no unit acts on: checked, judged by its value, stored by R6 and R7. -/
def State.plainWrite (s : State) (who : Who) (a : Nat) (v : Word) : State :=
  match s.refuse who a v with
  | some c => s.answer c
  | none =>
    if s.valueBad a v then s.answer ansBADSTATE
    else match findReg a with
      | some d => (s.wr (canonAddr a) (d.store who.role (s.rd (canonAddr a)) v)).answer ansOK
      | none => s.answer ansBADADDR

/-- What a write of a register first brings to the present: the arbiter, whose waits are judged by ARB_STARVLIM (R410), and
the counters whose configuration it changes (R415). -/
def State.beforeWrite (s : State) (a : Nat) : State :=
  if a == Reg.ARB_STARVLIM then s.settleArb
  else if (List.range 4).any fun u => (List.range 8).any fun i => a == Reg.PRF_U_CFG u i then s.perfCollect
  else s

/-- What a register write that was stored does besides: PMS_PAIRCFG names the witness (R344). -/
def State.afterWrite (s : State) (a : Nat) : State := if a == Reg.PMS_PAIRCFG then s.pairCfgWritten else s

/-- GAP and FLY of a metering group as they read. -/
def State.gapFly (s : State) (g : Nat) : Bool × Bool :=
  let w := s.peek (Reg.MTR_G_STATUS g)
  (w.bit (F.MTR_G_STATUS_GAP g).lo, w.bit (F.MTR_G_STATUS_FLY g).lo)

/-- A write of one MTR register: a GAP or FLY flag that it changes fires source 115 (R157). -/
def State.mtrWrite (s : State) (who : Who) (a : Nat) (v : Word) : State :=
  let t := s.plainWrite who a v
  t.fireMtr fun g => a == Reg.MTR_G_STATUS g && !(t.gapFly g == s.gapFly g)

/-- A write of the load window (R500). -/
def State.loadWinWrite (s : State) (who : Who) (i : Nat) (v : Word) : State :=
  match s.refuse who (Reg.KEY_LOADWIN i) v with
  | some c => s.answer c
  | none => (s.loadWin who i v).answer ansOK

/-- A write of one CLE register. -/
def State.cleWrite (s : State) (who : Who) (a : Nat) (v : Word) : State :=
  let k := (a - 0x200000) / 0x1000
  let o := a % 0x1000
  if o == 0 then s.axCtrl who k v
  else if decide (0x200 ≤ o) && decide (o < 0x400) then s.shadowWrite who k ((o - 0x200) / 4) v
  else s.plainWrite who a v

/-- A write of one FPT register: the message memories are read-only (R431). -/
def State.fptWrite (s : State) (who : Who) (a : Nat) (v : Word) : State :=
  if canWindow a then
    s.answer (if s.longBusy then ansBUSY else if who.role == .tenant then ansHIDDEN else ansDENIED)
  else if decide (0x580000 ≤ a) && decide (a < 0x584000) && a % 8 == 0 then s.writeDis who ((a - 0x580000) / 8) (v.bit 31)
  else if decide (a < 0x518000) && a % 0x1000 == 0x100 then s.canCtrl who ((a - 0x500000) / 0x1000) v
  else if decide (a < 0x518000) && a % 0x1000 == 0x304 then s.daliCtrl who ((a - 0x500000) / 0x1000) v
  else s.plainWrite who a v

/-- A write of one word of a point: word0 its value, word1 FORCED, words 2 and 3 the module alone (R94, R135, R138). -/
def State.ptsWrite (s : State) (who : Who) (a : Nat) (v : Word) : State :=
  let p := (a - 0x1000000) / 16
  if a % 16 == 0 then s.valueWrite who p v
  else if a % 16 == 4 then s.forceWrite who p v
  else if s.longBusy then s.answer ansBUSY
  else if who.role == .tenant then s.answer ansHIDDEN
  else if (s.ptRec p).isSome then s.answer ansDENIED
  else s.answer ((s.refusePoint who p).getD ansDENIED)

/-- A write of one word of the RTC block. -/
def State.bakWrite (s : State) (who : Who) (a : Nat) (v : Word) : State :=
  if a == Reg.RTC_CTRL then s.rtcCtrl who v
  else if a == Reg.RTC_TRIM || rtcFields.contains a then s.rtcFieldWrite who a v
  else if decide (a ∈ [0x40040, 0x40044, 0x40048, 0x40050, 0x40054, 0x40058]) then s.almWrite who a v
  else if a == Reg.BAK_PWRON then s.pwronWrite who v
  else s.plainWrite who a v

/-- A write of one word of the KEY block. -/
def State.keyWrite (s : State) (who : Who) (a : Nat) (v : Word) : State :=
  if a == Reg.KEY_CTRL then s.keyCommand who v
  else if a == Reg.KEY_LCCTRL then s.lcWrite who v
  else if decide (Reg.KEY_LOADWIN 0 ≤ a) && decide (a < Reg.KEY_LOADWIN 24) then s.loadWinWrite who ((a - Reg.KEY_LOADWIN 0) / 4) v
  else s.plainWrite who a v

/-- Checks 5 to 8 of R488 for a write of one word, and its effect, with its answer. -/
def State.writeWord (s : State) (who : Who) (a : Nat) (v : Word) : State :=
  if !(a % 4 == 0) then s.answer (noSuch who)
  else
    match blockOf a with
    | none => s.answer (noSuch who)
    | some .pts => s.ptsWrite who a v
    | some .pmw => s.winWrite who (a - 0x100000000) [v]
    | some .cleTab =>
      if decide ((a - 0x300000) % 0x2000 < 5120) then
        s.tabWrite who ((a - 0x300000) / 0x2000) ((a - 0x300000) % 0x2000 / 4) v
      else s.answer (noSuch who)
    | some .cle => s.cleWrite who a v
    | some .fpt => s.fptWrite who a v
    | some .rtc => s.bakWrite who a v
    | some .key => s.keyWrite who a v
    | some .mtr => if trimAddr a then s.trimWrite who a v else s.mtrWrite who a v
    | some _ =>
      if a == Reg.MOD_MAN_CTRL then s.manCtrl who v
      else if a == Reg.MOD_IMG_CTRL then s.imgCtrl who v
      else if a == Reg.PMK_CFG then s.cfgWrite who v
      else if a == Reg.TSK_CTRL then s.tskWrite who v
      else if a == Reg.TSK_DOORBELL then s.doorbell who v
      else if a == Reg.GOV_CTRL then s.govModeWrite who (v.bits 1 0)
      else if a == Reg.PMS_CTRL then s.pmsWrite who v
      else if a == Reg.SAF_CTRL then s.safCtrl who v
      else if a == Reg.SAF_CONFIRM then s.safConfirm who v
      else if a == Reg.PMC_PROTCTL then s.protLevel who (v.bits 1 0)
      else if a == Reg.PRF_CTRL then s.prfWrite who v
      else if a == Reg.CTR_KILL then s.killWrite who v
      else if a == Reg.PWR_CTRL then s.pwrWrite who v
      else match s.refuse who a v with
        | some c => s.answer c
        | none => ((s.beforeWrite a).plainWrite who a v).afterWrite a

/-- The code of the answer given last. -/
def State.code (s : State) : Nat := match s.ctr.answer with | some a => a.code | none => ansOK

/-- A write of one word with its transfer on the trunk, once it has passed the checks. -/
def State.putWord (s : State) (who : Who) (a : Nat) (v : Word) : State :=
  let t := s.writeWord who a v
  if t.code == ansOK then t.regAccess a .write else t

/-- REGISTER_WRITE (R7). -/
def execRegisterWrite (w : When) (who : Who) (addr : Nat) (v : Word) (s : State) : Out :=
  .next ((s.advance w).putWord who addr v)

/-! ## Consecutive words written (R488) -/

/-- The first word, in address order, that checks 5 to 8 refuse, each word judged in this state. -/
def State.refuseWords (s : State) (who : Who) : Nat → List Word → Option State
  | _, [] => none
  | a, v :: vs =>
    let t := s.writeWord who a v
    if t.code == ansOK then s.refuseWords who (a + 4) vs else some t

/-- A word executed after every word has passed its checks: an operation that an earlier word of the same transaction
started does not turn it away, and an alarm word is stored whatever its control word now holds. -/
def State.actWord (s : State) (who : Who) (a : Nat) (v : Word) : State :=
  if decide (a ∈ [0x40040, 0x40044, 0x40048, 0x40050, 0x40054, 0x40058]) then s.almPut who ((a - 0x40040) / 16) (a % 16) v
  else if !s.longBusy then s.putWord who a v
  else
    let quiet : State := { s with
      ctr := { s.ctr with long := none }, img := { s.img with delta := none }, keys := { s.keys with zero := none } }
    let t := quiet.putWord who a v
    { t with
      ctr := { t.ctr with long := match t.ctr.long with | some o => some o | none => s.ctr.long }
      img := { t.img with delta := match t.img.delta with | some o => some o | none => s.img.delta }
      keys := { t.keys with zero := match t.keys.zero with | some o => some o | none => s.keys.zero } }

/-- Consecutive words executed, in address order. -/
def State.actWords (s : State) (who : Who) : Nat → List Word → State
  | _, [] => s
  | a, v :: vs => (s.actWord who a v).actWords who (a + 4) vs

/-- Whether a range of words lies in the persistent memory window. -/
def inWindow (a n : Nat) : Bool := decide (0x100000000 ≤ a) && decide (a + 4 * n ≤ 0x200000000)

/-- The checks of a WRITE: none when every word passes, else the state with the answer that refuses it. -/
def State.refuseWrite (s : State) (who : Who) (a : Nat) (data : List Word) : Option State :=
  if inWindow a data.length then
    let t := s.winWrite who (a - 0x100000000) data
    if t.code == ansOK then none else some t
  else s.refuseWords who a data

/-- The effect of a WRITE that reached check 9: a range of the window at once, so that a write of the user store is one
group (R379), other words one by one. -/
def State.actWrite (s : State) (who : Who) (a : Nat) (data : List Word) : State :=
  if inWindow a data.length then s.winWrite who (a - 0x100000000) data else s.actWords who a data

end Sys2Proof.Machine
end

