-- ==== Sys2Proof/Machine/Counter.lean ====
section
/-! DEFINITION. The Counter (chapter 17): transports, request frames, sessions, sequence numbers, the order of checks and
the audit record. -/

namespace Sys2Proof.Machine

/-! ## Transports (R473 to R475, R534) -/

/-- Whether the Counter engine takes a request on a transport now. -/
def State.reachable (s : State) (tp : Transport) : Bool :=
  s.good .ref && !s.pwr.rstLow && !s.pwr.pfail &&
    match tp with
    | .spi => true
    | .mac m =>
      if s.pwr.recovery then m == 6
      else s.on .net && (match s.netRec m with | some r => Rec.bit r 1 0 | none => m == 6)

/-- A frame that fits R476, and on SPI follows the reading of the last answer (R474). -/
def State.takes (s : State) (fr : Frame) (fits : Bool) : Bool :=
  fr.ver == 1 && fr.lenOk && fits && !(fr.tp == .spi && s.ctr.spiWait)

/-- A response leaves: over SPI it waits for the host to read it. -/
def State.reply (s : State) (fr : Frame) (a : Answer) : State :=
  { s with ctr := { s.ctr with answer := some a, spi := if fr.tp == .spi then some a else s.ctr.spi } }

/-- A response in the clear and an authenticated one. -/
def State.clear (s : State) (fr : Frame) (code : Nat) (data : List Word := []) : State := s.reply fr ⟨code, data, false⟩

/-- The end of the transaction that now executes: 20 µs, and 40 ns per word beyond the first (R483). -/
def State.txTakes (s : State) (words : Nat) : State :=
  s.setCtr { s.ctr with txEnd := s.ns + 20000 + 40 * (words - 1) }

/-- Whether a transaction executes or others wait (R483). -/
def State.txBusy (s : State) : Bool := decide (s.ns < s.ctr.txEnd) || !(s.ctr.queue.isEmpty)

/-- A request arrives: discarded, queued, or executed by `run` (R474, R476, R483). -/
def State.arrive (s : State) (fr : Frame) (fits : Bool) (c : Instr) (run : State → State) : State :=
  if !(s.reachable fr.tp) then s
  else if !(s.takes fr fits) then s.inc F.CTR_ERR_FORMAT
  else
    let t := s.setCtr { s.ctr with spiWait := s.ctr.spiWait || fr.tp == .spi }
    if !s.txBusy then run t
    else if s.ctr.queue.length < 8 then t.setCtr { t.ctr with queue := t.ctr.queue ++ [c] }
    else s.inc F.CTR_ERR_QFULL

/-! ## Sessions -/

/-- Whether a frame comes over the path that its session is bound to (R481). -/
def Session.path (x : Session) (fr : Frame) : Bool :=
  x.tp == fr.tp && (fr.tp == .spi || (x.ip == fr.srcIp && x.port == fr.srcPort))

/-- The session of a frame, when its path and TAG are right. -/
def State.authOf (s : State) (fr : Frame) : Option (Nat × Session) :=
  match s.sessOf fr.session with
  | some e => if e.2.path fr && fr.tagOk then some e else none
  | none => none

/-- Changes the session with a number. -/
def State.updSess (s : State) (num : Nat) (f : Session → Session) : State :=
  match s.sessOf num with
  | some e => s.setCtr { s.ctr with sessions := s.ctr.sessions.put e.1 (f e.2) }
  | none => s

/-- A request counts for the idle time of its session. -/
def State.touch (s : State) (num : Nat) : State :=
  s.updSess num fun x => if x.opened then { x with lastNs := s.ns } else x

/-- An authenticated answer that consumes the SEQ and is stored (R482). -/
def State.consume (s : State) (fr : Frame) (a : Answer) : State :=
  (s.updSess fr.session fun x => { x with seq := fr.seq, stored := some a }).reply fr a

/-- CTR_AUTHCNT and the answer AUTHFAIL in the clear. -/
def State.authFail (s : State) (fr : Frame) : State := (s.satWord Reg.CTR_AUTHCNT).clear fr ansAUTHFAIL

/-- The party behind a session. -/
def Session.who (x : Session) : Who := ⟨x.role, x.ph, x.num⟩

/-! ## BUSY and ABORTED (R485, R486) -/

/-- The 8 bytes of a BUSY answer; what the progress is measured in is not stated: a free value up to 1,000. -/
def State.busyData (s : State) : List Word :=
  let k := match s.ctr.long with
    | some o => (o.kind, o.id, (s.ns - o.startNs) / 1000000)
    | none => (if s.img.delta.isSome then 2 else 5, s.fld F.CTR_STATUS_OPID, (s.ns - s.img.deltaNs) / 1000000)
  [n2w (k.1 + k.2.1 * 2 ^ 8 + Config.freeNat s.free % 1001 * 2 ^ 16), n2w k.2.2]

/-- The answer to every request while a long operation runs: authenticated, and stored under its SEQ, where the request
carried a valid TAG. -/
def State.busyReply (s : State) (fr : Frame) (inSession : Bool) : State :=
  let d := s.busyData
  let s := s.freeNext
  match s.authOf fr with
  | some e =>
    if !inSession then s.clear fr ansBUSY d
    else
      let s := s.touch e.2.num
      if e.2.seq < fr.seq then s.consume fr ⟨ansBUSY, d, true⟩ else s.reply fr ⟨ansBUSY, d, true⟩
  | none => s.clear fr ansBUSY d

/-- The DATA of an ABORTED answer. -/
def abortData (a : Nat × Nat × Bool) : List Word := [n2w (a.1 + a.2.1 * 2 ^ 8 + b2n a.2.2 * 2 ^ 16)]

/-- A request outside a session (IDENT, HELLO): BUSY, ABORTED, or its own effect. -/
def State.openRequest (s : State) (fr : Frame) (f : State → State) : State :=
  let s := s.txTakes 1
  if s.longBusy then s.busyReply fr false
  else match s.ctr.aborted with
    | some a => (s.setCtr { s.ctr with aborted := none }).clear fr ansABORTED (abortData a)
    | none => f s

/-! ## IDENT and HELLO (R477, R479, R507, R511) -/

/-- IDENT. -/
def State.ident (s : State) (fr : Frame) : State :=
  s.openRequest fr fun s => s.clear fr ansOK
    [s.rd Reg.MOD_ID, s.rd Reg.MOD_HWREV, n2w (s.fld F.KEY_STATUS_LC), s.rd Reg.MOD_MAN_REV, s.peek Reg.CTR_FACTMAC_LO,
      s.peek Reg.CTR_FACTMAC_HI]

/-- A binding of R478: role, pigeonhole, TFLAGS, key slot, allowed source with its mask, idle seconds. -/
structure Binding where
  role : Role
  ph : Nat
  tflags : Nat
  kslot : Nat
  src : Word
  mask : Word
  idle : Nat
  deriving DecidableEq, Repr

/-- The bindings: 0 and 1 are built in, the others come from the ROLES section. -/
def State.binding (s : State) (b : Nat) : Option Binding :=
  if b == 0 then some ⟨.maker, 0, 15, 0, 0, 0, 60⟩
  else if b == 1 then some ⟨.installer, 0, 15, 1, 0, 0, 60⟩
  else ((s.recs 10).find? fun r => Rec.u8 r 0 == b).map fun r =>
    ⟨Role.ofNum (Rec.u8 r 1), Rec.u8 r 2, Rec.u8 r 3, Rec.u8 r 4, Rec.w r 8, Rec.w r 12,
      if Rec.u16 r 16 == 0 then 60 else Rec.u16 r 16⟩

/-- The TFLAGS bit of a transport. -/
def tbit : Transport → Nat
  | .spi => 0
  | .mac m => if m == 6 then 1 else if m < 2 then 2 else 3

/-- The cases of R511: binding 0 uses the factory key. -/
def State.factoryKey (s : State) : Bool := !s.rootOk || s.lc == lcBLANK || !(s.keyState 0 == ksVALID)

/-- Whether the key of a binding may be used (R499, R507, R511). -/
def State.bindKeyOk (s : State) (b : Nat) (x : Binding) (tp : Transport) : Bool :=
  if b == 0 && s.factoryKey then tbit tp ≤ 1 else s.keyUsable x.kslot 1 2 x.ph

/-- The first check of HELLO that fails: binding, transport, source, key. -/
def State.helloCheck (s : State) (fr : Frame) (b : Nat) : Option Nat :=
  match s.binding b with
  | none => some 0
  | some x =>
    if s.lc == lcRETIRED || (s.lc == lcBLANK && !(b == 0)) || (s.pwr.recovery && !(b == 0)) then some 0
    else if !(x.tflags / 2 ^ tbit fr.tp % 2 == 1) then some 1
    else if !(fr.tp == .spi) && !(x.src == 0) && !((fr.srcIp &&& x.mask) == (x.src &&& x.mask)) then some 2
    else if !(s.bindKeyOk b x fr.tp) then some 3
    else none

/-- Whether HELLO on a binding is locked out. -/
def State.locked (s : State) (b : Nat) : Bool := match s.ctr.lockout.get? b with | some t => decide (s.ns < t) | none => false

/-- The answer AUTHFAIL to a HELLO or OPEN: 16#E004. Unless the binding is locked out already, the fifth within 60 s locks
it for 60 s. How the failed check is numbered is not stated. -/
def State.refuseAuth (s : State) (fr : Frame) (b check : Nat) : State :=
  let t := (s.authFail fr).record 0xE004
    [n2w b, n2w (Transport.num fr.tp), if fr.tp == .spi then 0 else fr.srcIp, Config.snapNum 0xE004 check]
  if s.locked b then t
  else
    let l := s.ns :: (s.ctr.fails.getD b []).filter fun m => decide (s.ns < m + 60000000000)
    if 5 ≤ l.length then
      t.setCtr { t.ctr with fails := t.ctr.fails.del b, lockout := t.ctr.lockout.put b (s.ns + 60000000000) }
    else t.setCtr { t.ctr with fails := t.ctr.fails.put b l }

/-- The first session number from the next one on that no session holds. -/
def State.freeSession (s : State) : Nat :=
  let c := (List.range 10).map fun i => (s.ctr.nextSession - 1 + i) % 65535 + 1
  (c.find? fun n => (s.sessOf n).isNone).getD 1

/-- The first free entry of the session table. -/
def State.freeEntry (s : State) : Option Nat := (List.range 8).find? fun k => (s.ctr.sessions.get? k).isNone

/-- The bytes of words, and of a nonce. -/
def wordBytes (ws : List Word) : List Byte := ws.flatMap fun v => leBytes 4 v.toNat

/-- "STF-6413 CTR". -/
def hkdfInfo : List Byte := [0x53, 0x54, 0x46, 0x2D, 0x36, 0x34, 0x31, 0x33, 0x20, 0x43, 0x54, 0x52]

/-- A PENDING session: NONCE_M is drawn, and session key and nonce salt are derived (R479). -/
def State.newSession (s : State) (fr : Frame) (b : Nat) (x : Binding) (k : Nat) (nonceC : BitVec 128) : State :=
  let num := s.freeSession
  let nm := (List.range 4).map fun i => Config.randomWord (s.ctr.draws + i)
  let ikm := if b == 0 && s.factoryKey then Config.factoryKey else wordBytes (s.keyWords x.kslot)
  let key := hkdf ikm (leBytes 16 nonceC.toNat ++ wordBytes nm) (hkdfInfo ++ leBytes 1 b ++ leBytes 2 num) 36
  let e : Session := { num := num, binding := b, role := x.role, ph := x.ph, opened := false, tp := fr.tp, ip := fr.srcIp,
                       port := fr.srcPort, seq := 0, stored := none, lastNs := s.ns, idle := x.idle, tflags := x.tflags,
                       kslot := x.kslot, key := key }
  let s := s.setCtr { s.ctr with
    sessions := s.ctr.sessions.put k e, nextSession := num % 65535 + 1, draws := s.ctr.draws + 4 }
  s.clear fr ansOK (n2w num :: nm)

/-- HELLO. A key that R499 refuses is a refused request for the working key register as well (R503; log 26): 16#B004. -/
def State.hello (s : State) (fr : Frame) (b : Nat) (nonceC : BitVec 128) : State :=
  s.openRequest fr fun s =>
    if s.locked b then s.refuseAuth fr b 4
    else match s.helloCheck fr b, s.binding b with
      | some c, some x => (if c == 3 then s.wkDeny ⟨.ref, x.kslot, x.ph, true⟩ else s).refuseAuth fr b c
      | some c, none => s.refuseAuth fr b c
      | none, none => s.refuseAuth fr b 0
      | none, some x =>
        match s.freeEntry with
        | none => s.clear fr ansBADSTATE
        | some k => s.newSession fr b x k nonceC

/-! ## Requests of a session (R482, R488 checks 1 to 4) -/

/-- The checks 1 to 4 that OPEN, CLOSE, READ and WRITE share, then their effect. The last SEQ consumed is answered with the
stored response; `opening` is true for OPEN, which needs a PENDING session and SEQ 1. -/
def State.inSession (s : State) (fr : Frame) (words : Nat) (opening : Bool) (f : State → Nat → Session → State) : State :=
  let s := s.txTakes words
  if s.longBusy then s.busyReply fr true
  else
    match s.authOf fr with
    | none =>
      match s.sessOf fr.session with
      | some e =>
        if opening && e.2.path fr && !e.2.opened then (s.dropSession e.1 e.2.num).refuseAuth fr e.2.binding 5
        else s.authFail fr
      | none => s.authFail fr
    | some (k, x) =>
      let again := x.seq == fr.seq && x.stored.isSome
      if !(x.opened == !opening) && !(opening && again) then s.authFail fr
      else
        let s := s.touch x.num
        match again, x.stored with
        | true, some a => s.reply fr a
        | _, _ =>
          if fr.seq ≤ x.seq || x.seq == 0xFFFFFFFF || (opening && !(fr.seq == 1)) then s.clear fr ansSEQ
          else match s.ctr.aborted with
            | some a => (s.setCtr { s.ctr with aborted := none }).consume fr ⟨ansABORTED, abortData a, true⟩
            | none => f s k x

/-- OPEN: the session is OPEN, 16#E002. -/
def State.openSession (s : State) (fr : Frame) : State :=
  s.inSession fr 1 true fun s k x =>
    let s := s.setCtr { s.ctr with sessions := s.ctr.sessions.put k { x with opened := true, lastNs := s.ns } }
    let s := s.record 0xE002 [n2w x.num, n2w x.binding, n2w x.role.num, n2w x.ph, n2w (Transport.num x.tp),
      if x.tp == .spi then 0 else x.ip] x.role.num x.ph x.num
    s.consume fr ⟨ansOK, [n2w (x.role.num + x.ph * 2 ^ 8 + s.fld F.KEY_STATUS_LC * 2 ^ 16)], true⟩

/-- CLOSE. -/
def State.endSession (s : State) (fr : Frame) : State :=
  s.inSession fr 1 false fun s k x => (s.dropSession k x.num).reply fr ⟨ansOK, [], true⟩

/-! ## READ and WRITE (R488, R493) -/

/-- The first word of a READ that checks 5 to 8 refuse. -/
def State.refuseReads (s : State) (who : Who) (a n : Nat) : Option Nat :=
  (List.range n).findSome? fun i => s.refuseWordRead who (a + 4 * i)

/-- READ. -/
def State.ctrReads (s : State) (fr : Frame) (a n : Nat) : State :=
  s.inSession fr n false fun s _ x =>
    match s.refuseReads x.who a n with
    | some c => s.consume fr ⟨c, [], true⟩
    | none =>
      let r := s.readWords x.who a a n
      r.1.consume fr ⟨ansOK, r.2, true⟩

/-- 16#E001, the audit record of a WRITE. -/
def State.audit (s : State) (x : Session) (a : Nat) (data : List Word) : State :=
  s.record 0xE001 [n2w a, n2w (a / 2 ^ 32), n2w data.length, s.wordAt x.who a, data.headD 0, n2w (crc32c (wordBytes data)),
    n2w x.role.num, n2w x.binding, n2w x.num, n2w x.ph, n2w (Transport.num x.tp)] x.role.num x.ph x.num

/-- WRITE: when the recorder cannot take the audit record, nothing is written, and BUSY with OPKIND 0 neither consumes the
SEQ nor is stored. -/
def State.ctrWrites (s : State) (fr : Frame) (a : Nat) (data : List Word) : State :=
  s.inSession fr data.length false fun s _ x =>
    match s.refuseWrite x.who a data with
    | some t => t.consume fr ⟨t.code, [], true⟩
    | none =>
      if !(s.evr.room 0xE001) then s.reply fr ⟨ansBUSY, [0, 0], true⟩
      else ((s.audit x a data).actWrite x.who a data).consume fr ⟨ansOK, [], true⟩

/-! ## The commands -/

/-- The execution of a request, at its arrival or from the queue. -/
def State.runRequest (s : State) (c : Instr) : State :=
  match c with
  | .ctrIdent _ fr => s.ident fr
  | .ctrHello _ fr b n => s.hello fr (b % 256) n
  | .ctrOpen _ fr => s.openSession fr
  | .ctrClose _ fr => s.endSession fr
  | .ctrRead _ fr a n => s.ctrReads fr (a % 2 ^ 40) n
  | .ctrWrite _ fr a d => s.ctrWrites fr (a % 2 ^ 40) d
  | _ => s

/-- CTR_IDENT. -/
def execCtrIdent (w : When) (fr : Frame) (s : State) : Out :=
  .next ((s.advance w).arrive fr true (.ctrIdent w fr) fun s => s.ident fr)

/-- CTR_HELLO. -/
def execCtrHello (w : When) (fr : Frame) (b : Nat) (n : BitVec 128) (s : State) : Out :=
  .next ((s.advance w).arrive fr true (.ctrHello w fr b n) fun s => s.hello fr (b % 256) n)

/-- CTR_OPEN. -/
def execCtrOpen (w : When) (fr : Frame) (s : State) : Out :=
  .next ((s.advance w).arrive fr true (.ctrOpen w fr) fun s => s.openSession fr)

/-- CTR_CLOSE. -/
def execCtrClose (w : When) (fr : Frame) (s : State) : Out :=
  .next ((s.advance w).arrive fr true (.ctrClose w fr) fun s => s.endSession fr)

/-- CTR_READ: COUNT is 1 to 64. -/
def execCtrRead (w : When) (fr : Frame) (a n : Nat) (s : State) : Out :=
  .next ((s.advance w).arrive fr (decide (1 ≤ n ∧ n ≤ 64)) (.ctrRead w fr a n) fun s => s.ctrReads fr (a % 2 ^ 40) n)

/-- CTR_WRITE: COUNT is 1 to 64. -/
def execCtrWrite (w : When) (fr : Frame) (a : Nat) (d : List Word) (s : State) : Out :=
  .next ((s.advance w).arrive fr (decide (1 ≤ d.length ∧ d.length ≤ 64)) (.ctrWrite w fr a d) fun s =>
    s.ctrWrites fr (a % 2 ^ 40) d)

/-- CTR_QUEUE_DISPATCH: the transaction before has ended, and the oldest waiting request executes (R483). -/
def execCtrQueueDispatch (w : When) (s : State) : Out :=
  let s := s.advance w
  .next (match s.ctr.queue with
    | [] => s
    | c :: rest =>
      if s.good .ref && !s.pwr.rstLow && !s.pwr.pfail then (s.setCtr { s.ctr with queue := rest }).runRequest c else s)

/-- CTR_SPI_ANSWER_READ: the ready response is read; none is ready otherwise (R474). -/
def execCtrSpiAnswerRead (w : When) (s : State) : Out :=
  let s := s.advance w
  .next (if !(s.good .ref) then s
    else match s.ctr.spi with
      | some a => s.setCtr { s.ctr with answer := some a, spi := none, spiWait := false }
      | none => s.setCtr { s.ctr with answer := none })

/-- SESSION_PENDING_TIMEOUT: 2 s after HELLO. -/
def execSessionPendingTimeout (w : When) (num : Nat) (s : State) : Out :=
  let s := s.advance w
  .next (match s.sessOf num with
    | some (k, x) => if !x.opened && decide (x.lastNs + 2000000000 ≤ s.ns) then s.dropSession k num else s
    | none => s)

/-- SESSION_IDLE_TIMEOUT: IDLE seconds without a request. -/
def execSessionIdleTimeout (w : When) (num : Nat) (s : State) : Out :=
  let s := s.advance w
  .next (match s.sessOf num with
    | some (k, x) => if x.opened && decide (x.lastNs + x.idle * 1000000000 ≤ s.ns) then s.closeSession k 1 else s
    | none => s)

/-- AUTHFAIL_LOCKOUT_EXPIRY. -/
def execAuthfailLockoutExpiry (w : When) (b : Nat) (s : State) : Out :=
  let s := s.advance w
  .next (if s.locked b then s else s.setCtr { s.ctr with lockout := s.ctr.lockout.del b })

/-- CTR_KILL_WRITE. -/
def execCtrKillWrite (w : When) (who : Who) (session : Nat) (s : State) : Out :=
  .next ((s.advance w).killWrite who (n2w (session % 65536)))

end Sys2Proof.Machine
end

