-- ==== Sys2Proof/Machine/Macs.lean ====
section
/-! DEFINITION. Frame MACs (chapter 16): reception, pause, the credit-based shaper, transmission, and the tail of a
mailbag. -/

namespace Sys2Proof.Machine

/-! ## Reception (R453 to R460) -/

/-- Whether a destination address passes step 1 of R457. -/
def macAccepts (r : Rec) (dest : List Byte) : Bool :=
  Rec.bit r 1 2 || (Rec.bit r 1 1 && dest == List.replicate 6 0xFF)
    || (List.range 16).any fun i => Rec.bit r (0x16 + 8 * i) 0 && (r.drop (0x10 + 8 * i)).take 6 == dest

/-- Whether the classifier of a receive mailbag matches (R465). -/
def mbMatches (r : Rec) (fr : EthFrame) : Bool :=
  let vid := match fr.tag with | some t => some (t.toNat % 4096) | none => none
  let vidOk := vid == some (Rec.u16 r 0x16 % 4096)
  let k := Rec.u8 r 0x11
  (k == 3 || (k == 0 && fr.etherType == Rec.u16 r 0x14) || (k == 1 && fr.udpPort == some (Rec.u16 r 0x14))
    || (k == 2 && vidOk)) && (!(Rec.bit r 0x12 0) || vidOk)

/-- A latency in ns as angle units (R459). -/
def State.latUnits (s : State) (ns : Nat) : Nat :=
  (roundEven (((ns * (s.rd Reg.PMK_FREQ).toNat * 2 ^ 20 : Nat) : Rat) / 10 ^ 15)).toNat

/-- The destination of a pause frame, 01-80-C2-00-00-01 (R460). -/
def pauseAddr : List Byte := [0x01, 0x80, 0xC2, 0x00, 0x00, 0x01]

/-- A MAC control frame (R460). A pause frame, opcode 1 to its own destination, is counted, and with PAUSE = 1 stops new
frames for its quanta; every other one is discarded (log 39). -/
def State.pauseFrame (s : State) (m : Nat) (r : Rec) (dest : List Byte) (op quanta : Nat) : State :=
  if !(op == 1 && dest == pauseAddr) then s
  else
    let s := s.incWord (Reg.ETH_PAUSE m)
    if !(Rec.bit r 1 3) then s
    else
      let x := s.mac m
      let rate := macRate (s.fld (F.ETH_STATUS_RATE m))
      if quanta == 0 then (s.setMac m { x with pausedTo := none }).setFld (F.ETH_STATUS_PAUSED m) 0
      else (s.setMac m { x with pausedTo := some (s.ns + quanta * 512 * 1000000 / rate) }).setFld (F.ETH_STATUS_PAUSED m) 1

/-- Steps 1 to 5 of R457. -/
def State.ethReceive (s : State) (m : Nat) (r : Rec) (fr : EthFrame) : State :=
  if fr.len < 64 ∨ (if fr.tag.isSome then 1522 else 1518) < fr.len then s
  else if !fr.fcsOk then s.inc (F.ETH_DROP_CRC m)
  else if !(macAccepts r fr.dest) && fr.pauseOp.isNone then s
  else
    match fr.pauseOp with
    | some (op, q) => s.pauseFrame m r fr.dest op q
    | none =>
      if fr.udpPort == some 47300 || fr.udpPort == some Config.pairPort then s
      else
        match (sortBy (fun x => Rec.u8 x 0) (s.recs 5)).find? fun b =>
            mbPort b == macPort m && mbDir b == 0 && mbMatches b fr with
        | none => s.inc (F.ETH_DROP_NOMATCH m)
        | some b =>
          let strip := Rec.bit r 1 4 && fr.tag.isSome
          let pm := s.pmNow - BitVec.ofNat 64 (s.latUnits (Rec.u16 r 0x0C))
          let data := if strip then fr.data.take 12 ++ fr.data.drop 16 else fr.data
          (s.mbStore (Rec.u8 b 0) b data (if strip then fr.len - 4 else fr.len) mbOK
            (if strip then (fr.tag.getD 0).toNat else 0) strip pm).1

/-- Whether a MAC carries frames: NET good, a NETWORK record with EN, link up, and not quiet. -/
def State.macLive (s : State) (m : Nat) : Option Rec :=
  if s.good .net && s.flag (F.ETH_STATUS_LINK m) && !(s.quiet (macPort m)) then
    (s.netRec m).filter fun r => Rec.bit r 1 0
  else none

def execEthFrameReceived (w : When) (m : Nat) (fr : EthFrame) (s : State) : Out :=
  let s := s.advance w
  .next (match s.macLive m with
    | some r => s.ethReceive m r fr
    | none => s)

/-- PAUSE_EXPIRY: the pause time has run out. -/
def execPauseExpiry (w : When) (m : Nat) (s : State) : Out :=
  let s := s.advance w
  .next (match (s.mac m).pausedTo with
    | some t =>
      if t ≤ s.ns then (s.setMac m { s.mac m with pausedTo := none }).setFld (F.ETH_STATUS_PAUSED m) 0 else s
    | none => s)

/-! ## Transmission (R461 to R464) -/

/-- Whether a queue may start: unshaped, or credit not negative (R462). -/
def State.eligible (s : State) (m q : Nat) : Bool :=
  match s.netRec m with
  | none => false
  | some r => nwIdle r q == 0 || decide (0 ≤ s.creditAt m q)

/-- The frame that starts next: the highest-numbered eligible queue, the earliest submitted in it. -/
def State.macNext (s : State) (m : Nat) : Option (Nat × Rec × TxD) :=
  let hs := s.macHeads m
  let qs := (List.range 8).reverse.filter fun q =>
    s.eligible m q && hs.any fun h => deQueue (s.desc h.2.1 h.2.2.idx) == q
  match qs with
  | [] => none
  | q :: _ =>
    (hs.filter fun h => deQueue (s.desc h.2.1 h.2.2.idx) == q).foldl (fun b h =>
      match b with
      | none => some h
      | some k => if h.2.2.seq < k.2.2.seq then some h else b) none

/-- The frame that a descriptor puts on the line: its buffer, with CTL.TAG = 1 an 802.1Q tag after the source address and the
FCS computed again (R464). -/
def State.txBytes (s : State) (d : Rec) : List Byte :=
  let b := s.sramBytes (deBuf d) (deLen d)
  if deTag d then
    let f := b.take 12 ++ netBytes 2 0x8100 ++ netBytes 2 (deTci d) ++ (b.drop 12).take (b.length - 16)
    f ++ leBytes 4 (crc32 f)
  else b

/-- The segment that a descriptor of the fabric carries, with the Aelzon station that it goes to. -/
def State.ethSegment (s : State) (m : Nat) (d : Rec) : Option (Nat × List Byte) :=
  let b := s.sramBytes (deBuf d) (deLen d)
  ((s.recs 8).find? fun r => stProto r == 1 && stPort r == macPort m && Rec.u32 r 4 == frameDest b).map fun r =>
    (Rec.u16 r 0, frameSegment b)

/-- Whether the frank of a descriptor is not the current one: that of a program's or lane firmware's descriptor, and that
of an output-phase frame of the fabric (R22). -/
def State.txIsStale (s : State) (m : Nat) (r : Rec) (t : TxD) : Bool :=
  if mbOwner r == 0 then
    match s.ethSegment m (s.desc r t.idx) with
    | some (_, seg) => segOutput seg && !(segFrank seg == s.pms.frMux)
    | none => false
  else !(t.frank == s.pms.frMux)

/-- A stale descriptor is discarded; a frame of the fabric is built again (R23, R24, R111). -/
def State.txStale (s : State) (m b : Nat) (r : Rec) (t : TxD) : State :=
  if mbOwner r == 0 then
    match s.ethSegment m (s.desc r t.idx) with
    | some (n, seg) => (s.txFinish b r t.idx mbFENCED 0).fabStale n seg
    | none => s.txFinish b r t.idx mbFENCED 0
  else (s.staleMux t.frank).txFinish b r t.idx mbFENCED 0

/-- ETH_FRAME_TX_START: stale franks are discarded as their frames would start, then one frame starts. -/
def State.txStart (s : State) (m : Nat) : Nat → State
  | 0 => s
  | n + 1 =>
    match s.macNext m with
    | none => s
    | some (b, r, t) =>
      if s.txIsStale m r t then ((s.txStale m b r t).settle m).txStart m n
      else if mbBufsz r < deLen (s.desc r t.idx) ∨ 1522 < deLen (s.desc r t.idx) + 4 * b2n (deTag (s.desc r t.idx)) then
        ((s.txFinish b r t.idx mbTOOLONG 0).settle m).txStart m n
      else
        let x := s.mb b
        let s := s.setMb b { x with tx := x.tx.map fun k => if k.idx == t.idx then { k with started := true } else k }
        let d := s.desc r t.idx
        let f := s.txBytes d
        ((s.setMac m { s.mac m with cur := some ⟨b, t.idx, deQueue d, s.pmNow, f⟩ }).settle m).trunk 5 0 f.length .read

def execEthFrameTxStart (w : When) (m : Nat) (s : State) : Out :=
  let s := s.advance w
  .next (match s.macLive m with
    | some _ =>
      let x := s.mac m
      if x.cur.isNone && (match x.pausedTo with | some t => decide (t ≤ s.ns) | none => true) then
        (s.settle m).txStart m 4096
      else s
    | none => s)

/-- ETH_FRAME_TX_DONE: the frame on the line is complete: its descriptor is finished, with the SFD postmark plus LATTX
where TS is 1 (R459). -/
def State.txDone (s : State) (m : Nat) : State :=
  match (s.mac m).cur with
  | none => s
  | some c =>
    let s := s.setMac m { s.mac m with cur := none }
    let lat := match s.netRec m with | some r => s.latUnits (Rec.u16 r 0x0E) | none => 0
    let pm := c.pm + BitVec.ofNat 64 lat
    match s.mbRec c.mb with
    | some r =>
      let seg := s.ethSegment m (s.desc r c.idx)
      let s := (s.txFinish c.mb r c.idx mbOK pm.toNat).settle m
      if mbOwner r == 0 then (match seg with | some (n, g) => s.fabSent n g pm | none => s) else s
    | none => s.settle m

def execEthFrameTxDone (w : When) (m : Nat) (s : State) : Out :=
  let s := s.advance w
  .next (if s.good .net then s.txDone m else s)

/-- ETH_LINK_CHANGE: the link of a MAC that is used goes up or down (R471); MAC 6 is used without a record while no
manifest is armed (R475). -/
def execEthLinkChange (w : When) (m : Nat) (up : Bool) (rate : Nat) (s : State) : Out :=
  let s := s.advance w
  .next (if s.good .net && decide (m < 7) && ((match s.netRec m with | some r => Rec.bit r 1 0 | none => m == 6)) then
      let s := (s.settle m).setFld (F.ETH_STATUS_RATE m) rate
      (s.setFlag (F.ETH_STATUS_LINK m) up).record 0xA00A [n2w m, n2w (b2n up), n2w rate]
    else s)

/-! ## The tail of a mailbag -/

/-- MAILBAG_TAIL_ADVANCE: the owner has filled descriptors and set OWN (R469, R470). A mailbag of a lane needs a lane. -/
def State.mailTail (s : State) (mb : Nat) (r : Rec) (descs : List (BitVec 128)) : State :=
  (s.tailAdvance mb r descs).mbPump mb

def execMailbagTailAdvance (w : When) (mb : Nat) (descs : List (BitVec 128)) (s : State) : Out :=
  let s := s.advance w
  .next (match s.mbRec mb with
    | some r => if s.good .net && (mbOwner r == 0 || s.laneUp) then s.mailTail mb r descs else s
    | none => s)

end Sys2Proof.Machine
end

