-- ==== Sys2Proof/Machine/Dispatch.lean ====
section
/-! DEFINITION. The dispatch: one arm per constructor of `Instr`. -/

namespace Sys2Proof.Machine

/-- What a command does to everything but the queue. -/
def exec (i : Instr) (s : State) : Host.Outcome State Fault Refusal :=
  match i with
  | .loRegisterRead w who addr => Sys2Proof.Machine.execLoRegisterRead w who addr s
  | .readClearAccess w who addr => Sys2Proof.Machine.execReadClearAccess w who addr s
  | .registerWrite w who addr val => Sys2Proof.Machine.execRegisterWrite w who addr val s
  | .referenceCycle w peakUv freqUHz dev => Sys2Proof.Machine.execReferenceCycle w peakUv freqUHz dev s
  | .clockCycleBoundary w => Sys2Proof.Machine.execClockCycleBoundary w s
  | .pmkCfgWrite w src val => Sys2Proof.Machine.execPmkCfgWrite w src val s
  | .pmkCorSeqRead w who => Sys2Proof.Machine.execPmkCorSeqRead w who s
  | .rtcSecondBoundary w => Sys2Proof.Machine.execRtcSecondBoundary w s
  | .manVerify w who slot => Sys2Proof.Machine.execManVerify w who slot s
  | .manArm w who slot => Sys2Proof.Machine.execManArm w who slot s
  | .manArmfb w who => Sys2Proof.Machine.execManArmfb w who s
  | .manClear w who slot => Sys2Proof.Machine.execManClear w who slot s
  | .manSlotWrite w who slot offset data => Sys2Proof.Machine.execManSlotWrite w who slot offset data s
  | .classSSwitch w => Sys2Proof.Machine.execClassSSwitch w s
  | .classWSwitch w => Sys2Proof.Machine.execClassWSwitch w s
  | .programSwitchBoundary w => Sys2Proof.Machine.execProgramSwitchBoundary w s
  | .powerupManifestCheck w => Sys2Proof.Machine.execPowerupManifestCheck w s
  | .roundStart w cls => Sys2Proof.Machine.execRoundStart w cls s
  | .inputPhaseClose w cls => Sys2Proof.Machine.execInputPhaseClose w cls s
  | .outputPhaseOpen w cls => Sys2Proof.Machine.execOutputPhaseOpen w cls s
  | .roundEnd w cls => Sys2Proof.Machine.execRoundEnd w cls s
  | .aelzonInputReceived w station seg => Sys2Proof.Machine.execAelzonInputReceived w station seg s
  | .aelzonChgReceived w station seg => Sys2Proof.Machine.execAelzonChgReceived w station seg s
  | .aelzonIdaReceived w station seg ident sfrank fwver => Sys2Proof.Machine.execAelzonIdaReceived w station seg ident sfrank fwver s
  | .aelzonAckReceived w station seg sfrank => Sys2Proof.Machine.execAelzonAckReceived w station seg sfrank s
  | .outputAckTimeout w station => Sys2Proof.Machine.execOutputAckTimeout w station s
  | .aelzonFollowSend w station => Sys2Proof.Machine.execAelzonFollowSend w station s
  | .laneProtocolResponse w station ans => Sys2Proof.Machine.execLaneProtocolResponse w station ans s
  | .stationDisableWrite w who station dis => Sys2Proof.Machine.execStationDisableWrite w who station dis s
  | .pointWord0Read w who p => Sys2Proof.Machine.execPointWord0Read w who p s
  | .pointValueWrite w who p val => Sys2Proof.Machine.execPointValueWrite w who p val s
  | .pointForceWrite w who p val => Sys2Proof.Machine.execPointForceWrite w who p val s
  | .taskRelease w task => Sys2Proof.Machine.execTaskRelease w task s
  | .taskDispatch w task => Sys2Proof.Machine.execTaskDispatch w task s
  | .taskReturn w task stores => Sys2Proof.Machine.execTaskReturn w task stores s
  | .checkpointDurable w task => Sys2Proof.Machine.execCheckpointDurable w task s
  | .eventSourceFire w source value => Sys2Proof.Machine.execEventSourceFire w source value s
  | .taskWatchdogExpiry w task => Sys2Proof.Machine.execTaskWatchdogExpiry w task s
  | .programStop w who => Sys2Proof.Machine.execProgramStop w who s
  | .programHold w who => Sys2Proof.Machine.execProgramHold w who s
  | .programResume w who => Sys2Proof.Machine.execProgramResume w who s
  | .programStep w who task => Sys2Proof.Machine.execProgramStep w who task s
  | .programWarm w who inHold => Sys2Proof.Machine.execProgramWarm w who inHold s
  | .programCold w who inHold => Sys2Proof.Machine.execProgramCold w who inHold s
  | .tskDoorbellWrite w who val => Sys2Proof.Machine.execTskDoorbellWrite w who val s
  | .rtPostmark w task => Sys2Proof.Machine.execRtPostmark w task s
  | .rtRelease w task => Sys2Proof.Machine.execRtRelease w task s
  | .rtRtc w task => Sys2Proof.Machine.execRtRtc w task s
  | .rtEvent w task => Sys2Proof.Machine.execRtEvent w task s
  | .rtTrigger w task source val => Sys2Proof.Machine.execRtTrigger w task source val s
  | .rtAxisSet w task axis target vlim alim targetPos => Sys2Proof.Machine.execRtAxisSet w task axis target vlim alim targetPos s
  | .rtAxisEnable w task axis on => Sys2Proof.Machine.execRtAxisEnable w task axis on s
  | .rtAxisStop w task axis => Sys2Proof.Machine.execRtAxisStop w task axis s
  | .rtAxisState w task axis => Sys2Proof.Machine.execRtAxisState w task axis s
  | .rtCmpSet w task axis cmp pos dir => Sys2Proof.Machine.execRtCmpSet w task axis cmp pos dir s
  | .rtMtrRead w task group qty => Sys2Proof.Machine.execRtMtrRead w task group qty s
  | .rtSafStatus w task => Sys2Proof.Machine.execRtSafStatus w task s
  | .rtMbSend w task mb data => Sys2Proof.Machine.execRtMbSend w task mb data s
  | .rtMbRecv w task mb => Sys2Proof.Machine.execRtMbRecv w task mb s
  | .rtTrend w task rec data => Sys2Proof.Machine.execRtTrend w task rec data s
  | .rtLog w task code w1 w2 w3 w4 => Sys2Proof.Machine.execRtLog w task code w1 w2 w3 w4 s
  | .rtTaskinfo w task => Sys2Proof.Machine.execRtTaskinfo w task s
  | .ocPreparationDone w => Sys2Proof.Machine.execOcPreparationDone w s
  | .baseSwitch w => Sys2Proof.Machine.execBaseSwitch w s
  | .linkEvent w link => Sys2Proof.Machine.execLinkEvent w link s
  | .dexjoResponse w axis frame diff => Sys2Proof.Machine.execDexjoResponse w axis frame diff s
  | .dexjoResponseMiss w axis => Sys2Proof.Machine.execDexjoResponseMiss w axis s
  | .refereeVerdict w axis v y s1 s2 => Sys2Proof.Machine.execRefereeVerdict w axis v y s1 s2 s
  | .comparatorAction w axis cmp => Sys2Proof.Machine.execComparatorAction w axis cmp s
  | .axisEnableTimeout w axis => Sys2Proof.Machine.execAxisEnableTimeout w axis s
  | .orphanStop w => Sys2Proof.Machine.execOrphanStop w s
  | .axisStoEntry w group => Sys2Proof.Machine.execAxisStoEntry w group s
  | .coeffSwapCmd w who axis => Sys2Proof.Machine.execCoeffSwapCmd w who axis s
  | .coeffCopyCmd w who axis => Sys2Proof.Machine.execCoeffCopyCmd w who axis s
  | .tableEntryWrite w who axis entry val => Sys2Proof.Machine.execTableEntryWrite w who axis entry val s
  | .meteringCycleEnd w currents voltages => Sys2Proof.Machine.execMeteringCycleEnd w currents voltages s
  | .meterTrimWrite w who addr val => Sys2Proof.Machine.execMeterTrimWrite w who addr val s
  | .windowClearingRead w who group reg => Sys2Proof.Machine.execWindowClearingRead w who group reg s
  | .pulseEmit w p => Sys2Proof.Machine.execPulseEmit w p s
  | .pulseWidthEnd w p => Sys2Proof.Machine.execPulseWidthEnd w p s
  | .governorEvaluation w => Sys2Proof.Machine.execGovernorEvaluation w s
  | .switchingSend w load => Sys2Proof.Machine.execSwitchingSend w load s
  | .govModeWrite w who mode => Sys2Proof.Machine.execGovModeWrite w who mode s
  | .heartbeatSend w => Sys2Proof.Machine.execHeartbeatSend w s
  | .heartbeatTimeout w lane faultNs faultPm => Sys2Proof.Machine.execHeartbeatTimeout w lane faultNs faultPm s
  | .faultLineReport w lane crit faultNs faultPm => Sys2Proof.Machine.execFaultLineReport w lane crit faultNs faultPm s
  | .spareTestStart w => Sys2Proof.Machine.execSpareTestStart w s
  | .spareTestDone w lane failing => Sys2Proof.Machine.execSpareTestDone w lane failing s
  | .pmsHandover w who img => Sys2Proof.Machine.execPmsHandover w who img s
  | .handoverSwitch w => Sys2Proof.Machine.execHandoverSwitch w s
  | .pmsSparetest w who => Sys2Proof.Machine.execPmsSparetest w who s
  | .pmsRecover w who => Sys2Proof.Machine.execPmsRecover w who s
  | .pmsPairjoin w who peerSite peerRev reachable framesOk peerActive => Sys2Proof.Machine.execPmsPairjoin w who peerSite peerRev reachable framesOk peerActive s
  | .pmsPairleave w who => Sys2Proof.Machine.execPmsPairleave w who s
  | .pmsPairswap w who => Sys2Proof.Machine.execPmsPairswap w who s
  | .postmasterRestart w cause => Sys2Proof.Machine.execPostmasterRestart w cause s
  | .postmasterRestartDone w => Sys2Proof.Machine.execPostmasterRestartDone w s
  | .leaseRequestSend w => Sys2Proof.Machine.execLeaseRequestSend w s
  | .leaseReplyReceived w from_ number isPartner noGrant => Sys2Proof.Machine.execLeaseReplyReceived w from_ number isPartner noGrant s
  | .selfFence w => Sys2Proof.Machine.execSelfFence w s
  | .grantRequest w => Sys2Proof.Machine.execGrantRequest w s
  | .witnessGrant gc => Sys2Proof.Machine.execWitnessGrant gc s
  | .grantReceived w block => Sys2Proof.Machine.execGrantReceived w block s
  | .pairStreamReceive w item => Sys2Proof.Machine.execPairStreamReceive w item s
  | .pairRejoin w => Sys2Proof.Machine.execPairRejoin w s
  | .safetyInputFilter w pair aClosed bClosed => Sys2Proof.Machine.execSafetyInputFilter w pair aClosed bClosed s
  | .testPulseWindow w pair contactB passed => Sys2Proof.Machine.execTestPulseWindow w pair contactB passed s
  | .discrepancyTimerExpiry w pair => Sys2Proof.Machine.execDiscrepancyTimerExpiry w pair s
  | .degradedTimerExpiry w pair => Sys2Proof.Machine.execDegradedTimerExpiry w pair s
  | .outputOffPulse w o passed => Sys2Proof.Machine.execOutputOffPulse w o passed s
  | .outputReadbackMismatch w o => Sys2Proof.Machine.execOutputReadbackMismatch w o s
  | .sealSwitchChange w sw => Sys2Proof.Machine.execSealSwitchChange w sw s
  | .closeRunEnd w f => Sys2Proof.Machine.execCloseRunEnd w f s
  | .clearTimeExpiry w f => Sys2Proof.Machine.execClearTimeExpiry w f s
  | .stogrpDelayExpiry w f => Sys2Proof.Machine.execStogrpDelayExpiry w f s
  | .thermoMinTimeExpiry w f => Sys2Proof.Machine.execThermoMinTimeExpiry w f s
  | .safConfirmWrite w who val => Sys2Proof.Machine.execSafConfirmWrite w who val s
  | .confirmLockoutExpiry w => Sys2Proof.Machine.execConfirmLockoutExpiry w s
  | .safClearPair w who pair => Sys2Proof.Machine.execSafClearPair w who pair s
  | .safClearLatch w who => Sys2Proof.Machine.execSafClearLatch w who s
  | .safetyDiagnosticRun w d passed => Sys2Proof.Machine.execSafetyDiagnosticRun w d passed s
  | .safetySupplyFault sf => Sys2Proof.Machine.execSafetySupplyFault sf s
  | .safetyWatchdogExpiry w => Sys2Proof.Machine.execSafetyWatchdogExpiry w s
  | .safetyStartDone w r => Sys2Proof.Machine.execSafetyStartDone w r s
  | .registryGroupSubmit w rank cells => Sys2Proof.Machine.execRegistryGroupSubmit w rank cells s
  | .registryGroupDurable w => Sys2Proof.Machine.execRegistryGroupDurable w s
  | .registryApply w => Sys2Proof.Machine.execRegistryApply w s
  | .scrubPass w corrected bad => Sys2Proof.Machine.execScrubPass w corrected bad s
  | .protectLevelWrite w who level => Sys2Proof.Machine.execProtectLevelWrite w who level s
  | .starvationCount w rank wait => Sys2Proof.Machine.execStarvationCount w rank wait s
  | .perfSnapshot w who => Sys2Proof.Machine.execPerfSnapshot w who s
  | .perfSnapshotDone w => Sys2Proof.Machine.execPerfSnapshotDone w s
  | .canFrameReceived w group fr => Sys2Proof.Machine.execCanFrameReceived w group fr s
  | .canFrameSent w tx => Sys2Proof.Machine.execCanFrameSent w tx s
  | .canBusOff w group => Sys2Proof.Machine.execCanBusOff w group s
  | .canBusoffRecovered w group => Sys2Proof.Machine.execCanBusoffRecovered w group s
  | .canBorecCmd w who group => Sys2Proof.Machine.execCanBorecCmd w who group s
  | .canRestrWrite w who group restr => Sys2Proof.Machine.execCanRestrWrite w who group restr s
  | .canRestrictedChange w group => Sys2Proof.Machine.execCanRestrictedChange w group s
  | .uartFrameSend w group echo => Sys2Proof.Machine.execUartFrameSend w group echo s
  | .uartFrameReceived w group chars => Sys2Proof.Machine.execUartFrameReceived w group chars s
  | .daliForwardFrameSend w group what collision => Sys2Proof.Machine.execDaliForwardFrameSend w group what collision s
  | .daliBackwardWindow w group r => Sys2Proof.Machine.execDaliBackwardWindow w group r s
  | .daliEventFrameReceived w group frame => Sys2Proof.Machine.execDaliEventFrameReceived w group frame s
  | .daliBackoffExpiry w group collision => Sys2Proof.Machine.execDaliBackoffExpiry w group collision s
  | .daliPowerLost w group => Sys2Proof.Machine.execDaliPowerLost w group s
  | .daliPowerRestored w group => Sys2Proof.Machine.execDaliPowerRestored w group s
  | .daliCommission w who group val => Sys2Proof.Machine.execDaliCommission w who group val s
  | .ethFrameReceived w m fr => Sys2Proof.Machine.execEthFrameReceived w m fr s
  | .pauseExpiry w m => Sys2Proof.Machine.execPauseExpiry w m s
  | .ethFrameTxStart w m => Sys2Proof.Machine.execEthFrameTxStart w m s
  | .ethFrameTxDone w m => Sys2Proof.Machine.execEthFrameTxDone w m s
  | .ethLinkChange w m up rate => Sys2Proof.Machine.execEthLinkChange w m up rate s
  | .mailbagTailAdvance w mb descs => Sys2Proof.Machine.execMailbagTailAdvance w mb descs s
  | .ctrIdent w fr => Sys2Proof.Machine.execCtrIdent w fr s
  | .ctrHello w fr binding nonceC => Sys2Proof.Machine.execCtrHello w fr binding nonceC s
  | .ctrOpen w fr => Sys2Proof.Machine.execCtrOpen w fr s
  | .ctrClose w fr => Sys2Proof.Machine.execCtrClose w fr s
  | .ctrRead w fr addr count => Sys2Proof.Machine.execCtrRead w fr addr count s
  | .ctrWrite w fr addr data => Sys2Proof.Machine.execCtrWrite w fr addr data s
  | .ctrSpiAnswerRead w => Sys2Proof.Machine.execCtrSpiAnswerRead w s
  | .ctrQueueDispatch w => Sys2Proof.Machine.execCtrQueueDispatch w s
  | .sessionPendingTimeout w session => Sys2Proof.Machine.execSessionPendingTimeout w session s
  | .sessionIdleTimeout w session => Sys2Proof.Machine.execSessionIdleTimeout w session s
  | .authfailLockoutExpiry w binding => Sys2Proof.Machine.execAuthfailLockoutExpiry w binding s
  | .ctrKillWrite w who session => Sys2Proof.Machine.execCtrKillWrite w who session s
  | .keyWriteCmd w who slot => Sys2Proof.Machine.execKeyWriteCmd w who slot s
  | .keyErase w who slot => Sys2Proof.Machine.execKeyErase w who slot s
  | .keyAttest w who slot => Sys2Proof.Machine.execKeyAttest w who slot s
  | .keyRekey w who => Sys2Proof.Machine.execKeyRekey w who s
  | .keyZeroize w who zmask => Sys2Proof.Machine.execKeyZeroize w who zmask s
  | .keyLoadwinTimeout w => Sys2Proof.Machine.execKeyLoadwinTimeout w s
  | .lcAdvance w who => Sys2Proof.Machine.execLcAdvance w who s
  | .lcService w who => Sys2Proof.Machine.execLcService w who s
  | .lcField w who => Sys2Proof.Machine.execLcField w who s
  | .lcRetire w who => Sys2Proof.Machine.execLcRetire w who s
  | .serviceTimerExpiry w => Sys2Proof.Machine.execServiceTimerExpiry w s
  | .tamperDetect w src => Sys2Proof.Machine.execTamperDetect w src s
  | .workingKeyRequest w m slot ph integrityOk => Sys2Proof.Machine.execWorkingKeyRequest w m slot ph integrityOk s
  | .workingKeyRelease w => Sys2Proof.Machine.execWorkingKeyRelease w s
  | .imgVerify w who slot => Sys2Proof.Machine.execImgVerify w who slot s
  | .imgApply w who src dst => Sys2Proof.Machine.execImgApply w who src dst s
  | .deltaApplyResume w => Sys2Proof.Machine.execDeltaApplyResume w s
  | .imgPmswitch w who src => Sys2Proof.Machine.execImgPmswitch w who src s
  | .imgClear w who slot => Sys2Proof.Machine.execImgClear w who slot s
  | .imgRecover w who => Sys2Proof.Machine.execImgRecover w who s
  | .imgBoot w who src => Sys2Proof.Machine.execImgBoot w who src s
  | .imgSlotWrite w who slot offset data => Sys2Proof.Machine.execImgSlotWrite w who slot offset data s
  | .rtcHaltSet w who => Sys2Proof.Machine.execRtcHaltSet w who s
  | .rtcHaltRelease w who => Sys2Proof.Machine.execRtcHaltRelease w who s
  | .rtcFieldWrite w who addr val => Sys2Proof.Machine.execRtcFieldWrite w who addr val s
  | .rtcDisciplineWrite w val => Sys2Proof.Machine.execRtcDisciplineWrite w val s
  | .rtcCalendarRead w lane addr => Sys2Proof.Machine.execRtcCalendarRead w lane addr s
  | .rtcYearRead w lane => Sys2Proof.Machine.execRtcYearRead w lane s
  | .rtcFreezeExpiry w lane => Sys2Proof.Machine.execRtcFreezeExpiry w lane s
  | .rtcAlarmWrite w who addr val => Sys2Proof.Machine.execRtcAlarmWrite w who addr val s
  | .pwronAssertCmd w who => Sys2Proof.Machine.execPwronAssertCmd w who s
  | .pwronDeassertCmd w who => Sys2Proof.Machine.execPwronDeassertCmd w who s
  | .wakeEdge w => Sys2Proof.Machine.execWakeEdge w s
  | .bakPowerOn w => Sys2Proof.Machine.execBakPowerOn w s
  | .recorderRingWrite w => Sys2Proof.Machine.execRecorderRingWrite w s
  | .recorderResume w => Sys2Proof.Machine.execRecorderResume w s
  | .vinValid w recovStrap => Sys2Proof.Machine.execVinValid w recovStrap s
  | .domainStart w d cleTest => Sys2Proof.Machine.execDomainStart w d cleTest s
  | .domainGoodTimeout w d => Sys2Proof.Machine.execDomainGoodTimeout w d s
  | .domainRetry w d => Sys2Proof.Machine.execDomainRetry w d s
  | .pwrRungCmd w who rung => Sys2Proof.Machine.execPwrRungCmd w who rung s
  | .pwrResetCmd w who => Sys2Proof.Machine.execPwrResetCmd w who s
  | .descentContinue w => Sys2Proof.Machine.execDescentContinue w s
  | .axwaitReport w => Sys2Proof.Machine.execAxwaitReport w s
  | .wakeSource w src => Sys2Proof.Machine.execWakeSource w src s
  | .supplyLoss w => Sys2Proof.Machine.execSupplyLoss w s
  | .supplyLossDelayExpiry w second => Sys2Proof.Machine.execSupplyLossDelayExpiry w second s
  | .postponedDescentStart w => Sys2Proof.Machine.execPostponedDescentStart w s
  | .supplyRestore w => Sys2Proof.Machine.execSupplyRestore w s
  | .pfailDetect w vinMv byPin => Sys2Proof.Machine.execPfailDetect w vinMv byPin s
  | .pfailRestart w => Sys2Proof.Machine.execPfailRestart w s
  | .vinCollapse w => Sys2Proof.Machine.execVinCollapse w s
  | .rstNLow w => Sys2Proof.Machine.execRstNLow w s
  | .rstNRelease w recovStrap => Sys2Proof.Machine.execRstNRelease w recovStrap s
  | .thermalWarning w temp => Sys2Proof.Machine.execThermalWarning w temp s
  | .referenceCycleTimeout w => Sys2Proof.Machine.execReferenceCycleTimeout w s
  | .laneBootDone w romOk => Sys2Proof.Machine.execLaneBootDone w romOk s
  | .longOperationEnd w => Sys2Proof.Machine.execLongOperationEnd w s
  | .zeroizeResume w => Sys2Proof.Machine.execZeroizeResume w s
  | .tamperSourceCleared w src => Sys2Proof.Machine.execTamperSourceCleared w src s
  | .leaseRequestReceived w rq => Sys2Proof.Machine.execLeaseRequestReceived w rq s
  | .pairStreamAck w commits => Sys2Proof.Machine.execPairStreamAck w commits s
  | .epochBlockRequest w => Sys2Proof.Machine.execEpochBlockRequest w s
  | .epochBlockReceived w block => Sys2Proof.Machine.execEpochBlockReceived w block s
  | .thermalFallBelow90 w => Sys2Proof.Machine.execThermalFallBelow90 w s

end Sys2Proof.Machine
end

