-- ==== Sys2Proof/Machine/TestPort.lean ====
section
/-! DEFINITION. The test access port (R623): its instruction register, IDCODE, and the gate of EXTEST. No row of the table
reaches the port; these are its operations on State (log 54). -/

namespace Sys2Proof.Machine

/-- Whether EXTEST is accepted: life-cycle state BLANK or MAKER, and no manifest armed. -/
def State.extestOpen (s : State) : Bool := (s.lc == lcBLANK || s.lc == lcMAKER) && !s.armed

/-- An instruction is loaded; EXTEST outside its states loads BYPASS. -/
def State.tapLoad (s : State) (i : TapInstr) : State := { s with tap := if i == .extest && !s.extestOpen then .bypass else i }

/-- The controller in Test-Logic-Reset selects IDCODE, as IEEE 1149.1 says. -/
def State.tapReset (s : State) : State := { s with tap := .idcode }

/-- IDCODE: 16#1641_3001 with MOD_HWREV.MAJOR in bits [31:28]. -/
def State.tapIdcode (s : State) : Word := n2w (0x06413001 + s.fld F.MOD_HWREV_MAJOR % 16 * 2 ^ 28)

/-- What the port shifts out of a 32-bit data register: IDCODE alone; BYPASS is one bit, and the boundary register is the
carrier's. -/
def State.tapData (s : State) : Option Word := if s.tap == .idcode then some s.tapIdcode else none

/-- Pins by what they belong to, as the boundary register sees them. -/
inductive Pin where
  | sfIn | sfTp | sfOut | mi | mv | tmpLoop | wake | pwron | other
  deriving DecidableEq, Repr

/-- The pins that the boundary register covers: no safety, measuring, tamper or wake pin. -/
def Pin.covered (p : Pin) : Bool := p == .other

/-- Whether the port drives a pin: under EXTEST alone, and only a covered one; no safety output is. -/
def State.tapDrives (s : State) (p : Pin) : Bool := s.tap == .extest && p.covered

end Sys2Proof.Machine
end

