-- ==== Sys2Proof/Safety.lean ====
section
/-! DEFINITION. What claims about the module are stated in: which units and which register words a command leaves as they
were, the canonical form of every memory, and ranges that every register field keeps. -/

namespace Sys2Proof.Machine

/-- The parts of `State` that a frame speaks of, one for each field. -/
inductive Part where
  | pending | ns | regs | latch | free | evr | clk | pm | man | fab | prog | rtc | pwr | ctr | pms | perf | arb | cle | net | mtr
  | gov | saf | keys | img | tap
  deriving DecidableEq, Repr

/-- A frame: every part outside `changed` is in `t` what it is in `s`. -/
abbrev Frame (changed : List Part) (s t : State) : Prop :=
  (Part.pending ∈ changed ∨ t.pending = s.pending) ∧ (Part.ns ∈ changed ∨ t.ns = s.ns) ∧
  (Part.regs ∈ changed ∨ t.regs = s.regs) ∧ (Part.latch ∈ changed ∨ t.latch = s.latch) ∧
  (Part.free ∈ changed ∨ t.free = s.free) ∧ (Part.evr ∈ changed ∨ t.evr = s.evr) ∧
  (Part.clk ∈ changed ∨ t.clk = s.clk) ∧ (Part.pm ∈ changed ∨ t.pm = s.pm) ∧ (Part.man ∈ changed ∨ t.man = s.man) ∧
  (Part.fab ∈ changed ∨ t.fab = s.fab) ∧ (Part.prog ∈ changed ∨ t.prog = s.prog) ∧ (Part.rtc ∈ changed ∨ t.rtc = s.rtc) ∧
  (Part.pwr ∈ changed ∨ t.pwr = s.pwr) ∧ (Part.ctr ∈ changed ∨ t.ctr = s.ctr) ∧ (Part.pms ∈ changed ∨ t.pms = s.pms) ∧
  (Part.perf ∈ changed ∨ t.perf = s.perf) ∧ (Part.arb ∈ changed ∨ t.arb = s.arb) ∧ (Part.cle ∈ changed ∨ t.cle = s.cle) ∧ (Part.net ∈ changed ∨ t.net = s.net) ∧
  (Part.mtr ∈ changed ∨ t.mtr = s.mtr) ∧ (Part.gov ∈ changed ∨ t.gov = s.gov) ∧ (Part.saf ∈ changed ∨ t.saf = s.saf) ∧
  (Part.keys ∈ changed ∨ t.keys = s.keys) ∧ (Part.img ∈ changed ∨ t.img = s.img) ∧ (Part.tap ∈ changed ∨ t.tap = s.tap)

/-- Every register word whose address is not in `changed` is in `t` what it is in `s`. -/
def RegsKept (changed : List Nat) (s t : State) : Prop := ∀ a, a ∉ changed → t.rd a = s.rd a

/-- Every register word whose address does not satisfy `p` is in `t` what it is in `s`. -/
def WordsKept (p : Nat → Prop) (s t : State) : Prop := ∀ a, ¬ p a → t.rd a = s.rd a

/-- An address of one of the blocks `bs` of the register map (R27). -/
def inBlocks (bs : List Blk) (a : Nat) : Prop := ∃ b ∈ bs, blockOf a = some b

/-- The loss causes of R43 that a reference cycle meets: 1 amplitude, 2 frequency, 3 phase jump. -/
def RefFault (cfg : Word) (peakUv freqUHz : Nat) (dev : Int) (cause : Nat) : Prop :=
  (cause = 1 ∧ peakUv < cfg.bits 23 16 * 5000) ∨ (cause = 2 ∧ (freqUHz < 42500000 ∨ 69000000 < freqUHz)) ∨
  (cause = 3 ∧ 131072 < dev.natAbs)

/-- A command `v` of MOD_MAN_CTRL by `who` passes the checks before its own: R7, R29, R30, R92 and R485, the Postmaster
works, the check at power-up is done and no arm is in progress. -/
def ManReady (s : State) (who : Who) (v : Word) : Prop :=
  s.refuse who Reg.MOD_MAN_CTRL v = none ∧ s.pwr.recovery = false ∧ s.pmWorks = true ∧ s.man.arm = none ∧ s.pwr.manDone = true

/-- No Registry group is on its way: every group in the journal is durable, and none waits for room (R382, R384). -/
def Settled (s : State) : Prop := (∀ e ∈ s.pm.journal, e.durable = true) ∧ s.pm.waiting = []

/-- A group with the contents `load` enters the Registry's journal, its commit record open, or waits for room (R381, R384). -/
def Submitted (load : Payload) (s t : State) : Prop :=
  (∃ e : JEntry, t.pm.journal = s.pm.journal ++ [e] ∧ e.load = load ∧ e.durable = false ∧ t.pm.waiting = s.pm.waiting) ∨
  (∃ e, t.pm.waiting = s.pm.waiting ++ [e] ∧ e.load = load ∧ t.pm.journal = s.pm.journal)

/-- A group with the contents `load` is in the Registry's journal or waits for room in it. -/
def InRegistry (load : Payload) (t : State) : Prop :=
  (∃ e ∈ t.pm.journal, e.load = load) ∨ ∃ e ∈ t.pm.waiting, e.load = load

/-- No task's watchdog has expired at this moment (R161). -/
def Unexpired (s : State) : Prop := ∀ t, s.wdogDue t = false

/-- A long operation of a kind starts for `who` (R484): the next OPID modulo 256, OPKIND and BUSY. -/
def LongStarted (kind : Nat) (who : Who) (s t : State) : Prop :=
  t.flag F.CTR_STATUS_BUSY = true ∧ t.fld F.CTR_STATUS_OPKIND = kind ∧
  t.fld F.CTR_STATUS_OPID = (s.fld F.CTR_STATUS_OPID + 1) % 256 ∧
  ∃ o, t.ctr.long = some o ∧ o.kind = kind ∧ o.id = t.fld F.CTR_STATUS_OPID ∧ o.startNs = s.ns ∧ o.session = who.session ∧
    o.role = who.role.num

/-- The register words whose write is a command of another row than REGISTER_WRITE, or of CTR_WRITE alone. -/
def ownRow (a : Nat) : Bool :=
  decide (a ∈ [Reg.MOD_MAN_CTRL, Reg.MOD_IMG_CTRL, Reg.PMK_CFG, Reg.TSK_CTRL, Reg.TSK_DOORBELL, Reg.GOV_CTRL, Reg.PMS_CTRL,
    Reg.SAF_CTRL, Reg.SAF_CONFIRM, Reg.PMC_PROTCTL, Reg.PRF_CTRL, Reg.CTR_KILL, Reg.PWR_CTRL, Reg.RTC_CTRL, Reg.RTC_TRIM,
    Reg.RTC_SEC, Reg.RTC_MIN, Reg.RTC_HOUR, Reg.RTC_DATE, Reg.RTC_MONTH, Reg.RTC_YEAR, Reg.BAK_PWRON, Reg.KEY_CTRL,
    Reg.KEY_LCCTRL, 0x40040, 0x40044, 0x40048, 0x40050, 0x40054, 0x40058])
  || (decide (Reg.KEY_LOADWIN 0 ≤ a) && decide (a < Reg.KEY_LOADWIN 24))
  || (decide (0x200000 ≤ a) && decide (a < 0x240000)
    && (a % 0x1000 == 0 || (decide (0x200 ≤ a % 0x1000) && decide (a % 0x1000 < 0x400))))
  || (decide (0x500000 ≤ a) && decide (a < 0x518000) && (a % 0x1000 == 0x100 || a % 0x1000 == 0x304))
  || canWindow a || (decide (0x580000 ≤ a) && decide (a < 0x584000) && a % 8 == 0) || trimAddr a

/-- The events of the recorder's buffer, by code and snapshot. -/
def State.events (s : State) : List (Nat × List Word) := s.evr.buf.map fun r => (r.code, r.snap)

/-- From `s` to `t` exactly the events `es` are recorded, in this order: said where no RECORDER record masks or limits one
of them or appends words to it (R559 to R561), and where the buffer has room for them (R563). -/
def Events (s t : State) (es : List (Nat × List Word)) : Prop :=
  (∀ e ∈ es, s.recRec e.1 = none) → s.evr.buf.length + es.length ≤ 960 → t.events = s.events ++ es

/-- As `Events`, but other events may follow `es`. -/
def EventsFrom (s t : State) (es : List (Nat × List Word)) : Prop :=
  (∀ e ∈ es, s.recRec e.1 = none) → s.evr.buf.length + es.length ≤ 960 → ∃ more, t.events = s.events ++ es ++ more

/-- Each event of `es` is recorded between `s` and `t`, among others perhaps, where no RECORDER record masks or limits
it and the buffer has 160 places for the events of the command beside it. -/
def EventsAmong (s t : State) (es : List (Nat × List Word)) : Prop :=
  (∀ e ∈ es, s.recRec e.1 = none) → s.evr.buf.length + es.length ≤ 800 → ∀ e ∈ es, e ∈ t.events

/-- Object `o` of a controller, which is `x`, holds the transmit request that goes first: the lowest identifier, then the lowest
object number (R438). -/
def Can.Sends (c : Can) (o : Nat) (x : CanObj) : Prop :=
  c.objs[o]? = some x ∧ objEN x = true ∧ objTX x = true ∧ x.flag obTXWAIT = true ∧
  ∀ j y, j ≠ o → c.objs[j]? = some y → objEN y = true → objTX y = true → y.flag obTXWAIT = true →
    x.id.toNat < y.id.toNat ∨ (x.id = y.id ∧ o < j)

/-- The safety outputs follow R355: each is on exactly when it is to be, in its register and in SAF_STATUS. -/
def OutputsFollow (t : State) : Prop :=
  ∀ o, o < 8 → t.flag (F.SAF_OUT_ON o) = t.outOn o ∧ (t.fld F.SAF_STATUS_ON / 2 ^ o % 2 == 1) = t.outOn o

/-- Every safety output is off. -/
def OutputsOff (t : State) : Prop := t.fld F.SAF_STATUS_ON = 0 ∧ ∀ o, o < 8 → t.flag (F.SAF_OUT_ON o) = false

/-- The register file, the persistent array and the shared SRAM are in canonical form. -/
def State.canonical (s : State) : Bool :=
  Tab.wf resetOf s.regs && Tab.wf (fun _ => (0 : Byte)) s.pm.home && Tab.wf (fun _ => (0 : Byte)) s.net.sram

/-- The answer that the Counter gave last is OK, with the words `data`. -/
def State.answered (s : State) (code : Nat) (data : List Word := []) : Prop := s.ctr.answer = some ⟨code, data, true⟩

/-- The Counter engine takes the request `fr` at this moment and executes it at once (R474, R476, R483). -/
def CtrTakes (s : State) (fr : Sys2Proof.Frame) : Prop :=
  s.reachable fr.tp = true ∧ s.takes fr true = true ∧ s.txBusy = false

/-- The session table: at most eight entries, in rising order, no two with one number. -/
def SessionsOk (s : State) : Prop :=
  (s.ctr.sessions.map Prod.fst).Pairwise (· < ·) ∧ (∀ e ∈ s.ctr.sessions, e.1 < 8 ∧ 1 ≤ e.2.num ∧ e.2.num ≤ 65535) ∧
  (s.ctr.sessions.map fun e => e.2.num).Nodup

/-- A request of the OPEN session `x` of entry `k` that passes checks 1 to 4 of R488, its SEQ not yet consumed. -/
def Asks (s : State) (fr : Sys2Proof.Frame) (k : Nat) (x : Session) : Prop :=
  CtrTakes s fr ∧ s.longBusy = false ∧ s.ctr.aborted = none ∧ s.authOf fr = some (k, x) ∧ x.opened = true ∧
  x.seq < fr.seq ∧ x.seq ≠ 0xFFFFFFFF ∧ SessionsOk s

/-- The request is answered with `a`, which consumes its SEQ and is stored in its session; every other session stays
(R482). -/
def AnswersWith (s t : State) (fr : Sys2Proof.Frame) (k : Nat) (x : Session) (a : Answer) : Prop :=
  t.ctr.answer = some a ∧ t.sessOf fr.session = some (k, { x with seq := fr.seq, stored := some a, lastNs := s.ns }) ∧
  ∀ n, n ≠ fr.session → t.sessOf n = s.sessOf n

/-- The newest event of the recorder's buffer, by code and snapshot. -/
def State.lastEvent (s : State) : Option (Nat × List Word) := s.evr.buf.getLast?.map fun r => (r.code, r.snap)

/-- The module starts with a cause of R588 (R570, R588): REF works and every later domain waits for the staged start; no
lane is active, the Counter's sessions and queue are empty and no operation is in progress; recovery mode shows cause 6. -/
def ModuleStarted (cause : Nat) (s t : State) : Prop :=
  t.good .ref = true ∧ (∀ n, 2 ≤ n → n ≤ 8 → t.goodN n = false ∧ t.domSt n = .off) ∧ t.lane = 0 ∧ t.pwr.staged = true ∧
  t.pwr.started = true ∧ t.pwr.rstLow = false ∧ t.pwr.pfail = false ∧ t.pwr.move = none ∧ t.ctr.sessions = [] ∧
  t.ctr.queue = [] ∧ t.man.arm = none ∧ t.evr.run = false ∧
  (t.pwr.recovery = false → t.fld F.PWR_RSTCAUSE_CAUSE = cause) ∧
  (t.pwr.recovery = true → t.fld F.PWR_RSTCAUSE_CAUSE = 6 ∧ t.flag F.MOD_IMG_USE_RECOV = true) ∧
  WordsKept (inBlocks [.mod, .ctr, .pwr, .pms, .saf, .key, .evr, .prf, .pmc, .tsk]) s t ∧
  Frame [.regs, .latch, .free, .evr, .pm, .man, .prog, .pwr, .ctr, .pms, .saf, .keys] s t

end Sys2Proof.Machine
end

