-- ==== Sys2Proof/Certificates/Slice0/Obligations.lean ====
section
/-! DEFINITION. The statements about the module, by chapter. In most of them `s` is the machine at the moment of the
command (the clocks of `s₀` advanced by R37), `t` the state that the command answers, and the last clauses are the frame. -/

open Sys2Proof Sys2Proof.Machine

/-! ### The queue, the outcomes and reset -/

/-- The block takes the command at the front of its queue, and runs it on the state with the queue's rest. On an empty
queue the block idles: the model's choice (assumption 23). -/
def Obligations.StepTakesFront : Prop :=
  (∀ (c : Instr) (rest : List Instr) (s : State), s.pending = c :: rest → step s = exec c { s with pending := rest }) ∧
  (∀ s : State, s.pending = [] → step s = .next s)

/-- Every command answers a next state in every state; the one exception is a Registry group with a cell outside the array
(R376), which faults. -/
def Obligations.OnlyOutsideArrayFaults : Prop :=
  ∀ (c : Instr) (s : State),
    (∃ t, exec c s = .next t) ∨
      (∃ w rank cells o, c = .registryGroupSubmit w rank cells ∧ (2 ^ 32 ≤ o ∧ ∃ x ∈ cells, x.offset = o) ∧ exec c s = .fault (.outsideArray o))

/-- What reset leaves (R8, R35, R164, R505, R521, R566, R570): every register word but those of image slot 0 holds the
value of its Reset column; image slot 0 is VERIFIED; REF and BAK alone report good; memory, the Counter's table, the
recorder's buffer and the queue are empty; and what every step keeps holds. -/
def Obligations.ResetLeaves : Prop :=
  (∀ a, a ≠ Reg.MOD_IMG_SLOT0 0 → a ≠ Reg.MOD_IMG_SLOT1 0 → State.reset.rd a = resetOf a) ∧
  State.reset.rd Reg.MOD_ID = 0x6413 ∧ State.reset.rd Reg.PMK_CFG = 0x00140A00 ∧ State.reset.fld F.PMK_STATUS_STATE = 0 ∧
  State.reset.mode = 0 ∧ State.reset.lc = 0 ∧ State.reset.lane = 0 ∧ State.reset.imgState 0 = 3 ∧
  (∀ n, n < 9 → State.reset.goodN n = decide (n ≤ 1)) ∧ State.reset.pending = [] ∧ State.reset.pm.home = [] ∧
  State.reset.ctr.sessions = [] ∧ State.reset.evr.buf = [] ∧ State.reset.net.sram = [] ∧
  State.reset.canonical = true ∧ SessionsOk State.reset

/-! ### Registers (chapter 1, R4 to R9) -/

/-- LO_REGISTER_READ and READ_CLEAR_ACCESS: what a permitted read answers, latches and clears (R6, R9). The word itself
passes over the trunk at rank 0 (R403). -/
def Obligations.RegisterReads : Prop :=
  (∀ (w : When) (who : Who) (a : Nat) (s₀ s : State), s = s₀.advance w →
    isLo a = true → s.longBusy = false → s.refuseWordRead who a = none →
    ∃ t, exec (.loRegisterRead w who a) s₀ = .next t ∧
      t.answered ansOK [(s.latch.get? a).getD (s.wordAt who a)] ∧
      t.latch.get? (a + 4) = some (s.wordAt who (a + 4)) ∧
      (∀ b, b ≠ a → b ≠ a + 4 → t.latch.get? b = s.latch.get? b) ∧
      Frame [.latch, .ctr, .perf, .arb] s t) ∧
  (∀ (w : When) (who : Who) (a : Nat) (d : RegDesc) (s₀ s : State), s = s₀.advance w →
    findReg a = some d → d.hasRC = true → s.longBusy = false → s.refuseWordRead who a = none → s.latch.get? a = none →
    ∃ t, exec (.readClearAccess w who a) s₀ = .next t ∧
      t.answered ansOK [s.wordAt who a] ∧
      (∀ f ∈ d.fields, f.acc = .rc →
        (t.rd (canonAddr a)).bits f.hi f.lo = f.reset ∨ (a = Reg.EVR_HIGHFILL ∧ t.evr.highfill = 0) ∨
          (a = Reg.PWR_VIN ∧ (t.peek a).bits f.hi f.lo = f.reset)) ∧
      t.evr = { s.evr with highfill := t.evr.highfill } ∧ t.pwr = { s.pwr with vinRead := t.pwr.vinRead } ∧
      RegsKept [canonAddr a] s t ∧ Frame [.regs, .evr, .pwr, .ctr, .perf, .arb] s t)

/-- REGISTER_WRITE of a register word that no other row writes: it is judged by R7 before anything is stored, and the
stored word takes the written value in the fields that the role may write (R5, R6). Beside the word written, a write of
MTR_Gg_STATUS alone reaches tasks, whose events it may fire (R157), one of PMS_PAIRCFG the role of a module outside a pair
(R344), and one of a counter's configuration the counters, which it brings to the present (R415). The judgement of a write
by role (R7): no listed writable field, or a listed one beside an unlisted field on which the write would act, or a value
that a Meaning allows to fewer roles, is DENIED; otherwise the listed fields take the written value by their access code
and every other field and bit keeps its value. -/
def Obligations.RegisterWrites : Prop :=
  ((∀ (w : When) (who : Who) (a : Nat) (v : Word) (d : RegDesc) (s₀ s : State), s = s₀.advance w →
    ownRow a = false → findReg a = some d → s.refuse who a v = none → s.valueBad a v = false →
    ∃ t, exec (.registerWrite w who a v) s₀ = .next t ∧
      t.answered ansOK ∧ t.rd (canonAddr a) = d.store who.role (s.rd (canonAddr a)) v ∧
      WordsKept (fun b => b = canonAddr a ∨ inBlocks [.tsk] b ∨ (a = Reg.PMS_PAIRCFG ∧ b = Reg.PMS_PAIRSTAT) ∨
        (inBlocks [.prf] a ∧ inBlocks [.prf] b)) s t ∧ Frame [.regs, .free, .evr, .prog, .ctr, .perf, .arb] s t ∧
      ((∀ g, g < 16 → a ≠ Reg.MTR_G_STATUS g) → a ≠ Reg.PMS_PAIRCFG → ¬ inBlocks [.prf] a →
        RegsKept [canonAddr a] s t ∧ Frame [.regs, .ctr, .perf, .arb] s t) ∧
      (a = Reg.PMS_PAIRCFG → s.paired = false →
        t.fld F.PMS_PAIRSTAT_ROLE = (if t.flag F.PMS_PAIRCFG_WITNESS then 4 else 0))) ∧
  (∀ (w : When) (who : Who) (a : Nat) (v : Word) (c : Nat) (s₀ s : State), s = s₀.advance w →
    ownRow a = false → a % 4 = 0 → (findReg a).isSome = true → s.refuse who a v = some c →
    ∃ t, exec (.registerWrite w who a v) s₀ = .next t ∧ t.answered c ∧ Frame [.ctr] s t)) ∧
  (∀ (s : State) (who : Who) (a : Nat) (d : RegDesc) (v : Word), findReg a = some d →
    let r := who.role
    let old := s.peek a
    ((∀ f ∈ d.fields, f.writable = true → f.lists r = false) → d.mayWrite r old v = false) ∧
    ((∃ f ∈ d.fields, f.writable = true ∧ f.lists r = false ∧ f.acts old v = true) → d.mayWrite r old v = false) ∧
    ((∃ f ∈ d.fields, f.writable = true ∧ f.lists r = true) →
      (∀ f ∈ d.fields, f.writable = true → f.lists r = false → f.acts old v = false) → d.mayWrite r old v = true) ∧
    (who.role ≠ .tenant → s.longBusy = false → s.mapped a = true →
      (d.mayWrite r old v = false ∨ s.valueDenied who a v = true) → s.refuse who a v = some ansDENIED) ∧
    (∀ f ∈ d.fields, f.lists r = true → f.acc = .rw → (d.store r old v).bits f.hi f.lo = v.bits f.hi f.lo) ∧
    (∀ f ∈ d.fields, f.lists r = true → f.acc = .w1c →
      (d.store r old v).bits f.hi f.lo = Nat.land (old.bits f.hi f.lo) (Nat.xor (v.bits f.hi f.lo) (2 ^ (f.hi + 1 - f.lo) - 1))) ∧
    (∀ f ∈ d.fields, ¬(f.lists r = true ∧ (f.acc = .rw ∨ f.acc = .w1c)) → (d.store r old v).bits f.hi f.lo = old.bits f.hi f.lo))

/-! ### The postmark clock (chapter 2) -/

/-- REFERENCE_CYCLE and REFERENCE_CYCLE_TIMEOUT: a good cycle counts towards qualification; a bad one, or none within 2
cycles, sets the count back to zero, and in LOCKED the clock goes to FLYWHEEL at once with the lowest cause that holds,
counts a loss, holds the mean of the last 50 cycles and corrects no phase (R43 to R48). -/
def Obligations.ReferenceJudged : Prop :=
  (∀ (w : When) (peakUv freqUHz : Nat) (dev : Int) (s₀ s : State), s = s₀.advance w → s.good .mtr = true →
    (∀ c, ¬ RefFault s.clk.cfg peakUv freqUHz dev c) →
    ∃ t, exec (.referenceCycle w peakUv freqUHz dev) s₀ = .next t ∧
      t.fld F.PMK_STATUS_QCNT = min 255 (s.fld F.PMK_STATUS_QCNT + 1) ∧ t.flag F.PMK_STATUS_REFOK = true ∧
      t.fld F.PMK_STATUS_STATE = s.fld F.PMK_STATUS_STATE ∧ t.rd Reg.PMK_REFFREQ = n2w freqUHz ∧
      t.clk.goods = (freqUHz :: s.clk.goods).take 4 ∧ t.clk.f = s.clk.f ∧ t.clk.c = s.clk.c ∧
      RegsKept [Reg.PMK_STATUS, Reg.PMK_REFFREQ] s t ∧ Frame [.regs, .clk] s t) ∧
  (∀ (w : When) (peakUv freqUHz : Nat) (dev : Int) (cause : Nat) (s₀ s : State), s = s₀.advance w → s.good .mtr = true →
    RefFault s.clk.cfg peakUv freqUHz dev cause → (∀ c, c < cause → ¬ RefFault s.clk.cfg peakUv freqUHz dev c) →
    ∃ t, exec (.referenceCycle w peakUv freqUHz dev) s₀ = .next t ∧
      t.fld F.PMK_STATUS_QCNT = 0 ∧ t.flag F.PMK_STATUS_REFOK = false ∧ t.clk.goods = [] ∧
      (s.fld F.PMK_STATUS_STATE ≠ 1 → t.fld F.PMK_STATUS_STATE = s.fld F.PMK_STATUS_STATE ∧ t.evr = s.evr) ∧
      (s.fld F.PMK_STATUS_STATE = 1 →
        t.fld F.PMK_STATUS_STATE = 2 ∧ t.fld F.PMK_STATUS_LOSS = cause ∧ t.flag F.PMK_EVT_LOST = true ∧
        t.fld F.PMK_LOSSCNT_LOSSES = min 65535 (s.fld F.PMK_LOSSCNT_LOSSES + 1) ∧
        t.clk.f = s.flyMean ∧ t.clk.c = 0 ∧ t.fld F.PMK_STATUS_SLEW = 0 ∧
        (cause = 3 → t.flag F.PMK_EVT_JUMP = true) ∧ (∃ snap, EventsFrom s t [(0x1001, snap)])) ∧
      WordsKept (inBlocks [.pmk, .mtr, .tsk]) s t ∧ Frame [.regs, .clk, .evr, .prog] s t) ∧
  (∀ (w : When) (s₀ s : State), s = s₀.advance w → s.good .mtr = true → s.refOverdue = true →
    ∃ t, exec (.referenceCycleTimeout w) s₀ = .next t ∧
      t.fld F.PMK_STATUS_QCNT = 0 ∧ t.flag F.PMK_STATUS_REFOK = false ∧
      (s.fld F.PMK_STATUS_STATE = 1 → t.fld F.PMK_STATUS_STATE = 2 ∧ t.flag F.PMK_EVT_LOST = true ∧ t.clk.c = 0 ∧
        t.clk.f = s.flyMean ∧ 1 ≤ t.fld F.PMK_STATUS_LOSS ∧ t.fld F.PMK_STATUS_LOSS ≤ 3 ∧
        (t.fld F.PMK_STATUS_LOSS = 3 → t.flag F.PMK_EVT_JUMP = true)) ∧
      (s.fld F.PMK_STATUS_STATE ≠ 1 → t.fld F.PMK_STATUS_STATE = s.fld F.PMK_STATUS_STATE) ∧
      WordsKept (inBlocks [.pmk, .mtr, .tsk]) s t ∧ Frame [.regs, .clk, .evr, .prog, .free] s t)

/-- CLOCK_CYCLE_BOUNDARY: the cycle count goes on by one and the angle starts at 0; the law of R50 in LOCKED, the ramp and
the hold of R51 outside it, the entry into LOCKED of R47 and the taking effect of PMK_CFG of R49. -/
def Obligations.CycleBoundary : Prop :=
  ∀ (w : When) (s₀ s : State), s = s₀.advance w → s.good .mtr = true →
    ∃ t, exec (.clockCycleBoundary w) s₀ = .next t ∧
      t.clk.cycle = s.clk.cycle + 1 ∧ t.clk.angle = 0 ∧ t.clk.cfgNew = none ∧
      t.clk.cfg = (match s.clk.cfgNew with | some (v, _) => v | none => s.clk.cfg) ∧
      (s.clk.cfgNew = none →
        (s.fld F.PMK_STATUS_STATE = 1 →
          t.fld F.PMK_STATUS_STATE = 1 ∧
          t.clk.f = s.clk.f + limRat (-(s.clk.f / 1000))
            (meanRat (s.clk.goods.map fun n => (n : Rat)) s.clk.f - s.clk.f) (s.clk.f / 1000) ∧
          t.clk.c = limInt (-4096) (phaseErr s.clk.zc s.ns) 4096) ∧
        (s.fld F.PMK_STATUS_STATE ≠ 1 → s.clk.cfg.bit 0 = true →
          max 1 (s.clk.cfg.bits 15 8) ≤ s.fld F.PMK_STATUS_QCNT →
          t.fld F.PMK_STATUS_STATE = 1 ∧ t.fld F.PMK_STATUS_SLEW = 1 ∧ t.flag F.PMK_EVT_LOCK = true) ∧
        (s.fld F.PMK_STATUS_STATE = 0 →
          (s.clk.cfg.bit 0 = false ∨ s.fld F.PMK_STATUS_QCNT < max 1 (s.clk.cfg.bits 15 8)) →
          t.fld F.PMK_STATUS_STATE = 0 ∧ t.clk.c = 0 ∧
          t.clk.f = s.clk.f + limRat (-(s.clk.f / 1000)) (nominalF s.clk.cfg - s.clk.f) (s.clk.f / 1000)) ∧
        (s.fld F.PMK_STATUS_STATE = 2 →
          (s.clk.cfg.bit 0 = false ∨ s.fld F.PMK_STATUS_QCNT < max 1 (s.clk.cfg.bits 15 8)) →
          t.fld F.PMK_STATUS_STATE = 2 ∧ t.clk.c = 0 ∧ t.clk.f = s.clk.fly)) ∧
      (∀ v role, s.clk.cfgNew = some (v, role) → v.bit 0 = false → v ≠ s.clk.cfg → t.fld F.PMK_STATUS_STATE = 0) ∧
      WordsKept (inBlocks [.pmk, .mtr, .cle, .gov, .tsk, .pms]) s t ∧
      Frame [.regs, .evr, .clk, .man, .prog, .perf, .arb, .cle, .mtr, .gov] s t

/-- PMK_CFG_WRITE and PMK_COR_SEQ_READ: a write is stored and waits for the next cycle boundary; a read of PMK_COR_SEQ
freezes the five correlation registers at the newest record (R9, R49, R61). RTC_SECOND_BOUNDARY: outside HALT the calendar
goes on by one second, wrapping at its end with VALID cleared (R539), and while MTR runs one correlation record is made,
with the next SEQ, the postmark and the RTC second; after a set it has SET and DELTA 0, and the trunk's byte counts are
shown (R61, R62, R411). -/
def Obligations.ClockRegistersAndSeconds : Prop :=
  ((∀ (w : When) (who : Who) (v : Word) (s₀ s : State), s = s₀.advance w → s.refuse who Reg.PMK_CFG v = none →
    ∃ t, exec (.pmkCfgWrite w (some who) v) s₀ = .next t ∧ t.answered ansOK ∧
      t.rd Reg.PMK_CFG = v &&& 0x00FFFF75 ∧ t.clk = { s.clk with cfgNew := some (v &&& 0x00FFFF75, who.role.num) } ∧
      RegsKept [Reg.PMK_CFG] s t ∧ Frame [.regs, .clk, .ctr] s t) ∧
  (∀ (w : When) (v : Word) (s₀ s : State), s = s₀.advance w → s.good .mtr = true →
    ∃ t, exec (.pmkCfgWrite w none v) s₀ = .next t ∧
      t.rd Reg.PMK_CFG = v &&& 0x00FFFF75 ∧ t.clk = { s.clk with cfgNew := some (v &&& 0x00FFFF75, 0xFF) } ∧
      RegsKept [Reg.PMK_CFG] s t ∧ Frame [.regs, .clk] s t) ∧
  (∀ (w : When) (who : Who) (s₀ s : State), s = s₀.advance w → s.longBusy = false → who.role ≠ .tenant → s.good .mtr = true →
    ∃ t, exec (.pmkCorSeqRead w who) s₀ = .next t ∧
      t.answered ansOK [n2w (match s.clk.cor with | some c => c.seq | none => 0)] ∧
      t.clk = { s.clk with frozen := s.clk.cor } ∧
      (∀ c, s.clk.cor = some c → t.peek Reg.PMK_COR_SEC = n2w c.sec ∧ t.peek Reg.PMK_COR_DELTA = n2w c.delta) ∧
      Frame [.clk, .ctr] s t)) ∧
  (∀ (w : When) (s₀ s : State), s = s₀.advance w → s.flag F.RTC_CTRL_HALT = false → Unexpired s →
    ∃ t, exec (.rtcSecondBoundary w) s₀ = .next t ∧
      (validDate (s.fld F.RTC_YEAR_YEAR) (s.fld F.RTC_MONTH_MONTH) (s.fld F.RTC_DATE_DATE) = true →
        s.fld F.RTC_YEAR_YEAR ≤ 2135 → s.fld F.RTC_HOUR_HOUR ≤ 23 → s.fld F.RTC_MIN_MIN ≤ 59 → s.fld F.RTC_SEC_SEC ≤ 59 →
        (s.calSec ≠ rtcLast → t.calSec = s.calSec + 1) ∧
        (s.calSec = rtcLast → t.calSec = 0 ∧ t.flag F.RTC_STATUS_VALID = false)) ∧
      (s.good .mtr = true →
        ∃ c, t.clk.cor = some c ∧ c.pm = s.pmNow ∧ c.sec = t.calSec ∧ c.state = s.fld F.PMK_STATUS_STATE ∧
          c.seq = (match s.clk.cor with | some o => (o.seq + 1) % 2 ^ 32 | none => 0) ∧
          c.set = (if s.clk.setSince then 1 else 0) ∧ (s.clk.setSince = true → c.delta = 0) ∧
          t.clk.setSince = false) ∧
      (s.good .mtr = false → t.clk = s.clk) ∧
      (s.good .pmm = true →
        ∃ n, s.perf.wb ≤ n ∧ (s.good .mtr = false → s.good .fab = false → n = s.perf.wb) ∧ t.rd Reg.ARB_WLOAD = n2w (min 0xFFFFFFFF n)) ∧
      t.perf.wb = 0 ∧
      WordsKept (inBlocks [.rtc, .gov, .tsk, .arb, .pmc]) s t ∧
      Frame [.regs, .free, .evr, .clk, .pm, .prog, .rtc, .perf, .arb, .gov] s t)

/-! ### The real-time clock and the backup domain (chapter 20) -/

/-- RTC_HALT_SET, RTC_HALT_RELEASE, RTC_FIELD_WRITE and RTC_DISCIPLINE_WRITE: the two ways of setting the clock and their
effects (R542 to R545). RTC_CALENDAR_READ, RTC_YEAR_READ and RTC_FREEZE_EXPIRY: the first read of a calendar word copies
all eight into the reader's shadow, further reads come from it, RTC_YEAR ends it, and one second ends it with FRZLOST
(R540, R541). RTC_ALARM_WRITE, PWRON_ASSERT_CMD, PWRON_DEASSERT_CMD and WAKE_EDGE: alarm words and the PWRON output (R547
to R553). -/
def Obligations.Calendar : Prop :=
  ((∀ (w : When) (who : Who) (s₀ s : State), s = s₀.advance w → s.refuse who Reg.RTC_CTRL 1 = none →
    s.flag F.RTC_CTRL_HALT = false →
    ∃ t, exec (.rtcHaltSet w who) s₀ = .next t ∧ t.answered ansOK ∧ t.flag F.RTC_CTRL_HALT = true ∧
      t.flag F.RTC_STATUS_HALTED = true ∧ t.rtc.told = s.rtcSec ∧ t.rtc.sub = 0 ∧ t.rtcSec = s.rtcSec ∧
      RegsKept [Reg.RTC_CTRL, Reg.RTC_STATUS] s t ∧ Frame [.regs, .rtc, .ctr] s t) ∧
  (∀ (w : When) (who : Who) (s₀ s : State), s = s₀.advance w → s.refuse who Reg.RTC_CTRL 0 = none →
    s.flag F.RTC_CTRL_HALT = true → s.dateOk = true →
    ∃ t, exec (.rtcHaltRelease w who) s₀ = .next t ∧ t.answered ansOK ∧ t.flag F.RTC_CTRL_HALT = false ∧
      t.flag F.RTC_STATUS_HALTED = false ∧ t.flag F.RTC_STATUS_VALID = true ∧ t.rtc.sub = 0 ∧ t.rtc.stepped = some (s.rtc.stepped.getD s.rtc.told) ∧
      (s.good .mtr = true → t.flag F.PMK_EVT_RTCSET = true ∧ t.clk.setSince = true) ∧
      (s.good .mtr = false → t.rtc.setWhileOff = true) ∧
      EventsFrom s t [(0x1008, [1, n2w s.rtc.told, n2w s.calSec, n2w who.role.num, n2w who.session])] ∧
      WordsKept (inBlocks [.rtc, .pmk, .gov, .tsk]) s t ∧ Frame [.regs, .evr, .clk, .prog, .rtc, .ctr, .gov] s t) ∧
  (∀ (w : When) (who : Who) (s₀ s : State), s = s₀.advance w → s.refuse who Reg.RTC_CTRL 0 = none →
    s.flag F.RTC_CTRL_HALT = true → s.dateOk = false →
    ∃ t, exec (.rtcHaltRelease w who) s₀ = .next t ∧ t.answered ansBADSTATE ∧ Frame [.ctr] s t) ∧
  (∀ (w : When) (who : Who) (a : Nat) (v : Word) (s₀ s : State), s = s₀.advance w → a ∈ rtcFields →
    s.refuse who a v = none →
    ∃ t, exec (.rtcFieldWrite w who a v) s₀ = .next t ∧ t.answered ansOK ∧
      (s.flag F.RTC_CTRL_HALT = true → rtcRange a (rtcMask a v) = true →
        t.rd a = n2w (rtcMask a v) ∧ RegsKept [a] s t ∧ Frame [.regs, .ctr] s t) ∧
      ((s.flag F.RTC_CTRL_HALT = false ∨ rtcRange a (rtcMask a v) = false) →
        t.flag F.RTC_STATUS_WERR = true ∧ RegsKept [Reg.RTC_STATUS] s t ∧ Frame [.regs, .evr, .rtc, .ctr] s t)) ∧
  (∀ (w : When) (v : Nat) (s₀ s : State), s = s₀.advance w → s.good .bak = true → s.laneUp = true →
    s.flag F.RTC_CTRL_HALT = false → v ≤ 59 →
    ∃ t, exec (.rtcDisciplineWrite w v) s₀ = .next t ∧ t.fld F.RTC_SEC_SEC = v ∧ t.rtc.sub = 0 ∧
      t.rtc.stepped = some (s.rtc.stepped.getD s.rtcSec) ∧
      (s.good .mtr = true → t.flag F.PMK_EVT_RTCSET = true) ∧ t.fld F.RTC_MIN_MIN = s.fld F.RTC_MIN_MIN ∧
      WordsKept (inBlocks [.rtc, .pmk, .gov, .tsk]) s t ∧ Frame [.regs, .evr, .clk, .prog, .rtc, .gov] s t)) ∧
  ((∀ (w : When) (lane : Bool) (a : Nat) (s₀ s : State), s = s₀.advance w →
    Reg.RTC_SUBSEC ≤ a → a < Reg.RTC_YEAR → a % 4 = 0 →
    ∃ t, exec (.rtcCalendarRead w lane a) s₀ = .next t ∧
      t.shadow? lane = some ((s.shadow? lane).getD (s.liveCal lane)) ∧ t.shadow? (!lane) = s.shadow? (!lane) ∧
      (lane = false →
        t.answered ansOK [((s.shadow? false).getD (s.liveCal false)).getD ((a - Reg.RTC_SUBSEC) / 4) 0]) ∧
      Frame [.rtc, .ctr] s t) ∧
  (∀ (w : When) (lane : Bool) (s₀ s : State), s = s₀.advance w →
    ∃ t, exec (.rtcYearRead w lane) s₀ = .next t ∧ t.shadow? lane = none ∧ t.shadow? (!lane) = s.shadow? (!lane) ∧
      (lane = false → t.answered ansOK [((s.shadow? false).getD (s.liveCal false)).getD 7 0]) ∧ Frame [.rtc, .ctr] s t) ∧
  (∀ (w : When) (lane : Bool) (s₀ s : State), s = s₀.advance w → (s.shadow? lane).isSome = true →
    s.frozenNs lane + 1000000000 ≤ s.ns →
    ∃ t, exec (.rtcFreezeExpiry w lane) s₀ = .next t ∧ t.shadow? lane = none ∧
      (lane = false → t.flag F.RTC_STATUS_FRZLOST = true) ∧ (lane = true → t.regs = s.regs) ∧
      RegsKept [Reg.RTC_STATUS] s t ∧ Frame [.regs, .rtc] s t)) ∧
  ((∀ (w : When) (who : Who) (i : Nat) (v : Word) (s₀ s : State), s = s₀.advance w → i < 2 →
    s.refuse who (Reg.RTC_ALM_CTRL i) v = none → s.almBad i 0 v = false →
    ∃ t d, findReg (Reg.RTC_ALM_CTRL i) = some d ∧
      exec (.rtcAlarmWrite w who (Reg.RTC_ALM_CTRL i) v) s₀ = .next t ∧ t.answered ansOK ∧
      t.rd (Reg.RTC_ALM_CTRL i) = d.store who.role (s.rd (Reg.RTC_ALM_CTRL i)) v ∧
      RegsKept [Reg.RTC_ALM_CTRL i, Reg.RTC_ALM_LAST i] s t ∧ Frame [.regs, .ctr] s t) ∧
  (∀ (w : When) (who : Who) (i o : Nat) (v : Word) (s₀ s : State), s = s₀.advance w → i < 2 → (o = 4 ∨ o = 8) →
    s.refuse who (Reg.RTC_ALM_CTRL i + o) v = none → s.flag (F.RTC_ALM_CTRL_EN i) = false →
    ∃ t d, findReg (Reg.RTC_ALM_CTRL i + o) = some d ∧
      exec (.rtcAlarmWrite w who (Reg.RTC_ALM_CTRL i + o) v) s₀ = .next t ∧ t.answered ansOK ∧
      t.rd (Reg.RTC_ALM_CTRL i + o) = d.store who.role (s.rd (Reg.RTC_ALM_CTRL i + o)) v ∧
      RegsKept [Reg.RTC_ALM_CTRL i + o] s t ∧ Frame [.regs, .ctr] s t) ∧
  (∀ (w : When) (who : Who) (i o : Nat) (v : Word) (s₀ s : State), s = s₀.advance w → i < 2 → (o = 4 ∨ o = 8) →
    s.refuse who (Reg.RTC_ALM_CTRL i + o) v = none → s.flag (F.RTC_ALM_CTRL_EN i) = true →
    ∃ t, exec (.rtcAlarmWrite w who (Reg.RTC_ALM_CTRL i + o) v) s₀ = .next t ∧ t.answered ansBADSTATE ∧ Frame [.ctr] s t) ∧
  (∀ (w : When) (who : Who) (s₀ s : State), s = s₀.advance w → s.refuse who Reg.BAK_PWRON 1 = none →
    ∃ t, exec (.pwronAssertCmd w who) s₀ = .next t ∧ t.answered ansOK ∧ t.flag F.BAK_PWRON_STATE = true ∧
      (s.flag F.BAK_PWRON_STATE = false → t.fld F.BAK_PWRON_CAUSE = 4 ∧ Events s t [(0x100B, [1, 4])]) ∧
      (s.flag F.BAK_PWRON_STATE = true → t.regs = s.regs ∧ t.evr = s.evr) ∧
      RegsKept [Reg.BAK_PWRON] s t ∧ Frame [.regs, .evr, .ctr] s t) ∧
  (∀ (w : When) (who : Who) (s₀ s : State), s = s₀.advance w → s.refuse who Reg.BAK_PWRON 2 = none →
    ∃ t, exec (.pwronDeassertCmd w who) s₀ = .next t ∧ t.answered ansOK ∧ t.flag F.BAK_PWRON_STATE = false ∧
      (s.flag F.BAK_PWRON_STATE = true → t.fld F.BAK_PWRON_CAUSE = 4 ∧ Events s t [(0x100B, [0, 4])]) ∧
      RegsKept [Reg.BAK_PWRON] s t ∧ Frame [.regs, .evr, .ctr] s t) ∧
  (∀ (w : When) (s₀ s : State), s = s₀.advance w →
    ∃ t, exec (.wakeEdge w) s₀ = .next t ∧ t.flag F.BAK_PWRON_STATE = true ∧
      (s.flag F.BAK_PWRON_STATE = false → t.fld F.BAK_PWRON_CAUSE = 3 ∧ Events s t [(0x100B, [1, 3])]) ∧
      RegsKept [Reg.BAK_PWRON] s t ∧ Frame [.regs, .evr] s t))

/-! ### The manifest (chapters 3 and 6) -/

/-- MAN_VERIFY, MAN_ARM and MAN_ARMFB: an accepted command starts long operation 1 with the next OPID, shows BUSY and STEP
1, and validates the slot (ARMFB: the FALLBACK slot) by the steps of R76; no slot changes its state yet (R75, R76, R80,
R484). An EMPTY, ARMED or FALLBACK slot is BADSTATE to VERIFY and ARM. MAN_CLEAR: a slot that is neither ARMED nor
FALLBACK becomes EMPTY, the other two are BADSTATE (R73). -/
def Obligations.ManifestCommands : Prop :=
  (∀ (w : When) (who : Who) (n : Nat) (s₀ s : State), s = s₀.advance w → n < 4 → ManReady s who (manCmd 1 n) →
    s.slotState n ∈ [1, 2, 5] →
    ∃ t, exec (.manVerify w who n) s₀ = .next t ∧ t.answered ansOK ∧ LongStarted 1 who s t ∧
      (t.ctr.long.map (·.work)) = some (.manVerify n (resultWord n (s.changeClass n) (s.validate n .verify who.role))
        (s.changeClass n) (s.manSigner n)) ∧
      t.fld F.MOD_MAN_STATUS_STEP = 1 ∧ RegsKept [Reg.MOD_MAN_STATUS, Reg.CTR_STATUS] s t ∧ Frame [.regs, .ctr, .perf, .arb] s t) ∧
  (∀ (w : When) (who : Who) (n : Nat) (s₀ s : State), s = s₀.advance w → n < 4 → ManReady s who (manCmd 2 n) →
    s.slotState n ∈ [1, 2, 5] →
    ∃ t, exec (.manArm w who n) s₀ = .next t ∧ t.answered ansOK ∧ LongStarted 1 who s t ∧
      (s.validate n .arm who.role = none → (t.ctr.long.map (·.work)) = some (.manArm n)) ∧
      (∀ f, s.validate n .arm who.role = some f → (t.ctr.long.map (·.work)) =
        some (.manVerify n (resultWord n (s.changeClass n) (some f)) (s.changeClass n) (s.manSigner n))) ∧
      t.fld F.MOD_MAN_STATUS_STEP = 1 ∧ RegsKept [Reg.MOD_MAN_STATUS, Reg.CTR_STATUS] s t ∧ Frame [.regs, .ctr, .perf, .arb] s t) ∧
  (∀ (w : When) (who : Who) (n : Nat) (s₀ s : State), s = s₀.advance w → n < 4 → s.slotState n ∈ [0, 3, 4] →
    (ManReady s who (manCmd 1 n) → ∃ t, exec (.manVerify w who n) s₀ = .next t ∧ t.answered ansBADSTATE ∧ Frame [.ctr] s t) ∧
    (ManReady s who (manCmd 2 n) → ∃ t, exec (.manArm w who n) s₀ = .next t ∧ t.answered ansBADSTATE ∧ Frame [.ctr] s t)) ∧
  (∀ (w : When) (who : Who) (n : Nat) (s₀ s : State), s = s₀.advance w → n < 4 → ManReady s who (manCmd 3 0) →
    who.role = .maker → s.slotState n = 4 → (∀ m, m < n → s.slotState m ≠ 4) →
    ∃ t, exec (.manArmfb w who) s₀ = .next t ∧ t.answered ansOK ∧ LongStarted 1 who s t ∧
      (s.validate n .armfb .maker = none → (t.ctr.long.map (·.work)) = some (.manArm n)) ∧
      t.fld F.MOD_MAN_STATUS_STEP = 1 ∧ RegsKept [Reg.MOD_MAN_STATUS, Reg.CTR_STATUS] s t ∧ Frame [.regs, .ctr, .perf, .arb] s t) ∧
  (∀ (w : When) (who : Who) (n : Nat) (s₀ s : State), s = s₀.advance w → n < 4 → ManReady s who (manCmd 4 n) →
    ∃ t, exec (.manClear w who n) s₀ = .next t ∧
      (s.slotState n ≠ 3 → s.slotState n ≠ 4 → t.answered ansOK ∧ t.slotState n = 0 ∧
        (∀ m, m < 4 → m ≠ n → t.slotState m = s.slotState m) ∧
        RegsKept [Reg.MOD_MAN_SLOT n, Reg.MOD_MAN_STATUS, Reg.PMC_JFILL] s t ∧ Frame [.regs, .pm, .ctr, .perf, .arb] s t) ∧
      ((s.slotState n = 3 ∨ s.slotState n = 4) → t.answered ansBADSTATE ∧ Frame [.ctr] s t))

/-- A Counter write into a manifest slot (MAN_SLOT_WRITE, R74): an EMPTY, LOADED, VERIFIED or REJECTED slot becomes LOADED
and holds the written words, every other byte of the array stays; a write into an ARMED or FALLBACK slot is PROTECTED and
changes nothing. -/
def Obligations.ManifestSlotWrite : Prop :=
  (∀ (w : When) (who : Who) (n o : Nat) (data : List Word) (s₀ s : State), s = s₀.advance w → n < 4 → o % 4 = 0 →
    data ≠ [] → o + 4 * data.length ≤ 0x8000000 → s.longBusy = false → who.im = true → s.on .pmm = true →
    s.pwr.recovery = false → s.slotState n ≠ 3 → s.slotState n ≠ 4 →
    ∃ t, exec (.manSlotWrite w who n o data) s₀ = .next t ∧ t.answered ansOK ∧ t.slotState n = 1 ∧
      (∀ i, i < 4 * data.length →
        Mem.byte t.pm.home (slotBase n + o + i) = (data.flatMap fun v => leBytes 4 v.toNat).getD i 0) ∧
      (∀ a, (a < slotBase n + o ∨ slotBase n + o + 4 * data.length ≤ a) → Mem.byte t.pm.home a = Mem.byte s.pm.home a) ∧
      RegsKept [Reg.MOD_MAN_SLOT n, Reg.MOD_MAN_STATUS, Reg.PMC_JFILL] s t ∧ Frame [.regs, .pm, .ctr, .perf, .arb] s t) ∧
  (∀ (w : When) (who : Who) (n o : Nat) (data : List Word) (s₀ s : State), s = s₀.advance w → n < 4 → o % 4 = 0 →
    data ≠ [] → o + 4 * data.length ≤ 0x8000000 → s.longBusy = false → who.im = true → s.on .pmm = true →
    s.pwr.recovery = false → (s.slotState n = 3 ∨ s.slotState n = 4) →
    ∃ t, exec (.manSlotWrite w who n o data) s₀ = .next t ∧ t.answered ansPROTECTED ∧ t.pm = s.pm ∧ t.regs = s.regs ∧
      t.man = s.man ∧ Frame [.evr, .free, .ctr] s t) ∧
  (∀ (s : State) (n i : Nat), n < 4 → i < 0x8000000 →
    ((s.slotState n = 3 ∨ s.slotState n = 4) → s.protects (slotBase n + i) = protRange (s.fld F.PMC_STATUS_LEVEL) (slotBase n + i)) ∧
    (s.slotState n ≠ 3 → s.slotState n ≠ 4 → s.protects (slotBase n + i) = false))

/-- CLASS_S_SWITCH, CLASS_W_SWITCH and PROGRAM_SWITCH_BOUNDARY: the switch points of an arm. At the start of the input
phase that the change waits for, a class-S or class-W arm puts the structure of the new slot in force, and a first arm
ends with it; a class-W switch waits while an enabled axis' record changes; at the cycle boundary a program that does not
differ, or one that changes without a lane, ends the arm: the slot is ARMED, the old ARMED one FALLBACK, MOD_MAN_REV and
16#0101 say so, and the long operation ends (R75, R82 to R84, R87, R90). Which port's phase counts among several, and the
switch without a lane, are the model's choice (log 66). -/
def Obligations.SwitchPoints : Prop :=
  (∀ (w : When) (a : Arm) (s₀ s : State), s = s₀.advance w → s.man.arm = some a → a.cls = 2 → a.structDone = false →
    s.good .fab = true → s.switchWaits = false → s.phaseStarts (s.switchClass a) = true →
    (s.fld F.TSK_OC_STATUS_PHASE ≠ 2 ∨ s.mode = 1) →
    ∃ t, exec (.classSSwitch w) s₀ = .next t ∧ t.man.arm = some { a with structDone := true } ∧
      (∀ k ∈ [2, 3, 4, 5, 8, 9, 10, 20, 21], t.recs k = s.slotRecs a.slot k) ∧ t.man.plane = s.man.plane ∧
      t.slotState a.slot = s.slotState a.slot ∧ WordsKept (inBlocks [.pmk, .fpt, .eth, .saf, .tsk]) s t ∧
      Frame [.regs, .evr, .clk, .man, .fab, .prog, .ctr, .net, .mtr, .saf, .keys] s t) ∧
  (∀ (w : When) (a : Arm) (k : Nat) (ks : List Nat) (s₀ s : State), s = s₀.advance w → s.man.arm = some a →
    ((a.cls = 3 ∧ s.phaseStarts 2 = true) ∨ (a.cls = 0 ∧ s.firstPhase a = true)) → a.structDone = false →
    s.good .fab = true → s.switchWaits = false → s.good .cle = true → s.busyAxes a.slot = k :: ks → a.postponed < 30 →
    ∃ t, exec (.classWSwitch w) s₀ = .next t ∧ t.man.arm = some { a with postponed := a.postponed + 1 } ∧
      Events s t [(0x0104, [n2w (a.postponed + 1), n2w k])] ∧ t.man.cfg = s.man.cfg ∧ Frame [.evr, .man] s t) ∧
  (∀ (w : When) (a : Arm) (s₀ s : State), s = s₀.advance w → s.man.arm = some a → a.cls = 3 → s.phaseStarts 2 = true →
    a.structDone = false → s.good .fab = true → s.switchWaits = false →
    (s.good .cle = true ∨ (s.secOf a.slot 14).isNone = true ∨ s.domSt 5 = .failed) → s.busyAxes a.slot = [] →
    (s.fld F.TSK_OC_STATUS_PHASE ≠ 2 ∨ s.mode = 1) →
    ∃ t, exec (.classWSwitch w) s₀ = .next t ∧ t.man.arm = some { a with structDone := true } ∧
      (∀ k ∈ [1, 2, 3, 4, 5, 8, 9, 10, 14, 20, 21], t.recs k = s.slotRecs a.slot k) ∧
      t.man.plane = 1 - s.man.plane ∧ t.man.idleLoaded = false ∧
      WordsKept (inBlocks [.mod, .pwr, .pmk, .fpt, .eth, .saf, .cle, .key, .prf, .tsk]) s t ∧
      Frame [.regs, .free, .evr, .clk, .man, .fab, .prog, .pwr, .ctr, .perf, .arb, .cle, .net, .mtr, .saf, .keys] s t) ∧
  (∀ (w : When) (a : Arm) (s₀ s : State), s = s₀.advance w → s.man.arm = some a → a.cls = 0 → s.firstPhase a = true →
    a.structDone = false → a.slot < 4 → s.good .fab = true → s.switchWaits = false →
    (s.good .cle = true ∨ (s.secOf a.slot 14).isNone = true ∨ s.domSt 5 = .failed) → s.busyAxes a.slot = [] → Settled s →
    ∃ t, exec (.classWSwitch w) s₀ = .next t ∧ t.man.arm = none ∧ t.slotState a.slot = 3 ∧
      t.rd Reg.MOD_MAN_REV = n2w (s.manRev a.slot) ∧ t.ctr.long = none ∧ t.fld F.MOD_MAN_STATUS_STEP = 0 ∧
      (∀ k ∈ [1, 2, 3, 4, 5, 8, 9, 10, 14, 15, 16, 19, 20, 21, 22], t.recs k = s.slotRecs a.slot k) ∧
      t.program = s.slotProgram a.slot ∧ t.man.late = some (s.slotRecs a.slot 18) ∧
      WordsKept (inBlocks [.mod, .ctr, .pwr, .pmk, .pmc, .pms, .fpt, .eth, .saf, .cle, .key, .prf, .tsk]) s t ∧
      Frame [.regs, .free, .evr, .clk, .pm, .man, .fab, .prog, .pwr, .ctr, .perf, .arb, .cle, .net, .mtr, .saf, .keys] s t) ∧
  (∀ (w : When) (a : Arm) (old : Nat) (s₀ s : State), s = s₀.advance w → s.good .mtr = true → s.clk.angle = 0 →
    s.man.arm = some a → a.structDone = true → (a.progDiffers = false ∨ s.lane = 0) → a.slot < 4 → s.switchWaits = false →
    s.armedSlot = some old → old ≠ a.slot → (∀ m, m < 4 → s.slotState m = 3 → m = old) →
    s.fld F.TSK_OC_STATUS_PHASE ≠ 3 → (a.progDiffers = true → Settled s) →
    ∃ t, exec (.programSwitchBoundary w) s₀ = .next t ∧ t.man.arm = none ∧
      t.slotState a.slot = 3 ∧ t.slotState old = 4 ∧ t.fld F.MOD_MAN_STATUS_ARMED = a.slot ∧
      (a.fb = false → t.fld F.MOD_MAN_STATUS_FB = old) ∧ t.rd Reg.MOD_MAN_REV = n2w (s.manRev a.slot) ∧ t.ctr.long = none ∧
      t.fld F.MOD_MAN_STATUS_STEP = 0 ∧ t.man.late = some (s.slotRecs a.slot 18) ∧ t.recs 19 = s.slotRecs a.slot 19 ∧
      (a.progDiffers = false → t.prog = s.prog) ∧ (a.progDiffers = true → t.program = s.slotProgram a.slot) ∧
      WordsKept (inBlocks [.mod, .ctr, .pmc, .pms, .cle, .prf, .tsk]) s t ∧
      Frame [.regs, .free, .evr, .pm, .man, .prog, .ctr, .perf, .arb, .cle] s t)

/-- OC_PREPARATION_DONE, BASE_SWITCH and POWERUP_MANIFEST_CHECK: the new program lies in the idle area after preparation
(R190), and in STOP every task switches at once (R194); at the base switch every task that is not in a cycle switches, the
others are pending (R191, R192), and with none pending the change ends (R193); the check at power-up takes the ARMED slot
when it passes, else the FALLBACK slot, else none (R91). -/
def Obligations.ProgramSwitch : Prop :=
  (∀ (w : When) (a : Arm) (s₀ s : State), s = s₀.advance w → s.laneUp = true → s.pwr.pfail = false →
    s.man.arm = some a → s.fld F.TSK_OC_STATUS_PHASE = 1 → (s.mode = 1 ∨ a.structDone = false) →
    ∃ t, exec (.ocPreparationDone w) s₀ = .next t ∧ t.fld F.TSK_OC_STATUS_PHASE = 2 ∧
      t.prog.area (1 - s.areaN) = s.slotProgram a.slot ∧ t.prog.area s.areaN = s.prog.area s.areaN ∧
      RegsKept [Reg.TSK_OC_STATUS] s t ∧ Frame [.regs, .prog] s t) ∧
  (∀ (w : When) (a : Arm) (s₀ s : State), s = s₀.advance w → s.laneUp = true → s.pwr.pfail = false →
    s.man.arm = some a → s.fld F.TSK_OC_STATUS_PHASE = 1 → s.mode = 0 → a.structDone = true → s.switchWaits = false →
    a.slot < 4 → (∀ u, (s.task u).inCycle = false) →
    ∃ t, exec (.ocPreparationDone w) s₀ = .next t ∧ t.fld F.TSK_OC_STATUS_PHASE = 0 ∧ t.man.arm = none ∧
      t.program = s.slotProgram a.slot ∧ t.slotState a.slot = 3 ∧ t.mode = 0 ∧ t.ocPending = [] ∧
      WordsKept (inBlocks [.mod, .ctr, .pmc, .pms, .cle, .prf, .tsk]) s t ∧
      Frame [.regs, .free, .evr, .pm, .man, .prog, .ctr, .perf, .arb, .cle] s t) ∧
  (∀ (w : When) (a : Arm) (stay : List Nat) (s₀ s : State), s = s₀.advance w → s.laneUp = true →
    s.man.arm = some a → s.fld F.TSK_OC_STATUS_PHASE = 2 → a.structDone = true → s.switchWaits = false → s.mode = 1 →
    s.baseDue = true → (s.prog.area (1 - s.areaN)).none? = false → a.slot < 4 →
    s.taskNums.filter (fun t => (s.task t).inCycle) = stay → stay.Nodup → (∀ v ∈ stay, v < 64) →
    ∃ t, exec (.baseSwitch w) s₀ = .next t ∧ t.areaN = (1 - s.areaN) % 2 ∧ t.slotState a.slot = 3 ∧
      (∀ v, v ∈ t.ocPending ↔ v ∈ stay) ∧ (∀ v ∈ stay, (t.task v).area = (s.task v).area) ∧
      (stay ≠ [] → t.fld F.TSK_OC_STATUS_PHASE = 3 ∧ t.man.arm = some a) ∧
      (stay = [] → t.fld F.TSK_OC_STATUS_PHASE = 0 ∧ t.man.arm = none) ∧
      WordsKept (inBlocks [.mod, .ctr, .pmc, .pms, .cle, .prf, .tsk]) s t ∧
      Frame [.regs, .free, .evr, .pm, .man, .prog, .ctr, .perf, .arb, .cle] s t) ∧
  (∀ (w : When) (n : Nat) (s₀ s : State), s = s₀.advance w → s.pmWorks = true → s.good .ref = true →
    s.pwr.manDone = false → s.pwr.recovery = false → s.pwr.pfail = false → s.armedSlot = some n →
    let u := ({ s with pwr := { s.pwr with manDone := true } } : State).showSlots
    ∃ t, exec (.powerupManifestCheck w) s₀ = .next t ∧ t.pwr.manDone = true ∧
      (u.validate n .power .maker = none → t.rd Reg.MOD_MAN_REV = n2w (s.manRev n) ∧ t.slotState n = u.slotState n ∧
        ∀ k ∈ [1, 2, 3, 4, 5, 7, 8, 9, 10, 14, 15, 16, 18, 19, 20, 21, 22], t.recs k = s.slotRecs n k) ∧
      (u.validate n .power .maker ≠ none → (∀ m, m < 4 → u.slotState m ≠ 4) →
        t.slotState n = 5 ∧ t.man.cfg = s.man.cfg ∧ t.rd Reg.MOD_MAN_REV = 0) ∧
      (∀ f k, u.validate n .power .maker = some f → k < 4 → u.slotState k = 4 → (∀ m, m < k → u.slotState m ≠ 4) →
        (u.manRejected n (resultWord n 0 (some f))).validate k .power .maker = none →
        t.slotState n = 5 ∧ t.slotState k = 3 ∧ t.flag F.MOD_MAN_STATUS_FBUSED = true ∧
        t.rd Reg.MOD_MAN_REV = n2w (s.manRev k)) ∧
      WordsKept (inBlocks [.mod, .pmk, .pms, .pmc, .mtr, .saf, .tsk]) s t ∧
      Frame [.regs, .evr, .clk, .pm, .man, .prog, .pwr, .perf, .arb, .mtr, .saf] s t) ∧
  (∀ (w : When) (s₀ s : State), s = s₀.advance w → s.pmWorks = true → s.good .ref = true →
    s.pwr.manDone = false → s.pwr.recovery = false → s.pwr.pfail = false → s.armedSlot = none →
    ∃ t, exec (.powerupManifestCheck w) s₀ = .next t ∧ t.pwr.manDone = true ∧ t.flag F.MOD_MAN_STATUS_ARMVALID = false ∧
      t.rd Reg.MOD_MAN_REV = 0 ∧ t.man = s.man ∧ WordsKept (inBlocks [.mod, .saf, .tsk]) s t ∧
      Frame [.regs, .evr, .pwr, .prog, .saf] s t)

/-- LONG_OPERATION_END (R484, R494): a finished validation makes its slot VERIFIED or REJECTED, shows RESULT and ends the
operation: BUSY 0 and CTR_LONGOP with its kind, number and result; one that passed under ARM goes on as an arm, with STEP
15 and the operation still running (R76, R77, R80). -/
def Obligations.LongOperationEnds : Prop :=
  (∀ (w : When) (o : LongOp) (n cls signer : Nat) (r : Word) (s₀ s : State), s = s₀.advance w → s.good .ref = true →
    s.pwr.pfail = false → s.pms.restart = none → s.ctr.long = some o → o.work = .manVerify n r cls signer → o.kind = 1 → n < 4 →
    s.slotState n ≠ 4 →
    ∃ t, exec (.longOperationEnd w) s₀ = .next t ∧ t.ctr.long = none ∧ t.flag F.CTR_STATUS_BUSY = false ∧
      t.fld F.MOD_MAN_STATUS_STEP = 0 ∧ t.rd Reg.MOD_MAN_RESULT = r ∧
      (r.bits 11 8 = 0 → t.slotState n = 2 ∧ t.fld (F.MOD_MAN_SLOT_CLASS n) = cls % 4 ∧
        t.fld (F.MOD_MAN_SLOT_SIGNER n) = signer % 4) ∧
      (r.bits 11 8 ≠ 0 → t.slotState n = 5) ∧
      (t.rd Reg.CTR_LONGOP).bits 31 24 = o.id % 256 ∧
      RegsKept [Reg.MOD_MAN_STATUS, Reg.MOD_MAN_SLOT n, Reg.MOD_MAN_RESULT, Reg.CTR_STATUS, Reg.CTR_LONGOP, Reg.PMC_JFILL] s t ∧
      Frame [.regs, .evr, .pm, .ctr, .perf, .arb] s t) ∧
  (∀ (w : When) (o : LongOp) (n : Nat) (s₀ s : State), s = s₀.advance w → s.good .ref = true →
    s.pwr.pfail = false → s.pms.restart = none → s.ctr.long = some o → o.work = .manArm n → s.man.arm = none → n < 4 →
    ∃ t, exec (.longOperationEnd w) s₀ = .next t ∧ t.ctr.long = some o ∧ t.fld F.MOD_MAN_STATUS_STEP = 15 ∧
      (∃ a, t.man.arm = some a ∧ a.slot = n ∧ a.cls = s.changeClass n ∧ (a.fb = true ↔ s.slotState n = 4)) ∧
      RegsKept [Reg.MOD_MAN_STATUS, Reg.MOD_MAN_SLOT n, Reg.MOD_MAN_RESULT, Reg.TSK_OC_STATUS, Reg.PMC_JFILL] s t ∧
      Frame [.regs, .evr, .pm, .man, .prog, .perf, .arb] s t)

/-! ### Points, stations and rounds (chapter 4) -/

/-- ROUND_START, INPUT_PHASE_CLOSE, OUTPUT_PHASE_OPEN and ROUND_END: the phases of a round (R106). The input phase sends a
poll to every ONLINE station of its class and applies the offline treatment to the others' inputs (R131); its close counts
a miss of each station that did not deliver (R112), counts the round and publishes the image; the output phase marks
outputs of stations that are not ONLINE and builds nothing while the frank register holds 0 (R324); the end brings DIS
into effect (R117) and, in class S, submits the changed records to the mirror (R137). Each happens at its moment of R53,
R54 and R106. That the treatment is made at the opening, and what row O5 reaches, is the model's reading (logs 61, 70,
71). In its quiesced rounds a port's stations keep COMMLOST (R83); a lane-served station is not lost while no lane is
active (R109). -/
def Obligations.RoundPhases : Prop :=
  (∀ (w : When) (cls : Scan) (s₀ s : State), s = s₀.advance w → cls ≠ .e → s.good .fab = true → s.armed = true →
    s.drives = true → (s.round (scanNum cls)).phase = .idle → s.roundDue (scanNum cls) = true →
    ∃ t, exec (.roundStart w cls) s₀ = .next t ∧ (t.round (scanNum cls)).phase = .input ∧
      (t.round (scanNum cls)).start = s.pmNow ∧ (∀ k, k ≠ scanNum cls → t.round k = s.round k) ∧
      (s.man.quiesced = [] → s.man.pts = [] → s.net.ports ≠ [] → (s.stations.map Prod.fst).Nodup →
        ∀ nr ∈ s.stations, stAelzon nr.2 = true → s.staState nr.1 = 2 → (s.sta nr.1).readmit = false →
          stPclass nr.2 = scanNum cls →
          ∃ p ∈ (t.sta nr.1).polls, p.cls = scanNum cls ∧ p.ident = false ∧ p.delivered = false ∧ p.ns = s.ns) ∧
      ((s.stations.map Prod.fst).Nodup → s.net.ports ≠ [] → ∀ nr ∈ s.stations, ∀ p ∈ (s.sta nr.1).polls,
        p.ident = true → p.delivered = false → s.ns ≤ p.ns + stAnstoNs nr.2 → p ∈ (t.sta nr.1).polls) ∧
      (s.man.pts = [] → s.net.ports ≠ [] → (s.allPoints.map Prod.fst).Nodup →
        ∀ pr ∈ s.allPoints, ∀ sr, ptInternal pr.2 = false → ptOut pr.2 = false → treatClass (ptClass pr.2) = scanNum cls →
          s.staRec (ptStation pr.2) = some sr → s.staState (ptStation pr.2) ≠ 2 →
          qGet (t.point pr.1).qual qGOOD = false ∧ qGet (t.point pr.1).qual qSTALE = true ∧
          (t.quiescing (stPort sr) = false → qGet (t.point pr.1).qual qCOMMLOST = true) ∧
          (t.quiescing (stPort sr) = true → (t.point pr.1).value = (s.point pr.1).value ∧
            qGet (t.point pr.1).qual qCOMMLOST = qGet (s.point pr.1).qual qCOMMLOST)) ∧
      WordsKept (inBlocks [.fpt, .tsk, .prf, .eth]) s t ∧
      Frame [.regs, .free, .evr, .man, .fab, .prog, .perf, .arb, .net, .keys] s t) ∧
  (∀ (w : When) (cls : Scan) (s₀ s : State), s = s₀.advance w → cls ≠ .e → s.good .fab = true →
    (s.round (scanNum cls)).phase = .input → (s.stations.map Prod.fst).Nodup → (∀ nr ∈ s.stations, nr.1 < 2048) →
    ((s.round (scanNum cls)).period / 4 ≤ s.roundAge (scanNum cls) ∨ s.allDelivered (scanNum cls) = true) →
    ∃ t, exec (.inputPhaseClose w cls) s₀ = .next t ∧ (t.round (scanNum cls)).phase = .closed ∧
      t.rd (Reg.FPT_RNDCNT (scanNum cls)) = s.rd (Reg.FPT_RNDCNT (scanNum cls)) + 1 ∧
      (∀ r ∈ s.recs 7, ptInternal r = false → ptClass r = scanNum cls →
        (t.fab.image.getD (scanNum cls) []).get? (Rec.u32 r 0) = some (t.ptWord (Rec.u32 r 0) 0, t.ptWord (Rec.u32 r 0) 1)) ∧
      (∀ nr ∈ s.stations, stPclass nr.2 = scanNum cls → s.staState nr.1 = 2 → s.quiescing (stPort nr.2) = false →
        (∃ p ∈ (s.sta nr.1).polls, p.cls = scanNum cls) →
        (∀ p ∈ (s.sta nr.1).polls, p.cls = scanNum cls → p.delivered = false) → (stAelzon nr.2 = true ∨ s.laneUp = true) →
        t.fld (F.FPT_STA_MISS nr.1) = min 16 (s.fld (F.FPT_STA_MISS nr.1) + 1) ∧
        t.staState nr.1 = (if stMissmax nr.2 ≤ t.fld (F.FPT_STA_MISS nr.1) then 3 else 2)) ∧
      ((s.allPoints.map Prod.fst).Nodup → ∀ pr ∈ s.allPoints, ptInternal pr.2 = false → ptOut pr.2 = false →
        treatClass (ptClass pr.2) = scanNum cls → ptStation pr.2 ∈ s.stations.map Prod.fst →
        s.staState (ptStation pr.2) = 2 → pr.1 ∉ (s.round (scanNum cls)).recv →
        (t.point pr.1).value = (s.point pr.1).value ∧ qGet (t.point pr.1).qual qGOOD = false ∧
        qGet (t.point pr.1).qual qSTALE = true ∧ qGet (t.point pr.1).qual qCOMMLOST = false) ∧
      WordsKept (inBlocks [.fpt, .tsk, .prf]) s t ∧ Frame [.regs, .evr, .fab, .prog, .perf] s t) ∧
  (∀ (w : When) (cls : Scan) (s₀ s : State), s = s₀.advance w → cls ≠ .e → s.good .fab = true →
    (s.round (scanNum cls)).phase = .closed → (s.round (scanNum cls)).period / 2 ≤ s.roundAge (scanNum cls) →
    ∃ t, exec (.outputPhaseOpen w cls) s₀ = .next t ∧ (t.round (scanNum cls)).phase = .output ∧
      (t.round (scanNum cls)).outStart = s.pmNow ∧
      (s.pms.frMux = 0 → t.fab.points = s.fab.points ∧ t.net.cans = s.net.cans ∧ t.regs = s.regs) ∧
      (s.pms.frMux ≠ 0 → s.pwr.pfail = false → (s.allPoints.map Prod.fst).Nodup →
        ∀ pr ∈ s.allPoints, ∀ sr, ptOut pr.2 = true → s.staRec (ptStation pr.2) = some sr →
          (serves (scanNum cls) (ptClass pr.2) = true ∨ (ptClass pr.2 = 3 ∧ stPclass sr = scanNum cls)) →
          s.staState (ptStation pr.2) ≠ 2 →
          (t.point pr.1).value = (s.point pr.1).value ∧ qGet (t.point pr.1).qual qGOOD = false ∧
          qGet (t.point pr.1).qual qSTALE = true ∧ qGet (t.point pr.1).qual qCOMMLOST =
            (if s.quiescing (stPort sr) then qGet (s.point pr.1).qual qCOMMLOST else true)) ∧
      WordsKept (inBlocks [.fpt, .tsk, .prf, .eth]) s t ∧ Frame [.regs, .free, .evr, .fab, .prog, .pwr, .perf, .arb, .net] s t) ∧
  (∀ (w : When) (cls : Scan) (s₀ s : State), s = s₀.advance w → cls ≠ .e → s.good .fab = true →
    (s.round (scanNum cls)).phase = .output → (s.round (scanNum cls)).period ≤ s.roundAge (scanNum cls) →
    (s.stations.map Prod.fst).Nodup → (∀ nr ∈ s.stations, nr.1 < 2048) →
    ∃ t, exec (.roundEnd w cls) s₀ = .next t ∧ (t.round (scanNum cls)).phase = .idle ∧
      (t.round (scanNum cls)).recv = [] ∧
      (∀ nr ∈ s.stations, stPclass nr.2 = scanNum cls → s.flag (F.FPT_STA_DIS nr.1) = true → t.staState nr.1 = 4) ∧
      (∀ nr ∈ s.stations, stPclass nr.2 = scanNum cls → s.flag (F.FPT_STA_DIS nr.1) = false → s.staState nr.1 = 4 →
        t.staState nr.1 = 3) ∧
      (∀ nr ∈ s.stations, s.flag (F.FPT_STA_DIS nr.1) = false → s.staState nr.1 ≠ 4 → stAelzon nr.2 = false →
        s.laneUp = false → t.staState nr.1 = s.staState nr.1) ∧
      (cls = .s → s.good .pmm = true → ∀ pr ∈ s.allPoints, t.pm.mirror.get? pr.1 = some (t.ptRecord pr.1) ∨
        ∃ g, (pr.1, t.ptRecord pr.1) ∈ g ∧ InRegistry (.mirror g) t) ∧
      (cls ≠ .s → t.pm = s.pm) ∧
      WordsKept (inBlocks [.fpt, .tsk, .prf, .pmc, .eth]) s t ∧ Frame [.regs, .evr, .pm, .fab, .prog, .perf, .arb, .net] s t)

/-- AELZON_INPUT_RECEIVED, AELZON_CHG_RECEIVED and LANE_PROTOCOL_RESPONSE: a value of a station whose inputs are accepted
(it is ONLINE, not to be admitted again, its port not in its quiesced rounds) that answers a poll of an open input phase
enters its point GOOD, without clamping, unless the point is FORCED; any other is discarded; a class-E report waits for an
input phase. Of a lane-served station an exception to a read counts as a delivery and changes no value, one to a write
leaves the outputs of its request STALE; written points are GOOD, and the first values of a station that is not ONLINE
stand for its identity (R83, R107, R108, R113, R114, R116, R123, R129, R135, R439). AELZON_IDA_RECEIVED,
AELZON_ACK_RECEIVED, OUTPUT_ACK_TIMEOUT and AELZON_FOLLOW_SEND: the admission of a station and the delivery of its outputs
(R111, R116, R124 to R127). A station on a port in its quiesced rounds does not go OFFLINE and its outputs keep COMMLOST
(R83). -/
def Obligations.StationTraffic : Prop :=
  ((∀ (w : When) (n : Nat) (g : Segment) (r : Rec) (p : Poll) (es : List ChanEntry) (e : ChanEntry) (pt : Nat) (pr : Rec)
    (s₀ s : State), s = s₀.advance w → n < 2048 → s.staReach n = some r → segOk g 0x11 = true → s.inputsFrom n = true →
    (s.sta n).polls.find? (fun p => p.tag == g.tag && !p.ident) = some p → (s.round p.cls).phase = .input →
    g.entries = es ++ [e] → s.inputAt n e.ch = some (pt, pr) → serves p.cls (ptClass pr) = true → e.bad = false →
    ∃ t, exec (.aelzonInputReceived w n g) s₀ = .next t ∧ t.fld (F.FPT_STA_MISS n) = 0 ∧
      (qGet (s.point pt).qual qFORCED = false → (t.point pt).value = e.value) ∧
      qGet (t.point pt).qual qGOOD = true ∧ qGet (t.point pt).qual qSTALE = false ∧ qGet (t.point pt).qual qINIT = false ∧
      qGet (t.point pt).qual qCOMMLOST = false ∧ qGet (t.point pt).qual qLIMIT = ptLimit pr e.value ∧
      qGet (t.point pt).qual qFORCED = qGet (s.point pt).qual qFORCED ∧
      pt ∈ (t.round p.cls).recv ∧ WordsKept (inBlocks [.fpt, .tsk, .prf, .eth]) s t ∧
      Frame [.regs, .evr, .fab, .prog, .perf, .arb, .net] s t) ∧
  (∀ (w : When) (n : Nat) (g : Segment) (r : Rec) (s₀ s : State), s = s₀.advance w → s.staReach n = some r →
    segOk g 0x11 = true → ((s.sta n).polls.find? (fun p => p.tag == g.tag && !p.ident) = none ∨ s.inputsFrom n = false ∨
      ∃ p, (s.sta n).polls.find? (fun p => p.tag == g.tag && !p.ident) = some p ∧ (s.round p.cls).phase ≠ .input) →
    ∃ t, exec (.aelzonInputReceived w n g) s₀ = .next t ∧ WordsKept (inBlocks [.fpt, .tsk, .prf, .eth]) s t ∧
      (∀ m, m < 2048 → t.staState m = s.staState m) ∧ Frame [.regs, .evr, .prog, .perf, .arb, .net] s t) ∧
  (∀ (w : When) (n : Nat) (g : Segment) (r : Rec) (s₀ s : State), s = s₀.advance w → s.staReach n = some r →
    segOk g 0x12 = true → (∀ c, c < 3 → (s.round c).phase ≠ .input) →
    ∃ t, exec (.aelzonChgReceived w n g) s₀ = .next t ∧ t.fab.points = s.fab.points ∧
      (s.inputsFrom n = true → t.fab.eQueue = s.fab.eQueue ++ (g.entries.filter fun e => match s.inputAt n e.ch with
        | some (_, r) => ptClass r == 3
        | none => false).map (fun e => ⟨n, e.ch, e.bad, e.value, s.pmNow⟩)) ∧
      (s.inputsFrom n = false → t.fab = s.fab) ∧
      WordsKept (inBlocks [.fpt, .tsk, .prf, .eth]) s t ∧ Frame [.regs, .evr, .fab, .prog, .perf, .arb, .net] s t) ∧
  (∀ (w : When) (n tag : Nat) (r : Rec) (ans : LaneAnswer) (a : Nat) (v : Word) (p : Poll) (pt : Nat) (pr : Rec)
    (s₀ s : State), s = s₀.advance w → n < 2048 → s.staRec n = some r → s.good .fab = true → s.laneUp = true →
    stAelzon r = false → s.inputsFrom n = true →
    (∀ p ∈ (s.sta n).polls, p.tag = tag → p.ident = true → p.ns + stAnstoNs r < s.ns) →
    (s.sta n).polls.find? (fun p => p.tag == tag && !p.ident) = some p → (s.round p.cls).phase = .input →
    s.inputAt n a = some (pt, pr) → serves p.cls (ptClass pr) = true →
    ((∃ vs, ans = .values tag (vs ++ [(a, v)])) ∨
      ∃ vs rs, ans = .registers tag (vs ++ [(a, rs)]) ∧ v = regsWord (stWswap r) rs) →
    ∃ t, exec (.laneProtocolResponse w n ans) s₀ = .next t ∧ t.fld (F.FPT_STA_MISS n) = 0 ∧
      (qGet (s.point pt).qual qFORCED = false → (t.point pt).value = v) ∧ qGet (t.point pt).qual qGOOD = true ∧
      qGet (t.point pt).qual qINIT = false ∧ WordsKept (inBlocks [.fpt, .tsk, .prf]) s t ∧
      Frame [.regs, .evr, .fab, .prog, .perf] s t) ∧
  (∀ (w : When) (n tag : Nat) (r : Rec) (ans : LaneAnswer) (p : Poll) (s₀ s : State), s = s₀.advance w →
    s.staRec n = some r → s.good .fab = true → s.laneUp = true → stAelzon r = false →
    (∀ p ∈ (s.sta n).polls, p.tag = tag → p.ident = true → p.ns + stAnstoNs r < s.ns) →
    (s.sta n).polls.find? (fun p => p.tag == tag && !p.ident) = some p → (s.round p.cls).phase ≠ .input →
    ((∃ vs, ans = .values tag vs) ∨ ∃ vs, ans = .registers tag vs) →
    ∃ t, exec (.laneProtocolResponse w n ans) s₀ = .next t ∧ WordsKept (inBlocks [.prf]) s t ∧ Frame [.regs, .perf] s t) ∧
  (∀ (w : When) (n : Nat) (r : Rec) (vs : List (Nat × Word)) (s₀ s : State), s = s₀.advance w → s.staRec n = some r →
    s.good .fab = true → s.laneUp = true → stAelzon r = false → s.inputsFrom n = true →
    (∀ c, c < 3 → (s.round c).phase ≠ .input) →
    ∃ t, exec (.laneProtocolResponse w n (.changes vs)) s₀ = .next t ∧
      t.fab.eQueue = s.fab.eQueue ++ ((vs.map fun v => (⟨v.1, false, v.2⟩ : ChanEntry)).filter fun e =>
        match s.inputAt n e.ch with
        | some (_, r) => ptClass r == 3
        | none => false).map (fun e => ⟨n, e.ch, e.bad, e.value, s.pmNow⟩) ∧
      t.fab.points = s.fab.points ∧ Frame [.fab] s t) ∧
  (∀ (w : When) (n tag : Nat) (r : Rec) (code first : Nat) (p : Poll) (s₀ s : State), s = s₀.advance w → n < 2048 →
    s.staRec n = some r → s.good .fab = true → s.laneUp = true → stAelzon r = false → s.inputsFrom n = true →
    (s.sta n).polls.find? (fun p => p.tag == tag && !p.ident) = some p → (s.round p.cls).phase = .input →
    ∃ t, exec (.laneProtocolResponse w n (.exception tag code first)) s₀ = .next t ∧ t.fld (F.FPT_STA_MISS n) = 0 ∧
      Events s t [(0x2005, [n2w n, n2w code, n2w first])] ∧ t.fab.points = s.fab.points ∧
      RegsKept [Reg.FPT_STA n] s t ∧ Frame [.regs, .evr, .fab] s t) ∧
  (∀ (w : When) (n tag : Nat) (r : Rec) (code first : Nat) (m : OutMsg) (q : Rec) (s₀ s : State), s = s₀.advance w →
    s.staRec n = some r → s.good .fab = true → s.laneUp = true → stAelzon r = false →
    (s.sta n).polls.find? (fun p => p.tag == tag && !p.ident) = none → (s.sta n).msg? tag = some m →
    m.vals.length = m.pts.length → s.ptRec first = some q →
    ∃ t, exec (.laneProtocolResponse w n (.exception tag code first)) s₀ = .next t ∧
      EventsAmong s t [(0x2005, [n2w n, n2w code, n2w first])] ∧
      (∀ p ∈ m.pts, s.sameRequest r m (ptAddr q) p = true → (t.point p).value = (s.point p).value ∧
        qGet (t.point p).qual qGOOD = false ∧ qGet (t.point p).qual qSTALE = true ∧
        qGet (t.point p).qual qCOMMLOST = false) ∧
      (∀ p, (p ∈ m.pts → s.sameRequest r m (ptAddr q) p = false) → t.point p = s.point p) ∧
      WordsKept (inBlocks [.fpt, .tsk, .prf]) s t ∧ Frame [.regs, .evr, .fab, .prog, .perf] s t) ∧
  (∀ (w : When) (n tag : Nat) (r : Rec) (addrs : List Nat) (m : OutMsg) (s₀ s : State), s = s₀.advance w →
    s.staRec n = some r → s.good .fab = true → s.laneUp = true → stAelzon r = false → (s.sta n).msg? tag = some m →
    m.image = false → m.vals.length = m.pts.length → (∀ p ∈ m.pts, ∃ q, s.ptRec p = some q ∧ ptAddr q ∈ addrs) →
    ∃ t, exec (.laneProtocolResponse w n (.written tag addrs)) s₀ = .next t ∧ (t.sta n).msg? tag = none ∧
      (∀ p ∈ m.pts, qGet (t.point p).qual qGOOD = true ∧ qGet (t.point p).qual qSTALE = false ∧
        (t.point p).value = (s.point p).value) ∧
      WordsKept (inBlocks [.tsk, .prf]) s t ∧ Frame [.regs, .evr, .fab, .prog, .perf] s t) ∧
  (∀ (w : When) (n tag : Nat) (r : Rec) (vs : List (Nat × Word)) (p : Poll) (s₀ s : State), s = s₀.advance w → n < 2048 →
    s.staRec n = some r → s.good .fab = true → s.laneUp = true → stAelzon r = false → (s.staState n = 0 ∨ s.staState n = 3) →
    (s.sta n).readmit = false → p ∈ (s.sta n).polls → p.tag = tag → p.ident = true → s.ns ≤ p.ns + stAnstoNs r →
    ∃ t, exec (.laneProtocolResponse w n (.values tag vs)) s₀ = .next t ∧ t.staState n = 1 ∧ (t.sta n).imageDue = true ∧
      WordsKept (inBlocks [.fpt, .tsk, .prf]) s t ∧ Frame [.regs, .evr, .fab, .prog, .perf] s t) ∧
  (∀ (w : When) (n tag : Nat) (r : Rec) (s₀ s : State), s = s₀.advance w → s.staRec n = some r → s.good .fab = true →
    s.laneUp = true → stAelzon r = false →
    ∃ t, exec (.laneProtocolResponse w n (.noMultiple tag)) s₀ = .next t ∧
      (stBacnet r = true → (t.sta n).single = true ∧
        ∀ p ∈ (t.sta n).polls, p.tag = tag → p.reqs = t.readRequests p.cls n tag r) ∧
      (∀ k, k ≠ n → t.sta k = s.sta k) ∧ t.fab.points = s.fab.points ∧ Frame [.fab] s t)) ∧
  ((∀ (w : When) (n : Nat) (g : Segment) (ident : BitVec 128) (sf fw : Word) (r : Rec) (p : Poll) (s₀ s : State),
    s = s₀.advance w → n < 2048 → s.staReach n = some r → segOk g 0x13 = true →
    (s.staState n = 0 ∨ s.staState n = 3 ∨ (s.sta n).readmit = true) →
    (s.sta n).polls.find? (fun p => p.tag == g.tag && p.ident && decide (s.ns ≤ p.ns + stAnstoNs r)) = some p →
    ∃ t, exec (.aelzonIdaReceived w n g ident sf fw) s₀ = .next t ∧
      ((stIdent r = 0 ∨ stIdent r = ident.toNat) → (t.sta n).imageDue = true ∧ (t.sta n).fwver = fw ∧
        t.staState n = (if (s.sta n).readmit then s.staState n else 1)) ∧
      (stIdent r ≠ 0 → stIdent r ≠ ident.toNat → t.staState n = s.staState n ∧
        EventsAmong s t [(0x2003, [n2w n] ++ words64 (BitVec.ofNat 64 ident.toNat))]) ∧
      WordsKept (inBlocks [.fpt, .tsk, .prf, .eth]) s t ∧ Frame [.regs, .evr, .fab, .prog, .perf, .arb, .net] s t) ∧
  (∀ (w : When) (n : Nat) (g : Segment) (sf : Word) (r : Rec) (m : OutMsg) (s₀ s : State), s = s₀.advance w → n < 2048 →
    s.staReach n = some r → segOk g 0x14 = true → (s.sta n).msg? g.tag = some m → g.stat = 0 → m.sw = none →
    g.total ≤ (if m.segs.contains g.idx then m.segs else g.idx :: m.segs).length →
    ∃ t, exec (.aelzonAckReceived w n g sf) s₀ = .next t ∧ (t.sta n).msg? g.tag = none ∧
      (∀ p ∈ m.pts, qGet (t.point p).qual qGOOD = true ∧ qGet (t.point p).qual qSTALE = false ∧
        qGet (t.point p).qual qCOMMLOST = false ∧ (t.point p).value = (s.point p).value) ∧
      (m.image = true → s.staState n = 1 → t.staState n = 2) ∧
      (¬(m.image = true ∧ s.staState n = 1) → t.staState n = s.staState n) ∧
      WordsKept (inBlocks [.fpt, .tsk, .prf, .eth]) s t ∧ Frame [.regs, .evr, .fab, .prog, .perf, .arb, .net] s t) ∧
  (∀ (w : When) (n : Nat) (g : Segment) (sf : Word) (r : Rec) (m : OutMsg) (s₀ s : State), s = s₀.advance w → n < 2048 →
    s.staReach n = some r → segOk g 0x14 = true → (s.sta n).msg? g.tag = some m → m.sw = none → s.pms.frMux ≠ 0 →
    g.total ≤ (if m.segs.contains g.idx then m.segs else g.idx :: m.segs).length →
    ∃ t, exec (.aelzonAckReceived w n g sf) s₀ = .next t ∧
      (g.stat = 1 → (s.staState n = 1 ∨ s.staState n = 2) →
        t.staState n = (if s.quiescing (stPort r) then s.staState n else 3) ∧ (t.sta n).msg? g.tag = none ∧
        t.rd (Reg.PMS_STALE 3) = n2w (min 0xFFFFFFFF ((s.rd (Reg.PMS_STALE 3)).toNat + 1)) ∧
        EventsAmong s t [(0x7010, [3, segFrank (m.bytes.headD [])])] ∧
        ∀ p ∈ m.pts, qGet (t.point p).qual qGOOD = false ∧
          qGet (t.point p).qual qCOMMLOST = (if s.quiescing (stPort r) then qGet (s.point p).qual qCOMMLOST else true)) ∧
      (g.stat = 2 → m.attempts < 3 → t.fab.points = s.fab.points ∧
        ∃ m' ∈ (t.sta n).out, m'.tag = m.tag ∧ m'.attempts = m.attempts + 1) ∧
      (g.stat = 3 → (t.sta n).msg? g.tag = none ∧
        ∀ p ∈ m.pts, ∀ q, s.ptRec p = some q → (t.point p).value = (s.point p).value ∧
          qGet (t.point p).qual qGOOD = !((m.badch ++ g.entries.map (·.ch)).isEmpty
            || (m.badch ++ g.entries.map (·.ch)).contains (ptAddr q))) ∧
      WordsKept (inBlocks [.fpt, .tsk, .prf, .pms, .eth]) s t ∧
      Frame [.regs, .free, .evr, .fab, .prog, .perf, .arb, .net] s t) ∧
  (∀ (w : When) (n : Nat) (r : Rec) (m : OutMsg) (s₀ s : State), s = s₀.advance w → n < 2048 → s.good .fab = true →
    s.staRec n = some r → s.pms.frMux ≠ 0 → (stAelzon r = true ∨ s.laneUp = true) →
    (s.sta n).out.find? (fun m => match m.ns with | some t => decide (t + stAnstoNs r ≤ s.ns) | none => false) = some m →
    ∃ t, exec (.outputAckTimeout w n) s₀ = .next t ∧
      (m.attempts < 3 → (∃ m' ∈ (t.sta n).out, m'.tag = m.tag ∧ m'.attempts = m.attempts + 1 ∧
          m'.ns = (if stAelzon r then none else some s.ns)) ∧
        t.staState n = s.staState n ∧ t.fab.points = s.fab.points) ∧
      (3 ≤ m.attempts → (s.staState n = 1 ∨ s.staState n = 2) →
        t.staState n = (if s.quiescing (stPort r) then s.staState n else 3) ∧ (t.sta n).msg? m.tag = none ∧
        (s.quiescing (stPort r) = false →
          t.fld (F.FPT_STA_OFFCNT n) = satAdd (Fld.top (F.FPT_STA_OFFCNT n)) (s.fld (F.FPT_STA_OFFCNT n)) 1) ∧
        (∀ p ∈ m.pts, qGet (t.point p).qual qGOOD = false ∧
          qGet (t.point p).qual qCOMMLOST = (if s.quiescing (stPort r) then qGet (s.point p).qual qCOMMLOST else true))) ∧
      WordsKept (inBlocks [.fpt, .tsk, .prf, .eth]) s t ∧ Frame [.regs, .free, .evr, .fab, .prog, .perf, .arb, .net] s t) ∧
  (∀ (w : When) (n : Nat) (r : Rec) (s₀ s : State), s = s₀.advance w → s.staRec n = some r → stAelzon r = false →
    s.laneUp = false → exec (.outputAckTimeout w n) s₀ = .next s) ∧
  (∀ (w : When) (n tag sent : Nat) (r : Rec) (s₀ s : State), s = s₀.advance w → s.good .fab = true → s.staRec n = some r →
    (s.sta n).syncTag = some tag → (s.sta n).syncNs = some sent → s.ns ≤ sent + 5000000 →
    ∃ t, exec (.aelzonFollowSend w n) s₀ = .next t ∧ (t.sta n).syncTag = none ∧ t.fab.points = s.fab.points ∧
      (∀ k, k ≠ n → t.sta k = s.sta k) ∧
      (∀ o, stProto r = 0 → (s.can (stPort r)).txObj (stAddr r) = some o →
        t.can (stPort r) = (s.can (stPort r)).rewrite o 2 [segFollow tag (s.sta n).syncPm]) ∧
      WordsKept (inBlocks [.prf, .eth]) s t ∧ Frame [.regs, .free, .fab, .perf, .arb, .net] s t))

/-- STATION_DISABLE_WRITE, POINT_WORD0_READ, POINT_VALUE_WRITE and POINT_FORCE_WRITE: the Counter's access to stations and
points (R99, R117, R134 to R136): a write is clamped and marked, a FORCED point keeps its value but for installer and
maker, a read of word0 latches the record's other words. -/
def Obligations.PointAccess : Prop :=
  (∀ (w : When) (who : Who) (n : Nat) (dis : Bool) (s₀ s : State), s = s₀.advance w → n < 2048 →
    s.refuse who (Reg.FPT_STA n) (n2w ((if dis then 1 else 0) * 2 ^ 31)) = none →
    ∃ t, exec (.stationDisableWrite w who n dis) s₀ = .next t ∧ t.answered ansOK ∧ t.flag (F.FPT_STA_DIS n) = dis ∧
      t.staState n = s.staState n ∧ RegsKept [Reg.FPT_STA n] s t ∧ Frame [.regs, .ctr] s t) ∧
  (∀ (w : When) (who : Who) (p : Nat) (s₀ s : State), s = s₀.advance w → s.refusePoint who p = none →
    ∃ t, exec (.pointWord0Read w who p) s₀ = .next t ∧ t.answered ansOK [(s.point p).value] ∧
      (∀ j, (j = 1 ∨ j = 2 ∨ j = 3) → t.latch.get? (ptAddrOf p j) = some (s.ptWord p j)) ∧ Frame [.latch, .ctr] s t) ∧
  (∀ (w : When) (who : Who) (p : Nat) (r : Rec) (v : Word) (s₀ s : State), s = s₀.advance w →
    s.refuseValue who p = none → s.ptRec p = some r →
    ∃ t, exec (.pointValueWrite w who p v) s₀ = .next t ∧ t.answered ansOK ∧
      (qGet (s.point p).qual qFORCED = false →
        (t.point p).value = ptClamp r v ∧ qGet (t.point p).qual qGOOD = true ∧ qGet (t.point p).qual qINIT = false ∧
        qGet (t.point p).qual qLIMIT = ptLimit r v ∧ qGet (t.point p).qual qTENANTW = (who.role == .tenant)) ∧
      (qGet (s.point p).qual qFORCED = true →
        (t.point p).value = (if who.im then ptClamp r v else (s.point p).value) ∧ qGet (t.point p).qual qFORCED = true) ∧
      (∀ q, q ≠ p → t.point q = s.point q) ∧
      WordsKept (inBlocks [.tsk, .prf]) s t ∧ Frame [.regs, .evr, .fab, .prog, .ctr, .perf] s t) ∧
  (∀ (w : When) (who : Who) (p : Nat) (v : Word) (s₀ s : State), s = s₀.advance w → s.refuseForce who p = none →
    (s.ptRec p).isSome = true →
    ∃ t, exec (.pointForceWrite w who p v) s₀ = .next t ∧ t.answered ansOK ∧
      qGet (t.point p).qual qFORCED = v.bit 4 ∧ (t.point p).value = (s.point p).value ∧
      (qGet (s.point p).qual qFORCED ≠ v.bit 4 → EventsAmong s t
        [(0x2004, [n2w p, (if v.bit 4 then 1 else 0), n2w who.role.num, n2w who.session])]) ∧
      (∀ q, q ≠ p → t.point q = s.point q) ∧
      WordsKept (inBlocks [.tsk, .prf]) s t ∧ Frame [.regs, .evr, .fab, .prog, .ctr, .perf] s t)

/-! ### Cyclic programs (chapter 5) -/

/-- TASK_RELEASE, TASK_DISPATCH and TASK_RETURN (R148, R151, R153, R154, R156): a release makes an idle task ready at its
postmark, once, and is skipped, counted and recorded while the task's cycle runs; a dispatch copies the inputs and takes
the oldest queued event; a return makes changed data and outputs one checkpoint, stamped with the frank and the release
postmark. CHECKPOINT_DURABLE (R153, R155, R382): the header that makes the checkpoint durable commits the cycle: TSK_CYC
rises, the task holds the committed data and outputs, its queued calls are gone and it may be released again.
TASK_WATCHDOG_EXPIRY (R161 to R163): WTASK, 16#3003 and STOP with CAUSE 1, every cycle abandoned and every event queue
empty. -/
def Obligations.TaskCycles : Prop :=
  ((∀ (w : When) (n : Nat) (r : Rec) (s₀ s : State), s = s₀.advance w → n < 32 → s.taskRec n = some r → s.laneUp = true →
    s.mode = 1 → s.prog.holdReq = false → s.fld F.PMS_STATUS_PHASE ≠ 1 → s.pwr.pfail = false → s.onSchedule r = true →
    (s.task n).last ≠ some s.pmNow → Unexpired s → (s.task n).phase = .idle →
    ∃ t, exec (.taskRelease w n) s₀ = .next t ∧ (t.task n).phase = .ready ∧ (t.task n).rel = s.pmNow ∧
      (t.task n).skip = false ∧ (t.task n).last = some s.pmNow ∧ (∀ m, m ≠ n → t.task m = s.task m) ∧ Frame [.prog] s t) ∧
  (∀ (w : When) (n : Nat) (r : Rec) (s₀ s : State), s = s₀.advance w → n < 32 → s.taskRec n = some r → s.laneUp = true →
    s.mode = 1 → s.prog.holdReq = false → s.fld F.PMS_STATUS_PHASE ≠ 1 → s.pwr.pfail = false → s.onSchedule r = true →
    (s.task n).last ≠ some s.pmNow → Unexpired s → (s.task n).phase ≠ .idle →
    ∃ t, exec (.taskRelease w n) s₀ = .next t ∧
      t.fld (F.TSK_LATE_LATE n) = min (F.TSK_LATE_LATE n).top (s.fld (F.TSK_LATE_LATE n) + 1) ∧
      Events s t [(0x3002, [n2w n] ++ words64 s.pmNow ++ [n2w (t.fld (F.TSK_LATE_LATE n))])] ∧
      t.task n = { s.task n with last := some s.pmNow } ∧ (∀ m, m ≠ n → t.task m = s.task m) ∧
      RegsKept [Reg.TSK_LATE n] s t ∧ Frame [.regs, .evr, .prog] s t) ∧
  (∀ (w : When) (n : Nat) (s₀ s : State), s = s₀.advance w → s.laneUp = true →
    (s.mode = 1 ∨ s.mode = 2 ∧ (s.task n).stepped = true) → s.fld F.PMS_STATUS_PHASE ≠ 1 → s.pwr.pfail = false →
    s.mayDispatch n = true →
    ∃ t, exec (.taskDispatch w n) s₀ = .next t ∧ (t.task n).phase = .running ∧ (t.task n).disp = s.pmNow ∧
      (t.task n).work = s.copyInputs n (s.task n).data ∧ (t.task n).calls = [] ∧
      (32 ≤ n → (s.task n).ev = none → (t.task n).ev = (s.task n).queue.head? ∧ (t.task n).queue = (s.task n).queue.tail) ∧
      (n < 32 → (t.task n).ev = (s.task n).ev ∧ (t.task n).queue = (s.task n).queue ∧ (t.task n).rel = (s.task n).rel) ∧
      (∀ m, m ≠ n → t.task m = s.task m) ∧ WordsKept (inBlocks [.prf]) s t ∧ Frame [.regs, .prog, .perf, .arb] s t) ∧
  (∀ (w : When) (n : Nat) (stores : List (Nat × Byte)) (s₀ s : State), s = s₀.advance w → s.executes n = true →
    s.pwr.pfail = false →
    ∃ t c, exec (.taskReturn w n stores) s₀ = .next t ∧ (t.task n).phase = .committing ∧ (t.task n).pend = some c ∧
      c.frank = s.rd Reg.PMS_FRANK ∧ c.relpm = (s.task n).rel ∧ c.data = (t.task n).work ∧
      c.outs = (s.progOf n).outVals n c.data ∧
      (t.task n).work = Mem.setCells (s.task n).work
        (stores.filter fun x => decide (x.1 < obDatalen ((s.progOf n).taskEntry n))) ∧
      (t.task n).data = (s.task n).data ∧ (t.task n).ck = (s.task n).ck ∧ (∀ m, m ≠ n → t.task m = s.task m) ∧
      WordsKept (inBlocks [.prf, .pmc]) s t ∧ Frame [.regs, .pm, .prog, .perf, .arb] s t)) ∧
  ((∀ (w : When) (n : Nat) (c : Ckpt) (j : List JEntry) (e : JEntry) (s₀ s : State), s = s₀.advance w → n < 64 →
    s.good .pmm = true → s.laneUp = true → (s.task n).phase = .committing → (s.task n).pend = some c →
    markDurable s.pm.journal = (j, some e) → e.load = .header n → s.fld F.TSK_OC_STATUS_PHASE = 0 →
    ∃ t, exec (.checkpointDurable w n) s₀ = .next t ∧ t.rd (Reg.TSK_CYC n) = s.rd (Reg.TSK_CYC n) + 1 ∧
      (t.task n).phase = .idle ∧ (t.task n).data = c.data ∧ (t.task n).outs = some c.outs ∧ (t.task n).calls = [] ∧
      (t.task n).pend = none ∧ WordsKept (inBlocks [.tsk, .pmc, .prf, .cle, .eth, .pms]) s t ∧
      Frame [.regs, .free, .evr, .pm, .fab, .prog, .pms, .perf, .arb, .cle, .net] s t) ∧
  (∀ (w : When) (n : Nat) (s₀ s : State), s = s₀.advance w → n < 64 → s.laneUp = true → s.pwr.pfail = false →
    s.wdogDue n = true →
    ∃ t, exec (.taskWatchdogExpiry w n) s₀ = .next t ∧ t.mode = 0 ∧ t.fld F.TSK_STATUS_CAUSE = 1 ∧
      t.fld F.TSK_STATUS_WTASK = n ∧ t.flag F.TSK_STATUS_STEPBUSY = false ∧
      (∀ m, (t.task m).phase = .idle ∧ (t.task m).queue = []) ∧
      EventsFrom s t [(0x3003, [n2w n] ++ words64 (s.task n).rel ++
        [n2w (min (s.pmNow - (s.task n).since n).toNat 0xFFFFFFFF)])] ∧
      WordsKept (inBlocks [.tsk, .pmc, .prf, .cle, .eth, .pms, .mod, .ctr]) s t ∧
      Frame [.regs, .free, .evr, .clk, .pm, .man, .fab, .prog, .pwr, .ctr, .pms, .perf, .arb, .cle, .net, .saf] s t))

/-- Event sources (EVENT_SOURCE_FIRE, TSK_DOORBELL_WRITE; R157 to R160): an event task bound to the source takes one event
with its value, a full queue counts it as lost, and nothing is queued or counted in STOP. -/
def Obligations.EventSources : Prop :=
  (∀ (w : When) (src : Nat) (v : Word) (s₀ s : State), s = s₀.advance w → (s.mode = 0 ∨ s.laneUp = false) →
    exec (.eventSourceFire w src v) s₀ = .next s) ∧
  (∀ (w : When) (src : Nat) (v : Word) (s₀ s : State), s = s₀.advance w → s.mode ≠ 0 → s.laneUp = true →
    ∃ t, exec (.eventSourceFire w src v) s₀ = .next t ∧
      (∀ n r, 32 ≤ n → n < 64 → s.taskRec n = some r → tkKind r = 3 → tkSource r = src →
        (s.task n).queue.length < tkQdepth r →
        (t.task n).queue = (s.task n).queue ++ [⟨src, false, (s.task n).lost, s.pmNow, v⟩] ∧ (t.task n).lost = 0) ∧
      (∀ n r, 32 ≤ n → n < 64 → s.taskRec n = some r → tkKind r = 3 → tkSource r = src →
        tkQdepth r ≤ (s.task n).queue.length →
        (t.task n).queue = (s.task n).queue ∧ (t.task n).lost = min 255 ((s.task n).lost + 1) ∧
        t.fld (F.TSK_LATE_EVLOST n) = min (F.TSK_LATE_EVLOST n).top (s.fld (F.TSK_LATE_EVLOST n) + 1)) ∧
      (∀ n, (∀ r, s.taskRec n = some r → tkKind r ≠ 3 ∨ tkSource r ≠ src) → t.task n = s.task n) ∧
      WordsKept (fun a => ∃ n, n < 64 ∧ a = Reg.TSK_LATE n) s t ∧ Frame [.regs, .evr, .prog] s t) ∧
  (∀ (w : When) (who : Who) (v : Word) (s₀ s : State), s = s₀.advance w → s.refuse who Reg.TSK_DOORBELL v = none →
    ∃ t, exec (.tskDoorbellWrite w who v) s₀ = .next t ∧ t.answered ansOK ∧
      (s.mode ≠ 0 → s.laneUp = true → ∀ n r, 32 ≤ n → n < 64 → s.taskRec n = some r → tkKind r = 3 → tkSource r = 126 →
        (s.task n).queue.length < tkQdepth r →
        (t.task n).queue = (s.task n).queue ++ [⟨126, false, (s.task n).lost, s.pmNow, v⟩]) ∧
      (s.mode = 0 → t.prog = s.prog) ∧
      WordsKept (fun a => ∃ n, n < 64 ∧ a = Reg.TSK_LATE n) s t ∧ Frame [.regs, .evr, .prog, .ctr] s t)

/-- The commands of TSK_CTRL (R163 to R166): STOP, HOLD, RESUME and STEP where the mode allows them. A new mode goes into
the checkpoint of the lane firmware, whose durability records 16#3001 (R594). WARM and COLD (R164, R168): from STOP or
HOLD with an armed program, the mode becomes RUN or HOLD, the restart is counted, every task is idle with the data that
its checkpoint and the restart's column of R168 give it and, at COLD, with cleared counters. -/
def Obligations.ProgramModes : Prop :=
  ((∀ (w : When) (who : Who) (s₀ s : State), s = s₀.advance w → Unexpired s →
    s.refuse who Reg.TSK_CTRL (tskCmd 1 0 false) = none → s.mode ≠ 0 →
    ∃ t, exec (.programStop w who) s₀ = .next t ∧ t.answered ansOK ∧ t.mode = 0 ∧ t.fld F.TSK_STATUS_CAUSE = 0 ∧
      t.flag F.TSK_STATUS_STEPBUSY = false ∧ (∀ m, (t.task m).phase = .idle ∧ (t.task m).queue = []) ∧
      WordsKept (inBlocks [.tsk, .pmc, .prf, .cle, .eth, .pms, .mod, .ctr]) s t ∧
      Frame [.regs, .free, .evr, .clk, .pm, .man, .fab, .prog, .pwr, .ctr, .pms, .perf, .arb, .cle, .net, .saf] s t) ∧
  (∀ (w : When) (who : Who) (s₀ s : State), s = s₀.advance w → Unexpired s →
    s.refuse who Reg.TSK_CTRL (tskCmd 2 0 false) = none → s.mode = 1 → s.anyCycle = true →
    ∃ t, exec (.programHold w who) s₀ = .next t ∧ t.answered ansOK ∧ t.mode = 1 ∧ t.prog.holdReq = true ∧
      t.prog.holdBy = (who.role.num, who.session) ∧ (∀ m, (t.task m).phase ≠ .ready) ∧
      (∀ m, (s.task m).phase ≠ .ready → t.task m = s.task m) ∧ Frame [.prog, .ctr] s t) ∧
  (∀ (w : When) (who : Who) (s₀ s : State), s = s₀.advance w → Unexpired s →
    s.refuse who Reg.TSK_CTRL (tskCmd 2 0 false) = none → s.mode = 1 → s.anyCycle = false →
    s.fld F.TSK_OC_STATUS_PHASE = 0 →
    ∃ t, exec (.programHold w who) s₀ = .next t ∧ t.answered ansOK ∧ t.mode = 2 ∧
      t.fld F.TSK_STATUS_CAUSE = s.fld F.TSK_STATUS_CAUSE ∧ t.prog.holdReq = false ∧
      (∃ f, f.mode = 2 ∧ t.prog.fwPend = s.prog.fwPend ++
        [(f, [1, 2, n2w (s.fld F.TSK_STATUS_CAUSE), n2w who.role.num, n2w who.session])]) ∧
      WordsKept (inBlocks [.tsk, .pmc, .prf]) s t ∧ Frame [.regs, .pm, .prog, .ctr, .perf, .arb] s t) ∧
  (∀ (w : When) (who : Who) (s₀ s : State), s = s₀.advance w → s.refuse who Reg.TSK_CTRL (tskCmd 3 0 false) = none →
    s.mode = 2 →
    ∃ t, exec (.programResume w who) s₀ = .next t ∧ t.answered ansOK ∧ t.mode = 1 ∧ t.prog.tasks = s.prog.tasks ∧
      t.fld F.TSK_STATUS_CAUSE = s.fld F.TSK_STATUS_CAUSE ∧
      (∃ f, f.mode = 1 ∧ t.prog.fwPend = s.prog.fwPend ++
        [(f, [2, 1, n2w (s.fld F.TSK_STATUS_CAUSE), n2w who.role.num, n2w who.session])]) ∧
      WordsKept (inBlocks [.tsk, .pmc, .prf]) s t ∧ Frame [.regs, .pm, .prog, .ctr, .perf, .arb] s t) ∧
  (∀ (w : When) (who : Who) (n : Nat) (s₀ s : State), s = s₀.advance w → n < 64 →
    s.refuse who Reg.TSK_CTRL (tskCmd 4 n false) = none → s.mode = 2 → s.flag F.TSK_STATUS_STEPBUSY = false →
    (s.taskRec n).isSome = true → (32 ≤ n → (s.task n).queue ≠ []) → s.fld F.TSK_OC_STATUS_PHASE = 0 →
    ∃ t, exec (.programStep w who n) s₀ = .next t ∧ t.answered ansOK ∧ t.flag F.TSK_STATUS_STEPBUSY = true ∧
      (t.task n).phase = .ready ∧ (t.task n).stepped = true ∧ (∀ m, m ≠ n → t.task m = s.task m) ∧
      RegsKept [Reg.TSK_STATUS] s t ∧ Frame [.regs, .prog, .ctr] s t)) ∧
  ((∀ (w : When) (who : Who) (h : Bool) (s₀ s : State), s = s₀.advance w →
    s.refuse who Reg.TSK_CTRL (tskCmd 5 0 h) = none → s.mode ≠ 1 → s.program.none? = false → s.armed = true →
    s.fld F.PMC_STATUS_LEVEL ≠ 3 → s.anyCycle = false → Settled s →
    ∃ t, exec (.programWarm w who h) s₀ = .next t ∧ t.answered ansOK ∧ t.mode = (if h then 2 else 1) ∧
      t.fld F.TSK_RESTARTS_WARMS = min F.TSK_RESTARTS_WARMS.top (s.fld F.TSK_RESTARTS_WARMS + 1) ∧
      t.fld F.TSK_RESTARTS_COLDS = s.fld F.TSK_RESTARTS_COLDS ∧ (∀ m, (t.task m).phase = .idle) ∧
      (∀ m, m < 64 → t.rd (Reg.TSK_CYC m) = s.rd (Reg.TSK_CYC m)) ∧ t.flag F.TSK_STATUS_STEPBUSY = false ∧
      (∀ m ∈ s.taskNums, (t.task m).data = (s.restData m 1).1) ∧
      (∃ f, f.mode = t.mode ∧ t.prog.fwPend = s.prog.fwPend ++
        [(f, [n2w s.mode, n2w t.mode, n2w (s.fld F.TSK_STATUS_CAUSE), n2w who.role.num, n2w who.session])]) ∧
      WordsKept (inBlocks [.tsk, .pmc, .prf]) s t ∧ Frame [.regs, .evr, .pm, .prog, .ctr, .perf, .arb] s t) ∧
  (∀ (w : When) (who : Who) (h : Bool) (s₀ s : State), s = s₀.advance w →
    s.refuse who Reg.TSK_CTRL (tskCmd 6 0 h) = none → s.mode ≠ 1 → s.program.none? = false → s.armed = true →
    s.fld F.PMC_STATUS_LEVEL ≠ 3 → s.anyCycle = false → Settled s →
    ∃ t, exec (.programCold w who h) s₀ = .next t ∧ t.answered ansOK ∧ t.mode = (if h then 2 else 1) ∧
      t.fld F.TSK_RESTARTS_COLDS = min F.TSK_RESTARTS_COLDS.top (s.fld F.TSK_RESTARTS_COLDS + 1) ∧
      (∀ m, m ∈ s.taskNums → t.rd (Reg.TSK_CYC m) = 0 ∧ t.rd (Reg.TSK_MAXEXEC m) = 0) ∧
      (∀ m, (t.task m).phase = .idle) ∧ (∀ m ∈ s.taskNums, (t.task m).data = (s.restData m 2).1) ∧
      WordsKept (inBlocks [.tsk, .pmc, .prf]) s t ∧ Frame [.regs, .evr, .pm, .prog, .ctr, .perf, .arb] s t))

/-- The runtime calls that read (R172, R173): what each returns to the task that a core executes; nothing else changes.
The runtime calls that act (R172, R173, R330): one with status OK waits in the task for its commit and has changed nothing
else, but that RT_MB_RECV reads the frame at rank 3 (R403); RT_LOG records its user event at once. Every other status
queues nothing. No runtime call does anything when no core executes its task (R151, R172). -/
def Obligations.RuntimeCalls : Prop :=
  (∀ (w : When) (n : Nat) (s₀ s : State), s = s₀.advance w → s.executes n = true → s.pwr.pfail = false →
    exec (.rtPostmark w n) s₀ = .next (s.ret rtOK (words64 s.pmNow)) ∧
    exec (.rtRelease w n) s₀ = .next (s.ret rtOK (words64 (s.task n).rel)) ∧
    exec (.rtRtc w n) s₀ = .next (s.ret rtOK [n2w s.rtcSec, s.peek Reg.RTC_SUBSEC]) ∧
    (∀ e, (s.task n).ev = some e → exec (.rtEvent w n) s₀ = .next (s.ret rtOK (eventWords e))) ∧
    ((s.task n).ev = none → exec (.rtEvent w n) s₀ = .next (s.ret rtNOTREADY)) ∧
    exec (.rtSafStatus w n) s₀ = .next (s.ret rtOK [s.peek Reg.SAF_STATUS]) ∧
    exec (.rtTaskinfo w n) s₀ =
      .next (s.ret rtOK [s.rd (Reg.TSK_CYC n), n2w (s.fld (F.TSK_LATE_LATE n)), n2w (b2n (s.task n).skip)]) ∧
    (∀ k, s.axStatus k = rtOK → exec (.rtAxisState w n k) s₀ =
      .next (s.ret rtOK [i2w (s.axis k).pos, i2w ((s.axis k).pos / 2 ^ 32), i2w (s.axis k).vel, s.rd (Reg.CLE_AX_STATUS k)])) ∧
    (∀ k, s.axStatus k ≠ rtOK → exec (.rtAxisState w n k) s₀ = .next (s.ret (s.axStatus k))) ∧
    (∀ g q, g < 16 → q < 3 → s.good .mtr = true → s.flag (F.MTR_G_STATUS_EN g) = true →
      exec (.rtMtrRead w n g q) s₀ = .next (s.ret rtOK [s.rd (Reg.MTR_G_P g + 4 * q)])) ∧
    (∀ g q, 16 ≤ g → exec (.rtMtrRead w n g q) s₀ = .next (s.ret rtRANGE)) ∧
    (∀ g q, g < 16 → (s.good .mtr = false ∨ s.flag (F.MTR_G_STATUS_EN g) = false) →
      exec (.rtMtrRead w n g q) s₀ = .next (s.ret rtNOTREADY)) ∧
    (∀ g q, g < 16 → 3 ≤ q → s.good .mtr = true → s.flag (F.MTR_G_STATUS_EN g) = true →
      ∃ t, exec (.rtMtrRead w n g q) s₀ = .next t ∧ t.prog.tasks = s.prog.tasks ∧ Frame [.free, .prog] s t)) ∧
  (∀ (w : When) (n : Nat) (s₀ s : State), s = s₀.advance w → s.executes n = true → s.pwr.pfail = false →
    (∀ src v, 118 ≤ src → src ≤ 125 → exec (.rtTrigger w n src v) s₀ = .next ((s.queueCall n (.trigger src v)).ret rtOK)) ∧
    (∀ src v, (src < 118 ∨ 125 < src) → exec (.rtTrigger w n src v) s₀ = .next (s.ret rtRANGE)) ∧
    (∀ k tg vl al p, finite32 tg = true → finite32 vl = true → finite32 al = true → 0 ≤ real32D vl → 0 ≤ real32D al →
      s.axStatus k = rtOK →
      exec (.rtAxisSet w n k tg vl al p) s₀ = .next ((s.queueCall n (.axisSet k tg vl al p)).ret rtOK)) ∧
    (∀ k b, s.axStatus k = rtOK → s.engMode ≠ engHALTED → (b = true → s.axDevStop k = false) →
      exec (.rtAxisEnable w n k b) s₀ = .next ((s.queueCall n (.axisEnable k b)).ret rtOK)) ∧
    (∀ k b, s.axStatus k = rtOK → (s.engMode = engHALTED ∨ b = true ∧ s.axDevStop k = true) →
      exec (.rtAxisEnable w n k b) s₀ = .next (s.ret rtNOTREADY)) ∧
    (∀ k, s.axStatus k = rtOK → exec (.rtAxisStop w n k) s₀ = .next ((s.queueCall n (.axisStop k)).ret rtOK)) ∧
    (∀ k j p d, j < 16 → d < 4 → s.axStatus k = rtOK →
      exec (.rtCmpSet w n k j p d) s₀ = .next ((s.queueCall n (.cmpSet k j p d)).ret rtOK)) ∧
    (∀ k tg vl al p j d b, s.axStatus k ≠ rtOK →
      finite32 tg = true → finite32 vl = true → finite32 al = true → 0 ≤ real32D vl → 0 ≤ real32D al → j < 16 → d < 4 →
      exec (.rtAxisSet w n k tg vl al p) s₀ = .next (s.ret (s.axStatus k)) ∧
      exec (.rtAxisEnable w n k b) s₀ = .next (s.ret (s.axStatus k)) ∧
      exec (.rtAxisStop w n k) s₀ = .next (s.ret (s.axStatus k)) ∧
      exec (.rtCmpSet w n k j p d) s₀ = .next (s.ret (s.axStatus k))) ∧
    (∀ m r data, s.mbRec m = some r → s.mbStatus m 1 = rtOK → data ≠ [] → data.length ≤ mbBufsz r → (s.task n).calls = [] →
      (0 < s.mbRoom m r → exec (.rtMbSend w n m data) s₀ = .next ((s.queueCall n (.mbSend m data)).ret rtOK)) ∧
      (s.mbRoom m r = 0 → exec (.rtMbSend w n m data) s₀ = .next (s.ret rtFULL))) ∧
    (∀ m r, s.mbRec m = some r → s.mbStatus m 0 = rtOK → (s.task n).calls = [] →
      let i := (s.mb m).rd % max 1 (mbEntries r)
      (i = (s.rd (Reg.MBG_HEAD m)).toNat → exec (.rtMbRecv w n m) s₀ = .next (s.ret rtNOTREADY)) ∧
      (i ≠ (s.rd (Reg.MBG_HEAD m)).toNat → exec (.rtMbRecv w n m) s₀ = .next
        (((s.queueCall n (.mbAdvance m 1)).trunk 3 0 (16 + deLen (s.desc r i)) .read).ret rtOK (n2w (deLen (s.desc r i)) :: wordsOf (s.sramBytes (deBuf (s.desc r i)) (deLen (s.desc r i))))))) ∧
    (∀ m r data, m < 1024 → (s.recs 22).find? (fun r => Rec.u16 r 0 == m) = some r → data ≠ [] →
      data.length ≤ trEntry r - 16 → trTask r = n → s.protects (trOff r) = false → (s.task n).calls = [] →
      exec (.rtTrend w n m data) s₀ = .next ((s.queueCall n (.trend m data)).ret rtOK)) ∧
    (∀ code a b c d, 0xF000 ≤ code → code ≤ 0xFFFF →
      exec (.rtLog w n code a b c d) s₀ = .next ((s.record code [a, b, c, d]).ret rtOK)) ∧
    (∀ code a b c d, code < 0xF000 → exec (.rtLog w n code a b c d) s₀ = .next (s.ret rtRANGE))) ∧
  (∀ (w : When) (n : Nat) (s₀ s : State), s = s₀.advance w → s.executes n = false →
    (∀ src v, exec (.rtTrigger w n src v) s₀ = .next s) ∧ (∀ k a b c p, exec (.rtAxisSet w n k a b c p) s₀ = .next s) ∧
    (∀ k b, exec (.rtAxisEnable w n k b) s₀ = .next s) ∧ (∀ k, exec (.rtAxisStop w n k) s₀ = .next s) ∧
    (∀ k j p d, exec (.rtCmpSet w n k j p d) s₀ = .next s) ∧ (∀ m d, exec (.rtMbSend w n m d) s₀ = .next s) ∧
    (∀ m, exec (.rtMbRecv w n m) s₀ = .next s) ∧ (∀ m d, exec (.rtTrend w n m d) s₀ = .next s) ∧
    (∀ x a b c d, exec (.rtLog w n x a b c d) s₀ = .next s) ∧ exec (.rtPostmark w n) s₀ = .next s ∧
    exec (.rtRelease w n) s₀ = .next s ∧ exec (.rtRtc w n) s₀ = .next s ∧ exec (.rtEvent w n) s₀ = .next s ∧
    exec (.rtSafStatus w n) s₀ = .next s ∧ exec (.rtTaskinfo w n) s₀ = .next s ∧
    (∀ k, exec (.rtAxisState w n k) s₀ = .next s) ∧ (∀ g q, exec (.rtMtrRead w n g q) s₀ = .next s) ∧
    (∀ st, exec (.taskReturn w n st) s₀ = .next s))

/-! ### The control engine and axes (chapters 7 and 8) -/

/-- LINK_EVENT, DEXJO_RESPONSE and DEXJO_RESPONSE_MISS (R53, R253, R254, R256, R258, R259): a link event falls at its
angle, once, makes the requested swaps of the axes that it samples and sends each its command frame; a response frame with
PRE, SYNC and CRC-16 right, whose ADDR and SEQ match, gives its axis position, velocity, force and status; any other, and
one that does not come, is a miss: counted, the command repeated, FAULT at LMISS misses in RUN. -/
def Obligations.LinkSamples : Prop :=
  (∀ (w : When) (g j : Nat) (s₀ s : State), s = s₀.advance w → s.good .cle = true → s.good .mtr = true →
    s.linkIndex g = some j → (s.link g).pm ≠ s.pmNow →
    s.fld (F.FPT_PG_STATUS_USE g) = 4 → (∀ k ∈ (s.link g).sampled, k ∈ (s.link g).ok ∨ k ∈ (s.link g).missed) →
    g < 24 → (∀ r ∈ s.linkAxes g, Rec.u8 r 0 < 64) → ((s.linkAxes g).map fun r => Rec.u8 r 0).Nodup →
    ∃ t, exec (.linkEvent w g) s₀ = .next t ∧ (t.link g).pm = s.pmNow ∧ (t.link g).j = j ∧
      (t.link g).sampled = ((s.linkAxes g).filter fun r => j % (s.nLink g / max 1 (axN r)) == 0).map
        (fun r => Rec.u8 r 0) ∧
      (t.link g).ok = [] ∧ (t.link g).missed = [] ∧
      (∀ r ∈ s.linkAxes g, Rec.u8 r 0 ∈ (t.link g).sampled → (t.axis (Rec.u8 r 0)).swap = none ∧
        ((s.axis (Rec.u8 r 0)).swap ≠ none → t.axBank (Rec.u8 r 0) = 1 - s.axBank (Rec.u8 r 0)) ∧
        (t.axis (Rec.u8 r 0)).frame = t.commandFrame (Rec.u8 r 0) r j) ∧
      WordsKept (inBlocks [.cle, .prf]) s t ∧ Frame [.regs, .free, .evr, .perf, .arb, .cle] s t) ∧
  (∀ (w : When) (k : Nat) (r : Rec) (frame : List Byte) (d : DriveResp) (diff : Option PipeDiff) (s₀ s : State),
    s = s₀.advance w → s.axRec k = some r → k < 64 → axLink r < 24 → s.good .cle = true → s.axExpected k r = true →
    s.axAnswer r frame = some d →
    ∃ t, exec (.dexjoResponse w k frame diff) s₀ = .next t ∧ (t.axis k).pos = d.pos ∧ (t.axis k).vel = d.vel ∧
      (t.axis k).force = d.force ∧ (t.axis k).miss = 0 ∧ (t.axis k).samplePm = (s.link (axLink r)).pm ∧
      t.fld (F.CLE_AX_DRV_STATUS k) = d.status.toNat ∧
      (s.axState k = 1 → d.status.getLsbD 0 = true → d.status.getLsbD 1 = false →
        t.axState k = (if (s.axis k).stopReq then 3 else 2) ∧ (t.axis k).r = d.pos * 2 ^ 32) ∧
      ((s.axState k = 1 ∨ s.axState k = 2 ∨ s.axState k = 3) → d.status.getLsbD 1 = true → t.axState k = 5) ∧
      ((s.axState k = 0 ∨ s.axState k = 4) → t.axState k = s.axState k ∧ (t.axis k).secs = (s.axis k).secs) ∧
      WordsKept (inBlocks [.cle, .prf, .tsk]) s t ∧ Frame [.regs, .free, .evr, .prog, .perf, .cle] s t) ∧
  (∀ (w : When) (k : Nat) (r : Rec) (frame : List Byte) (diff : Option PipeDiff) (s₀ : State),
    (s₀.advance w).axRec k = some r → (s₀.advance w).axAnswer r frame = none →
    exec (.dexjoResponse w k frame diff) s₀ = exec (.dexjoResponseMiss w k) s₀) ∧
  (∀ (a q : Byte) (p : BitVec 48) (v : BitVec 32) (f st : BitVec 16),
    let body := [a, q] ++ leBytes 6 p.toNat ++ leBytes 4 v.toNat ++ leBytes 2 f.toNat ++ leBytes 2 st.toNat
    respFrame ([0x55, 0xA9] ++ body ++ leBytes 2 (crc16 body)) = some ⟨a.toNat, q.toNat, p.toInt, v.toInt, f.toInt, st⟩ ∧
    ∀ c : BitVec 16, c.toNat ≠ crc16 body → respFrame ([0x55, 0xA9] ++ body ++ leBytes 2 c.toNat) = none) ∧
  (∀ (w : When) (k : Nat) (r : Rec) (s₀ s : State), s = s₀.advance w → s.axRec k = some r → k < 64 → axLink r < 24 →
    s.good .cle = true → s.axExpected k r = true →
    ∃ t, exec (.dexjoResponseMiss w k) s₀ = .next t ∧ (t.axis k).miss = (s.axis k).miss + 1 ∧
      (t.axis k).cmd = (s.axis k).cmd ∧ (t.axis k).pos = (s.axis k).pos ∧
      t.fld (F.CLE_AX_LINKERR_MISS k) = min (F.CLE_AX_LINKERR_MISS k).top (s.fld (F.CLE_AX_LINKERR_MISS k) + 1) ∧
      ((s.axState k = 1 ∨ s.axState k = 2) → moLmiss r ≤ (s.axis k).miss + 1 → t.axState k = 5) ∧
      WordsKept (inBlocks [.cle, .prf]) s t ∧ Frame [.regs, .free, .evr, .perf, .cle] s t)

/-- Axis states (R234, R237, R251): AXIS_ENABLE_TIMEOUT puts an ENABLING axis into FAULT 5 mains cycles after its first
EN, ORPHAN_STOP starts the stop profile of every axis in RUN 250 ms after the main path lost its holder, AXIS_STO_ENTRY
takes every axis of a group whose safety output has opened to STO, with EN and STOP 0. -/
def Obligations.AxisStates : Prop :=
  (∀ (w : When) (k : Nat) (pm : Postmark) (s₀ s : State), s = s₀.advance w → k < 64 → (s.axis k).enPm = some pm →
    s.good .cle = true → s.axState k = 1 → 5 * 2 ^ 20 ≤ (s.pmNow - pm).toNat →
    ∃ t, exec (.axisEnableTimeout w k) s₀ = .next t ∧ t.axState k = 5 ∧ (t.axis k).ctrl = 3 ∧ (t.axis k).enPm = none ∧
      (∀ m, m ≠ k → t.axis m = s.axis m) ∧ Events s t [(0x4008, [n2w k, 3, n2w (s.fld (F.CLE_AX_DRV_STATUS k))])] ∧
      RegsKept [Reg.CLE_AX_STATUS k] s t ∧ Frame [.regs, .evr, .cle] s t) ∧
  (∀ (w : When) (n : Nat) (s₀ s : State), s = s₀.advance w → s.pms.noHolderNs = some n → s.good .cle = true →
    n + 250000000 ≤ s.ns → (∀ k ∈ s.axisNums, k < 64) →
    ∃ t, exec (.orphanStop w) s₀ = .next t ∧
      (∀ k ∈ s.axisNums, t.axState k = if s.axState k = 2 then 3 else s.axState k) ∧
      (∀ k ∈ s.axisNums, s.axState k = 2 → (t.axis k).disabling = false) ∧
      Events s t [(0x400B, axMask (s.axisNums.filter fun k => s.axState k == 2))] ∧
      RegsKept (s.axisNums.map fun k => Reg.CLE_AX_STATUS k) s t ∧ Frame [.regs, .evr, .cle] s t) ∧
  (∀ (w : When) (g : Nat) (s₀ s : State), s = s₀.advance w → g < 8 → s.good .cle = true → s.stoClosed g = false →
    (∀ k ∈ s.axisNums, k < 64) → s.axisNums.Nodup →
    ∃ t, exec (.axisStoEntry w g) s₀ = .next t ∧
      (∀ r ∈ s.recs 14, axGroup r = g → s.axState (Rec.u8 r 0) ≠ 0 → s.axState (Rec.u8 r 0) ≠ 4 →
        t.axState (Rec.u8 r 0) = 4 ∧ (t.axis (Rec.u8 r 0)).ctrl = 0 ∧
        (∀ c ∈ (t.axis (Rec.u8 r 0)).secs, c.y = 0 ∧ c.s1 = 0 ∧ c.s2 = 0) ∧
        (t.axis (Rec.u8 r 0)).secs.map (·.es) = (s.axis (Rec.u8 r 0)).secs.map (·.es)) ∧
      (∀ r ∈ s.recs 14, axGroup r ≠ g → t.axis (Rec.u8 r 0) = s.axis (Rec.u8 r 0) ∧
        t.axState (Rec.u8 r 0) = s.axState (Rec.u8 r 0)) ∧
      RegsKept (s.axisNums.map fun k => Reg.CLE_AX_STATUS k) s t ∧ Frame [.regs, .cle] s t)

/-- Coefficient banks and tables (R215, R216, R246): COEFF_SWAP_CMD asks for a swap that the next sample makes, while the
axis is DISABLED or the life cycle allows it; COEFF_COPY_CMD makes the shadow bank equal to the active one;
TABLE_ENTRY_WRITE sets one entry, normalised. REFEREE_VERDICT and COMPARATOR_ACTION (R223, R225, R60, R249): a verdict
ends the mismatch of its axis, records 16#4001 and counts the loss of the pipe that it finds wrong, or NONE; in DEGRADED
it judges the section in rotation; a due action of a comparator makes its COUNT point rise by one, within its range and
unless it is FORCED, with the crossing postmark. -/
def Obligations.EngineAndComparators : Prop :=
  ((∀ (w : When) (who : Who) (k : Nat) (r : Rec) (s₀ s : State), s = s₀.advance w → k < 64 →
    s.refuse who (Reg.CLE_AX_CTRL k) 1 = none → s.axRec k = some r →
    (s.axState k = 0 ∨ s.fld F.KEY_STATUS_LC = 1 ∨ s.fld F.KEY_STATUS_LC = 3) → cascadeOk (s.shadow k) (axSecs r) = true →
    s.hasAx (Rec.u8 (s.shadow k) 0) = true →
    ∃ t, exec (.coeffSwapCmd w who k) s₀ = .next t ∧ t.answered ansOK ∧
      (t.axis k).swap = some ⟨2, who.role.num, who.session⟩ ∧ t.flag (F.CLE_AX_STATUS_SWAPPEND k) = true ∧
      t.axBank k = s.axBank k ∧ (∀ m, m ≠ k → t.axis m = s.axis m) ∧
      RegsKept [Reg.CLE_AX_STATUS k] s t ∧ Frame [.regs, .ctr, .cle] s t) ∧
  (∀ (w : When) (who : Who) (k : Nat) (r : Rec) (s₀ s : State), s = s₀.advance w →
    s.refuse who (Reg.CLE_AX_CTRL k) 1 = none → s.axRec k = some r →
    ((s.axState k ≠ 0 ∧ s.fld F.KEY_STATUS_LC ≠ 1 ∧ s.fld F.KEY_STATUS_LC ≠ 3) ∨
      cascadeOk (s.shadow k) (axSecs r) = false ∨ s.hasAx (Rec.u8 (s.shadow k) 0) = false) →
    exec (.coeffSwapCmd w who k) s₀ = .next (s.answer ansBADSTATE)) ∧
  (∀ (w : When) (who : Who) (k : Nat) (s₀ s : State), s = s₀.advance w → s.refuse who (Reg.CLE_AX_CTRL k) 2 = none →
    ∃ t, exec (.coeffCopyCmd w who k) s₀ = .next t ∧ t.answered ansOK ∧ t.shadow k = s.active k ∧
      t.active k = s.active k ∧ (∀ m, m ≠ k → t.axis m = s.axis m) ∧ Frame [.ctr, .cle] s t) ∧
  (∀ (w : When) (who : Who) (k e : Nat) (v : Word) (s₀ s : State), s = s₀.advance w → s.refuseTab who k e = none →
    ∃ t, exec (.tableEntryWrite w who k e v) s₀ = .next t ∧ t.answered ansOK ∧
      (finite32 v = true → e < 256 → e < (s.axis k).fric.length →
        (t.axis k).fric.getD e .zero = normK ((s.axis k).fric.getD e .zero).e (real32D v) ∧ (∀ i, i ≠ e → (t.axis k).fric.getD i .zero = (s.axis k).fric.getD i .zero) ∧
        (t.axis k).cog = (s.axis k).cog) ∧
      (finite32 v = true → 256 ≤ e → e - 256 < (s.axis k).cog.length →
        (t.axis k).cog.getD (e - 256) .zero = normK ((s.axis k).cog.getD (e - 256) .zero).e (real32D v) ∧
        (∀ i, i ≠ e - 256 → (t.axis k).cog.getD i .zero = (s.axis k).cog.getD i .zero) ∧
        (t.axis k).fric = (s.axis k).fric) ∧
      (satCount [real32D v] = 0 → t.regs = s.regs ∧ t.evr = s.evr) ∧ (∀ m, m ≠ k → t.axis m = s.axis m) ∧
      WordsKept (inBlocks [.cle, .prf]) s t ∧ Frame [.regs, .free, .evr, .ctr, .perf, .cle] s t)) ∧
  ((∀ (w : When) (k sec : Nat) (a b : Word) (v : Verdict) (y s1 s2 : Int) (s₀ s : State), s = s₀.advance w →
    s.good .cle = true → s.hasAx k = true → (s.axis k).mism = some (sec, a, b) →
    ∃ t, exec (.refereeVerdict w k v y s1 s2) s₀ = .next t ∧ (t.axis k).mism = none ∧
      EventsFrom s t [(0x4001, [n2w k, n2w sec, a, b, Config.snapNum 0x4001
        (match v with | .pipeA => 0 | .pipeB => 1 | .neither => 2 | .agrees => 3)])] ∧
      t.fld F.CLE_ENG_LOSS_LOSSB = (if v = .pipeA then min F.CLE_ENG_LOSS_LOSSB.top (s.fld F.CLE_ENG_LOSS_LOSSB + 1)
        else s.fld F.CLE_ENG_LOSS_LOSSB) ∧
      t.fld F.CLE_ENG_LOSS_LOSSA = (if v = .pipeB then min F.CLE_ENG_LOSS_LOSSA.top (s.fld F.CLE_ENG_LOSS_LOSSA + 1)
        else s.fld F.CLE_ENG_LOSS_LOSSA) ∧
      t.fld F.CLE_ENG_MISM_NONE = (if v = .neither then min F.CLE_ENG_MISM_NONE.top (s.fld F.CLE_ENG_MISM_NONE + 1)
        else s.fld F.CLE_ENG_MISM_NONE) ∧
      (v = .agrees ∨ v = .neither → t.engMode = s.engMode ∧ ∀ m, m ≠ k → t.axis m = s.axis m) ∧
      WordsKept (inBlocks [.cle, .prf]) s t ∧ Frame [.regs, .evr, .perf, .cle] s t) ∧
  (∀ (w : When) (k : Nat) (v : Verdict) (y s1 s2 : Int) (s₀ s : State), s = s₀.advance w →
    s.good .cle = true → s.hasAx k = true → (s.axis k).mism = none → s.engMode = 1 →
    ∃ t, exec (.refereeVerdict w k v y s1 s2) s₀ = .next t ∧ t.cle.rot = s.cle.rot + 1 ∧
      (v = .agrees → t.cle.axes = s.cle.axes ∧ t.engMode = 1 ∧ t.cle.lossA = s.cle.lossA ∧ t.cle.lossB = s.cle.lossB) ∧
      (v ≠ .agrees → s.fenced 0 = true → t.cle.lossB = some (s.ns, s.pmNow)) ∧
      (v ≠ .agrees → s.fenced 0 = false → t.cle.lossA = some (s.ns, s.pmNow)) ∧
      WordsKept (inBlocks [.cle, .prf]) s t ∧ Frame [.regs, .evr, .perf, .cle] s t) ∧
  (∀ (w : When) (k j : Nat) (r q : Rec) (a : CmpAct) (s₀ s : State), s = s₀.advance w → s.axRec k = some r →
    s.good .fab = true → s.ptRec (moCmpbase r + j) = some q → ptInternal q = true →
    s.cle.acts.find? (fun a => a.axis == k && a.cmp == j && decide (a.due.toNat ≤ s.pmNow.toNat)) = some a →
    ∃ t, exec (.comparatorAction w k j) s₀ = .next t ∧ t.cle.acts = s.cle.acts.erase a ∧ t.cle.axes = s.cle.axes ∧
      (qGet (s.point (moCmpbase r + j)).qual qFORCED = false →
        (t.point (moCmpbase r + j)).value = ptClamp q ((s.point (moCmpbase r + j)).value + 1)) ∧
      (qGet (s.point (moCmpbase r + j)).qual qFORCED = true →
        (t.point (moCmpbase r + j)).value = (s.point (moCmpbase r + j)).value) ∧
      ((t.point (moCmpbase r + j)).value ≠ (s.point (moCmpbase r + j)).value → (t.point (moCmpbase r + j)).pm = a.pm) ∧
      qGet (t.point (moCmpbase r + j)).qual qGOOD = true ∧
      (∀ p, p ≠ moCmpbase r + j → t.point p = s.point p) ∧
      WordsKept (inBlocks [.prf, .tsk]) s t ∧ Frame [.regs, .evr, .fab, .prog, .perf, .arb, .cle] s t))

/-! ### Metering (chapter 9) -/

/-- METERING_CYCLE_END completes (R262, R263, R283): whenever a metering cycle has ended while MTR works, the supply holds
and the check of the manifest at power-up is done, whatever its samples, the command answers a next state: the cycle is
metered, MTR runs, the governor gets the cycle, and with PMM the state is saved. With none ended it leaves everything as
it is. -/
def Obligations.MeteringCycleCompletes : Prop :=
  (∀ (w : When) (cur volt : List (List Int)) (s₀ s : State), s = s₀.advance w → s.mtr.ended.isSome = true →
    s.on .mtr = true → s.pwr.pfail = false → s.pwr.manDone = true →
    ∃ t, exec (.meteringCycleEnd w cur volt) s₀ = .next t ∧ t.mtr.ended = none ∧ t.flag F.MTR_STATUS_RUN = true ∧
      t.gov.fresh = s.mtr.ended.map (·.1) ∧ (s.good .pmm = true → t.mtr.saves = s.mtr.saves + 1) ∧
      WordsKept (inBlocks [.mtr, .gov, .pmc, .pms, .tsk]) s t ∧
      Frame [.regs, .free, .evr, .pm, .man, .prog, .perf, .arb, .mtr, .gov] s t) ∧
  (∀ (w : When) (cur volt : List (List Int)) (s₀ s : State), s = s₀.advance w → s.mtr.ended = none →
    exec (.meteringCycleEnd w cur volt) s₀ = .next s)

/-- METERING_CYCLE_END (R263 to R283): P, Q, S and PF of each enabled group and the RMS value of each channel are those of
the cycle's samples; each energy register takes what its quantity and mode give, modulo 2^96, and a disabled group keeps
what it has; a gap since a start ends with this cycle and shows in each enabled group (R285); the state is saved, and the
governor gets the cycle. The unit that a fraction of an energy falls to is free (assumption 20), and so is what the
resampler interpolates (assumption 18). -/
def Obligations.MeteringCycle : Prop :=
  ∀ (w : When) (cur volt : List (List Int)) (tns : Nat) (pm : Postmark) (s₀ s : State), s = s₀.advance w →
    s.mtr.ended = some (tns, pm) → s.on .mtr = true → s.pwr.pfail = false → s.pwr.manDone = true →
    ∃ t, exec (.meteringCycleEnd w cur volt) s₀ = .next t ∧
      (let samples := (List.range 32).map (fun c => cur.getD c []) ++ (List.range 8).map fun v => volt.getD v []
       let chs := (List.range 40).map fun c => s.chan s.mtr.was 256 samples c
       (∀ g, g < 16 → meEn (s.meRec g) = true →
         t.rd (Reg.MTR_G_P g) = toReal32 (s.groupPqs s.mtr.was 256 chs g).1 ∧ t.rd (Reg.MTR_G_Q g) = toReal32 (s.groupPqs s.mtr.was 256 chs g).2.1 ∧
         t.rd (Reg.MTR_G_S g) = toReal32 (s.groupPqs s.mtr.was 256 chs g).2.2.1 ∧
         t.rd (Reg.MTR_G_PF g) = (if (s.groupPqs s.mtr.was 256 chs g).2.2.1 = 0 then 0
           else toReal32 ((s.groupPqs s.mtr.was 256 chs g).1 / (s.groupPqs s.mtr.was 256 chs g).2.2.1)) ∧
         t.flag (F.MTR_G_STATUS_CREEP g) = (s.groupPqs s.mtr.was 256 chs g).2.2.2 ∧
         (s.mtr.next = none → ∀ i, i < 6 → ∃ f,
           t.mtr.energy.getD (6 * g + i) 0 = (((s.mtr.energy.getD (6 * g + i) 0 : Nat) : Int) + modeAdds (meMode (s.meRec g) i)
             (energyUnits (if meQty (s.meRec g) i = 0 then (s.groupPqs s.mtr.was 256 chs g).1
               else if meQty (s.meRec g) i = 1 then (s.groupPqs s.mtr.was 256 chs g).2.1 else (s.groupPqs s.mtr.was 256 chs g).2.2.1) tns f) % 2 ^ 96).toNat)) ∧
       (∀ c, c < 40 → t.rd (chAddr c) = toReal32 (sqrtQ (meanSq (s.chan s.mtr.was 256 samples c))))) ∧
      (∀ g, g < 16 → meEn (s.meRec g) = false → t.rd (Reg.MTR_G_P g) = s.rd (Reg.MTR_G_P g) ∧
        (s.mtr.next = none → ∀ i, i < 6 → t.mtr.energy.getD (6 * g + i) 0 = s.mtr.energy.getD (6 * g + i) 0)) ∧
      (∀ start hold, s.mtr.gap = some (start, hold) → t.mtr.gap = none ∧
        (∀ g, g < 16 → meEn (s.meRec g) = true → t.rd (Reg.MTR_G_GAPSTART g) = n2w start ∧
          t.rd (Reg.MTR_G_GAPEND g) = n2w (s.rtcOf (pm - 2 ^ 20)) ∧ t.flag (F.MTR_G_STATUS_GAP g) = true ∧
          (hold = true → t.flag (F.MTR_G_STATUS_HOLD g) = true)) ∧
        (let ons := (List.range 16).filter fun g => meEn (s.meRec g)
         ons ≠ [] → EventsFrom s t [(0x5001, [n2w (ons.map (2 ^ ·)).sum, n2w start, n2w (s.rtcOf (pm - 2 ^ 20)), n2w (b2n hold)])])) ∧
      t.mtr.ended = none ∧ t.flag F.MTR_STATUS_RUN = true ∧ t.gov.fresh = some tns ∧
      (s.good .pmm = true → t.mtr.saves = s.mtr.saves + 1) ∧ (s.good .pmm = false → t.pm = s.pm) ∧
      WordsKept (inBlocks [.mtr, .gov, .pmc, .pms, .tsk]) s t ∧
      Frame [.regs, .free, .evr, .pm, .man, .prog, .perf, .arb, .mtr, .gov] s t

/-- METER_TRIM_WRITE and WINDOW_CLEARING_READ (R268, R280): a trim goes into its register, and into force at the next
boundary; a clearing read answers the view, moves the live flags into WINSTAT, where a SIGNED register has none, and
starts the view anew, while the energy stays (R282). PULSE_EMIT and PULSE_WIDTH_END (R293, R294): a pulse of the schedule,
whose due pulses are evenly spaced over the cycle, starts at its postmark when the pin has been low long enough, else it
joins the backlog; a pulse of the backlog starts where none of the schedule falls; every pulse that starts is counted; the
pin falls after WIDTH and stays low for at least WIDTH. That the first pulse of a schedule falls in the cycle's first part
is the model's reading (assumption 62). -/
def Obligations.MeterAccessAndPulses : Prop :=
  ((∀ (w : When) (who : Who) (a : Nat) (v : Word) (s₀ s : State), s = s₀.advance w → trimAddr a = true →
    s.refuse who a v = none → (s.lc = lcMAKER ∨ s.lc = lcSERVICE) →
    ∃ t, exec (.meterTrimWrite w who a v) s₀ = .next t ∧ t.answered ansOK ∧
      t.rd a = (if a % 16 = 8 then n2w (v.bits 23 0) else v) ∧ t.mtr.trims = s.mtr.trims ∧
      RegsKept [a] s t ∧ Frame [.regs, .ctr] s t) ∧
  (∀ (w : When) (who : Who) (a : Nat) (v : Word) (s₀ s : State), s = s₀.advance w → trimAddr a = true →
    s.refuse who a v = none → s.lc ≠ lcMAKER → s.lc ≠ lcSERVICE →
    exec (.meterTrimWrite w who a v) s₀ = .next (s.answer ansBADSTATE)) ∧
  (∀ (w : When) (who : Who) (g i : Nat) (s₀ s : State), s = s₀.advance w → g < 16 → i < 6 →
    s.longBusy = false → s.refuseWordRead who (Reg.MTR_G_WIN g i) = none →
    ∃ t, exec (.windowClearingRead w who g i) s₀ = .next t ∧
      (s.latch.get? (Reg.MTR_G_WIN g i) = none → t.answered ansOK [s.peek (Reg.MTR_G_WIN g i)]) ∧
      (meMode (s.meRec g) i ≠ 0 → t.fld (F.MTR_G_WINSTAT_WRAPCNT g i) = min 255 ((s.view g i).adv / 2 ^ 32) ∧
        t.flag (F.MTR_G_WINSTAT_WRAP g i) = (s.view g i).wrap ∧ t.flag (F.MTR_G_WINSTAT_WRAPSAT g i) = (s.view g i).sat) ∧
      (meMode (s.meRec g) i = 0 → t.rd (Reg.MTR_G_WINSTAT g i) = 0) ∧
      t.view g i = ⟨0, false, false⟩ ∧ (∀ h j, h < 16 → j < 6 → (h ≠ g ∨ j ≠ i) → t.view h j = s.view h j) ∧
      t.mtr.energy = s.mtr.energy ∧ RegsKept [Reg.MTR_G_WINSTAT g i] s t ∧ Frame [.regs, .latch, .ctr, .arb, .mtr] s t)) ∧
  ((∀ (w : When) (p : Nat) (s₀ s : State), s = s₀.advance w → p < 8 → s.on .mtr = true →
    (s.rd (Reg.MTR_PULSE_CFG p)).bit 31 = true → (s.pulse p).high = false → (s.pulse p).readyNs ≤ s.ns →
    (s.pulseSlot (s.pulse p) = true ∨ s.fld (F.MTR_PULSE_BACK_BACK p) ≠ 0) →
    ∃ t, exec (.pulseEmit w p) s₀ = .next t ∧ t.rd (Reg.MTR_PULSE_CNT p) = s.rd (Reg.MTR_PULSE_CNT p) + 1 ∧
      (t.pulse p).high = true ∧ (t.pulse p).width = (s.rd (Reg.MTR_PULSE_CFG p)).bits 19 12 ∧
      (t.pulse p).readyNs = s.ns + 2 * (s.rd (Reg.MTR_PULSE_CFG p)).bits 19 12 * 1000000 ∧
      (t.pulse p).residue = (s.pulse p).residue ∧ (t.pulse p).count = (s.pulse p).count ∧
      (s.pulseSlot (s.pulse p) = true → (t.pulse p).due = (s.pulse p).due - 1 ∧
        t.fld (F.MTR_PULSE_BACK_BACK p) = s.fld (F.MTR_PULSE_BACK_BACK p)) ∧
      (s.pulseSlot (s.pulse p) = false → (t.pulse p).due = (s.pulse p).due ∧
        t.fld (F.MTR_PULSE_BACK_BACK p) = s.fld (F.MTR_PULSE_BACK_BACK p) - 1) ∧
      (∀ q, q ≠ p → t.pulse q = s.pulse q) ∧
      RegsKept [Reg.MTR_PULSE_CNT p, Reg.MTR_PULSE_BACK p] s t ∧ Frame [.regs, .mtr] s t) ∧
  (∀ (w : When) (p : Nat) (s₀ s : State), s = s₀.advance w → p < 8 → s.on .mtr = true →
    (s.rd (Reg.MTR_PULSE_CFG p)).bit 31 = true → ((s.pulse p).high = true ∨ s.ns < (s.pulse p).readyNs) →
    s.pulseSlot (s.pulse p) = true → s.fld (F.MTR_PULSE_BACK_BACK p) < 65535 →
    ∃ t, exec (.pulseEmit w p) s₀ = .next t ∧ t.fld (F.MTR_PULSE_BACK_BACK p) = s.fld (F.MTR_PULSE_BACK_BACK p) + 1 ∧
      (t.pulse p).due = (s.pulse p).due - 1 ∧ (t.pulse p).high = (s.pulse p).high ∧ (∀ q, q ≠ p → t.pulse q = s.pulse q) ∧
      RegsKept [Reg.MTR_PULSE_BACK p] s t ∧ Frame [.regs, .mtr] s t) ∧
  (∀ (n k : Nat) (s : State) (x : Pulse), x.count = n → x.due = n - k → 0 < k → k < n →
    x.base.toNat + 2 ^ 20 ≤ 2 ^ 64 →
    (s.pulseSlot x = true ↔ s.pmNow.toNat = x.base.toNat + k * 2 ^ 20 / n)) ∧
  (∀ (w : When) (p : Nat) (s₀ s : State), s = s₀.advance w → (s.pulse p).over s.ns = true →
    ∃ t, exec (.pulseWidthEnd w p) s₀ = .next t ∧ (t.pulse p).high = false ∧
      (t.pulse p).readyNs = s.ns + (s.pulse p).width * 1000000 ∧
      (t.pulse p).due = (s.pulse p).due ∧ (t.pulse p).residue = (s.pulse p).residue ∧
      (∀ q, q ≠ p → t.pulse q = s.pulse q) ∧ Frame [.mtr] s t))

/-! ### The demand governor (chapter 10) -/

/-- GOVERNOR_EVALUATION (R297, R301, R304 to R306): MODE takes effect; OFF leaves every load and register as it is and
queues nothing; PASS and ACTIVE leave in each load of the feeder and in its registers the state and cause that the
evaluation gives, and show the forecast D, ABOVE and the number of loads held back. Every evaluation writes the governor's
state with the checkpoint of core 0's lane firmware, each load's level, cause and last switchings with it. -/
def Obligations.GovernorEvaluates : Prop :=
  (∀ (w : When) (s₀ s : State), s = s₀.advance w → s.good .mtr = true → s.good .fab = true → s.laneUp = true → s.armed = true →
    s.recs 18 ≠ [] → s.clk.cycle.toNat % 10 = 0 → s.gov.evalCycle ≠ some s.clk.cycle.toNat → s.pwr.pfail = false →
    s.fld F.GOV_CTRL_MODE = 0 →
    ∃ t, exec (.governorEvaluation w) s₀ = .next t ∧ t.gov.mode = 0 ∧ t.gov.queue = [] ∧ t.gov.loads = s.gov.loads ∧
      t.gov.evalCycle = some s.clk.cycle.toNat ∧
      (s.good .pmm = true → ∃ f, t.prog.fwPend = s.prog.fwPend ++ [(f, [])] ∧ f.mode = s.mode ∧ f.gmode = 0 ∧
        f.held = s.gov.loads.map fun e => ⟨e.1, e.2.level, e.2.cause, e.2.below, e.2.onPm, e.2.offPm⟩) ∧
      (s.good .pmm = false → t.prog = s.prog ∧ t.pm = s.pm) ∧ (∀ p, s.govFdrs.all (fun r => !(gvFeeder r == p)) = true → t.fdr p = s.fdr p) ∧
      WordsKept (inBlocks [.pmc, .prf]) s t ∧ Frame [.regs, .pm, .prog, .perf, .arb, .gov] s t) ∧
  (∀ (w : When) (fr : Rec) (s₀ s : State), s = s₀.advance w → s.good .mtr = true → s.good .fab = true → s.laneUp = true →
    s.armed = true → s.clk.cycle.toNat % 10 = 0 → s.gov.evalCycle ≠ some s.clk.cycle.toNat → s.pwr.pfail = false →
    s.fld F.GOV_CTRL_MODE ≠ 0 → s.gov.fresh = none → s.govFdrs = [fr] → gvFeeder fr < 16 →
    (s.govLoads.map fun l => ldOut l.2).Nodup → s.govLoads.length ≤ 4080 →
    ∃ t, exec (.governorEvaluation w) s₀ = .next t ∧ t.gov.mode = s.fld F.GOV_CTRL_MODE ∧
      (let r := s.evaluate (s.fld F.GOV_CTRL_MODE) fr
       t.rd (Reg.GOV_FDR_DF (gvFeeder fr)) = toReal32 r.2 ∧
       t.flag (F.GOV_FDR_STATUS_ABOVE (gvFeeder fr)) = decide (fdLimit fr < r.2) ∧
       t.fld (F.GOV_FDR_STATUS_HELDN (gvFeeder fr)) = (r.1.filter fun e => !(e.cause == 0)).length ∧
       (∀ e ∈ r.1, (t.load (ldOut e.r)).cause = e.cause ∧ t.fld (F.GOV_LD0_CAUSE e.n) = e.cause % 16 ∧
         t.fld (F.GOV_LD0_STATE e.n) = (if e.cause ≠ 0 then 2 else if e.g = 0 then 0 else 1)) ∧
       (∀ p, (∀ e ∈ r.1, ldOut e.r ≠ p) → t.load p = s.load p)) ∧
      (s.good .pmm = true → ∃ f, t.prog.fwPend = s.prog.fwPend ++ [(f, [])] ∧ f.mode = s.mode ∧ f.gmode = t.gov.mode ∧
        f.held = t.gov.loads.map fun e => ⟨e.1, e.2.level, e.2.cause, e.2.below, e.2.onPm, e.2.offPm⟩) ∧
      (s.good .pmm = false → t.prog = s.prog) ∧
      WordsKept (inBlocks [.gov, .pmc, .prf]) s t ∧ Frame [.regs, .free, .evr, .pm, .prog, .perf, .arb, .gov] s t)

/-- What an evaluation does to a load (R301, R304, R305): in PASS a request for less or for as much is granted, one for
more is granted unless MINOFF runs; an inhibit drives to 0 in PASS and ACTIVE; ACTIVE grants no load more than it asks
for. SWITCHING_SEND (R22, R310, R128): the queued switching of a load is sent with the current frank no later than one
cycle before its target to a station that is ONLINE and holds fewer than 16 target postmarks, becomes the level of the
load and leaves the queue; with the frank 0, or to a station with 16 target postmarks ahead, nothing is sent. -/
def Obligations.GrantsAndSwitchings : Prop :=
  ((∀ (s : State) (fr : Rec) (e : EvLoad), e ∈ (s.evaluate 1 fr).1 →
    let inh := match ldInh e.r with | some p => !((s.point p).value == 0) | none => false
    (inh = true → e.g = 0 ∧ e.cause = 6) ∧
    (inh = false → e.req = s.request e.n e.r) ∧
    (inh = false → s.request e.n e.r ≤ s.granted (ldOut e.r) → e.g = s.request e.n e.r ∧ e.cause = 0) ∧
    (inh = false → s.granted (ldOut e.r) < s.request e.n e.r → s.minoffRuns e.r = true →
      e.g = s.granted (ldOut e.r) ∧ e.cause = 5) ∧
    (inh = false → s.granted (ldOut e.r) < s.request e.n e.r → s.minoffRuns e.r = false →
      e.g = s.request e.n e.r ∧ e.cause = 0)) ∧
  (∀ (s : State) (fr : Rec) (e : EvLoad), e ∈ (s.evaluate 2 fr).1 → (e.inh = false → e.g ≤ e.req) ∧
    (e.inh = true → 0 ≤ ldDimmin e.r → 0 ≤ ldGuarlvl e.r → e.g ≤ 0)) ∧
  (∀ (s : State) (mode : Nat) (fr : Rec),
    ((s.evaluate mode fr).1.map (·.n)).Perm ((s.govLoads.filter fun l => gvFeeder l.2 == gvFeeder fr).map Prod.fst))) ∧
  ((∀ (w : When) (n : Nat) (r pr sr : Rec) (q : GSw) (s₀ s : State), s = s₀.advance w →
    s.govLoads.find? (fun l => l.1 == n) = some (n, r) → s.gov.queue.find? (fun q => q.outpt == ldOut r) = some q →
    s.ptRec q.outpt = some pr → s.staRec (ptStation pr) = some sr → s.good .fab = true → s.good .mtr = true →
    s.pms.frMux ≠ 0 → s.pmNow.toNat + 2 ^ 20 ≤ q.target.toNat → s.sendsNow q = true → s.stationTakes q = true →
    ∃ t, exec (.switchingSend w n) s₀ = .next t ∧ (t.load q.outpt).level = q.level ∧
      (q.level = 0 → (t.load q.outpt).offPm = some q.target) ∧
      (q.level ≠ 0 → q.old = 0 → (t.load q.outpt).onPm = some q.target) ∧
      t.gov.queue = s.gov.queue.filter (fun y => !(y.outpt == q.outpt)) ∧ t.gov.past = s.gov.past ++ [q] ∧
      (∃ m ∈ (t.sta (ptStation pr)).out, m.pts = [q.outpt] ∧ m.tpm = q.target ∧ m.tag = t.fab.tag) ∧
      q.target ∈ (t.sta (ptStation pr)).tpms ∧ (∀ p, p ≠ q.outpt → t.load p = s.load p) ∧
      WordsKept (inBlocks [.prf, .eth]) s t ∧ Frame [.regs, .free, .fab, .perf, .arb, .net, .gov] s t) ∧
  (∀ (w : When) (n : Nat) (r pr : Rec) (q : GSw) (s₀ s : State), s = s₀.advance w →
    s.govLoads.find? (fun l => l.1 == n) = some (n, r) → s.gov.queue.find? (fun q => q.outpt == ldOut r) = some q →
    s.ptRec q.outpt = some pr →
    (s.staState (ptStation pr) ≠ saONLINE ∨ 16 ≤ ((s.sta (ptStation pr)).tpms.filter fun t => decide (s.pmNow < t)).length) →
    exec (.switchingSend w n) s₀ = .next s) ∧
  (∀ (w : When) (n : Nat) (s₀ s : State), s = s₀.advance w → s.pms.frMux = 0 → exec (.switchingSend w n) s₀ = .next s) ∧
  (∀ (w : When) (who : Who) (mode : Nat) (s₀ s : State), s = s₀.advance w → mode < 3 →
    s.refuse who Reg.GOV_CTRL (n2w mode) = none →
    ∃ t, exec (.govModeWrite w who mode) s₀ = .next t ∧ t.answered ansOK ∧ t.fld F.GOV_CTRL_MODE = mode ∧
      t.gov.saved = mode ∧ t.gov.mode = s.gov.mode ∧
      (mode ≠ s.fld F.GOV_CTRL_MODE →
        Events s t [(0x6004, [n2w (s.fld F.GOV_CTRL_MODE), n2w mode, n2w who.role.num, n2w who.session])]) ∧
      (mode = s.fld F.GOV_CTRL_MODE → t.evr = s.evr) ∧
      (s.good .pmm = false → t.pm = s.pm) ∧
      RegsKept [Reg.GOV_CTRL, Reg.PMC_JFILL] s t ∧ Frame [.regs, .evr, .pm, .ctr, .perf, .arb, .gov] s t) ∧
  (∀ (w : When) (who : Who) (s₀ s : State), s = s₀.advance w → s.refuse who Reg.GOV_CTRL 3 = none →
    exec (.govModeWrite w who 3) s₀ = .next (s.answer ansBADSTATE)))

/-! ### Lanes and the Postmaster (chapter 11) -/

/-- HEARTBEAT_SEND, HEARTBEAT_TIMEOUT and FAULT_LINE_REPORT (R318, R326 steps 1 and 2, R332, R584): the judged active lane
is fenced, FAILED with its criterion and count, off and no holder, and the spare lane boots in PHASE 1; a heartbeat
timeout is a report with criterion 1; a report during a Postmaster restart is latched, one about a lane that is off does
nothing. Spare tests and the commands of PMS_CTRL (R316, R317, R328, R329): PMS_SPARETEST and SPARE_TEST_START power the
lane that is not active and test it; SPARE_TEST_DONE switches it off, SPARE or FAILED, and notes the moment from which
HOURS count, or, where no lane is available, lets the first lane that passes take over and tests one that fails again 60 s
later; PMS_HANDOVER boots the spare lane with the image; PMS_RECOVER clears NOCOVER of causes 1 and 2. -/
def Obligations.LaneFailure : Prop :=
  ((∀ (w : When) (s₀ s : State), s = s₀.advance w → s.laneUp = true →
    ∃ t, exec (.heartbeatSend w) s₀ = .next t ∧ t.pms.hbNs = s.ns ∧ Frame [.pms] s t) ∧
  (∀ (w : When) (l : Lane) (c : Criterion) (ns : Nat) (pm : Postmark) (s₀ s : State), s = s₀.advance w → s.good .ref = true →
    s.goodN (6 + laneNum l) = true → s.pwr.pfail = false → s.pms.restart = none → s.laneState (laneNum l) = 4 →
    s.pms.change = none → s.retiring = false → s.laneState (otherLane (laneNum l)) ≠ 5 →
    (s.flag F.PMS_STATUS_NOCOVER = false ∨ s.fld F.PMS_STATUS_NOCAUSE ≠ 2) →
    ∃ t, exec (.faultLineReport w l c ns pm) s₀ = .next t ∧
      (c = .heartbeat → s.pms.hbNs + 3000000 ≤ s.ns → exec (.heartbeatTimeout w l ns pm) s₀ = .next t) ∧
      t.laneState (laneNum l) = 5 ∧
      t.fld (F.PMS_LANE_CAUSE (laneNum l - 1)) = critNum c ∧
      t.fld (F.PMS_LANE_FAILS (laneNum l - 1)) =
        min (F.PMS_LANE_FAILS (laneNum l - 1)).top (s.fld (F.PMS_LANE_FAILS (laneNum l - 1)) + 1) ∧
      t.goodN (6 + laneNum l) = false ∧ t.lane = 0 ∧ t.flag F.PMS_STATUS_HOLDER = false ∧ t.pms.noHolderNs = some (s.pms.noHolderNs.getD s.ns) ∧
      t.fld F.PMS_STATUS_PHASE = 1 ∧ t.laneState (otherLane (laneNum l)) = 2 ∧
      t.goodN (6 + otherLane (laneNum l)) = true ∧
      (∃ ch, t.pms.change = some ch ∧ ch.incoming = otherLane (laneNum l) ∧ ch.outgoing = laneNum l ∧ ch.faultPm = pm ∧
        ch.oldFrank = s.rd Reg.PMS_FRANK) ∧
      t.rd Reg.PMS_FRANK = s.rd Reg.PMS_FRANK ∧
      EventsFrom s t [(0x7001, [n2w (laneNum l), n2w (critNum c)] ++ words64 pm)] ∧
      WordsKept (inBlocks [.pms, .mod, .pwr, .pmc, .prf, .fpt, .eth]) s t ∧
      Frame [.regs, .free, .evr, .pm, .prog, .pwr, .pms, .perf, .arb, .net] s t) ∧
  (∀ (w : When) (l : Lane) (ns : Nat) (pm : Postmark) (s₀ s : State), s = s₀.advance w →
    (s.laneState (laneNum l) ≠ 4 ∨ s.pms.hbNs + 3000000 ≤ s.ns →
      exec (.heartbeatTimeout w l ns pm) s₀ = exec (.faultLineReport w l .heartbeat ns pm) s₀) ∧
    (s.laneState (laneNum l) = 4 → s.ns < s.pms.hbNs + 3000000 → exec (.heartbeatTimeout w l ns pm) s₀ = .next s)) ∧
  (∀ (w : When) (l : Lane) (c : Criterion) (ns : Nat) (pm : Postmark) (s₀ s : State), s = s₀.advance w →
    ((s.pwr.pfail = true ∨ s.good .ref = false ∨ s.goodN (6 + laneNum l) = false) →
      exec (.faultLineReport w l c ns pm) s₀ = .next s) ∧
    (s.pwr.pfail = false → s.good .ref = true → s.goodN (6 + laneNum l) = true → s.pms.restart ≠ none →
      ∃ t, exec (.faultLineReport w l c ns pm) s₀ = .next t ∧
        t.pms.latch = s.pms.latch ++ [(laneNum l, critNum c, ns, pm)] ∧ Frame [.pms] s t))) ∧
  ((∀ (w : When) (l : Nat) (s₀ s : State), s = s₀.advance w →
    [1, 2].find? (fun l => s.testIsDue l && s.testable l) = some l → s.good .ref = true →
    s.pms.restart = none → s.pwr.pfail = false → s.drives = true →
    ∃ t, exec (.spareTestStart w) s₀ = .next t ∧ t.laneState l = 1 ∧ t.goodN (6 + l) = true ∧ t.pms.testDue.get? l = none ∧
      t.pms.testEnd.get? l = none ∧ t.lane = s.lane ∧
      WordsKept (fun a => a ∈ [Reg.PMS_LANE (l - 1), Reg.PWR_DOMRUNG, Reg.MOD_DOMAINS] ∨ inBlocks [.prf] a) s t ∧
      Frame [.regs, .free, .pwr, .pms, .perf, .arb] s t) ∧
  (∀ (l : Nat) (s : State), s.testIsDue l = true ↔
    (∃ t, s.pms.testDue.get? l = some t ∧ t ≤ s.ns) ∨ (s.fld F.PMS_SPARECFG_HOURS ≠ 0 ∧ ∃ t, s.pms.testEnd.get? l = some t ∧
      t + s.fld F.PMS_SPARECFG_HOURS * 3600000000000 ≤ s.ns)) ∧
  (∀ (w : When) (l : Lane) (c : Change) (failing : Nat) (s₀ s : State), s = s₀.advance w → s.laneState (laneNum l) = 1 →
    s.pms.change = some c → c.incoming = 0 →
    ∃ t, exec (.spareTestDone w l failing) s₀ = .next t ∧
      (failing = 0 → t.laneState (laneNum l) = 2 ∧ t.goodN (6 + laneNum l) = true ∧
        t.pms.change = some { c with incoming := laneNum l, ready := false }) ∧
      (failing ≠ 0 → t.laneState (laneNum l) = 5 ∧ t.goodN (6 + laneNum l) = false ∧ t.pms.change = some c ∧
        t.pms.testDue.get? (laneNum l) = some (s.ns + 60000000000)) ∧
      WordsKept (fun a => a ∈ [Reg.PMS_LANE (laneNum l - 1), Reg.PWR_DOMRUNG, Reg.MOD_DOMAINS] ∨ inBlocks [.prf] a) s t ∧
      Frame [.regs, .free, .evr, .pwr, .pms, .perf, .arb] s t) ∧
  (∀ (w : When) (l : Lane) (failing : Nat) (s₀ s : State), s = s₀.advance w → s.laneState (laneNum l) = 1 →
    (∀ c, s.pms.change = some c → c.incoming ≠ 0) →
    ∃ t, exec (.spareTestDone w l failing) s₀ = .next t ∧ t.laneState (laneNum l) = (if failing = 0 then 0 else 5) ∧
      t.goodN (6 + laneNum l) = false ∧
      t.pms.testDue.get? (laneNum l) = none ∧ t.pms.testEnd.get? (laneNum l) = some s.ns ∧
      WordsKept (fun a => a ∈ [Reg.PMS_LANE (laneNum l - 1), Reg.PWR_DOMRUNG, Reg.MOD_DOMAINS] ∨ inBlocks [.prf] a) s t ∧
      Frame [.regs, .free, .evr, .pwr, .pms, .perf, .arb] s t) ∧
  (∀ (w : When) (who : Who) (l : Nat) (s₀ s : State), s = s₀.advance w → s.refuse who Reg.PMS_CTRL (pmsCmd 2 0) = none →
    l = (if s.lane = 1 then 2 else 1) →
    (s.pms.change = none → s.fld F.PMS_STATUS_PHASE = 0 → s.testable l = true →
      ∃ t, exec (.pmsSparetest w who) s₀ = .next t ∧ t.answered ansOK ∧ t.laneState l = 1 ∧ t.goodN (6 + l) = true ∧
        WordsKept (fun a => a ∈ [Reg.PMS_LANE (l - 1), Reg.PWR_DOMRUNG, Reg.MOD_DOMAINS] ∨ inBlocks [.prf] a) s t ∧
        Frame [.regs, .free, .pwr, .ctr, .pms, .perf, .arb] s t) ∧
    ((s.pms.change ≠ none ∨ s.fld F.PMS_STATUS_PHASE ≠ 0 ∨ s.testable l = false) →
      exec (.pmsSparetest w who) s₀ = .next (s.answer ansBADSTATE))) ∧
  (∀ (w : When) (who : Who) (img : Nat) (s₀ s : State), s = s₀.advance w → img < 4 →
    s.refuse who Reg.PMS_CTRL (pmsCmd 1 img) = none →
    (s.handoverOk img = true → s.lane ≤ 2 →
      ∃ t c, exec (.pmsHandover w who img) s₀ = .next t ∧ t.answered ansOK ∧ t.laneState (otherLane s.lane) = 2 ∧
        t.goodN (6 + otherLane s.lane) = true ∧ t.pms.change = some c ∧ c.incoming = otherLane s.lane ∧
        c.outgoing = s.lane ∧ c.img = img ∧ t.lane = s.lane ∧ t.laneState s.lane = s.laneState s.lane ∧
        WordsKept (fun a => a ∈ [Reg.PMS_LANE (otherLane s.lane - 1), Reg.PWR_DOMRUNG, Reg.MOD_DOMAINS] ∨ inBlocks [.prf] a) s t ∧
        Frame [.regs, .free, .pwr, .ctr, .pms, .perf, .arb] s t) ∧
    (s.handoverOk img = false → exec (.pmsHandover w who img) s₀ = .next (s.answer ansBADSTATE))) ∧
  (∀ (w : When) (who : Who) (s₀ s : State), s = s₀.advance w → s.refuse who Reg.PMS_CTRL (pmsCmd 3 0) = none →
    ∃ t, exec (.pmsRecover w who) s₀ = .next t ∧ t.answered ansOK ∧
      (s.fld F.PMS_STATUS_NOCAUSE = 1 ∨ s.fld F.PMS_STATUS_NOCAUSE = 2 → t.flag F.PMS_STATUS_NOCOVER = false) ∧
      (s.fld F.PMS_STATUS_NOCAUSE ≠ 1 → s.fld F.PMS_STATUS_NOCAUSE ≠ 2 → t.regs = s.regs) ∧
      (∀ l, l = 1 ∨ l = 2 → s.laneState l = 5 → t.pms.testDue.get? l = some s.ns) ∧
      RegsKept [Reg.PMS_STATUS] s t ∧ Frame [.regs, .ctr, .pms] s t))

/-- LANE_BOOT_DONE (R321 to R327, R329, R331, R341, R532, R535): in a takeover the booted lane gets the frank of the next
epoch, made durable first and given to every stage whose domain runs, becomes ACTIVE, every task resumes idle in the mode
of the lane firmware's checkpoint, PHASE is 0 and the takeover is counted; without an epoch NOCOVER takes cause 4 and no
frank is issued, and without persistent memory the lane waits; in a planned handover the lane is TRACKING in PHASE 2, for
a pair swap in PHASE 3; a lane that failed its ROM check is judged as by a fault line with criterion 2, or waits for a
VERIFIED slot while no image is. Its loads have gone over the trunk. -/
def Obligations.TakeoverEnds : Prop :=
  (∀ (w : When) (c : Change) (e : Nat) (s₀ s : State), s = s₀.advance w → s.pms.change = some c →
    (c.incoming = 1 ∨ c.incoming = 2) → s.laneState c.incoming = 2 → s.pms.restart = none → s.pwr.pfail = false →
    s.pms.romWait = 0 → (s.fld F.PMS_STATUS_PHASE = 1 ∨ (s.fld F.PMS_STATUS_PHASE = 3 ∧ s.pairRole = 1)) → s.nextEpoch = some e →
    s.good .pmm = true → Settled s → s.man.arm = none →
    ∃ t, exec (.laneBootDone w true) s₀ = .next t ∧ t.laneState c.incoming = 4 ∧ t.lane = c.incoming ∧
      t.flag F.PMS_STATUS_HOLDER = true ∧ t.fld F.PMS_STATUS_PHASE = 0 ∧ t.pms.change = none ∧ t.pms.noHolderNs = none ∧
      t.rd Reg.PMS_FRANK = s.frankOf c.incoming e ∧ t.pms.epoch = s.pms.epoch.write e ∧
      t.pms.frMux = (if s.good .net then s.frankOf c.incoming e else s.pms.frMux) ∧
      t.pms.frCle = (if s.good .cle then s.frankOf c.incoming e else s.pms.frCle) ∧
      InRegistry (.lastLane c.incoming) t ∧ (∀ n, n < 64 → (t.task n).phase = .idle ∨
        ((s.taskRec n).isSome = false ∧ (s.task n).ck.isBlank = true)) ∧
      (∀ x, s.prog.fw.use? = some x → t.fld F.TSK_STATUS_MODE = x.2.mode % (F.TSK_STATUS_MODE.top + 1) ∧
        t.fld F.TSK_STATUS_CAUSE = x.2.cause % (F.TSK_STATUS_CAUSE.top + 1) ∧ t.rd Reg.TSK_RESTARTS = x.2.restarts) ∧
      t.fld F.PMS_TOCNT_TAKEOVERS = min F.PMS_TOCNT_TAKEOVERS.top (s.fld F.PMS_TOCNT_TAKEOVERS + 1) ∧
      WordsKept (inBlocks [.mod, .mtr, .prf, .pms, .pmc, .gov, .tsk]) s t ∧
      Frame [.regs, .latch, .evr, .pm, .fab, .prog, .pms, .perf, .arb, .mtr, .gov] s t) ∧
  (∀ (w : When) (c : Change) (s₀ s : State), s = s₀.advance w → s.pms.change = some c →
    (c.incoming = 1 ∨ c.incoming = 2) → s.laneState c.incoming = 2 → s.pms.restart = none → s.pwr.pfail = false →
    s.pms.romWait = 0 → (s.fld F.PMS_STATUS_PHASE = 1 ∨ (s.fld F.PMS_STATUS_PHASE = 3 ∧ s.pairRole = 1)) →
    (s.good .pmm = true → s.nextEpoch = none →
      ∃ t, exec (.laneBootDone w true) s₀ = .next t ∧ t.flag F.PMS_STATUS_NOCOVER = true ∧ t.fld F.PMS_STATUS_NOCAUSE = 4 ∧
        t.pms.change = some { c with ready := true } ∧ RegsKept [Reg.PMS_STATUS] s t ∧
        Frame [.regs, .evr, .pms, .perf, .arb] s t) ∧
    (s.good .pmm = false →
      ∃ t, exec (.laneBootDone w true) s₀ = .next t ∧ t.pms = { s.pms with change := some { c with ready := true } } ∧
        Frame [.pms, .perf, .arb] s t)) ∧
  (∀ (w : When) (c : Change) (s₀ s : State), s = s₀.advance w → s.pms.change = some c →
    (c.incoming = 1 ∨ c.incoming = 2) → s.laneState c.incoming = 2 → s.pms.restart = none → s.pwr.pfail = false →
    s.pms.romWait = 0 → s.fld F.PMS_STATUS_PHASE ≠ 1 → (s.fld F.PMS_STATUS_PHASE = 3 → s.pairRole ≠ 1) →
    ∃ t, exec (.laneBootDone w true) s₀ = .next t ∧ t.laneState c.incoming = 3 ∧
      t.fld F.PMS_STATUS_PHASE = (if s.fld F.PMS_STATUS_PHASE = 3 then 3 else 2) ∧
      t.lane = s.lane ∧ RegsKept [Reg.PMS_STATUS, Reg.PMS_LANE (c.incoming - 1)] s t ∧ Frame [.regs, .perf, .arb] s t) ∧
  (∀ (w : When) (c : Change) (l : Lane) (s₀ s : State), s = s₀.advance w → s.pms.change = some c → c.incoming = laneNum l →
    s.laneState c.incoming = 2 → s.pms.restart = none → s.pwr.pfail = false → s.pms.romWait = 0 →
    (s.imgTable = true → s.good .ref = true → s.goodN (6 + laneNum l) = true →
      exec (.laneBootDone w false) s₀ = .next ((s.bootLoads c.img).laneFault (laneNum l) (critNum .selfTest) s.ns s.pmNow) ∧
      exec (.faultLineReport w l .selfTest s.ns s.pmNow) s₀ =
        .next (s.laneFault (laneNum l) (critNum .selfTest) s.ns s.pmNow)) ∧
    (s.imgTable = false →
      ∃ t, exec (.laneBootDone w false) s₀ = .next t ∧ t.pms = { s.pms with romWait := c.incoming } ∧
        Frame [.pms, .perf, .arb] s t)) ∧
  (∀ (img : Nat) (s t : State), t = s.bootLoads img → Frame [.perf, .arb] s t)

/-- HANDOVER_SWITCH (R329 to R331, R341): at its moment the tracking lane gets a new frank and is ACTIVE in the mode that
the program has, the other is off and SPARE, HANDOVERS rises and PHASE is 0; in a pair swap the module abandons its
cycles, hands them over, withdraws its frank and becomes PARTNER once the partner is ready; the partner becomes ACTIVE
with the block of its grant and a new frank. POSTMASTER_RESTART and POSTMASTER_RESTART_DONE (R332, R528): the restart is
shown and counted, abandons an image verification with ABORTED, and ends with the reports latched meanwhile. -/
def Obligations.HandoverAndRestart : Prop :=
  (∀ (w : When) (c : Change) (e : Nat) (s₀ s : State), s = s₀.advance w → s.pms.restart = none → s.pwr.pfail = false →
    s.laneUp = true → s.handoverDue = true → s.pms.change = some c → s.laneState c.incoming = 3 → s.pairRole ≠ 2 →
    (c.incoming = 1 ∨ c.incoming = 2) → c.outgoing = otherLane c.incoming → (∀ n, (s.task n).phase ≠ .committing) →
    s.nextEpoch = some e → s.pms.epoch.use? ≠ none → s.good .pmm = true → Settled s → s.prog.fwPend = [] →
    ∃ t, exec (.handoverSwitch w) s₀ = .next t ∧ t.laneState c.incoming = 4 ∧ t.lane = c.incoming ∧
      t.laneState c.outgoing = 0 ∧ t.goodN (6 + c.outgoing) = false ∧ t.rd Reg.PMS_FRANK = s.frankOf c.incoming e ∧
      t.pms.epoch = s.pms.epoch.write e ∧ t.pms.change = none ∧ t.fld F.PMS_STATUS_PHASE = 0 ∧
      t.fld F.MOD_IMG_USE_LANE = c.img % 4 ∧ t.fld F.TSK_STATUS_MODE = s.fld F.TSK_STATUS_MODE ∧
      t.fld F.PMS_TOCNT_HANDOVERS = min F.PMS_TOCNT_HANDOVERS.top (s.fld F.PMS_TOCNT_HANDOVERS + 1) ∧
      WordsKept (inBlocks [.mod, .pwr, .pms, .pmc, .mtr, .prf, .tsk]) s t ∧
      Frame [.regs, .latch, .free, .evr, .pm, .prog, .pwr, .pms, .perf, .arb, .mtr, .gov] s t) ∧
  (∀ (w : When) (s₀ s : State), s = s₀.advance w → s.pms.restart = none → s.pwr.pfail = false → s.laneUp = true →
    s.handoverDue = true → s.pms.change = none → s.pms.pair.swap = true → (∀ n, (s.task n).phase ≠ .committing) →
    (s.pms.pair.peerReady = true →
      ∃ t, exec (.handoverSwitch w) s₀ = .next t ∧ t.pairRole = 2 ∧ t.lane = 0 ∧ t.rd Reg.PMS_FRANK = 0 ∧
        (∀ n, (t.task n).phase = .idle) ∧ t.pms.pair.swap = false ∧
        t.pms.pair.again = some (s.rerun.map fun e => Task.toRerun e.1 e.2) ∧
        WordsKept (inBlocks [.pms, .mod, .pwr, .pmc, .prf, .eth]) s t ∧
        Frame [.regs, .free, .evr, .pm, .prog, .pwr, .pms, .perf, .arb, .net] s t) ∧
    (s.pms.pair.peerReady = false → exec (.handoverSwitch w) s₀ = .next s)) ∧
  (∀ (w : When) (c : Change) (b e last x : Nat) (again : List Rerun) (s₀ s : State), s = s₀.advance w →
    s.pms.restart = none → s.pwr.pfail = false → s.swapLane? = some c → (c.incoming = 1 ∨ c.incoming = 2) →
    s.pms.pair.grant = some b → s.pms.pair.again = some again → s.pms.epoch.use? = some (x, last) →
    epochIn (last + 1) b = some e → s.good .pmm = true → Settled s →
    ∃ t, exec (.handoverSwitch w) s₀ = .next t ∧ t.pairRole = 1 ∧ t.laneState c.incoming = 4 ∧ t.lane = c.incoming ∧
      t.rd Reg.PMS_FRANK = s.frankOf c.incoming e ∧ t.pms.epoch = s.pms.epoch.write e ∧ t.pms.change = none ∧
      t.pms.pair.again = none ∧ t.fld F.PMS_STATUS_PHASE = 0 ∧
      t.fld F.PMS_TOCNT_HANDOVERS = min F.PMS_TOCNT_HANDOVERS.top (s.fld F.PMS_TOCNT_HANDOVERS + 1) ∧
      WordsKept (inBlocks [.mod, .mtr, .prf, .pms, .pmc, .gov, .fpt, .tsk]) s t ∧
      Frame [.regs, .latch, .free, .evr, .pm, .fab, .prog, .pms, .perf, .arb, .mtr, .gov] s t) ∧
  (∀ (w : When) (cause : Nat) (s₀ s : State), s = s₀.advance w → s.good .ref = true → s.pms.restart = none →
    s.pwr.pfail = false → 1 ≤ cause → cause ≤ 3 →
    (s.ctr.long = none →
      ∃ t, exec (.postmasterRestart w cause) s₀ = .next t ∧ t.pms.restart = some (cause, s.ns) ∧
        t.fld F.PMS_PMRST_CAUSE = cause ∧
        t.fld F.PMS_PMRST_COUNT = min F.PMS_PMRST_COUNT.top (s.fld F.PMS_PMRST_COUNT + 1) ∧
        RegsKept [Reg.PMS_PMRST] s t ∧ Frame [.regs, .pms] s t) ∧
    (∀ o n r, s.ctr.long = some o → o.work = .imgVerify n r →
      ∃ t, exec (.postmasterRestart w cause) s₀ = .next t ∧ t.pms.restart = some (cause, s.ns) ∧ t.ctr.long = none ∧
        t.ctr.aborted = some (o.kind, o.id, false) ∧ t.flag F.CTR_STATUS_BUSY = false ∧
        (t.rd Reg.CTR_LONGOP).bits 7 0 = ansABORTED ∧
        RegsKept [Reg.PMS_PMRST, Reg.CTR_STATUS, Reg.CTR_LONGOP] s t ∧ Frame [.regs, .evr, .ctr, .pms] s t)) ∧
  (∀ (w : When) (cause since : Nat) (s₀ s : State), s = s₀.advance w → s.pms.restart = some (cause, since) →
    s.good .ref = true → s.pmHashOk (s.fld F.MOD_IMG_USE_PM) = true → s.pms.latch = [] →
    (s.laneUp = false ∨ s.frankAgrees = true) → s.fld F.PMS_STATUS_PHASE ≠ 1 → s.man.arm = none →
    ∃ t, exec (.postmasterRestartDone w) s₀ = .next t ∧ t.pms.restart = none ∧ t.pms.change = s.pms.change ∧
      Events s t [(0x7006, [n2w cause, n2w ((s.ns - since) / 1000), Config.snapNum 0x7006 0])] ∧ Frame [.evr, .pms] s t) ∧
  (∀ (w : When) (cause since l crit ns : Nat) (pm : Postmark) (s₀ s : State), s = s₀.advance w →
    s.pms.restart = some (cause, since) → s.good .ref = true → s.pmHashOk (s.fld F.MOD_IMG_USE_PM) = true →
    s.pms.latch = [(l, crit, ns, pm)] → (l = 1 ∨ l = 2) → s.laneState l = 4 → s.retiring = false →
    (s.laneUp = false ∨ s.frankAgrees = true) → s.pms.change = none → s.laneState (otherLane l) ≠ 5 →
    ∃ t, exec (.postmasterRestartDone w) s₀ = .next t ∧ t.pms.restart = none ∧ t.pms.latch = [] ∧ t.laneState l = 5 ∧
      t.fld F.PMS_STATUS_PHASE = 1 ∧
      WordsKept (inBlocks [.pms, .mod, .pwr, .pmc, .prf, .fpt, .eth]) s t ∧
      Frame [.regs, .free, .evr, .pm, .prog, .pwr, .pms, .perf, .arb, .net] s t)

/-- The lease of a pair and its witness (R334, R336 to R338, R341): requests are numbered and remembered for 40 ms, a good
reply to one of them confirms it and the partner's says its REV, a heard request restarts the silence timer and in a swap
makes the PARTNER boot a lane, a PARTNER asks after 30 ms of silence or when its lane tracks for a swap, and the witness
grants the next epoch block, durable in its own Registry, only after 30 ms of silence or for a swap; a block received
clears NOCOVER of cause 4, and waits behind one that still has epochs. What the lease frames carry is the model's choice
(log 80). The roles of a pair (R334 to R341): SELF_FENCE withdraws the frank from every stage, switches the lanes off and
makes the module FENCED; GRANT_RECEIVED after silence makes the PARTNER ACTIVE with the armed program and the streamed
checkpoints and boots a lane, and in a swap waits for the switch; PAIR_REJOIN makes a FENCED module PARTNER; a PARTNER
writes what is streamed to it through its own Registry; acknowledgements lower LAG; PMS_PAIRJOIN, PMS_PAIRLEAVE and
PMS_PAIRSWAP are the maker's. -/
def Obligations.PairedModules : Prop :=
  ((∀ (w : When) (s₀ s : State), s = s₀.advance w → s.good .ref = true → s.pms.restart = none → s.pairRole = 1 →
    ∃ t, exec (.leaseRequestSend w) s₀ = .next t ∧ t.pms.pair.leaseNo = s.pms.pair.leaseNo + 1 ∧
      (s.pms.pair.leaseNo + 1, s.ns) ∈ t.pms.pair.sent ∧ (∀ e ∈ t.pms.pair.sent, s.ns ≤ e.2 + 40000000) ∧ Frame [.pms] s t) ∧
  (∀ (w : When) (src : LeaseFrom) (n : Nat) (isPartner noGrant ready : Bool) (rev : Word) (e : Nat × Nat) (s₀ s : State),
    s = s₀.advance w → (src = .witness ∨ src = .partner ready rev) → s.good .ref = true → s.pms.restart = none → s.pairRole = 1 →
    s.pms.pair.sent.find? (fun e => e.1 == n && decide (s.ns ≤ e.2 + 40000000)) = some e →
    ∃ t, exec (.leaseReplyReceived w src n isPartner noGrant) s₀ = .next t ∧
      ((src = .partner ready rev → isPartner = true ∧ noGrant = true) →
        (s.pms.pair.confNo < n → t.pms.pair.confNo = n ∧ t.pms.pair.confNs = e.2) ∧
        (n ≤ s.pms.pair.confNo → t.pms.pair.confNo = s.pms.pair.confNo ∧ t.pms.pair.confNs = s.pms.pair.confNs) ∧
        (src = .witness → t.pms.pair.witNs = some s.ns ∧ t.pms.pair.peerRev = s.pms.pair.peerRev ∧ Frame [.pms] s t) ∧
        (src = .partner ready rev → t.pms.pair.peerNs = some s.ns)) ∧
      (src = .partner ready rev → t.pms.pair.peerRev = rev ∧ t.pms.pair.peerReady = (isPartner && ready) ∧
        ((isPartner = false ∨ noGrant = false) → t.pms.pair.confNo = s.pms.pair.confNo ∧
          t.pms.pair.confNs = s.pms.pair.confNs ∧ t.pms.pair.peerNs = s.pms.pair.peerNs)) ∧
      RegsKept [Reg.PMS_STATUS] s t ∧ Frame [.regs, .evr, .pms] s t) ∧
  (∀ (w : When) (src : LeaseFrom) (n : Nat) (isPartner noGrant : Bool) (s₀ s : State), s = s₀.advance w →
    (∀ e ∈ s.pms.pair.sent, e.1 ≠ n ∨ e.2 + 40000000 < s.ns) →
    exec (.leaseReplyReceived w src n isPartner noGrant) s₀ = .next s) ∧
  (∀ (w : When) (n : Nat) (swap : Bool) (rev : Word) (s₀ s : State), s = s₀.advance w → s.good .ref = true →
    s.pms.restart = none → s.pairRole ≠ 2 → s.flag F.PMS_PAIRCFG_WITNESS = true →
    ∃ t, exec (.leaseRequestReceived w ⟨n, swap, rev⟩) s₀ = .next t ∧ t.pms.pair.heardNs = s.ns ∧ Frame [.pms] s t) ∧
  (∀ (w : When) (n : Nat) (swap : Bool) (rev : Word) (s₀ s : State), s = s₀.advance w → s.good .ref = true →
    s.pms.restart = none → s.pairRole = 2 → s.pwr.pfail = false →
    ∃ t, exec (.leaseRequestReceived w ⟨n, swap, rev⟩) s₀ = .next t ∧ t.pms.pair.heardNs = s.ns ∧ t.pms.pair.leaseNo = n ∧
      t.pms.pair.peerRev = rev ∧
      (swap.not = s.pms.change.isNone → RegsKept [Reg.PMS_STATUS] s t ∧ t.pms.change = s.pms.change ∧
        Frame [.regs, .evr, .pms] s t) ∧
      (swap = true → s.pms.change = none → t.fld F.PMS_STATUS_PHASE = 3 ∧ t.pms.pair.grant = none ∧
        (s.laneState 1 ≠ 5 → s.laneState 2 ≠ 5 → ∃ c, t.pms.change = some c ∧ (c.incoming = 1 ∨ c.incoming = 2) ∧
          t.laneState c.incoming = 2 ∧ t.goodN (6 + c.incoming) = true)) ∧
      (swap = false → ∀ c, s.pms.change = some c → t.pms.change = none ∧ t.fld F.PMS_STATUS_PHASE = 0 ∧
        ((c.incoming = 1 ∨ c.incoming = 2) → t.laneState c.incoming = 0 ∧ t.goodN (6 + c.incoming) = false)) ∧
      WordsKept (inBlocks [.pms, .mod, .pwr, .prf]) s t ∧
      Frame [.regs, .free, .evr, .pwr, .pms, .perf, .arb] s t) ∧
  (∀ (w : When) (s₀ s : State), s = s₀.advance w → s.good .ref = true → s.pms.restart = none → s.pairRole = 2 →
    ((s.pms.pair.heardNs + 30000000 ≤ s.ns ∨ (s.swapLane?.isSome = true ∧ s.pms.pair.grant = none)) →
      ∃ t, exec (.grantRequest w) s₀ = .next t ∧ t.pms.pair.asked = true ∧ Frame [.pms] s t) ∧
    (s.ns < s.pms.pair.heardNs + 30000000 → s.swapLane? = none → exec (.grantRequest w) s₀ = .next s)) ∧
  (∀ (w : When) (swap : Bool) (s₀ s : State), s = s₀.advance w → s.good .ref = true → s.pms.restart = none →
    s.flag F.PMS_PAIRCFG_WITNESS = true → s.good .pmm = true → Settled s →
    ((swap = true ∨ s.pms.pair.heardNs + 30000000 ≤ s.ns) →
      ∃ t, exec (.witnessGrant ⟨w, swap⟩) s₀ = .next t ∧ t.pms.pair.granted = s.pms.pair.granted + 1 ∧
        RegsKept [Reg.PMC_JFILL, Reg.PMC_GROUPS_LO, Reg.PMC_GROUPS_HI] s t ∧ Frame [.regs, .pm, .pms, .perf, .arb] s t) ∧
    (swap = false → s.ns < s.pms.pair.heardNs + 30000000 → exec (.witnessGrant ⟨w, swap⟩) s₀ = .next s) ∧
    (∃ t, exec (.epochBlockRequest w) s₀ = .next t ∧ t.pms.pair.granted = s.pms.pair.granted + 1 ∧
      RegsKept [Reg.PMC_JFILL, Reg.PMC_GROUPS_LO, Reg.PMC_GROUPS_HI] s t ∧ Frame [.regs, .pm, .pms, .perf, .arb] s t)) ∧
  (∀ (w : When) (b : Nat) (s₀ s : State), s = s₀.advance w → s.good .ref = true → s.pms.restart = none → s.paired = true →
    (∀ c, s.pms.change = some c → c.ready = false) →
    ∃ t, exec (.epochBlockReceived w b) s₀ = .next t ∧ t.pms.pair.asksBlock = false ∧
      (s.pms.pair.block.isSome = true → s.nextEpoch.isSome = true →
        t.pms.pair.block = s.pms.pair.block ∧ t.pms.pair.more = some b) ∧
      ((s.pms.pair.block = none ∨ s.nextEpoch = none) → t.pms.pair.block = some b ∧ t.pms.pair.more = none) ∧
      (s.fld F.PMS_STATUS_NOCAUSE = 4 → t.flag F.PMS_STATUS_NOCOVER = false) ∧
      RegsKept [Reg.PMS_STATUS] s t ∧ Frame [.regs, .pms] s t)) ∧
  ((∀ (w : When) (s₀ s : State), s = s₀.advance w → s.good .ref = true → s.pairRole = 1 →
    (s.pms.pair.confNs + 60000000 ≤ s.ns →
      ∃ t, exec (.selfFence w) s₀ = .next t ∧ t.pairRole = 3 ∧ t.rd Reg.PMS_FRANK = 0 ∧ t.lane = 0 ∧
        t.flag F.PMS_STATUS_HOLDER = false ∧ t.fld F.PMS_STATUS_PHASE = 0 ∧ t.pms.change = none ∧
        (s.good .net = true → t.pms.frMux = 0) ∧ (s.good .cle = true → t.pms.frCle = 0) ∧
        (s.good .mtr = true → t.pms.frPulse = 0) ∧
        (∀ l, l = 1 ∨ l = 2 → s.laneState l ≠ 5 → t.laneState l = 0 ∧ t.goodN (6 + l) = false) ∧
        t.fld F.PMS_PAIRCNT_FENCES = min F.PMS_PAIRCNT_FENCES.top (s.fld F.PMS_PAIRCNT_FENCES + 1) ∧
        EventsAmong s t [(0x7009, [n2w s.pms.pair.confNo])] ∧
        WordsKept (inBlocks [.pms, .mod, .pwr, .pmc, .prf, .eth]) s t ∧
        Frame [.regs, .free, .evr, .pm, .prog, .pwr, .pms, .perf, .arb, .net] s t) ∧
    (s.ns < s.pms.pair.confNs + 60000000 → exec (.selfFence w) s₀ = .next s)) ∧
  (∀ (w : When) (b : Nat) (s₀ s : State), s = s₀.advance w → s.good .ref = true → s.pms.restart = none → s.pairRole = 2 →
    s.pms.change = none → (s.pms.pair.repl.map Prod.fst).Nodup → s.laneState 1 ≠ 5 → s.laneState 2 ≠ 5 →
    ∃ t c, exec (.grantReceived w b) s₀ = .next t ∧ t.pairRole = 1 ∧ t.pms.pair.block = some b ∧
      t.fld F.PMS_PAIRCNT_GRANTS = min F.PMS_PAIRCNT_GRANTS.top (s.fld F.PMS_PAIRCNT_GRANTS + 1) ∧
      t.fld F.PMS_STATUS_PHASE = 3 ∧ t.pms.change = some c ∧ (c.incoming = 1 ∨ c.incoming = 2) ∧
      t.laneState c.incoming = 2 ∧ t.goodN (6 + c.incoming) = true ∧
      (∀ n k, s.pms.pair.repl.get? n = some k → (t.task n).ck = k) ∧
      (∀ k, s.armedSlot = some k → t.program = s.slotProgram k) ∧
      WordsKept (inBlocks [.pms, .mod, .pwr, .prf, .fpt, .tsk]) s t ∧
      Frame [.regs, .free, .evr, .fab, .prog, .pwr, .pms, .perf, .arb] s t) ∧
  (∀ (w : When) (b : Nat) (s₀ s : State), s = s₀.advance w → s.good .ref = true → s.pms.restart = none →
    s.swapLane?.isSome = true → s.ns < s.pms.pair.heardNs + 30000000 →
    ∃ t, exec (.grantReceived w b) s₀ = .next t ∧ t.pms.pair.grant = some b ∧ t.pms.pair.asked = false ∧ t.pairRole = 2 ∧
      t.fld F.PMS_PAIRCNT_GRANTS = min F.PMS_PAIRCNT_GRANTS.top (s.fld F.PMS_PAIRCNT_GRANTS + 1) ∧
      RegsKept [Reg.PMS_PAIRCNT] s t ∧ Frame [.regs, .pms] s t) ∧
  (∀ (w : When) (s₀ s : State), s = s₀.advance w → s.good .ref = true → s.pms.restart = none → s.pairRole = 3 →
    ∃ t, exec (.pairRejoin w) s₀ = .next t ∧ t.pairRole = 2 ∧ t.fld F.PMS_PAIRSTAT_LAG = 0 ∧ t.pms.pair.heardNs = s.ns ∧
      t.pms.pair.repl = [] ∧ t.lane = 0 ∧ WordsKept (inBlocks [.pms, .mod, .pwr, .pmc, .prf, .eth]) s t ∧
      Frame [.regs, .free, .evr, .pm, .prog, .pwr, .pms, .perf, .arb, .net] s t) ∧
  (∀ (w : When) (s₀ s : State), s = s₀.advance w → s.good .ref = true → s.pairRole = 2 →
    (∀ n q ar rel f d cyc late mx, s.good .pmm = true →
      ∃ t c, exec (.pairStreamReceive w (.checkpoint n q ar rel f d cyc late mx)) s₀ = .next t ∧ Submitted (.repl n c) s t ∧
        c.area = (if ar then 1 else 0) ∧ c.frank = f ∧ c.relpm = rel ∧ c.data = Mem.setCells [] d ∧ c.cyc = cyc ∧ c.late = late ∧
        c.maxexec = mx ∧ RegsKept [Reg.PMC_JFILL] s t ∧ Frame [.regs, .pm, .perf, .arb] s t) ∧
    (∀ on, ∃ t, exec (.pairStreamReceive w (.stations on)) s₀ = .next t ∧ t.pms.pair.online = on ∧ Frame [.pms] s t) ∧
    (∀ ar m c r f rel g h, s.good .pmm = true →
      ∃ t, exec (.pairStreamReceive w (.firmware ar m c r f rel g h)) s₀ = .next t ∧
        Submitted (.replFw ⟨if ar then 1 else 0, m, c, r, f, rel, g, h⟩) s t ∧
        RegsKept [Reg.PMC_JFILL] s t ∧ Frame [.regs, .pm, .perf, .arb] s t) ∧
    (∀ again, (s.swapLane?.isSome = true → ∃ t, exec (.pairStreamReceive w (.handover again)) s₀ = .next t ∧
        t.pms.pair.again = some again ∧ Frame [.pms] s t) ∧
      (s.swapLane? = none → exec (.pairStreamReceive w (.handover again)) s₀ = .next s))) ∧
  (∀ (w : When) (n : Nat) (s₀ s : State), s = s₀.advance w → s.good .ref = true → s.pairRole = 1 →
    ∃ t, exec (.pairStreamAck w n) s₀ = .next t ∧ t.fld F.PMS_PAIRSTAT_LAG = s.fld F.PMS_PAIRSTAT_LAG - n ∧
      t.pairRole = 1 ∧ RegsKept [Reg.PMS_PAIRSTAT] s t ∧ Frame [.regs, .pms] s t) ∧
  (∀ (w : When) (who : Who) (site rev : Word) (active : Bool) (n : Nat) (s₀ s : State), s = s₀.advance w →
    s.refuse who Reg.PMS_CTRL (pmsCmd 4 0) = none → who.role = .maker → s.armed = true → s.rd Reg.MOD_MAN_REV = rev →
    s.armedSlot = some n → n2w (s.manSite n) = site → s.rd Reg.PMS_PAIR_PEER ≠ 0 → s.rd Reg.PMS_PAIR_WIT ≠ 0 →
    s.paired = false →
    ∃ t, exec (.pmsPairjoin w who site rev true true active) s₀ = .next t ∧ t.answered ansOK ∧
      t.pairRole = (if active then 2 else 1) ∧ t.pms.pair.peerRev = rev ∧
      WordsKept (inBlocks [.pms, .mod, .pwr, .pmc, .prf, .eth]) s t ∧
      Frame [.regs, .free, .evr, .pm, .prog, .pwr, .ctr, .pms, .perf, .arb, .net] s t) ∧
  (∀ (w : When) (who : Who) (s₀ s : State), s = s₀.advance w → s.refuse who Reg.PMS_CTRL (pmsCmd 5 0) = none →
    who.role = .maker →
    ∃ t, exec (.pmsPairleave w who) s₀ = .next t ∧ t.answered ansOK ∧
      t.pairRole = (if s.flag F.PMS_PAIRCFG_WITNESS then 4 else 0) ∧ t.pms.pair.swap = false ∧
      ((s.pms.change = none ∨ s.pairRole ≠ 2) → t.pms.change = s.pms.change ∧
        RegsKept [Reg.PMS_PAIRSTAT, Reg.PMS_STATUS] s t ∧ Frame [.regs, .evr, .ctr, .pms] s t) ∧
      (∀ c, s.pms.change = some c → s.pairRole = 2 → t.pms.change = none ∧ t.fld F.PMS_STATUS_PHASE = 0 ∧
        ((c.incoming = 1 ∨ c.incoming = 2) → t.laneState c.incoming = 0 ∧ t.goodN (6 + c.incoming) = false)) ∧
      WordsKept (inBlocks [.pms, .mod, .pwr, .prf]) s t ∧
      Frame [.regs, .free, .evr, .pwr, .ctr, .pms, .perf, .arb] s t) ∧
  (∀ (w : When) (who : Who) (s₀ s : State), s = s₀.advance w → s.refuse who Reg.PMS_CTRL (pmsCmd 6 0) = none →
    who.role = .maker → s.pairRole = 1 → s.recent s.pms.pair.witNs = true → s.recent s.pms.pair.peerNs = true →
    (∀ n, s.pms.pair.lagNs = some n → s.ns < n + 1000000000) → s.pms.change = none → s.laneUp = true →
    ∃ t, exec (.pmsPairswap w who) s₀ = .next t ∧ t.answered ansOK ∧ t.pms.pair.swap = true ∧
      t.fld F.PMS_STATUS_PHASE = 3 ∧ RegsKept [Reg.PMS_STATUS] s t ∧ Frame [.regs, .ctr, .pms] s t) ∧
  (∀ (w : When) (who : Who) (site rev : Word) (a b c : Bool) (s₀ s : State), s = s₀.advance w → who.role ≠ .maker →
    (∃ x, s.refuse who Reg.PMS_CTRL (pmsCmd 4 0) = some x ∧ exec (.pmsPairjoin w who site rev a b c) s₀ = .next (s.answer x)) ∧
    (∃ x, s.refuse who Reg.PMS_CTRL (pmsCmd 5 0) = some x ∧ exec (.pmsPairleave w who) s₀ = .next (s.answer x)) ∧
    (∃ x, s.refuse who Reg.PMS_CTRL (pmsCmd 6 0) = some x ∧ exec (.pmsPairswap w who) s₀ = .next (s.answer x))))

/-! ### The safety unit (chapter 12) -/

/-- Safety inputs (SAFETY_INPUT_FILTER, TEST_PULSE_WINDOW, DISCREPANCY_TIMER_EXPIRY, DEGRADED_TIMER_EXPIRY; R350 to R353):
a pair takes the state that its two accepted contacts give it, each in demand or not by USE (R348); a contact that fails
two windows or has not moved in DISC is faulty, so that the pair is degraded for DEGTIME or, without one, FAULT with the
unit LATCHED by cause 4; the end of the degraded time latches with cause 1. The degraded and latch record follows through
the Registry (R354). The outputs follow R355 each time. Output faults (OUTPUT_OFF_PULSE, OUTPUT_READBACK_MISMATCH; R355):
a failed off-pulse, or a readback that differs from the command, in START too, shows its kind, latches the unit with cause
2 and takes every output off; a pulse that passes changes nothing. -/
def Obligations.SafetyInputsAndFaults : Prop :=
  ((∀ (w : When) (n : Nat) (ca cb a b : Bool) (s₀ s : State), s = s₀.advance w → s.safReads = true → n < 16 → s.pairState n ≠ 0 →
    a = inDemand (sfUse (s.sfPairRec n)) false ca → b = inDemand (sfUse (s.sfPairRec n)) true cb →
    ∃ t, exec (.safetyInputFilter w n ca cb) s₀ = .next t ∧
      t.pairState n = (pairNext (s.ns + sfDisc (s.sfPairRec n) * 10000000) (s.pairState n) (s.safPair n) a b).1 ∧ (t.safPair n).da = a ∧ (t.safPair n).db = b ∧
      (s.pairState n = 1 → a = true → b = true → t.pairState n = 2) ∧
      (s.pairState n = 2 → a = false → b = false → t.pairState n = 1) ∧
      (s.pairState n = 1 ∨ s.pairState n = 2 → a ≠ b → t.pairState n = 3 ∧
        (t.safPair n).disc = some (s.ns + sfDisc (s.sfPairRec n) * 10000000)) ∧
      (∀ m, m < 16 → m ≠ n → t.pairState m = s.pairState m ∧ t.safPair m = s.safPair m) ∧ t.safState = s.safState ∧
      OutputsFollow t ∧ WordsKept (inBlocks [.saf, .tsk]) s t ∧ Frame [.regs, .evr, .prog, .saf] s t) ∧
  (∀ (w : When) (n : Nat) (cb : Bool) (s₀ s : State), s = s₀.advance w → s.safReads = true → n < 16 →
    sfUse (s.sfPairRec n) ∈ [1, 2] → (s.pairState n = 1 ∨ s.pairState n = 2) →
    (if cb then (s.safPair n).missB else (s.safPair n).missA) = 1 →
    ∃ t, exec (.testPulseWindow w n cb false) s₀ = .next t ∧
      (sfDegtime (s.sfPairRec n) ≠ 0 → t.pairState n = (if cb then 5 else 4) ∧
        (t.safPair n).degNs = some (s.ns + sfDegtime (s.sfPairRec n) * 60000000000) ∧ t.safState = s.safState ∧
        Submitted (.latch (s.fld F.SAF_STATUS_LCAUSE) t.degraded) s t) ∧
      (sfDegtime (s.sfPairRec n) = 0 → t.pairState n = 6 ∧ (s.safState ≠ 0 → s.safState ≠ 5 →
        t.safState = 5 ∧ t.fld F.SAF_STATUS_LCAUSE = 4 ∧ OutputsOff t ∧
        Submitted (.latch 4 t.degraded) s t)) ∧
      OutputsFollow t ∧ WordsKept (inBlocks [.saf, .tsk, .pmc]) s t ∧
      Frame [.regs, .evr, .pm, .prog, .perf, .arb, .saf] s t) ∧
  (∀ (w : When) (n : Nat) (cb : Bool) (s₀ s : State), s = s₀.advance w → s.safReads = true → n < 16 →
    sfUse (s.sfPairRec n) ∈ [1, 2] →
    ∃ t, exec (.testPulseWindow w n cb true) s₀ = .next t ∧ t.pairState n = s.pairState n ∧
      (if cb then (t.safPair n).missB else (t.safPair n).missA) = 0 ∧ OutputsFollow t ∧
      WordsKept (inBlocks [.saf, .tsk]) s t ∧ Frame [.regs, .evr, .prog, .saf] s t) ∧
  (∀ (w : When) (n : Nat) (s₀ s : State), s = s₀.advance w → s.safReads = true → n < 16 → s.pairState n = 3 →
    s.ranOut (s.safPair n).disc = true → (s.safPair n).ra = false →
    ∃ t, exec (.discrepancyTimerExpiry w n) s₀ = .next t ∧ (t.safPair n).disc = none ∧
      t.pairState n = (if sfDegtime (s.sfPairRec n) = 0 then 6 else 4) ∧ OutputsFollow t ∧
      WordsKept (inBlocks [.saf, .tsk, .pmc]) s t ∧
      Frame [.regs, .evr, .pm, .prog, .perf, .arb, .saf] s t) ∧
  (∀ (w : When) (n : Nat) (s₀ s : State), s = s₀.advance w → s.safReads = true → n < 16 →
    (s.pairState n = 4 ∨ s.pairState n = 5) → s.ranOut (s.safPair n).degNs = true → s.safState ≠ 0 → s.safState ≠ 5 →
    ∃ t, exec (.degradedTimerExpiry w n) s₀ = .next t ∧ t.safState = 5 ∧ t.fld F.SAF_STATUS_LCAUSE = 1 ∧ OutputsOff t ∧
      t.pairState n = s.pairState n ∧ EventsFrom s t [(0x8006, [n2w n])] ∧
      WordsKept (inBlocks [.saf, .tsk, .pmc]) s t ∧
      Frame [.regs, .evr, .pm, .prog, .perf, .arb, .saf] s t)) ∧
  ((∀ (w : When) (o : Nat) (s₀ s : State), s = s₀.advance w → s.safReads = true → o < 8 →
    s.flag (F.SAF_OUT_ON o) = true → s.safState ≠ 0 → s.safState ≠ 5 →
    ∃ t, exec (.outputOffPulse w o false) s₀ = .next t ∧ t.fld (F.SAF_OUT_FAULT o) = 3 ∧ t.safState = 5 ∧
      t.fld F.SAF_STATUS_LCAUSE = 2 ∧ OutputsOff t ∧ EventsFrom s t [(0x8007, [n2w o, 3])] ∧
      WordsKept (inBlocks [.saf, .tsk, .pmc]) s t ∧
      Frame [.regs, .evr, .pm, .prog, .perf, .arb, .saf] s t) ∧
  (∀ (w : When) (o : Nat) (s₀ s : State), s = s₀.advance w → exec (.outputOffPulse w o true) s₀ = .next s) ∧
  (∀ (w : When) (o : Nat) (s₀ s : State), s = s₀.advance w → s.safRuns = true → o < 8 → s.safState ≠ 0 → s.safState ≠ 5 →
    ∃ t, exec (.outputReadbackMismatch w o) s₀ = .next t ∧
      t.fld (F.SAF_OUT_FAULT o) = (if s.flag (F.SAF_OUT_ON o) then 1 else 2) ∧ t.safState = 5 ∧
      t.fld F.SAF_STATUS_LCAUSE = 2 ∧ OutputsOff t ∧
      EventsFrom s t [(0x8007, [n2w o, if s.flag (F.SAF_OUT_ON o) then 1 else 2])] ∧
      WordsKept (inBlocks [.saf, .tsk, .pmc]) s t ∧
      Frame [.regs, .evr, .pm, .prog, .perf, .arb, .saf] s t))

/-- Seal switches and the timers of the functions (SEAL_SWITCH_CHANGE, CLOSE_RUN_END, CLEAR_TIME_EXPIRY,
STOGRP_DELAY_EXPIRY, THERMO_MIN_TIME_EXPIRY; R357, R358, R365, R366). The unit's own diagnostics and start
(SAFETY_START_DONE, SAFETY_DIAGNOSTIC_RUN, SAFETY_SUPPLY_FAULT, SAFETY_WATCHDOG_EXPIRY; R364, R365, R372, R373): the first
state after START by the list of R365, LATCHED with its cause after a failed test, a supply fault or a failed diagnostic,
which START does not undo, and every output off when the watchdog or a supply that falls after PFAIL cuts them. -/
def Obligations.SafetySealsAndDiagnostics : Prop :=
  ((∀ (w : When) (sw : BitVec 8) (s₀ s : State), s = s₀.advance w → s.safReads = true → s.fld F.SAF_SEAL_SW ≠ sw.toNat →
    ∃ t, exec (.sealSwitchChange w sw) s₀ = .next t ∧ t.fld F.SAF_SEAL_SW = sw.toNat ∧ t.flag F.SAF_SEAL_MOVED = true ∧
      t.safState = (if s.safState = 5 then 5 else if sw.getLsbD 0 = false then 0
        else if s.fld F.SAF_STATUS_LCAUSE ≠ 0 then 5 else if s.saf.stored = [] then 2 else 3) ∧
      OutputsOff t ∧ EventsFrom s t [(0x8008, [n2w (s.fld F.SAF_SEAL_SW), n2w sw.toNat])] ∧
      (t.safState = 5 → s.safState ≠ 5 → Submitted (.latch (s.fld F.SAF_STATUS_LCAUSE) t.degraded) s t) ∧
      WordsKept (inBlocks [.saf, .tsk, .pmc]) s t ∧ Frame [.regs, .evr, .pm, .prog, .perf, .arb, .saf] s t) ∧
  (∀ (w : When) (f : Nat) (s₀ s : State), s = s₀.advance w → s.funcTimer f 3 = true → s.ranOut (s.safFunc f).run = true →
    s.funcState f ≠ 1 →
    ∃ t, exec (.closeRunEnd w f) s₀ = .next t ∧ (t.safFunc f).run = none ∧ OutputsFollow t ∧
      WordsKept (inBlocks [.saf, .tsk]) s t ∧ Frame [.regs, .evr, .prog, .saf] s t) ∧
  (∀ (w : When) (f : Nat) (s₀ s : State), s = s₀.advance w → s.funcTimer f 3 = true → s.ranOut (s.safFunc f).wait = true →
    s.funcState f = 3 → s.safState = 4 → s.seal (2 + sfGroup (s.sfFuncRec f)) = true → s.permits (s.sfFuncRec f) = true →
    ∃ t, exec (.clearTimeExpiry w f) s₀ = .next t ∧ t.funcState f = 1 ∧ (t.safFunc f).wait = none ∧
      EventsFrom s t [(0x800B, [n2w f, 1])] ∧ OutputsFollow t ∧
      WordsKept (inBlocks [.saf, .tsk]) s t ∧ Frame [.regs, .evr, .prog, .saf] s t) ∧
  (∀ (w : When) (f : Nat) (s₀ s : State), s = s₀.advance w → s.funcTimer f 5 = true → s.ranOut (s.safFunc f).wait = true →
    s.funcState f = 4 →
    ∃ t, exec (.stogrpDelayExpiry w f) s₀ = .next t ∧ t.funcState f ≠ 4 ∧
      t.fld (F.SAF_FUNC_TRIPS f) = min (F.SAF_FUNC_TRIPS f).top (s.fld (F.SAF_FUNC_TRIPS f) + 1) ∧ OutputsFollow t ∧
      WordsKept (inBlocks [.saf, .tsk]) s t ∧ Frame [.regs, .evr, .prog, .saf] s t) ∧
  (∀ (w : When) (f : Nat) (s₀ s : State), s = s₀.advance w → s.funcTimer f 7 = true → s.ranOut (s.safFunc f).wait = true →
    s.funcState f ≠ 1 →
    ∃ t, exec (.thermoMinTimeExpiry w f) s₀ = .next t ∧ (t.safFunc f).wait = none ∧ OutputsFollow t ∧
      WordsKept (inBlocks [.saf, .tsk]) s t ∧ Frame [.regs, .evr, .prog, .saf] s t)) ∧
  ((∀ (w : When) (r : SafStart) (s₀ s : State), s = s₀.advance w → s.safRuns = true → s.saf.inStart = true → s.safState = 1 → s.saf.wdog = false →
    s.saf.latch.get (7, []) = (0, []) → r.testsOk = true →
    ∃ t, exec (.safetyStartDone w r) s₀ = .next t ∧ t.fld F.SAF_SEAL_SW = r.seals.toNat ∧
      t.safState = (if r.seals.getLsbD 0 = false then 0 else if s.saf.stored = [] then 2
        else if s.safConfirmed = false ∨ s.flag F.SAF_SEAL_MOVED = true then 3 else 4) ∧
      OutputsFollow t ∧ WordsKept (inBlocks [.saf, .tsk]) s t ∧ Frame [.regs, .evr, .prog, .saf] s t) ∧
  (∀ (w : When) (r : SafStart) (s₀ s : State), s = s₀.advance w → s.safRuns = true → s.saf.inStart = true → s.safState = 1 →
    r.testsOk = false → (∀ e ∈ (s.saf.latch.get (7, [])).2, e.1 < 16) →
    ∃ t, exec (.safetyStartDone w r) s₀ = .next t ∧ t.safState = (if r.seals.getLsbD 0 then 5 else 0) ∧
      t.fld F.SAF_STATUS_LCAUSE = 3 ∧ OutputsOff t ∧
      WordsKept (inBlocks [.saf, .tsk, .pmc]) s t ∧
      Frame [.regs, .free, .evr, .pm, .prog, .perf, .arb, .saf] s t) ∧
  (∀ (w : When) (r : SafStart) (s₀ s : State), s = s₀.advance w → s.safRuns = true → s.saf.inStart = true → s.safState = 5 →
    s.saf.wdog = false → s.saf.latch.get (7, []) = (0, []) → r.testsOk = true →
    ∃ t, exec (.safetyStartDone w r) s₀ = .next t ∧ t.safState = 5 ∧ t.saf.inStart = false ∧ OutputsOff t ∧
      t.fld F.SAF_STATUS_LCAUSE = s.fld F.SAF_STATUS_LCAUSE ∧
      WordsKept (inBlocks [.saf, .tsk]) s t ∧ Frame [.regs, .evr, .prog, .saf] s t) ∧
  (∀ (w : When) (d : Diag) (s₀ s : State), s = s₀.advance w → s.safRuns = true →
    (∃ t, exec (.safetyDiagnosticRun w d true) s₀ = .next t ∧ d ∈ t.saf.passed ∧ Frame [.saf] s t) ∧
    (s.safState ≠ 0 → s.safState ≠ 5 →
      ∃ t, exec (.safetyDiagnosticRun w d false) s₀ = .next t ∧ t.safState = 5 ∧ t.fld F.SAF_STATUS_LCAUSE = 3 ∧
        OutputsOff t ∧ EventsFrom s t [(0x800A, [Config.snapNum 0x800A (Diag.code d)])] ∧
        WordsKept (inBlocks [.saf, .tsk, .pmc]) s t ∧ Frame [.regs, .evr, .pm, .prog, .perf, .arb, .saf] s t)) ∧
  (∀ (w : When) (mv : Nat) (rails : Bool) (s₀ s : State), s = s₀.advance w → 16000 ≤ mv → mv ≤ 34000 → rails = false →
    exec (.safetySupplyFault ⟨w, mv, rails⟩) s₀ = .next s) ∧
  (∀ (w : When) (mv : Nat) (rails : Bool) (s₀ s : State), s = s₀.advance w → s.safRuns = true → mv < 16000 → s.pwr.pfail = true →
    ∃ t, exec (.safetySupplyFault ⟨w, mv, rails⟩) s₀ = .next t ∧ OutputsOff t ∧ t.safState = s.safState ∧ t.saf.cut = true ∧
      WordsKept (inBlocks [.saf, .tsk]) s t ∧ Frame [.regs, .evr, .prog, .saf] s t) ∧
  (∀ (w : When) (mv : Nat) (rails : Bool) (s₀ s : State), s = s₀.advance w → s.safRuns = true → s.safState ≠ 0 → s.safState ≠ 5 →
    (34000 < mv ∨ rails = true ∧ 16000 ≤ mv ∨ mv < 16000 ∧ s.pwr.pfail = false) →
    ∃ t, exec (.safetySupplyFault ⟨w, mv, rails⟩) s₀ = .next t ∧ OutputsOff t ∧ t.safState = 5 ∧ t.fld F.SAF_STATUS_LCAUSE = 6 ∧
      EventsFrom s t [(0x800A, [Config.snapNum 0x800A 6])] ∧
      WordsKept (inBlocks [.saf, .tsk, .pmc]) s t ∧
      Frame [.regs, .evr, .pm, .prog, .perf, .arb, .saf] s t) ∧
  (∀ (w : When) (s₀ s : State), s = s₀.advance w → s.safRuns = true →
    ∃ t, exec (.safetyWatchdogExpiry w) s₀ = .next t ∧ OutputsOff t ∧ t.saf.stopped = true ∧ t.saf.wdog = true ∧
      t.safState = s.safState ∧ WordsKept (inBlocks [.saf, .tsk]) s t ∧ Frame [.regs, .evr, .prog, .saf] s t))

/-- Confirm and clear (SAF_CONFIRM_WRITE, CONFIRM_LOCKOUT_EXPIRY, SAF_CLEAR_PAIR, SAF_CLEAR_LATCH; R368 to R370): the
installer's confirm is long operation 6, and BADSTATE while it is locked out; CLEAR ends a degraded mode or the latch
where R370 allows it, and leaves the unit UNCONF, or OFF or NOPARAM where these apply. PAIR 15 names the latch where that
may end, else the pair 15, which is the model's choice (log 81). -/
def Obligations.SafetyConfirmAndClear : Prop :=
  (∀ (w : When) (who : Who) (v : Word) (s₀ s : State), s = s₀.advance w → s.refuse who Reg.SAF_CONFIRM v = none →
    (who.role = .installer → s.confirmLocked = false → s.safReads = true →
      ∃ t, exec (.safConfirmWrite w who v) s₀ = .next t ∧ t.answered ansOK ∧ LongStarted 6 who s t ∧
        t.ctr.long.map (·.work) = some (.safConfirm v) ∧ RegsKept [Reg.CTR_STATUS] s t ∧ Frame [.regs, .ctr] s t) ∧
    (who.role = .installer → (s.confirmLocked = true ∨ s.safReads = false) →
      exec (.safConfirmWrite w who v) s₀ = .next (s.answer ansBADSTATE))) ∧
  (∀ (w : When) (s₀ s : State), s = s₀.advance w →
    ∃ t, exec (.confirmLockoutExpiry w) s₀ = .next t ∧ t.confirmLocked = s.confirmLocked ∧
      (s.confirmLocked = false → t.saf.lockNs = none) ∧ Frame [.saf] s t) ∧
  (∀ (w : When) (who : Who) (n : Nat) (s₀ s : State), s = s₀.advance w → n < 16 → (n = 15 → s.mayClearLatch = false) →
    s.refuse who Reg.SAF_CTRL (n2w (n * 256 + 1)) = none → s.safReads = true →
    (s.mayClearPair n = true →
      ∃ t, exec (.safClearPair w who n) s₀ = .next t ∧ t.answered ansOK ∧
        t.pairState n = (if (s.safPair n).da then 2 else 1) ∧ (t.safPair n).degNs = none ∧ t.safState = s.safState ∧
        OutputsFollow t ∧ EventsAmong s t [(0x8009, [n2w n, n2w who.role.num, n2w who.session])] ∧
        WordsKept (inBlocks [.saf, .tsk, .pmc]) s t ∧
        Frame [.regs, .evr, .pm, .prog, .ctr, .perf, .arb, .saf] s t) ∧
    (s.mayClearPair n = false → exec (.safClearPair w who n) s₀ = .next (s.answer ansBADSTATE))) ∧
  (∀ (w : When) (who : Who) (s₀ s : State), s = s₀.advance w → s.refuse who Reg.SAF_CTRL 0xF01 = none → s.safReads = true →
    (s.mayClearLatch = true →
      ∃ t, exec (.safClearLatch w who) s₀ = .next t ∧ t.answered ansOK ∧ t.fld F.SAF_STATUS_LCAUSE = 0 ∧
        t.safState = (if s.seal 0 = false then 0 else if s.saf.stored = [] then 2 else 3) ∧ OutputsOff t ∧
        EventsAmong s t [(0x8009, [15, n2w who.role.num, n2w who.session])] ∧
        WordsKept (inBlocks [.saf, .tsk, .pmc]) s t ∧
        Frame [.regs, .evr, .pm, .prog, .ctr, .perf, .arb, .saf] s t) ∧
    (s.mayClearLatch = false → s.mayClearPair 15 = false → exec (.safClearLatch w who) s₀ = .next (s.answer ansBADSTATE)))

/-! ### The Registry and persistent memory (chapter 13) -/

/-- REGISTRY_GROUP_SUBMIT, REGISTRY_GROUP_DURABLE and REGISTRY_APPLY (R380 to R384): a group enters the journal when it
has room and waits otherwise, one larger than R380 allows writes nothing; it becomes durable in order, and only then do
reads return its bytes, and only then does a record that the module keeps (R392, R395, R594) take its new value; applying
it moves the bytes home and changes no read. -/
def Obligations.RegistryGroups : Prop :=
  (∀ (w : When) (rank : Nat) (cells : List CellWrite) (s₀ s : State), s = s₀.advance w → s.good .pmm = true →
    groupOk cells = true → groupOutside cells = none → rank < 8 → s.pm.waiting = [] →
    s.pm.fill + entryLen cells.length (cellBytes cells).length ≤ journalSize →
    ∃ t, exec (.registryGroupSubmit w rank cells) s₀ = .next t ∧
      t.pm = { s.pm with
        journal := s.pm.journal ++
          [⟨s.nextGroup, cells.length, (cellBytes cells).length, s.pm.next, .bytes (cellBytes cells), false⟩]
        next := (s.pm.next + entryLen cells.length (cellBytes cells).length) % journalSize } ∧
      (∀ o, t.pm.read o = s.pm.read o) ∧
      t.arb = s.arb.ask (s.rd Reg.ARB_STARVLIM).toNat (trunkClock s.ns) rank 0
        (entryLen cells.length (cellBytes cells).length + (cellBytes cells).length) .store ∧
      RegsKept [Reg.PMC_JFILL] s t ∧ Frame [.regs, .pm, .perf, .arb] s t) ∧
  (∀ (w : When) (rank : Nat) (cells : List CellWrite) (s₀ s : State), s = s₀.advance w → s.good .pmm = true →
    groupOk cells = true → groupOutside cells = none → rank < 8 →
    (s.pm.waiting ≠ [] ∨ journalSize < s.pm.fill + entryLen cells.length (cellBytes cells).length) →
    ∃ t, exec (.registryGroupSubmit w rank cells) s₀ = .next t ∧
      t.pm = { s.pm with waiting := s.pm.waiting ++
        [⟨rank, 0, cells.length, (cellBytes cells).length, .bytes (cellBytes cells)⟩] } ∧
      (∀ o, t.pm.read o = s.pm.read o) ∧ Frame [.pm] s t) ∧
  (∀ (w : When) (rank : Nat) (cells : List CellWrite) (s₀ s : State), s = s₀.advance w → groupOutside cells = none →
    (64 < cells.length ∨ 4096 < (cellBytes cells).length) → exec (.registryGroupSubmit w rank cells) s₀ = .next s) ∧
  (∀ (w : When) (pre post : List JEntry) (e : JEntry) (cs : List (Nat × Byte)) (s₀ s : State), s = s₀.advance w →
    s.good .pmm = true → s.pm.journal = pre ++ e :: post → (∀ x ∈ pre, x.durable = true) → e.durable = false →
    (∀ x ∈ post, x.durable = false) → e.load = .bytes cs →
    ∃ t, exec (.registryGroupDurable w) s₀ = .next t ∧
      t.pm = { s.pm with journal := pre ++ { e with durable := true } :: post } ∧
      t.rd Reg.PMC_GROUPS_LO = BitVec.ofNat 32 e.seq ∧ t.rd Reg.PMC_GROUPS_HI = BitVec.ofNat 32 (e.seq / 2 ^ 32) ∧
      (∀ o, t.pm.read o = (e.byte? o).getD (s.pm.read o)) ∧
      RegsKept [Reg.PMC_GROUPS_LO, Reg.PMC_GROUPS_HI] s t ∧ Frame [.regs, .pm] s t) ∧
  (∀ (w : When) (pre post : List JEntry) (e : JEntry) (s₀ s : State), s = s₀.advance w →
    s.good .pmm = true → s.pm.journal = pre ++ e :: post → (∀ x ∈ pre, x.durable = true) → e.durable = false →
    (∀ n, e.load ≠ .header n) →
    ∃ t, exec (.registryGroupDurable w) s₀ = .next t ∧ t.pm.journal = pre ++ { e with durable := true } :: post ∧
      (∀ v, e.load = .energy v → t.pm.energy = v :: s.pm.energy.filter fun x => !(x.slot == v.slot)) ∧
      (∀ c x, e.load = .clock c x → t.clk.saved = s.clk.saved.write (c, x)) ∧
      (∀ n, e.load = .epoch n → t.pms.epoch = s.pms.epoch.write n) ∧
      (∀ n, e.load = .lastLane n → t.pms.lastLane = s.pms.lastLane.write n) ∧
      (∀ ws, e.load = .slots ws → t.man.slots = s.man.slots.write ws) ∧
      (∀ n, e.load = .level n → t.pm.level = s.pm.level.write n) ∧
      (∀ n, e.load = .evrNext n → t.evr.saved = s.evr.saved.write n) ∧
      (∀ v, e.load = .confirmed v → t.saf.confirmed = s.saf.confirmed.write v) ∧
      (∀ c d, e.load = .latch c d → t.saf.latch = s.saf.latch.write (c, d)) ∧
      (∀ n c, e.load = .repl n c → t.pms.pair.repl.get? n = some ((s.pms.pair.repl.getD n .empty).write c)) ∧
      (∀ f, e.load = .replFw f → t.prog.fw = s.prog.fw.write f) ∧
      (∀ n, e.load = .block n → t.pms.pair.granted = n) ∧
      (∀ a v, e.load = .counters [(a, v)] → t.pm.words.get? a = some v) ∧
      (∀ n v, e.load = .mirror [(n, v)] → t.pm.mirror.get? n = some v) ∧
      (∀ m, e.load = .backup m → t.pwr.backup = m) ∧
      (∀ cks ws, e.load = .switch_ cks ws → t.man.slots = s.man.slots.write ws) ∧
      (∀ n k c ws, e.load = .switch_ [(n, c)] ws → s.prog.tasks.get? n = some k →
        t.prog.tasks.get? n = some { k with ck := k.ck.write c }) ∧
      RegsKept [Reg.PMC_GROUPS_LO, Reg.PMC_GROUPS_HI] s t ∧ Frame [.regs, .evr, .clk, .pm, .man, .prog, .pwr, .pms, .saf] s t) ∧
  (∀ (w : When) (pre post : List JEntry) (e : JEntry) (f : Fw) (snap : List Word) (rest : List (Fw × List Word)) (s₀ s : State),
    s = s₀.advance w → s.good .pmm = true → s.pm.journal = pre ++ e :: post → (∀ x ∈ pre, x.durable = true) →
    e.durable = false → e.load = .header 64 → s.prog.fwPend = (f, snap) :: rest →
    ∃ t, exec (.registryGroupDurable w) s₀ = .next t ∧ t.prog.fw = s.prog.fw.write f ∧ t.prog.fwPend = rest ∧
      (snap ≠ [] → Events s t [(0x3001, snap)]) ∧ (snap = [] → t.evr = s.evr) ∧
      RegsKept [Reg.PMC_GROUPS_LO, Reg.PMC_GROUPS_HI] s t ∧ Frame [.regs, .evr, .pm, .prog] s t) ∧
  (∀ (w : When) (e : JEntry) (rest : List JEntry) (cs : List (Nat × Byte)) (s₀ s : State), s = s₀.advance w →
    s.good .pmm = true → s.pm.journal = e :: rest → e.durable = true → e.load = .bytes cs → s.pm.waiting = [] →
    ∃ t, exec (.registryApply w) s₀ = .next t ∧ t.pm.journal = rest ∧ t.pm.waiting = [] ∧
      (∀ o, (e.byte? o).isSome = true → Mem.byte t.pm.home o = (e.byte? o).getD 0) ∧
      (∀ o, e.byte? o = none → Mem.byte t.pm.home o = Mem.byte s.pm.home o) ∧
      (∀ o, t.pm.read o = s.pm.read o) ∧
      RegsKept [Reg.PMC_JFILL] s t ∧ Frame [.regs, .pm] s t)

/-- SCRUB_PASS and PROTECT_LEVEL_WRITE with its end (R396, R399, R400): corrected and uncorrectable errors are counted,
the cell of an uncorrectable one is kept and recorded, and the record that holds its word is invalid; a block-protect
change runs as long operation 7, a lowering by another role than the maker is DENIED, and the level takes effect and is
recorded at the operation's end. The twin records of R390 and R391: which copy is used, where a new one is written, and
that the new one is in use. The arbiter's grants (R405 to R407, R410), STARVATION_COUNT, PERF_SNAPSHOT and
PERF_SNAPSHOT_DONE (R410, R416, R417): a grant goes to the lowest rank number among the eligible requests, within it to
the requester whose turn comes first, moves at most 256 bytes and leaves its requester the parked owner, whose request on
an idle trunk goes first (DEDUCED, log 55); the longest wait is kept and a wait beyond ARB_STARVLIM is counted; a snapshot
copies the counters of every good unit and stores its postmark, and shows VALID 0 for a unit that is not good; SNAPCNT
then rises by 1. -/
def Obligations.StorageUpkeep : Prop :=
  ((∀ (w : When) (corrected : Nat) (bad : List Nat) (s₀ s : State), s = s₀.advance w → s.good .pmm = true →
    (∀ o ∈ bad, o < 2 ^ 32) →
    ∃ t, exec (.scrubPass w corrected bad) s₀ = .next t ∧
      t.fld F.PMC_ECC_CORR = min F.PMC_ECC_CORR.top (s.fld F.PMC_ECC_CORR + corrected) ∧
      t.fld F.PMC_ECC_UNCORR = min F.PMC_ECC_UNCORR.top (s.fld F.PMC_ECC_UNCORR + bad.length) ∧
      t.rd Reg.PMC_SCRUB = s.rd Reg.PMC_SCRUB + 1 ∧
      (∀ x, x ∈ t.pm.bad ↔ (x ∈ s.pm.bad ∨ ∃ o ∈ bad, x = o / 8 * 8)) ∧
      (∀ o, bad.getLast? = some o → t.fld F.PMC_ECCADDR_CELL = o / 64 ∧ t.flag F.PMC_STATUS_ECCFLT = true) ∧
      (∃ vs : List Word, vs.length = bad.length ∧
        Events s t ((bad.zip vs).map fun x => (0x9004, [n2w (x.1 / 64 * 64), x.2]))) ∧
      (∀ o, t.pm.read o = s.pm.read o) ∧
      (∀ o ∈ bad, regionOf o = .energy → ∀ v ∈ t.pm.energy, v.slot ≠ (o - 0x70000000) / 4096) ∧
      (∀ o ∈ bad, regionOf o = .system → RecKind.level.holds 0 (o / 8 * 8) = true → ∀ n c, t.pm.level.a ≠ .valid n c) ∧
      RegsKept [Reg.PMC_ECC, Reg.PMC_ECCADDR, Reg.PMC_STATUS, Reg.PMC_SCRUB] s t ∧
      Frame [.regs, .free, .evr, .clk, .pm, .man, .prog, .pms, .perf, .arb, .saf, .keys] s t) ∧
  (∀ (w : When) (who : Who) (level : Nat) (s₀ s : State), s = s₀.advance w → level < 4 →
    s.refuse who Reg.PMC_PROTCTL (n2w level) = none →
    (level < s.fld F.PMC_STATUS_LEVEL → who.role = .maker) →
    (level = 3 → s.mode = 0 ∧ s.fld (F.PMS_LANE_STATE (if s.lane = 1 then 1 else 0)) ∈ [0, 1, 5]) →
    ∃ t, exec (.protectLevelWrite w who level) s₀ = .next t ∧ t.answered ansOK ∧ LongStarted 7 who s t ∧
      (t.ctr.long.map (·.work)) = some (.protect level) ∧ t.flag F.PMC_STATUS_PROTBUSY = true ∧
      t.fld F.PMC_STATUS_LEVEL = s.fld F.PMC_STATUS_LEVEL ∧
      RegsKept [Reg.PMC_STATUS, Reg.CTR_STATUS] s t ∧ Frame [.regs, .ctr] s t) ∧
  (∀ (w : When) (who : Who) (level : Nat) (s₀ s : State), s = s₀.advance w →
    level < s.fld F.PMC_STATUS_LEVEL → who.role ≠ .maker →
    ∃ x, s.refuse who Reg.PMC_PROTCTL (n2w level) = some x ∧ exec (.protectLevelWrite w who level) s₀ = .next (s.answer x)) ∧
  (∀ (w : When) (o : LongOp) (level : Nat) (s₀ s : State), s = s₀.advance w → s.good .ref = true →
    s.pwr.pfail = false → s.pms.restart = none → s.ctr.long = some o → o.work = .protect level → o.kind = 7 → level < 4 →
    s.good .pmm = true → Settled s →
    ∃ t, exec (.longOperationEnd w) s₀ = .next t ∧ t.ctr.long = none ∧ t.flag F.CTR_STATUS_BUSY = false ∧
      t.fld F.PMC_STATUS_LEVEL = level ∧ t.flag F.PMC_STATUS_PROTBUSY = false ∧ t.pm.level = s.pm.level.write level ∧
      EventsFrom s t [(0x9002, [n2w (s.fld F.PMC_STATUS_LEVEL), n2w level, n2w o.role, n2w o.session])] ∧
      RegsKept [Reg.PMC_STATUS, Reg.CTR_STATUS, Reg.CTR_LONGOP, Reg.PMC_JFILL, Reg.PMC_GROUPS_LO, Reg.PMC_GROUPS_HI] s t ∧
      Frame [.regs, .evr, .pm, .ctr, .perf, .arb] s t)) ∧
  ((∀ (n m : Nat) (c d : Nat) (t : Twin Nat), t.a = .valid n c → t.b = .valid m d → n < m →
    t.use? = some (m, d) ∧ (∀ x, (t.write x).a = .valid (m + 1) x ∧ (t.write x).b = t.b)) ∧
  (∀ (n m : Nat) (c d : Nat) (t : Twin Nat), t.a = .valid n c → t.b = .valid m d → m ≤ n →
    t.use? = some (n, c) ∧ (∀ x, (t.write x).b = .valid (n + 1) x ∧ (t.write x).a = t.a)) ∧
  (∀ (t : Twin Nat), (∀ n c, t.a ≠ .valid n c) → (∀ n c, t.b ≠ .valid n c) →
    t.use? = none ∧ ∀ x, (t.write x).a = .valid 1 x ∧ (t.write x).b = t.b) ∧
  (∀ (t : Twin Nat) (x : Nat), (t.write x).use? = some (t.nextSeq, x)) ∧
  (∀ (s : State) (t : Twin Nat), s.recRec 0x9010 = none → s.recRec 0x9011 = none → s.evr.buf.length < 960 →
    (t.conflict = true → (s.resolveTwin t).flag F.PMC_STATUS_TWIN = true ∧
      (s.resolveTwin t).fld F.PMC_TWIN_CONFL = min F.PMC_TWIN_CONFL.top (s.fld F.PMC_TWIN_CONFL + 1) ∧
      ∃ snap, (s.resolveTwin t).lastEvent = some (0x9010, snap)) ∧
    (t.lost = true → (s.resolveTwin t).fld F.PMC_TWIN_LOST = min F.PMC_TWIN_LOST.top (s.fld F.PMC_TWIN_LOST + 1) ∧
      ∃ snap, (s.resolveTwin t).lastEvent = some (0x9011, snap)) ∧
    (t.conflict = false → t.lost = false → s.resolveTwin t = s))) ∧
  ((∀ (a : Arb) (d b : Nat) (r : TReq), a.choose = some (d, b, r) → r ∈ a.reqs ∧ a.readyAt r ≤ b ∧ d ≤ b ∧ b ≤ d + 1 ∧
    (∀ q ∈ a.reqs, d ≤ a.readyAt q) ∧
    (∀ q ∈ a.reqs, a.eligible d q = true → (r.rank ≤ q.rank ∧ (r.rank = q.rank → a.turn r ≤ a.turn q)) ∨
      (b = d ∧ a.owns r = true))) ∧
  (∀ (a : Arb) (lim b : Nat) (r : TReq), (a.grant lim b r).owner = some (r.rank, r.who) ∧
    (a.grant lim b r).last.get? r.rank = some r.who ∧ b ≤ (a.grant lim b r).free ∧ (a.grant lim b r).free ≤ b + 16 ∧
    (a.reqs = [r] → (a.grant lim b r).reqs =
      (if r.bytes ≤ 256 then [] else [{ r with bytes := r.bytes - 256, since := b + 16 }])) ∧
    (a.grant lim b r).waits.getD r.rank 0 = max (b - r.since) (a.waits.getD r.rank 0) ∧
    (a.grant lim b r).starves.getD r.rank 0 = a.starves.getD r.rank 0 + b2n (decide (lim < b - r.since))) ∧
  (∀ (w : When) (rank wait : Nat) (s₀ s : State), s = s₀.advance w → s.good .pmm = true → rank < 8 → wait < 2 ^ 32 →
    ∃ t, exec (.starvationCount w rank wait) s₀ = .next t ∧
      (t.rd (Reg.ARB_RANK_WAIT rank)).toNat = max (s.rd (Reg.ARB_RANK_WAIT rank)).toNat wait ∧
      ((s.rd Reg.ARB_STARVLIM).toNat < wait →
        (t.rd (Reg.ARB_RANK_STARVE rank)).toNat = min 0xFFFFFFFF ((s.rd (Reg.ARB_RANK_STARVE rank)).toNat + 1)) ∧
      (wait ≤ (s.rd Reg.ARB_STARVLIM).toNat → t.rd (Reg.ARB_RANK_STARVE rank) = s.rd (Reg.ARB_RANK_STARVE rank)) ∧
      RegsKept [Reg.ARB_RANK_WAIT rank, Reg.ARB_RANK_STARVE rank] s t ∧ Frame [.regs] s t) ∧
  (∀ (w : When) (who : Who) (s₀ s : State), s = s₀.advance w → s.refuse who Reg.PRF_CTRL 1 = none →
    s.flag F.PRF_STATUS_SNAPBUSY = false →
    ∃ t, exec (.perfSnapshot w who) s₀ = .next t ∧ t.answered ansOK ∧ t.flag F.PRF_STATUS_SNAPBUSY = true ∧
      t.rdPair Reg.PRF_SNAPPM_LO Reg.PRF_SNAPPM_HI = s.pmNow.toNat ∧
      (∀ u, u < 4 → s.goodN (perfDom u) = true → t.fld (F.PRF_U_STATUS_VALID u) = 1 ∧
        t.rdPair (Reg.PRF_U_CYC_LO u) (Reg.PRF_U_CYC_HI u) =
          (s.ns - s.perf.start.getD u 0) * perfMHz u / 1000 % 2 ^ 64 ∧
        ∀ i, i < 8 →
          t.rdPair (Reg.PRF_U_CNT_LO u i) (Reg.PRF_U_CNT_HI u i) = s.perfCollect.perf.cnt.getD (8 * u + i) 0 % 2 ^ 64 ∧
          (s.arbNow.counts = [] → perfHidden u ((s.rd (Reg.PRF_U_CFG u i)).bits 7 0) = false →
            t.rdPair (Reg.PRF_U_CNT_LO u i) (Reg.PRF_U_CNT_HI u i) = s.perf.cnt.getD (8 * u + i) 0 % 2 ^ 64)) ∧
      (∀ u, u < 4 → s.goodN (perfDom u) = false → t.fld (F.PRF_U_STATUS_VALID u) = 0 ∧
        t.rd (Reg.PRF_U_CYC_LO u) = s.rd (Reg.PRF_U_CYC_LO u) ∧
        ∀ i, i < 8 → t.rd (Reg.PRF_U_CNT_LO u i) = s.rd (Reg.PRF_U_CNT_LO u i)) ∧
      WordsKept (inBlocks [.prf]) s t ∧ Frame [.regs, .free, .ctr, .perf, .arb] s t) ∧
  (∀ (w : When) (who : Who) (s₀ s : State), s = s₀.advance w → s.refuse who Reg.PRF_CTRL 1 = none →
    s.flag F.PRF_STATUS_SNAPBUSY = true → exec (.perfSnapshot w who) s₀ = .next (s.answer ansOK)) ∧
  (∀ (w : When) (s₀ s : State), s = s₀.advance w → s.flag F.PRF_STATUS_SNAPBUSY = true →
    ∃ t, exec (.perfSnapshotDone w) s₀ = .next t ∧ t.flag F.PRF_STATUS_SNAPBUSY = false ∧
      t.fld F.PRF_STATUS_SNAPCNT = (s.fld F.PRF_STATUS_SNAPCNT + 1) % (F.PRF_STATUS_SNAPCNT.top + 1) ∧
      RegsKept [Reg.PRF_STATUS] s t ∧ Frame [.regs] s t))

/-! ### Port groups (chapter 15) -/

/-- CAN_FRAME_RECEIVED and CAN_FRAME_SENT (R430, R432 to R438): a received frame counts, and the first matching element's
object takes its identifier, length, data and postmark, or hands it to its mailbag; a remote frame and a frame without an
element are discarded; of the pending objects the one with the lowest identifier goes onto the line, unless it holds an
output segment of another frank, which is discarded, counted and recorded in its place (R22 to R24); a frame that
completes is counted, one that loses arbitration waits again. How far an error moves the error counters, and a good frame
after it, is the model's choice (log 77). -/
def Obligations.CanFrames : Prop :=
  (∀ (w : When) (g o : Nat) (fr : CanFrame) (s₀ s : State), s = s₀.advance w → s.portLive g useCAN = true →
    (s.portRuns g = true ∨ s.portState g = psRESTRICTED) → fr.err = none → fr.remote = false →
    (fr.fdf = true → cmFDFR (s.portRec g) = true) → (s.can g).filter fr = some o → o < (s.can g).objs.length →
    objMB ((s.can g).objs.getD o .off) = false →
    ∃ t x, exec (.canFrameReceived w g fr) s₀ = .next t ∧ t.rd (Reg.FPT_PG_RXCNT g) = s.rd (Reg.FPT_PG_RXCNT g) + 1 ∧
      (t.can g).objs = (s.can g).objs.set o x ∧ x.id = n2w fr.id ∧ x.dlc = fr.dlc ∧ x.pm = fr.pm ∧
      x.data = padTo 64 (fr.data.take (min (canLens.getD fr.dlc 64) (if fr.fdf then 64 else 8))) ∧
      x.flag obFRESH = !(s.good .fab) ∧ x.flag obOVERRUN = ((s.can g).objs.getD o .off).flag obFRESH ∧
      (x.flag obOVERRUN = true →
        (t.rd (Reg.FPT_PG_LOST g)).toNat = min 0xFFFFFFFF ((s.rd (Reg.FPT_PG_LOST g)).toNat + 1)) ∧
      (x.flag obOVERRUN = false → t.rd (Reg.FPT_PG_LOST g) = s.rd (Reg.FPT_PG_LOST g) ∧ t.evr = s.evr) ∧
      (s.portState g ≠ psRESTRICTED → s.canRec g ≤ 127 → t.canRec g = s.canRec g - 1) ∧
      (s.portState g ≠ psRESTRICTED → 127 < s.canRec g → 119 ≤ t.canRec g ∧ t.canRec g ≤ 127) ∧
      (s.portState g = psRESTRICTED → t.canRec g = s.canRec g) ∧ t.canTec g = s.canTec g ∧
      (∀ h, h ≠ g → t.can h = s.can h) ∧
      RegsKept [Reg.FPT_PG_RXCNT g, Reg.FPT_PG_CANERR g, Reg.FPT_PG_CANSTAT g, Reg.FPT_PG_LOST g] s t ∧
      Frame [.regs, .free, .evr, .net] s t) ∧
  (∀ (w : When) (g o : Nat) (fr : CanFrame) (r : Rec) (s₀ s : State), s = s₀.advance w → s.portLive g useCAN = true →
    (s.portRuns g = true ∨ s.portState g = psRESTRICTED) → fr.err = none → fr.remote = false →
    (fr.fdf = true → cmFDFR (s.portRec g) = true) → (s.can g).filter fr = some o →
    let x := (s.can g).objs.getD o .off
    let n := min (canLens.getD fr.dlc 64) (if fr.fdf then 64 else 8)
    let h := (s.rd (Reg.MBG_HEAD (objMbNum x))).toNat
    objMB x = true → x.flag obFRESH = false → s.mbRec (objMbNum x) = some r → h < mbEntries r →
    s.rd (Reg.MBG_HEAD (objMbNum x)) ≠ s.rd (Reg.MBG_TAIL (objMbNum x)) → n ≤ mbBufsz r → fr.data.length = n →
    deOwn (s.desc r h) = true → (deBuf (s.desc r h) + n ≤ mbRing r ∨ mbRing r + 16 * mbEntries r ≤ deBuf (s.desc r h)) →
    ∃ t, exec (.canFrameReceived w g fr) s₀ = .next t ∧ t.rd (Reg.FPT_PG_RXCNT g) = s.rd (Reg.FPT_PG_RXCNT g) + 1 ∧
      t.sramBytes (deBuf (s.desc r h)) n = fr.data ∧ deOwn (t.desc r h) = false ∧ deLen (t.desc r h) = n ∧
      dePm (t.desc r h) = fr.pm.toNat ∧
      (t.rd (Reg.MBG_HEAD (objMbNum x))).toNat = (h + 1) % mbEntries r ∧
      t.rd (Reg.MBG_CNT (objMbNum x)) = s.rd (Reg.MBG_CNT (objMbNum x)) + 1 ∧
      (∀ a, (a < mbRing r + 16 * h ∨ mbRing r + 16 * h + 16 ≤ a) →
        (a < deBuf (s.desc r h) ∨ deBuf (s.desc r h) + n ≤ a) → Mem.byte t.net.sram a = Mem.byte s.net.sram a) ∧
      WordsKept (inBlocks [.fpt, .eth, .tsk]) s t ∧ Frame [.regs, .free, .evr, .prog, .net, .perf, .arb] s t) ∧
  (∀ (w : When) (g : Nat) (fr : CanFrame) (s₀ s : State), s = s₀.advance w → s.portLive g useCAN = true →
    (s.portRuns g = true ∨ s.portState g = psRESTRICTED) →
    (fr.err = none → fr.remote = true → exec (.canFrameReceived w g fr) s₀ = .next s) ∧
    (fr.err = none → fr.remote = false → (fr.fdf = true → cmFDFR (s.portRec g) = true) → (s.can g).filter fr = none →
      ∃ t, exec (.canFrameReceived w g fr) s₀ = .next t ∧ t.rd (Reg.FPT_PG_RXCNT g) = s.rd (Reg.FPT_PG_RXCNT g) + 1 ∧
        RegsKept [Reg.FPT_PG_RXCNT g, Reg.FPT_PG_CANERR g, Reg.FPT_PG_CANSTAT g] s t ∧ Frame [.regs, .free] s t) ∧
    (∀ e, fr.err = some e →
      ∃ t, exec (.canFrameReceived w g fr) s₀ = .next t ∧
        (s.portState g ≠ psRESTRICTED → t.canRec g = min 255 (s.canRec g + 1)) ∧
        (s.portState g = psRESTRICTED → t.canRec g = s.canRec g) ∧
        RegsKept [Reg.FPT_PG_CANERR g, Reg.FPT_PG_CANSTAT g] s t ∧ Frame [.regs] s t)) ∧
  (∀ (w : When) (g o : Nat) (x : CanObj) (pm : Postmark) (s₀ s : State), s = s₀.advance w → s.canMayStart g = true →
    (s.can g).cur = none → (∀ y ∈ (s.can g).objs, objMB y = false) → (s.can g).Sends o x →
    (segOutput x.data = false ∨ segFrank x.data = s.pms.frMux) →
    exec (.canFrameSent w ⟨g, .sof pm⟩) s₀ = .next (s.setCan g { s.can g with cur := some (o, pm) })) ∧
  (∀ (w : When) (g o d : Nat) (pm : Postmark) (x : CanObj) (s₀ s : State), s = s₀.advance w → s.good .net = true →
    s.portUse g = useCAN → g < 24 → (s.can g).cur = some (o, pm) → (s.can g).objs[o]? = some x → objMB x = false →
    ∃ t y, exec (.canFrameSent w ⟨g, .sent d⟩) s₀ = .next t ∧ t.rd (Reg.FPT_PG_TXCNT g) = s.rd (Reg.FPT_PG_TXCNT g) + 1 ∧
      (t.can g).cur = none ∧ (t.can g).objs = (s.can g).objs.set o y ∧ y.pm = pm ∧ y.id = x.id ∧
      (s.portState g ≠ psRESTRICTED → t.canTec g = s.canTec g - 1) ∧
      ((s.can g).segs.getD o [] = [] → y.flag obTXWAIT = false ∧ y.flag obTXSENT = true ∧ y.data = x.data) ∧
      (∀ k b rest, (s.can g).segs.getD o [] = (k, b) :: rest →
        y.flag obTXWAIT = true ∧ y.data = padTo 64 b ∧ (t.can g).segs.getD o [] = rest) ∧
      RegsKept [Reg.FPT_PG_TXCNT g, Reg.FPT_PG_CANERR g, Reg.FPT_PG_CANSTAT g] s t ∧ Frame [.regs, .fab, .net] s t) ∧
  (∀ (w : When) (g o d : Nat) (pm : Postmark) (x : CanObj) (r : Rec) (q : TxD) (s₀ s : State), s = s₀.advance w →
    s.good .net = true → s.portUse g = useCAN → g < 24 → (s.can g).cur = some (o, pm) → (s.can g).objs[o]? = some x →
    objMB x = true → s.mbRec (objMbNum x) = some r → (s.mb (objMbNum x)).tx = [q] →
    ∃ t, exec (.canFrameSent w ⟨g, .sent d⟩) s₀ = .next t ∧ t.rd (Reg.FPT_PG_TXCNT g) = s.rd (Reg.FPT_PG_TXCNT g) + 1 ∧
      (t.can g).cur = none ∧ (t.mb (objMbNum x)).tx = [] ∧ deOwn (t.desc r q.idx) = false ∧
      Rec.u16 (t.desc r q.idx) 4 / 2 ^ 11 = mbOK ∧
      t.rd (Reg.MBG_CNT (objMbNum x)) = s.rd (Reg.MBG_CNT (objMbNum x)) + 1 ∧
      (∀ a, (a < mbRing r + 16 * q.idx ∨ mbRing r + 16 * q.idx + 16 ≤ a) → Mem.byte t.net.sram a = Mem.byte s.net.sram a) ∧
      RegsKept [Reg.FPT_PG_TXCNT g, Reg.FPT_PG_CANERR g, Reg.FPT_PG_CANSTAT g, Reg.MBG_HEAD (objMbNum x),
        Reg.MBG_CNT (objMbNum x)] s t ∧ Frame [.regs, .net] s t) ∧
  (∀ (w : When) (g o : Nat) (pm : Postmark) (x : CanObj) (s₀ s : State), s = s₀.advance w → s.good .net = true →
    s.portUse g = useCAN → g < 24 → (s.can g).cur = some (o, pm) → (s.can g).objs[o]? = some x → objMB x = false →
    exec (.canFrameSent w ⟨g, .lost⟩) s₀ = .next (s.setCan g { s.can g with cur := none }) ∧
    (∀ e, (e.code ≠ 6 ∨ s.canTec g < 128) → s.portState g ≠ psRESTRICTED →
      (s.canTec g + 8 ≤ 255 → ∃ t, exec (.canFrameSent w ⟨g, .error e⟩) s₀ = .next t ∧ t.canTec g = s.canTec g + 8 ∧
        (t.can g).cur = none ∧ (t.can g).objs = (s.can g).objs ∧
        RegsKept [Reg.FPT_PG_CANERR g, Reg.FPT_PG_CANSTAT g] s t ∧ Frame [.regs, .net] s t) ∧
      (255 < s.canTec g + 8 → (∀ y ∈ (s.can g).objs, objMB y = false) →
        ∃ t, exec (.canFrameSent w ⟨g, .error e⟩) s₀ = .next t ∧ t.portState g = psBUSOFF ∧ (t.can g).cur = none ∧
          (∀ y ∈ (t.can g).objs, objTX y = true → y.flag obTXWAIT = false) ∧
          RegsKept [Reg.FPT_PG_STATUS g, Reg.FPT_PG_CANERR g, Reg.FPT_PG_CANSTAT g] s t ∧
          Frame [.regs, .free, .evr, .net] s t))) ∧
  (∀ (w : When) (g o n : Nat) (pm : Postmark) (x : CanObj) (s₀ s : State), s = s₀.advance w → s.canMayStart g = true →
    (s.can g).cur = none → (∀ y ∈ (s.can g).objs, objMB y = false) → (s.can g).Sends o x →
    segOutput x.data = true → segFrank x.data ≠ s.pms.frMux → s.canStationOf g x = some n →
    ∃ t, exec (.canFrameSent w ⟨g, .sof pm⟩) s₀ = .next t ∧ EventsFrom s t [(0x7010, [0, segFrank x.data])] ∧
      min 0xFFFFFFFF ((s.rd (Reg.PMS_STALE 0)).toNat + 1) ≤ (t.rd (Reg.PMS_STALE 0)).toNat ∧
      WordsKept (inBlocks [.fpt, .pms, .prf, .eth]) s t ∧ Frame [.regs, .free, .evr, .fab, .perf, .arb, .net] s t)

/-- CAN_BUS_OFF, CAN_BUSOFF_RECOVERED, CAN_BOREC_CMD, CAN_RESTR_WRITE and CAN_RESTRICTED_CHANGE (R439, R440): bus-off ends
transmission, counts and records; the controller returns after the recovery with its error counts at 0, and RESTR takes
effect at the next bus idle. UART_FRAME_SEND and UART_FRAME_RECEIVED (R22, R426, R441 to R444, R468): the head descriptor
of the transmit mailbag is finished with OK, or with COLLISION where RXD differs from TXD, or FENCED when its frank is not
the current one; nothing starts while the line is driven or a Modbus request is outstanding; a received frame is counted,
character errors count and discard it, a failed check counts and is shown in its descriptor. What an MS/TP node sends
without a descriptor is PRESUMED (log 78). The DALI-2 rows (R22, R23, R445 to R449): the frame that is due goes out, or
collides and backs off, at most three repeats; a frame of another frank than the current one is discarded; a backward
window ends the transaction; events and answers are counted; loss and return of bus power are shown and recorded;
COMMISSION starts the search, which gives addresses in ascending order and records each. The settling times are free
values (log 79). -/
def Obligations.BusPorts : Prop :=
  ((∀ (w : When) (g : Nat) (s₀ s : State), s = s₀.advance w → s.portLive g useCAN = true → s.portRuns g = true →
    (∀ y ∈ (s.can g).objs, objTX y = true → objMB y = true → y.flag obTXWAIT = false) →
    ∃ t, exec (.canBusOff w g) s₀ = .next t ∧ t.portState g = psBUSOFF ∧ t.portUse g = useCAN ∧
      t.fld (F.FPT_PG_CANERR_BUSOFFS g) = min 255 (s.fld (F.FPT_PG_CANERR_BUSOFFS g) + 1) ∧
      t.fld (F.FPT_PG_CANERR_TXERR g) = 255 ∧ t.fld (F.FPT_PG_CANSTAT_LEVEL g) = 3 ∧ (t.can g).boNs = s.ns ∧
      (∀ y ∈ (t.can g).objs, objTX y = true → y.flag obTXWAIT = false) ∧
      Events s t [(0xA002, [n2w g, 255, n2w (t.fld (F.FPT_PG_CANSTAT_AERR g))])] ∧
      RegsKept [Reg.FPT_PG_STATUS g, Reg.FPT_PG_CANERR g, Reg.FPT_PG_CANSTAT g] s t ∧ Frame [.regs, .free, .evr, .net] s t) ∧
  (∀ (w : When) (g : Nat) (s₀ s : State), s = s₀.advance w → g < 24 → s.good .net = true → s.portUse g = useCAN →
    s.portState g = psBUSOFF → (cmAUTOREC (s.portRec g) = true ∨ (s.can g).borec = true) →
    ∃ t, exec (.canBusoffRecovered w g) s₀ = .next t ∧
      t.portState g = (if s.flag (F.FPT_PG_CANCTRL_RESTR g) then psRESTRICTED else psRUN) ∧
      t.fld (F.FPT_PG_CANERR_TXERR g) = 0 ∧ t.fld (F.FPT_PG_CANERR_RXERR g) = 0 ∧
      t.fld (F.FPT_PG_CANERR_BUSOFFS g) = s.fld (F.FPT_PG_CANERR_BUSOFFS g) ∧ t.fld (F.FPT_PG_CANSTAT_LEVEL g) = 0 ∧
      (t.can g).borec = false ∧ EventsAmong s t [(0xA003, [n2w g, n2w ((s.ns - (s.can g).boNs) / 1000000)])] ∧
      RegsKept [Reg.FPT_PG_STATUS g, Reg.FPT_PG_CANERR g, Reg.FPT_PG_CANSTAT g] s t ∧ Frame [.regs, .evr, .net] s t) ∧
  (∀ (w : When) (who : Who) (g : Nat) (b : Bool) (s₀ s : State), s = s₀.advance w → g < 24 →
    (s.refusePort who (Reg.FPT_PG_CANCTRL g) g useCAN (2 + (s.rd (Reg.FPT_PG_CANCTRL g)).setBits 31 1 0) = none →
      ∃ t, exec (.canBorecCmd w who g) s₀ = .next t ∧ t.answered ansOK ∧
        (s.portState g = psBUSOFF → (t.can g).borec = true) ∧ (s.portState g ≠ psBUSOFF → t.net = s.net) ∧
        Frame [.ctr, .net] s t) ∧
    (s.refusePort who (Reg.FPT_PG_CANCTRL g) g useCAN (n2w (b2n b)) = none →
      ∃ t, exec (.canRestrWrite w who g b) s₀ = .next t ∧ t.answered ansOK ∧ t.flag (F.FPT_PG_CANCTRL_RESTR g) = b ∧
        t.portState g = s.portState g ∧ (t.can g).restrBy = some (who.role.num, who.session) ∧
        RegsKept [Reg.FPT_PG_CANCTRL g] s t ∧ Frame [.regs, .ctr, .net] s t) ∧
    (s.refuse who (Reg.FPT_PG_CANCTRL g) (n2w (b2n b)) = none → s.portUse g ≠ useCAN →
      ∃ t, exec (.canRestrWrite w who g b) s₀ = .next t ∧ t.answered ansBADSTATE ∧ Frame [.ctr] s t)) ∧
  (∀ (w : When) (g role session : Nat) (s₀ s : State), s = s₀.advance w → g < 24 → s.good .net = true →
    s.quiescing g = false →
    (s.portState g = psRUN ∨ s.portState g = psRESTRICTED) → (s.can g).restrBy = some (role, session) →
    ∃ t, exec (.canRestrictedChange w g) s₀ = .next t ∧
      t.portState g = (if s.flag (F.FPT_PG_CANCTRL_RESTR g) then psRESTRICTED else psRUN) ∧ (t.can g).restrBy = none ∧
      (t.portState g ≠ s.portState g → Events s t [(0xA004, [n2w g, n2w (t.portState g), n2w role, n2w session])]) ∧
      (t.portState g = s.portState g → t.evr = s.evr) ∧
      RegsKept [Reg.FPT_PG_STATUS g] s t ∧ Frame [.regs, .evr, .net] s t)) ∧
  ((∀ (w : When) (g m : Nat) (echo : List Byte) (r : Rec) (x : TxD) (q : List TxD) (s₀ s : State), s = s₀.advance w →
    s.portLive g useUART = true → s.portRuns g = true → s.laneUp = true → utMSTP (s.portRec g) = false →
    (s.uart g).deNs ≤ s.ns → (s.uart g).askedTo ≤ s.ns → m < 128 → s.portMb g 1 = some (m, r) → (s.mb m).tx = x :: q →
    deLen (s.desc r x.idx) ≤ mbBufsz r → (mbOwner r = 0 ∨ x.frank = s.pms.frMux) → (∀ y ∈ q, y.idx ≠ x.idx) →
    let n := deLen (s.desc r x.idx)
    let bytes := s.sramBytes (deBuf (s.desc r x.idx)) n
    let ok : Prop := ∀ i, i < echo.length → i < n → echo.getD i 0 = bytes.getD i 0
    ∃ t, exec (.uartFrameSend w g echo) s₀ = .next t ∧ (t.mb m).tx = q ∧
      deOwn (t.desc r x.idx) = false ∧ deLen (t.desc r x.idx) = n ∧
      (ok → Rec.u16 (t.desc r x.idx) 4 / 2 ^ 11 = mbOK ∧ t.rd (Reg.FPT_PG_TXCNT g) = s.rd (Reg.FPT_PG_TXCNT g) + 1 ∧
        (t.uart g).deNs = s.ns + utBitNs (s.portRec g) (Rec.u8 (s.portRec g) 10 + Rec.u8 (s.portRec g) 11)
          + n * utCharNs (s.portRec g)) ∧
      (¬ ok → Rec.u16 (t.desc r x.idx) 4 / 2 ^ 11 = mbCOLLISION ∧
        t.fld (F.FPT_PG_UARTERR_COLL g) = min 255 (s.fld (F.FPT_PG_UARTERR_COLL g) + 1) ∧
        t.rd (Reg.FPT_PG_TXCNT g) = s.rd (Reg.FPT_PG_TXCNT g)) ∧
      t.rd (Reg.MBG_HEAD m) = n2w ((x.idx + 1) % max 1 (mbEntries r)) ∧ t.rd (Reg.MBG_CNT m) = s.rd (Reg.MBG_CNT m) + 1 ∧
      (∀ a, (a < mbRing r + 16 * x.idx ∨ mbRing r + 16 * x.idx + 16 ≤ a) →
        Mem.byte t.net.sram a = Mem.byte s.net.sram a) ∧
      RegsKept [Reg.MBG_HEAD m, Reg.MBG_CNT m, Reg.FPT_PG_TXCNT g, Reg.FPT_PG_UARTERR g] s t ∧ Frame [.regs, .net] s t) ∧
  (∀ (w : When) (g m : Nat) (echo : List Byte) (r : Rec) (x : TxD) (q : List TxD) (s₀ s : State), s = s₀.advance w →
    s.portLive g useUART = true → s.portRuns g = true → s.laneUp = true → utMSTP (s.portRec g) = false →
    (s.uart g).deNs ≤ s.ns → (s.uart g).askedTo ≤ s.ns → m < 128 → s.portMb g 1 = some (m, r) → (s.mb m).tx = x :: q →
    mbOwner r ≠ 0 → x.frank ≠ s.pms.frMux →
    ∃ t, exec (.uartFrameSend w g echo) s₀ = .next t ∧ Rec.u16 (t.desc r x.idx) 4 / 2 ^ 11 = mbFENCED ∧
      t.rd (Reg.FPT_PG_TXCNT g) = s.rd (Reg.FPT_PG_TXCNT g) ∧
      (t.rd (Reg.PMS_STALE 0)).toNat = min 0xFFFFFFFF ((s.rd (Reg.PMS_STALE 0)).toNat + 1) ∧
      Events s t [(0x7010, [0, x.frank])] ∧
      RegsKept [Reg.MBG_HEAD m, Reg.MBG_CNT m, Reg.PMS_STALE 0] s t ∧ Frame [.regs, .evr, .net] s t) ∧
  (∀ (w : When) (g : Nat) (echo : List Byte) (s₀ s : State), s = s₀.advance w →
    (s.ns < (s.uart g).deNs ∨ (utMSTP (s.portRec g) = false ∧ s.ns < (s.uart g).askedTo) ∨
      (utMSTP (s.portRec g) = true ∧ s.ns < (s.uart g).rxNs + utBitNs (s.portRec g) 40)) →
    exec (.uartFrameSend w g echo) s₀ = .next s) ∧
  (∀ (w : When) (g : Nat) (echo : List Byte) (s₀ s : State), s = s₀.advance w → s.portLive g useUART = true →
    s.portRuns g = true → s.laneUp = true → utMSTP (s.portRec g) = true → (s.uart g).deNs ≤ s.ns →
    (s.uart g).rxNs + utBitNs (s.portRec g) 40 ≤ s.ns →
    ((s.uart g).reply = true ∨ ((s.uart g).token = some 0 ∧ (s.uart g).next ≠ none)) →
    ∃ t, exec (.uartFrameSend w g echo) s₀ = .next t ∧ t.rd (Reg.FPT_PG_TXCNT g) = s.rd (Reg.FPT_PG_TXCNT g) + 1 ∧
      (t.uart g).reply = false ∧ ((s.uart g).reply = false → (t.uart g).token = none) ∧
      RegsKept [Reg.FPT_PG_TXCNT g] s t ∧ Frame [.regs, .net] s t) ∧
  (∀ (w : When) (g : Nat) (cs : List UartChar) (s₀ s : State), s = s₀.advance w → s.portLive g useUART = true →
    s.portRuns g = true →
    let p := s.portRec g
    let span := cs.foldl (fun n c => n + c.gap + utCharNs p) 0
    let ds := cs.map (utChar p)
    let nf := (ds.filter fun d => d.2.1).length
    let np := (ds.filter fun d => d.2.2).length
    let bytes := if utMSTP p then mstpFrame (ds.map (·.1)) else ds.map (·.1)
    let bad : Prop := 0 < nf + np ∨ bytes = [] ∨ (utMSTP p = false ∧ ∃ c ∈ cs.drop 1, utInnerNs p < c.gap)
    (s.ns < (s.uart g).deNs + span → exec (.uartFrameReceived w g cs) s₀ = .next s) ∧
    ((s.uart g).deNs + span ≤ s.ns → utFrames p cs = [cs] →
      ∃ t, exec (.uartFrameReceived w g cs) s₀ = .next t ∧
        t.fld (F.FPT_PG_UARTERR_FRAME g) = min 255 (s.fld (F.FPT_PG_UARTERR_FRAME g) + nf) ∧
        t.fld (F.FPT_PG_UARTERR_PARITY g) = min 255 (s.fld (F.FPT_PG_UARTERR_PARITY g) + np) ∧
        (t.uart g).rxNs = s.ns ∧ (t.uart g).askedTo = 0 ∧
        (bad → t.rd (Reg.FPT_PG_RXCNT g) = s.rd (Reg.FPT_PG_RXCNT g) ∧ t.net.sram = s.net.sram ∧ t.net.mbs = s.net.mbs) ∧
        (¬ bad → utCrcOk p bytes = true → t.rd (Reg.FPT_PG_RXCNT g) = s.rd (Reg.FPT_PG_RXCNT g) + 1 ∧
          t.fld (F.FPT_PG_UARTERR_CRC g) = s.fld (F.FPT_PG_UARTERR_CRC g)) ∧
        (¬ bad → utCrcOk p bytes = false → t.rd (Reg.FPT_PG_RXCNT g) = s.rd (Reg.FPT_PG_RXCNT g) ∧
          t.fld (F.FPT_PG_UARTERR_CRC g) = min 255 (s.fld (F.FPT_PG_UARTERR_CRC g) + 1)) ∧
        WordsKept (inBlocks [.fpt, .eth, .tsk]) s t ∧ Frame [.regs, .evr, .prog, .net, .perf, .arb] s t))) ∧
  ((∀ (w : When) (g n : Nat) (r : Rec) (what : DaliSend) (x : DaliTx) (s₀ s : State), s = s₀.advance w →
    s.portLive g useDALI = true → s.portRuns g = true → s.good .fab = true → s.laneServes = true →
    (s.dali g).backoff = false → (∀ y, (s.dali g).tx = some y → y.twice = false) → s.daliStation g = some (n, r) →
    s.daliNext g n what = some x → s.daliSettled g x.prio = true →
    (x.frank = s.pms.frMux → ∃ t, exec (.daliForwardFrameSend w g what false) s₀ = .next t ∧
      t.rd (Reg.FPT_PG_TXCNT g) = s.rd (Reg.FPT_PG_TXCNT g) + 1 ∧ (t.dali g).tx = some x ∧ (t.dali g).backoff = false ∧
      (t.dali g).repeats = 0 ∧ (t.dali g).endNs = s.ns + daliNs (if x.wide then 24 else 16) ∧
      (∀ p, x.point = some p → x.query = false → p ∉ (t.dali g).due) ∧
      (∀ rnd short, x.assign = some (rnd, short) → (t.dali g).assigned = some short.toNat ∨ x.last = true) ∧
      (x.last = true → t.flag (F.FPT_PG_DALISTAT_SEARCH g) = false) ∧
      WordsKept (inBlocks [.fpt, .prf, .tsk]) s t ∧ Frame [.regs, .evr, .fab, .prog, .perf, .net] s t) ∧
    (x.frank = s.pms.frMux → ∃ t, exec (.daliForwardFrameSend w g what true) s₀ = .next t ∧
      t.dali g = { s.dali g with tx := some x, repeats := 0, backoff := true, endNs := s.ns } ∧
      t.fld (F.FPT_PG_DALISTAT_COLL g) = min 255 (s.fld (F.FPT_PG_DALISTAT_COLL g) + 1) ∧
      RegsKept [Reg.FPT_PG_DALISTAT g] s t ∧ Frame [.regs, .net] s t) ∧
    (x.frank ≠ s.pms.frMux → ∀ c, ∃ t, exec (.daliForwardFrameSend w g what c) s₀ = .next t ∧ (t.dali g).tx = none ∧
      (t.rd (Reg.PMS_STALE 0)).toNat = min 0xFFFFFFFF ((s.rd (Reg.PMS_STALE 0)).toNat + 1) ∧
      Events s t [(0x7010, [0, x.frank])] ∧ RegsKept [Reg.PMS_STALE 0] s t ∧ Frame [.regs, .evr, .net] s t)) ∧
  (∀ (w : When) (g : Nat) (x : DaliTx) (s₀ s : State), s = s₀.advance w → s.portLive g useDALI = true →
    s.portRuns g = true → (s.dali g).backoff = true → (s.dali g).tx = some x →
    (x.frank = s.pms.frMux → ∃ t, exec (.daliBackoffExpiry w g false) s₀ = .next t ∧ (t.dali g).tx = some x ∧
      (t.dali g).backoff = false ∧ t.rd (Reg.FPT_PG_TXCNT g) = s.rd (Reg.FPT_PG_TXCNT g) + 1 ∧
      WordsKept (inBlocks [.fpt, .prf, .tsk]) s t ∧ Frame [.regs, .evr, .fab, .prog, .perf, .net] s t) ∧
    (x.frank = s.pms.frMux → ∃ t, exec (.daliBackoffExpiry w g true) s₀ = .next t ∧
      t.fld (F.FPT_PG_DALISTAT_COLL g) = min 255 (s.fld (F.FPT_PG_DALISTAT_COLL g) + 1) ∧
      ((s.dali g).repeats < 2 → t.dali g = { s.dali g with repeats := (s.dali g).repeats + 1, endNs := s.ns }) ∧
      (2 ≤ (s.dali g).repeats → (t.dali g).tx = none ∧ (t.dali g).backoff = false ∧
        (∀ p, x.point = some p → p ∉ (t.dali g).due) ∧
        t.fld (F.FPT_PG_DALISTAT_FAILED g) = min 255 (s.fld (F.FPT_PG_DALISTAT_FAILED g) + 1)) ∧
      RegsKept [Reg.FPT_PG_DALISTAT g] s t ∧ Frame [.regs, .net] s t) ∧
    (x.frank ≠ s.pms.frMux → ∀ c, ∃ t, exec (.daliBackoffExpiry w g c) s₀ = .next t ∧ (t.dali g).tx = none ∧
      (t.dali g).backoff = false ∧
      (t.rd (Reg.PMS_STALE 0)).toNat = min 0xFFFFFFFF ((s.rd (Reg.PMS_STALE 0)).toNat + 1) ∧
      Events s t [(0x7010, [0, x.frank])] ∧ RegsKept [Reg.PMS_STALE 0] s t ∧ Frame [.regs, .evr, .net] s t)) ∧
  (∀ (w : When) (g n : Nat) (x : DaliTx) (r : Rec) (b : Byte) (s₀ s : State), s = s₀.advance w →
    s.portLive g useDALI = true → s.good .fab = true → (s.dali g).backoff = false → (s.dali g).tx = some x →
    (x.twice = false → ∃ t, exec (.daliBackwardWindow w g .none) s₀ = .next t ∧ (t.dali g).tx = none ∧ t.fab = s.fab ∧
      Frame [.net] s t) ∧
    (x.twice = false → ∃ t, exec (.daliBackwardWindow w g .framing) s₀ = .next t ∧ (t.dali g).tx = none ∧ t.fab = s.fab ∧
      Frame [.net] s t) ∧
    (s.daliStation g = some (n, r) →
      ∃ t, exec (.daliBackwardWindow w g (.valid b)) s₀ = .next t ∧ (x.twice = false → (t.dali g).tx = none) ∧
        (t.dali g).endNs = s.ns ∧ t.rd (Reg.FPT_PG_RXCNT g) = s.rd (Reg.FPT_PG_RXCNT g) + 1 ∧
        WordsKept (inBlocks [.fpt, .prf, .tsk]) s t ∧ Frame [.regs, .evr, .fab, .prog, .perf, .net] s t)) ∧
  (∀ (w : When) (g : Nat) (f : BitVec 24) (s₀ s : State), s = s₀.advance w → s.portLive g useDALI = true →
    s.good .fab = true → s.laneServes = true →
    ∃ t, exec (.daliEventFrameReceived w g f) s₀ = .next t ∧ (t.dali g).endNs = s.ns ∧
      t.rd (Reg.FPT_PG_RXCNT g) = s.rd (Reg.FPT_PG_RXCNT g) + 1 ∧
      (∀ n r, s.daliStation g = some (n, r) → s.staState n ≠ saONLINE → t.fab = s.fab) ∧
      (s.flag (F.FPT_PG_DALISTAT_SEARCH g) = true → t.fab = s.fab) ∧
      WordsKept (inBlocks [.fpt, .prf, .tsk]) s t ∧ Frame [.regs, .evr, .fab, .prog, .perf, .net] s t) ∧
  (∀ (w : When) (g : Nat) (s₀ s : State), s = s₀.advance w → s.portLive g useDALI = true →
    (s.portRuns g = true → ∃ t, exec (.daliPowerLost w g) s₀ = .next t ∧ t.portState g = psNOPOWER ∧
      t.flag (F.FPT_PG_DALISTAT_PWR g) = false ∧ Events s t [(0xA006, [n2w g, 5])] ∧
      RegsKept [Reg.FPT_PG_STATUS g, Reg.FPT_PG_DALISTAT g] s t ∧ Frame [.regs, .evr] s t) ∧
    (s.portState g = psNOPOWER → ∃ t, exec (.daliPowerRestored w g) s₀ = .next t ∧
      t.portState g = (if s.quiescing g then psQUIESCED else psRUN) ∧
      t.flag (F.FPT_PG_DALISTAT_PWR g) = true ∧ Events s t [(0xA006, [n2w g, n2w (t.portState g)])] ∧
      RegsKept [Reg.FPT_PG_STATUS g, Reg.FPT_PG_DALISTAT g] s t ∧ Frame [.regs, .evr] s t)) ∧
  (∀ (w : When) (who : Who) (g : Nat) (v : Word) (s₀ s : State), s = s₀.advance w → g < 24 →
    s.refusePort who (Reg.FPT_PG_DALICTRL g) g useDALI v = none →
    (v.bits 1 0 ≠ 1 → exec (.daliCommission w who g v) s₀ = .next (s.answer (if v.bits 1 0 = 0 then ansOK else ansBADSTATE))) ∧
    (v.bits 1 0 = 1 → s.mode = 1 → s.lc ≠ lcMAKER → s.lc ≠ lcSERVICE →
      exec (.daliCommission w who g v) s₀ = .next (s.answer ansBADSTATE)) ∧
    (v.bits 1 0 = 1 → (s.mode ≠ 1 ∨ s.lc = lcMAKER ∨ s.lc = lcSERVICE) →
      (s.laneServes = true → s.portState g = psRUN →
        ∃ t, exec (.daliCommission w who g v) s₀ = .next t ∧ t.answered ansOK ∧
          t.flag (F.FPT_PG_DALISTAT_SEARCH g) = true ∧ (t.dali g).assigned = none ∧
          RegsKept [Reg.FPT_PG_DALISTAT g] s t ∧ Frame [.regs, .ctr, .net] s t) ∧
      (s.laneServes = false ∨ s.portState g ≠ psRUN → exec (.daliCommission w who g v) s₀ = .next (s.answer ansOK)))))

/-! ### Frame MACs and mailbags (chapter 16) -/

/-- ETH_FRAME_RECEIVED and PAUSE_EXPIRY (R457 to R460, R469): the steps a received frame passes: a false check sequence
and a frame that no classifier matches are counted, a frame to another address is discarded uncounted, a pause frame
pauses the MAC for its quanta, and a matched frame enters its mailbag with its postmark, or is counted when the ring is
empty. ETH_FRAME_TX_START, ETH_FRAME_TX_DONE, ETH_LINK_CHANGE and MAILBAG_TAIL_ADVANCE (R22 to R24, R459, R461, R462,
R464, R469 to R471): of the heads of unshaped queues the highest queue's earliest starts, with its tag inserted and its
check sequence computed anew where its descriptor has TAG; one with a stale frank is discarded, counted and recorded; its
descriptor is finished when the frame is complete; a link change is shown and recorded; advancing a tail hands
descriptors, with the active lane's frank, to the hardware. -/
def Obligations.MacFrames : Prop :=
  ((∀ (w : When) (m : Nat) (fr : EthFrame) (r : Rec) (s₀ s : State), s = s₀.advance w → m < 7 → s.macLive m = some r →
    64 ≤ fr.len → fr.len ≤ (if fr.tag.isSome then 1522 else 1518) →
    (fr.fcsOk = false → ∃ t, exec (.ethFrameReceived w m fr) s₀ = .next t ∧
      t.fld (F.ETH_DROP_CRC m) = min 65535 (s.fld (F.ETH_DROP_CRC m) + 1) ∧
      t.fld (F.ETH_DROP_NOMATCH m) = s.fld (F.ETH_DROP_NOMATCH m) ∧ RegsKept [Reg.ETH_DROP m] s t ∧ Frame [.regs] s t) ∧
    (fr.fcsOk = true → fr.pauseOp = none → macAccepts r fr.dest = false →
      exec (.ethFrameReceived w m fr) s₀ = .next s) ∧
    (fr.fcsOk = true → fr.dest = pauseAddr → ∀ q, fr.pauseOp = some (1, q) → ∃ t, exec (.ethFrameReceived w m fr) s₀ = .next t ∧
      t.rd (Reg.ETH_PAUSE m) = s.rd (Reg.ETH_PAUSE m) + 1 ∧
      (Rec.bit r 1 3 = true → 0 < q → t.flag (F.ETH_STATUS_PAUSED m) = true ∧
        (t.mac m).pausedTo = some (s.ns + q * 512 * 1000000 / macRate (s.fld (F.ETH_STATUS_RATE m)))) ∧
      (Rec.bit r 1 3 = true → q = 0 → t.flag (F.ETH_STATUS_PAUSED m) = false ∧ (t.mac m).pausedTo = none) ∧
      (Rec.bit r 1 3 = false → t.net = s.net) ∧
      RegsKept [Reg.ETH_PAUSE m, Reg.ETH_STATUS m] s t ∧ Frame [.regs, .net] s t) ∧
    (fr.fcsOk = true → ∀ op q, (op ≠ 1 ∨ fr.dest ≠ pauseAddr) → fr.pauseOp = some (op, q) →
      exec (.ethFrameReceived w m fr) s₀ = .next s)) ∧
  (∀ (w : When) (m : Nat) (fr : EthFrame) (r : Rec) (s₀ s : State), s = s₀.advance w → m < 7 → s.macLive m = some r →
    64 ≤ fr.len → fr.len ≤ (if fr.tag.isSome then 1522 else 1518) → fr.fcsOk = true → fr.pauseOp = none →
    macAccepts r fr.dest = true → fr.udpPort ≠ some 47300 → fr.udpPort ≠ some Config.pairPort →
    ((∀ b ∈ s.recs 5, mbPort b = macPort m → mbDir b = 0 → mbMatches b fr = false) →
      ∃ t, exec (.ethFrameReceived w m fr) s₀ = .next t ∧
        t.fld (F.ETH_DROP_NOMATCH m) = min 65535 (s.fld (F.ETH_DROP_NOMATCH m) + 1) ∧
        t.fld (F.ETH_DROP_CRC m) = s.fld (F.ETH_DROP_CRC m) ∧ RegsKept [Reg.ETH_DROP m] s t ∧ Frame [.regs] s t) ∧
    (∀ b, b ∈ s.recs 5 → mbPort b = macPort m → mbDir b = 0 → mbMatches b fr = true →
      (∀ c ∈ s.recs 5, c ≠ b → mbPort c = macPort m → mbDir c = 0 → mbMatches c fr = true → Rec.u8 b 0 < Rec.u8 c 0) →
      (s.rd (Reg.MBG_HEAD (Rec.u8 b 0)) = s.rd (Reg.MBG_TAIL (Rec.u8 b 0)) →
        ∃ t, exec (.ethFrameReceived w m fr) s₀ = .next t ∧
          (t.rd (Reg.MBG_DROP (Rec.u8 b 0))).toNat = min 0xFFFFFFFF ((s.rd (Reg.MBG_DROP (Rec.u8 b 0))).toNat + 1) ∧
          t.net.sram = s.net.sram ∧ RegsKept [Reg.MBG_DROP (Rec.u8 b 0)] s t ∧ Frame [.regs, .evr, .net] s t) ∧
      (let k := (s.rd (Reg.MBG_HEAD (Rec.u8 b 0))).toNat
       s.rd (Reg.MBG_HEAD (Rec.u8 b 0)) ≠ s.rd (Reg.MBG_TAIL (Rec.u8 b 0)) → k < mbEntries b → fr.tag = none →
        fr.len ≤ mbBufsz b → fr.data.length = fr.len → deOwn (s.desc b k) = true →
        (deBuf (s.desc b k) + fr.len ≤ mbRing b ∨ mbRing b + 16 * mbEntries b ≤ deBuf (s.desc b k)) →
        ∃ t, exec (.ethFrameReceived w m fr) s₀ = .next t ∧ t.sramBytes (deBuf (s.desc b k)) fr.len = fr.data ∧
          deOwn (t.desc b k) = false ∧ deLen (t.desc b k) = fr.len ∧
          dePm (t.desc b k) = (s.pmNow - BitVec.ofNat 64 (s.latUnits (Rec.u16 r 0x0C))).toNat ∧
          (t.rd (Reg.MBG_HEAD (Rec.u8 b 0))).toNat = (k + 1) % mbEntries b ∧
          t.rd (Reg.MBG_CNT (Rec.u8 b 0)) = s.rd (Reg.MBG_CNT (Rec.u8 b 0)) + 1 ∧
          WordsKept (inBlocks [.eth, .tsk]) s t ∧ Frame [.regs, .evr, .prog, .net, .perf, .arb] s t))) ∧
  (∀ (w : When) (m e : Nat) (s₀ s : State), s = s₀.advance w → m < 7 → (s.mac m).pausedTo = some e → e ≤ s.ns →
    ∃ t, exec (.pauseExpiry w m) s₀ = .next t ∧ (t.mac m).pausedTo = none ∧ t.flag (F.ETH_STATUS_PAUSED m) = false ∧
      RegsKept [Reg.ETH_STATUS m] s t ∧ Frame [.regs, .net] s t)) ∧
  ((∀ (w : When) (m b : Nat) (n r : Rec) (x : TxD) (s₀ s : State), s = s₀.advance w → m < 7 → s.macLive m = some n →
    (∀ q, q < 8 → nwIdle n q = 0) → (s.mac m).cur = none → (∀ e, (s.mac m).pausedTo = some e → e ≤ s.ns) →
    (b, r, x) ∈ s.macHeads m →
    (∀ h ∈ s.macHeads m, h ≠ (b, r, x) → deQueue (s.desc h.2.1 h.2.2.idx) < deQueue (s.desc r x.idx) ∨
      (deQueue (s.desc h.2.1 h.2.2.idx) = deQueue (s.desc r x.idx) ∧ x.seq < h.2.2.seq)) →
    s.txIsStale m r x = false → deLen (s.desc r x.idx) ≤ mbBufsz r →
    deLen (s.desc r x.idx) + (if deTag (s.desc r x.idx) then 4 else 0) ≤ 1522 →
    ∃ t f, exec (.ethFrameTxStart w m) s₀ = .next t ∧
      (t.mac m).cur = some ⟨b, x.idx, deQueue (s.desc r x.idx), s.pmNow, f⟩ ∧
      (deTag (s.desc r x.idx) = false → f = s.sramBytes (deBuf (s.desc r x.idx)) (deLen (s.desc r x.idx))) ∧
      (deTag (s.desc r x.idx) = true → 16 ≤ deLen (s.desc r x.idx) → f.length = deLen (s.desc r x.idx) + 4 ∧
        f.take 12 = s.sramBytes (deBuf (s.desc r x.idx)) 12 ∧ (f.drop 12).take 2 = [0x81, 0x00] ∧
        (f.drop 14).take 2 = netBytes 2 (deTci (s.desc r x.idx)) ∧
        f.drop (deLen (s.desc r x.idx)) = leBytes 4 (crc32 (f.take (deLen (s.desc r x.idx))))) ∧
      (t.mb b).tx = (s.mb b).tx.map (fun k => if k.idx = x.idx then { k with started := true } else k) ∧
      (∀ c, c ≠ b → t.mb c = s.mb c) ∧ t.net.sram = s.net.sram ∧ (∀ k, k ≠ m → t.mac k = s.mac k) ∧
      Frame [.arb, .net] s t) ∧
  (∀ (w : When) (m b : Nat) (n r : Rec) (x : TxD) (s₀ s : State), s = s₀.advance w → m < 7 → s.macLive m = some n →
    (s.mac m).cur = none → (∀ e, (s.mac m).pausedTo = some e → e ≤ s.ns) → (s.settle m).macNext m = some (b, r, x) →
    mbOwner r ≠ 0 → x.frank ≠ s.pms.frMux →
    ∃ t, exec (.ethFrameTxStart w m) s₀ = .next t ∧ EventsFrom s t [(0x7010, [0, x.frank])] ∧
      min 0xFFFFFFFF ((s.rd (Reg.PMS_STALE 0)).toNat + 1) ≤ (t.rd (Reg.PMS_STALE 0)).toNat ∧
      WordsKept (inBlocks [.eth, .pms, .prf]) s t ∧ Frame [.regs, .free, .evr, .fab, .perf, .arb, .net] s t) ∧
  (∀ (w : When) (m : Nat) (n : Rec) (e : Nat) (s₀ s : State), s = s₀.advance w → m < 7 → s.macLive m = some n →
    (((s.mac m).cur = none ∧ (s.mac m).pausedTo = some e ∧ s.ns < e) ∨ (s.mac m).cur ≠ none) →
    exec (.ethFrameTxStart w m) s₀ = .next s) ∧
  (∀ (w : When) (m : Nat) (n r : Rec) (c : MacTx) (s₀ s : State), s = s₀.advance w → m < 7 → s.good .net = true →
    (s.mac m).cur = some c → s.mbRec c.mb = some r → s.netRec m = some n →
    ∃ t, exec (.ethFrameTxDone w m) s₀ = .next t ∧ (t.mac m).cur = none ∧
      (t.mb c.mb).tx = (s.mb c.mb).tx.filter (fun k => k.idx ≠ c.idx) ∧
      deOwn (t.desc r c.idx) = false ∧ deLen (t.desc r c.idx) = deLen (s.desc r c.idx) ∧
      Rec.u16 (t.desc r c.idx) 4 / 2 ^ 11 = mbOK ∧
      (deTs (s.desc r c.idx) = true →
        dePm (t.desc r c.idx) = (c.pm + BitVec.ofNat 64 (s.latUnits (Rec.u16 n 0x0E))).toNat) ∧
      t.rd (Reg.MBG_HEAD c.mb) = n2w ((c.idx + 1) % max 1 (mbEntries r)) ∧
      t.rd (Reg.MBG_CNT c.mb) = s.rd (Reg.MBG_CNT c.mb) + 1 ∧
      (∀ a, (a < mbRing r + 16 * c.idx ∨ mbRing r + 16 * c.idx + 16 ≤ a) →
        Mem.byte t.net.sram a = Mem.byte s.net.sram a) ∧
      (mbOwner r ≠ 0 → t.fab = s.fab) ∧
      RegsKept [Reg.MBG_HEAD c.mb, Reg.MBG_CNT c.mb] s t ∧ Frame [.regs, .fab, .net] s t) ∧
  (∀ (w : When) (m : Nat) (up : Bool) (rate : Nat) (s₀ s : State), s = s₀.advance w → m < 7 → s.good .net = true →
    rate < 4 → ((∃ r, s.netRec m = some r ∧ Rec.bit r 1 0 = true) ∨ (s.netRec m = none ∧ m = 6)) →
    ∃ t, exec (.ethLinkChange w m up rate) s₀ = .next t ∧ t.flag (F.ETH_STATUS_LINK m) = up ∧
      t.fld (F.ETH_STATUS_RATE m) = rate ∧ Events s t [(0xA00A, [n2w m, n2w (b2n up), n2w rate])] ∧
      RegsKept [Reg.ETH_STATUS m] s t ∧ Frame [.regs, .evr, .net] s t) ∧
  (∀ (w : When) (b : Nat) (r : Rec) (ds : List (BitVec 128)) (s₀ s : State), s = s₀.advance w → b < 128 →
    s.mbRec b = some r → s.good .net = true → (mbOwner r = 0 ∨ s.laneUp = true) → ds.length ≤ s.mbRoom b r →
    (s.rd (Reg.MBG_TAIL b)).toNat < mbEntries r →
    ∃ t, exec (.mailbagTailAdvance w b ds) s₀ = .next t ∧
      (t.rd (Reg.MBG_TAIL b)).toNat = ((s.rd (Reg.MBG_TAIL b)).toNat + ds.length) % mbEntries r ∧
      ((24 ≤ mbPort r ∨ s.portUse (mbPort r) ≠ useCAN) →
        (mbDir r = 1 → ∃ new, (t.mb b).tx = (s.mb b).tx ++ new ∧ new.length = ds.length ∧
          ∀ k ∈ new, k.frank = s.rd Reg.PMS_FRANK ∧ k.started = false) ∧
        (mbDir r ≠ 1 → (t.mb b).tx = (s.mb b).tx) ∧
        (∀ d, ds = [d] → t.desc r (s.rd (Reg.MBG_TAIL b)).toNat = leBytes 16 d.toNat) ∧
        RegsKept [Reg.MBG_TAIL b] s t) ∧
      WordsKept (inBlocks [.eth]) s t ∧ Frame [.regs, .net] s t))

/-! ### The Counter (chapter 17) -/

/-- CTR_IDENT, CTR_HELLO and AUTHFAIL_LOCKOUT_EXPIRY (R477, R479, R507): IDENT names the module; HELLO on a usable binding
makes a PENDING session with a free number and a derived key; a failed check is AUTHFAIL in the clear, counted and
recorded, and the fifth within 60 s locks the binding out for 60 s. How requests reach the engine (R474, R476, R483): one
that does not fit is discarded and counted, one that arrives while a transaction executes waits, the ninth is counted;
CTR_QUEUE_DISPATCH executes the oldest, CTR_SPI_ANSWER_READ hands the ready response to the host. -/
def Obligations.CounterFrames : Prop :=
  ((∀ (w : When) (fr : Sys2Proof.Frame) (s₀ s : State), s = s₀.advance w → CtrTakes s fr → s.longBusy = false →
    s.ctr.aborted = none →
    ∃ t, exec (.ctrIdent w fr) s₀ = .next t ∧
      t.ctr.answer = some ⟨ansOK, [s.rd Reg.MOD_ID, s.rd Reg.MOD_HWREV, n2w (s.fld F.KEY_STATUS_LC), s.rd Reg.MOD_MAN_REV,
        BitVec.ofNat 32 Config.factMac.toNat, BitVec.ofNat 32 (Config.factMac.toNat / 2 ^ 32)], false⟩ ∧
      t.ctr.sessions = s.ctr.sessions ∧ (fr.tp = .spi → t.ctr.spi = t.ctr.answer ∧ t.ctr.spiWait = true) ∧
      Frame [.ctr] s t) ∧
  (∀ (w : When) (fr : Sys2Proof.Frame) (b k : Nat) (nc : BitVec 128) (x : Binding) (s₀ s : State), s = s₀.advance w →
    CtrTakes s fr → s.longBusy = false → s.ctr.aborted = none → SessionsOk s → b < 256 → s.locked b = false →
    s.helloCheck fr b = none → s.binding b = some x → s.freeEntry = some k →
    ∃ t e nm, exec (.ctrHello w fr b nc) s₀ = .next t ∧ t.ctr.answer = some ⟨ansOK, n2w e.num :: nm, false⟩ ∧
      nm.length = 4 ∧ t.ctr.sessions.get? k = some e ∧ 1 ≤ e.num ∧ e.num ≤ 65535 ∧ s.sessOf e.num = none ∧
      e.opened = false ∧ e.seq = 0 ∧ e.stored = none ∧ e.binding = b ∧ e.role = x.role ∧ e.ph = x.ph ∧ e.tp = fr.tp ∧
      e.ip = fr.srcIp ∧ e.port = fr.srcPort ∧ e.lastNs = s.ns ∧
      (2 ≤ b → e.key = hkdf (wordBytes (s.keyWords x.kslot)) (leBytes 16 nc.toNat ++ wordBytes nm)
        (hkdfInfo ++ leBytes 1 b ++ leBytes 2 e.num) 36) ∧
      (∀ j, j ≠ k → t.ctr.sessions.get? j = s.ctr.sessions.get? j) ∧ SessionsOk t ∧ Frame [.ctr] s t) ∧
  (∀ (w : When) (fr : Sys2Proof.Frame) (b : Nat) (nc : BitVec 128) (s₀ s : State), s = s₀.advance w →
    CtrTakes s fr → s.longBusy = false → s.ctr.aborted = none → b < 256 →
    ((s.locked b = true) ∨ (∃ c, s.helloCheck fr b = some c)) →
    ∃ t c, exec (.ctrHello w fr b nc) s₀ = .next t ∧ t.ctr.answer = some ⟨ansAUTHFAIL, [], false⟩ ∧
      t.ctr.sessions = s.ctr.sessions ∧ (t.rd Reg.CTR_AUTHCNT).toNat = min 0xFFFFFFFF ((s.rd Reg.CTR_AUTHCNT).toNat + 1) ∧
      (s.keys.denyNs = none →
        Events s t ((if s.locked b = false ∧ s.helloCheck fr b = some 3 then
            [(0xB004, [n2w (((s.binding b).map Binding.kslot).getD 0), 2, n2w (((s.binding b).map Binding.ph).getD 0)])]
          else []) ++ [(0xE004, [n2w b, n2w (Transport.num fr.tp), if fr.tp == .spi then 0 else fr.srcIp, c])])) ∧
      (s.helloCheck fr b ≠ some 3 →
        Events s t [(0xE004, [n2w b, n2w (Transport.num fr.tp), if fr.tp == .spi then 0 else fr.srcIp, c])]) ∧
      (s.locked b = false → 4 ≤ ((s.ctr.fails.getD b []).filter fun m => decide (s.ns < m + 60000000000)).length →
        t.ctr.lockout.get? b = some (s.ns + 60000000000)) ∧
      (s.locked b = false → ((s.ctr.fails.getD b []).filter fun m => decide (s.ns < m + 60000000000)).length < 4 →
        t.ctr.lockout = s.ctr.lockout) ∧
      (s.locked b = true → t.ctr.lockout = s.ctr.lockout) ∧
      RegsKept [Reg.CTR_AUTHCNT] s t ∧ Frame [.regs, .evr, .ctr, .keys] s t ∧ t.keys = { s.keys with denyNs := t.keys.denyNs }) ∧
  (∀ (w : When) (b : Nat) (s₀ s : State), s = s₀.advance w →
    (s.locked b = false → ∃ t, exec (.authfailLockoutExpiry w b) s₀ = .next t ∧ t.ctr.lockout.get? b = none ∧
      (∀ c, c ≠ b → t.ctr.lockout.get? c = s.ctr.lockout.get? c) ∧ t.ctr.sessions = s.ctr.sessions ∧ Frame [.ctr] s t) ∧
    (s.locked b = true → exec (.authfailLockoutExpiry w b) s₀ = .next s))) ∧
  ((∀ (w : When) (fr : Sys2Proof.Frame) (b a n : Nat) (nc : BitVec 128) (ds : List Word) (c : Instr) (s₀ s : State),
    s = s₀.advance w → 1 ≤ n → n ≤ 64 → ds.length = n →
    (c = .ctrIdent w fr ∨ c = .ctrHello w fr b nc ∨ c = .ctrOpen w fr ∨ c = .ctrClose w fr ∨ c = .ctrRead w fr a n ∨
      c = .ctrWrite w fr a ds) →
    (s.reachable fr.tp = false → exec c s₀ = .next s) ∧
    (s.reachable fr.tp = true → s.takes fr true = false → exec c s₀ = .next (s.inc F.CTR_ERR_FORMAT)) ∧
    (s.reachable fr.tp = true → s.takes fr true = true → s.txBusy = true → s.ctr.queue.length < 8 →
      ∃ t, exec c s₀ = .next t ∧ t.ctr.queue = s.ctr.queue ++ [c] ∧ t.ctr.sessions = s.ctr.sessions ∧ Frame [.ctr] s t) ∧
    (s.reachable fr.tp = true → s.takes fr true = true → s.txBusy = true → 8 ≤ s.ctr.queue.length →
      exec c s₀ = .next (s.inc F.CTR_ERR_QFULL))) ∧
  (∀ (w w' : When) (fr : Sys2Proof.Frame) (rest : List Instr) (s₀ s : State), s = s₀.advance w → s.good .ref = true →
    s.pwr.rstLow = false → s.pwr.pfail = false → s.longBusy = false → s.ctr.aborted = none →
    s.ctr.queue = .ctrIdent w' fr :: rest →
    ∃ t data, exec (.ctrQueueDispatch w) s₀ = .next t ∧ t.ctr.queue = rest ∧ s.ns < t.ctr.txEnd ∧
      t.ctr.answer = some ⟨ansOK, data, false⟩ ∧ data.head? = some (s.rd Reg.MOD_ID) ∧ Frame [.ctr] s t) ∧
  (∀ (w : When) (s₀ s : State), s = s₀.advance w → s.ctr.queue = [] → exec (.ctrQueueDispatch w) s₀ = .next s) ∧
  (∀ (w : When) (s₀ s : State), s = s₀.advance w → s.good .ref = true →
    ∃ t, exec (.ctrSpiAnswerRead w) s₀ = .next t ∧ t.ctr.answer = s.ctr.spi ∧ t.ctr.spi = none ∧
      (s.ctr.spi ≠ none → t.ctr.spiWait = false) ∧ Frame [.ctr] s t))

/-- CTR_OPEN, CTR_CLOSE, SESSION_PENDING_TIMEOUT, SESSION_IDLE_TIMEOUT and CTR_KILL_WRITE (R479, R481, R495): how a
session opens and the ways it ends, with their events. -/
def Obligations.CounterSessions : Prop :=
  (∀ (w : When) (fr : Sys2Proof.Frame) (k : Nat) (x : Session) (s₀ s : State), s = s₀.advance w → CtrTakes s fr →
    s.longBusy = false → s.ctr.aborted = none → SessionsOk s → s.authOf fr = some (k, x) → x.opened = false →
    x.seq = 0 → fr.seq = 1 →
    ∃ t, exec (.ctrOpen w fr) s₀ = .next t ∧
      (let a : Answer := ⟨ansOK, [n2w (x.role.num + x.ph * 2 ^ 8 + s.fld F.KEY_STATUS_LC * 2 ^ 16)], true⟩
       AnswersWith s t fr k { x with opened := true } a) ∧
      Events s t [(0xE002, [n2w x.num, n2w x.binding, n2w x.role.num, n2w x.ph, n2w (Transport.num x.tp),
        if x.tp == .spi then 0 else x.ip])] ∧ Frame [.evr, .ctr] s t) ∧
  (∀ (w : When) (fr : Sys2Proof.Frame) (k : Nat) (x : Session) (s₀ s : State), s = s₀.advance w → Asks s fr k x →
    ∃ t, exec (.ctrClose w fr) s₀ = .next t ∧ t.ctr.answer = some ⟨ansOK, [], true⟩ ∧ t.sessOf fr.session = none ∧
      (∀ n, n ≠ fr.session → t.sessOf n = s.sessOf n) ∧ (s.keys.winBy = x.num → t.keys.win = []) ∧
      (s.keys.winBy ≠ x.num → t.keys = s.keys) ∧ Frame [.ctr, .keys] s t) ∧
  (∀ (w : When) (n k : Nat) (x : Session) (s₀ s : State), s = s₀.advance w → SessionsOk s → s.sessOf n = some (k, x) →
    (x.opened = false → x.lastNs + 2000000000 ≤ s.ns →
      ∃ t, exec (.sessionPendingTimeout w n) s₀ = .next t ∧ t.sessOf n = none ∧ (∀ m, m ≠ n → t.sessOf m = s.sessOf m) ∧
        Frame [.ctr, .keys] s t) ∧
    ((x.opened = true ∨ s.ns < x.lastNs + 2000000000) → exec (.sessionPendingTimeout w n) s₀ = .next s) ∧
    (x.opened = true → x.lastNs + x.idle * 1000000000 ≤ s.ns →
      ∃ t, exec (.sessionIdleTimeout w n) s₀ = .next t ∧ t.sessOf n = none ∧ (∀ m, m ≠ n → t.sessOf m = s.sessOf m) ∧
        Events s t [(0xE003, [n2w n, 1])] ∧ Frame [.evr, .ctr, .keys] s t) ∧
    ((x.opened = false ∨ s.ns < x.lastNs + x.idle * 1000000000) → exec (.sessionIdleTimeout w n) s₀ = .next s)) ∧
  (∀ (w : When) (who : Who) (n k : Nat) (x : Session) (s₀ s : State), s = s₀.advance w → SessionsOk s →
    s.sessOf n = some (k, x) → s.refuse who Reg.CTR_KILL (n2w n) = none →
    ∃ t, exec (.ctrKillWrite w who n) s₀ = .next t ∧ t.answered ansOK ∧ t.sessOf n = none ∧
      (∀ m, m ≠ n → t.sessOf m = s.sessOf m) ∧ Events s t [(0xE003, [n2w n, 2])] ∧ Frame [.evr, .ctr, .keys] s t)

/-- CTR_READ and CTR_WRITE of an OPEN session (R482, R485, R488, R493): the answer consumes the SEQ and is stored; a read
answers the words, a write is audited as 16#E001 before it acts; a repeated SEQ answers the stored response, an older one
SEQ; a long operation answers BUSY; a write that the recorder has no room to audit writes nothing. -/
def Obligations.CounterRequests : Prop :=
  (∀ (w : When) (fr : Sys2Proof.Frame) (k a : Nat) (x : Session) (s₀ s : State), s = s₀.advance w → Asks s fr k x →
    (∀ c, s.refuseWordRead x.who a = some c → a < 2 ^ 40 →
      ∃ t, exec (.ctrRead w fr a 1) s₀ = .next t ∧ AnswersWith s t fr k x ⟨c, [], true⟩ ∧ Frame [.ctr] s t) ∧
    (∀ d, findReg a = some d → d.hasRC = false → isLo a = false → isCal a = false → blockOf a ≠ some .ctr →
      a ≠ Reg.PMK_COR_SEQ → a ≠ Reg.EVR_HIGHFILL → isQuad a = false → ¬ (0x102000 ≤ a ∧ a < 0x103000) →
      s.refuseWordRead x.who a = none → s.latch.get? a = none →
      ∃ t, exec (.ctrRead w fr a 1) s₀ = .next t ∧ AnswersWith s t fr k x ⟨ansOK, [s.wordAt x.who a], true⟩ ∧
        (∀ b, t.latch.get? b = s.latch.get? b) ∧ Frame [.latch, .ctr, .perf, .arb] s t)) ∧
  (∀ (w : When) (fr : Sys2Proof.Frame) (k a : Nat) (v : Word) (d : RegDesc) (x : Session) (s₀ s : State), s = s₀.advance w →
    Asks s fr k x → ownRow a = false → findReg a = some d → s.refuse x.who a v = none → s.valueBad a v = false →
    (s.evr.room 0xE001 = true →
      ∃ t old, exec (.ctrWrite w fr a [v]) s₀ = .next t ∧ AnswersWith s t fr k x ⟨ansOK, [], true⟩ ∧
        t.rd (canonAddr a) = d.store x.role (s.rd (canonAddr a)) v ∧
        (blockOf a ≠ some .ctr → old = s.wordAt x.who a) ∧
        (let es : List (Nat × List Word) := [(0xE001, [n2w a, n2w (a / 2 ^ 32), 1, old, v, n2w (crc32c (leBytes 4 v.toNat)),
           n2w x.role.num, n2w x.binding, n2w x.num, n2w x.ph, n2w (Transport.num x.tp)])]
         EventsFrom s t es ∧
         WordsKept (fun b => b = canonAddr a ∨ inBlocks [.tsk] b ∨ (a = Reg.PMS_PAIRCFG ∧ b = Reg.PMS_PAIRSTAT) ∨
           (inBlocks [.prf] a ∧ inBlocks [.prf] b)) s t ∧
         Frame [.regs, .free, .evr, .prog, .ctr, .perf, .arb] s t ∧
         ((∀ g, g < 16 → a ≠ Reg.MTR_G_STATUS g) → a ≠ Reg.PMS_PAIRCFG → ¬ inBlocks [.prf] a →
           Events s t es ∧ RegsKept [canonAddr a] s t ∧ Frame [.regs, .evr, .ctr, .perf, .arb] s t))) ∧
    (s.evr.room 0xE001 = false →
      ∃ t, exec (.ctrWrite w fr a [v]) s₀ = .next t ∧ t.ctr.answer = some ⟨ansBUSY, [0, 0], true⟩ ∧
        t.sessOf fr.session = some (k, { x with lastNs := s.ns }) ∧ Frame [.ctr] s t)) ∧
  (∀ (w : When) (fr : Sys2Proof.Frame) (k a n : Nat) (ds : List Word) (x : Session) (ans : Answer) (s₀ s : State),
    s = s₀.advance w → CtrTakes s fr → SessionsOk s → s.longBusy = false → s.authOf fr = some (k, x) → x.opened = true →
    1 ≤ n → n ≤ 64 → ds.length = n →
    (x.seq = fr.seq → x.stored = some ans →
      (∃ t, exec (.ctrRead w fr a n) s₀ = .next t ∧ t.ctr.answer = some ans ∧ Frame [.ctr] s t) ∧
      (∃ t, exec (.ctrWrite w fr a ds) s₀ = .next t ∧ t.ctr.answer = some ans ∧ Frame [.ctr] s t)) ∧
    (fr.seq < x.seq →
      (∃ t, exec (.ctrRead w fr a n) s₀ = .next t ∧ t.ctr.answer = some ⟨ansSEQ, [], false⟩ ∧ Frame [.ctr] s t) ∧
      (∃ t, exec (.ctrWrite w fr a ds) s₀ = .next t ∧ t.ctr.answer = some ⟨ansSEQ, [], false⟩ ∧ Frame [.ctr] s t))) ∧
  (∀ (w : When) (fr : Sys2Proof.Frame) (k a n : Nat) (ds : List Word) (x : Session) (o : LongOp) (s₀ s : State),
    s = s₀.advance w → CtrTakes s fr → SessionsOk s → s.ctr.long = some o → s.authOf fr = some (k, x) → x.opened = true →
    x.seq < fr.seq → 1 ≤ n → n ≤ 64 → ds.length = n →
    (∃ t d, exec (.ctrRead w fr a n) s₀ = .next t ∧ AnswersWith s t fr k x ⟨ansBUSY, d, true⟩ ∧ Frame [.ctr, .free] s t) ∧
    (∃ t d, exec (.ctrWrite w fr a ds) s₀ = .next t ∧ AnswersWith s t fr k x ⟨ansBUSY, d, true⟩ ∧ Frame [.ctr, .free] s t)) ∧
  (∀ (w : When) (fr : Sys2Proof.Frame) (a n : Nat) (ds : List Word) (s₀ s : State), s = s₀.advance w → CtrTakes s fr →
    s.longBusy = false → s.authOf fr = none → 1 ≤ n → n ≤ 64 → ds.length = n →
    ∀ c, c = Instr.ctrRead w fr a n ∨ c = Instr.ctrWrite w fr a ds ∨ c = Instr.ctrClose w fr →
      ∃ t, exec c s₀ = .next t ∧ t.ctr.answer = some ⟨ansAUTHFAIL, [], false⟩ ∧ t.ctr.sessions = s.ctr.sessions ∧
        (t.rd Reg.CTR_AUTHCNT).toNat = min 0xFFFFFFFF ((s.rd Reg.CTR_AUTHCNT).toNat + 1) ∧
        RegsKept [Reg.CTR_AUTHCNT] s t ∧ Frame [.regs, .ctr] s t)

/-! ### Keys, life cycle and tamper (chapter 18) -/

/-- The commands of KEY_CTRL with the ends of their operations (R500 to R502, R504, R512 to R515): a key write and an
attestation are long operations 4 and 3, a zeroing 5; an erase empties the slot at once; a rekey draws a new root and
empties the lost slots. -/
def Obligations.KeyCommands : Prop :=
  (∀ (w : When) (who : Who) (n : Nat) (s₀ s : State), s = s₀.advance w → n < 32 → who.role = .maker →
    (s.refuse who Reg.KEY_CTRL (keyWord 1 n 0) = none →
      ∃ t, exec (.keyWriteCmd w who n) s₀ = .next t ∧ t.answered ansOK ∧ LongStarted 4 who s t ∧
        (t.ctr.long.map (·.work)) = some (.keyWrite n (s.keyWriteCode n)) ∧ RegsKept [Reg.CTR_STATUS] s t ∧
        Frame [.regs, .ctr] s t) ∧
    (s.refuse who Reg.KEY_CTRL (keyWord 2 n 0) = none →
      (1 ≤ s.lc → s.lc ≤ 3 → Settled s → ∃ t, exec (.keyErase w who n) s₀ = .next t ∧ t.answered ansOK ∧ t.keyState n = ksEMPTY ∧
        t.rd (Reg.KEY_SLOT0 n) = 0 ∧ t.rd (Reg.KEY_SLOT1 n) = 0 ∧ t.rd (Reg.KEY_SLOT2 n) = 0 ∧ t.rd (Reg.KEY_SLOT3 n) = 0 ∧
        t.keyWords n = [] ∧ (∀ m, m ≠ n → t.keyWords m = s.keyWords m) ∧
        (s.good .pmm = true → t.pm.words.get? (Reg.KEY_SLOT0 n) = some 0) ∧ (s.good .pmm = false → t.pm = s.pm) ∧
        RegsKept [Reg.KEY_SLOT0 n, Reg.KEY_SLOT1 n, Reg.KEY_SLOT2 n, Reg.KEY_SLOT3 n, Reg.PMC_JFILL, Reg.PMC_GROUPS_LO,
          Reg.PMC_GROUPS_HI] s t ∧
        Frame [.regs, .pm, .ctr, .perf, .arb, .keys] s t) ∧
      ((s.lc = 0 ∨ s.lc = 4) → exec (.keyErase w who n) s₀ = .next (s.answer ansBADSTATE)))) ∧
  (∀ (w : When) (who : Who) (n : Nat) (s₀ s : State), s = s₀.advance w → n < 32 → who.im = true →
    s.refuse who Reg.KEY_CTRL (keyWord 3 n 0) = none →
    (s.keyUsable n 6 2 0 = true → ∃ t, exec (.keyAttest w who n) s₀ = .next t ∧ t.answered ansOK ∧ LongStarted 3 who s t ∧
      (t.ctr.long.map (·.work)) = some (.attest n) ∧ t.keys.stmt = s.statement n ∧ t.keys.attbuf = [] ∧
      RegsKept [Reg.CTR_STATUS] s t ∧ Frame [.regs, .ctr, .keys] s t) ∧
    (s.keyUsable n 6 2 0 = false → exec (.keyAttest w who n) s₀ = .next (s.answer ansBADSTATE))) ∧
  (∀ (w : When) (who : Who) (s₀ s : State), s = s₀.advance w → who.role = .maker →
    s.refuse who Reg.KEY_CTRL (keyWord 4 0 0) = none →
    (s.keys.active = [] → 1 ≤ s.lc → s.lc ≤ 3 → s.rootOk = false → Settled s →
      ∃ t, exec (.keyRekey w who) s₀ = .next t ∧ t.answered ansOK ∧ t.rootOk = true ∧
        (∃ r, t.keys.root = some r ∧ r.length = 8) ∧
        (∀ n, n < 32 → (s.keyState n = ksLOST ∨ s.keyState n = ksCORRUPT) → t.keyState n = ksEMPTY ∧ t.keyWords n = []) ∧
        (∀ n, n < 32 → s.keyState n ≠ ksLOST → s.keyState n ≠ ksCORRUPT →
          t.rd (Reg.KEY_SLOT0 n) = s.rd (Reg.KEY_SLOT0 n) ∧ t.keyWords n = s.keyWords n) ∧
        (∃ m, Events s t [(0xB007, [m])]) ∧ WordsKept (inBlocks [.key, .pmc]) s t ∧
        Frame [.regs, .evr, .pm, .ctr, .perf, .arb, .keys] s t) ∧
    ((s.keys.active ≠ [] ∨ s.lc = 0 ∨ s.lc = 4 ∨ s.rootOk = true) →
      exec (.keyRekey w who) s₀ = .next (s.answer ansBADSTATE))) ∧
  (∀ (w : When) (who : Who) (m : Nat) (s₀ s : State), s = s₀.advance w → who.role = .maker → m < 8 →
    s.refuse who Reg.KEY_CTRL (keyWord 5 0 m) = none →
    ((m / 4 % 2 = 1 → s.mode = 0) → ∃ t, exec (.keyZeroize w who m) s₀ = .next t ∧ t.answered ansOK ∧
      LongStarted 5 who s t ∧ (t.ctr.long.map (·.work)) = some (.zero m false) ∧ t.keys.zero = some (m, false) ∧
      t.pm = s.pm ∧ RegsKept [Reg.CTR_STATUS] s t ∧ Frame [.regs, .ctr, .keys] s t) ∧
    (m / 4 % 2 = 1 → s.mode ≠ 0 → exec (.keyZeroize w who m) s₀ = .next (s.answer ansBADSTATE))) ∧
  (∀ (w : When) (s₀ s : State), s = s₀.advance w →
    (s.keys.winNs + 10000000000 ≤ s.ns → ∃ t, exec (.keyLoadwinTimeout w) s₀ = .next t ∧ t.keys.win = [] ∧
      t.keys.store = s.keys.store ∧ Frame [.keys] s t) ∧
    (s.ns < s.keys.winNs + 10000000000 → exec (.keyLoadwinTimeout w) s₀ = .next s)) ∧
  (∀ (w : When) (m : Nat) (r : Bool) (s₀ s : State), s = s₀.advance w → s.keys.zero = some (m, r) → s.good .pmm = true →
    s.ctr.long = none →
    ∃ t, exec (.zeroizeResume w) s₀ = .next t ∧ t.flag F.CTR_STATUS_BUSY = true ∧ t.fld F.CTR_STATUS_OPKIND = 5 ∧
      (t.ctr.long.map (·.work)) = some (.zero m r) ∧ RegsKept [Reg.CTR_STATUS] s t ∧ Frame [.regs, .ctr] s t) ∧
  (∀ (w : When) (o : LongOp) (n code : Nat) (s₀ s : State), s = s₀.advance w → s.good .ref = true →
    s.pwr.pfail = false → s.pms.restart = none → s.ctr.long = some o → o.work = .keyWrite n code → o.kind = 4 → n < 32 →
    Settled s →
    ∃ t, exec (.longOperationEnd w) s₀ = .next t ∧ t.ctr.long = none ∧ t.flag F.CTR_STATUS_BUSY = false ∧
      (t.rd Reg.CTR_LONGOP).bits 15 0 = code % 65536 ∧ t.keys.win = [] ∧
      (code = 0 → t.keyState n = ksVALID ∧ t.keyKind n = (s.rd (Reg.KEY_LOADATTR 0)).bits 7 4 ∧
        t.rd (Reg.KEY_SLOT1 n) = s.rd (Reg.KEY_LOADATTR 1) ∧ t.rd (Reg.KEY_SLOT2 n) = s.rd (Reg.KEY_LOADATTR 2) ∧
        t.rd (Reg.KEY_SLOT3 n) = n2w s.rtcSec ∧ (t.keyWords n).length = keyBytes (t.keyKind n) / 4 ∧
        ∀ i, i < keyBytes (t.keyKind n) / 4 → (t.keyWords n).getD i 0 = s.keys.win.getD i 0) ∧
      (code ≠ 0 → t.keys.store = s.keys.store ∧ RegsKept [Reg.CTR_STATUS, Reg.CTR_LONGOP] s t) ∧
      RegsKept [Reg.CTR_STATUS, Reg.CTR_LONGOP, Reg.KEY_SLOT0 n, Reg.KEY_SLOT1 n, Reg.KEY_SLOT2 n, Reg.KEY_SLOT3 n,
        Reg.PMC_JFILL, Reg.PMC_GROUPS_LO, Reg.PMC_GROUPS_HI] s t ∧ Frame [.regs, .evr, .pm, .ctr, .perf, .arb, .keys] s t)

/-- The life-cycle commands (R506 to R508): the only changes of state and what each does; a command that the state does
not list is BADSTATE. The test access port (R623): EXTEST is accepted in BLANK and MAKER with no manifest armed, and no
safety, measuring, tamper or wake pin is ever driven through the port. -/
def Obligations.LifeCycle : Prop :=
  (∀ (w : When) (who : Who) (s₀ s : State), s = s₀.advance w → who.role = .maker →
    s.refuse who Reg.KEY_LCCTRL (n2w (s.fld F.KEY_LCCTRL_SVCHOURS * 256 + 1)) = none →
    (s.lc = 0 → Settled s → ∃ t, exec (.lcAdvance w who) s₀ = .next t ∧ t.answered ansOK ∧ t.lc = 1 ∧ t.rootOk = s.keys.active.isEmpty ∧
      (∀ n, n < 32 → t.keyState n = ksEMPTY ∧ t.keyWords n = []) ∧
      Events s t [(0xB005, [0, 1, n2w who.role.num, n2w who.session])] ∧
      WordsKept (inBlocks [.key, .pmc]) s t ∧ Frame [.regs, .evr, .pm, .ctr, .perf, .arb, .keys] s t) ∧
    (s.lc = 1 → s.keyState 0 = ksVALID → s.keyState 1 = ksVALID → ∃ t, exec (.lcAdvance w who) s₀ = .next t ∧
      t.answered ansOK ∧ t.lc = 2 ∧ t.keys = s.keys ∧
      Events s t [(0xB005, [1, 2, n2w who.role.num, n2w who.session])] ∧
      RegsKept [Reg.KEY_STATUS] s t ∧ Frame [.regs, .evr, .ctr] s t) ∧
    ((2 ≤ s.lc ∨ (s.lc = 1 ∧ (s.keyState 0 ≠ ksVALID ∨ s.keyState 1 ≠ ksVALID))) →
      exec (.lcAdvance w who) s₀ = .next (s.answer ansBADSTATE))) ∧
  (∀ (w : When) (who : Who) (s₀ s : State), s = s₀.advance w → who.im = true →
    s.refuse who Reg.KEY_LCCTRL (n2w (s.fld F.KEY_LCCTRL_SVCHOURS * 256 + 2)) = none →
    (s.lc = 2 → ∃ t, exec (.lcService w who) s₀ = .next t ∧ t.answered ansOK ∧ t.lc = 3 ∧
      t.keys = { s.keys with svcEnd := some (s.ns +
        (if s.fld F.KEY_LCCTRL_SVCHOURS = 0 then 8 else s.fld F.KEY_LCCTRL_SVCHOURS) * 3600000000000) } ∧
      Events s t [(0xB005, [2, 3, n2w who.role.num, n2w who.session])] ∧
      RegsKept [Reg.KEY_STATUS] s t ∧ Frame [.regs, .evr, .ctr, .keys] s t) ∧
    (s.lc ≠ 2 → exec (.lcService w who) s₀ = .next (s.answer ansBADSTATE))) ∧
  (∀ (w : When) (who : Who) (s₀ s : State), s = s₀.advance w → who.im = true →
    s.refuse who Reg.KEY_LCCTRL (n2w (s.fld F.KEY_LCCTRL_SVCHOURS * 256 + 3)) = none →
    (s.lc = 3 → ∃ t, exec (.lcField w who) s₀ = .next t ∧ t.answered ansOK ∧ t.lc = 2 ∧ t.keys.svcEnd = none ∧
      Events s t [(0xB005, [3, 2, n2w who.role.num, n2w who.session])] ∧
      RegsKept [Reg.KEY_STATUS] s t ∧ Frame [.regs, .evr, .ctr, .keys] s t) ∧
    (s.lc ≠ 3 → exec (.lcField w who) s₀ = .next (s.answer ansBADSTATE))) ∧
  (∀ (w : When) (who : Who) (s₀ s : State), s = s₀.advance w → who.role = .maker →
    s.refuse who Reg.KEY_LCCTRL (n2w (s.fld F.KEY_LCCTRL_SVCHOURS * 256 + 4)) = none →
    (1 ≤ s.lc → s.lc ≤ 3 → s.mode = 0 → ∃ t, exec (.lcRetire w who) s₀ = .next t ∧ t.answered ansOK ∧ t.lc = 4 ∧
      t.keys.root = none ∧ t.rootOk = false ∧ t.keys.zero = some (7, true) ∧ LongStarted 5 who s t ∧
      (∀ d, 4 ≤ d → d ≤ 8 → t.goodN d = false) ∧ t.lane = 0 ∧
      EventsFrom s t [(0xB005, [n2w s.lc, 4, n2w who.role.num, n2w who.session])] ∧
      WordsKept (inBlocks [.key, .pms, .mod, .pwr, .pmc, .ctr, .prf]) s t ∧
      Frame [.regs, .free, .evr, .pm, .prog, .pwr, .ctr, .pms, .perf, .arb, .keys] s t) ∧
    ((s.lc = 0 ∨ s.lc = 4 ∨ s.mode ≠ 0) → exec (.lcRetire w who) s₀ = .next (s.answer ansBADSTATE))) ∧
  (∀ (w : When) (e : Nat) (s₀ s : State), s = s₀.advance w → s.keys.svcEnd = some e → s.lc = 3 →
    (e ≤ s.ns → ∃ t, exec (.serviceTimerExpiry w) s₀ = .next t ∧ t.lc = 2 ∧ t.keys.svcEnd = none ∧
      Events s t [(0xB005, [3, 2, 0xFF, 0])] ∧ RegsKept [Reg.KEY_STATUS] s t ∧ Frame [.regs, .evr, .keys] s t) ∧
    (s.ns < e → exec (.serviceTimerExpiry w) s₀ = .next s)) ∧
  (∀ s : State, ((s.tapLoad .extest).tap = .extest ↔ ((s.lc = 0 ∨ s.lc = 1) ∧ s.armed = false)) ∧
    (∀ p, p ≠ .other → s.tapDrives p = false) ∧
    s.tapReset.tapData = some (n2w (0x06413001 + s.fld F.MOD_HWREV_MAJOR % 16 * 2 ^ 28)))

/-- TAMPER_DETECT, TAMPER_SOURCE_CLEARED, WORKING_KEY_REQUEST and WORKING_KEY_RELEASE (R499, R503, R504, R509, R510,
R512): a watched source zeroes the root and writes the log whether or not REF runs; with REF the secret slots are LOST,
sessions close and 16#B001 is recorded; the working key register serves one usable request at a time. -/
def Obligations.TamperAndWorkingKey : Prop :=
  (∀ (w : When) (src : Tamper) (s₀ s : State), s = s₀.advance w → s.watched src = true → s.ctr.long = none →
    ∃ t, exec (.tamperDetect w src) s₀ = .next t ∧ t.keys.root = none ∧ src ∈ t.keys.active ∧
      t.fld F.KEY_TAMPER_SRC = Nat.lor (s.fld F.KEY_TAMPER_SRC) (2 ^ Tamper.bit src) ∧
      t.fld F.KEY_TAMPER_TCOUNT = min 65535 (s.keys.tlog + 1) ∧
      t.rd (Reg.KEY_TLOG0 (s.keys.tlog % 16)) = n2w s.rtcSec ∧
      (s.good .ref = true → t.rootOk = false ∧ t.keys.win = [] ∧ t.keys.wk = none ∧ t.keys.wait = [] ∧
        (∀ n, n < 32 → secretKind (s.keyKind n) = true → t.keyState n = ksLOST) ∧
        (∀ n, n < 32 → secretKind (s.keyKind n) = false → t.keyState n = s.keyState n) ∧
        (SessionsOk s → t.ctr.sessions = []) ∧
        EventsAmong s t [(0xB001, [n2w (2 ^ Tamper.bit src), n2w s.lc, 0])]) ∧
      (s.good .ref = false → t.ctr = s.ctr ∧ t.evr = s.evr ∧
        t.keys.pend = Nat.lor s.keys.pend (2 ^ Tamper.bit src)) ∧
      WordsKept (inBlocks [.key]) s t ∧ Frame [.regs, .evr, .ctr, .keys] s t) ∧
  (∀ (w : When) (src : Tamper) (s₀ s : State), s = s₀.advance w → s.watched src = false →
    exec (.tamperDetect w src) s₀ = .next s) ∧
  (∀ (w : When) (src : Tamper) (s₀ s : State), s = s₀.advance w →
    ∃ t, exec (.tamperSourceCleared w src) s₀ = .next t ∧ src ∉ t.keys.active ∧
      (∀ u, u ≠ src → (u ∈ t.keys.active ↔ u ∈ s.keys.active)) ∧ t.keys.root = s.keys.root ∧ Frame [.keys] s t) ∧
  (∀ (w : When) (m : Master) (n ph : Nat) (ok : Bool) (s₀ s : State), s = s₀.advance w → s.good .ref = true → n < 32 → ph < 64 →
    (s.keys.wk ≠ none → ∃ t, exec (.workingKeyRequest w m n ph ok) s₀ = .next t ∧
      t.keys = { s.keys with wait := s.keys.wait ++ [⟨m, n, ph, ok⟩] } ∧ Frame [.keys] s t) ∧
    (s.keys.wk = none → s.keyUsable n (s.keyKind n) (Master.bit m) ph = true →
      (ok = true ∨ secretKind (s.keyKind n) = false) →
      ∃ t, exec (.workingKeyRequest w m n ph ok) s₀ = .next t ∧ t.keys = { s.keys with wk := some ⟨m, n, ph, ok⟩ } ∧
        Frame [.keys] s t) ∧
    (s.keys.wk = none → s.keyUsable n (s.keyKind n) (Master.bit m) ph = true → ok = false →
      secretKind (s.keyKind n) = true →
      ∃ t, exec (.workingKeyRequest w m n ph ok) s₀ = .next t ∧ t.keyState n = ksCORRUPT ∧ t.keys = s.keys ∧
        Events s t [(0xB009, [n2w n])] ∧ ((m = .lna ∨ m = .lnb) → t.prog.ret = 2) ∧
        RegsKept [Reg.KEY_SLOT0 n] s t ∧ Frame [.regs, .evr, .prog] s t) ∧
    (s.keys.wk = none → s.keyUsable n (s.keyKind n) (Master.bit m) ph = false →
      ∃ t, exec (.workingKeyRequest w m n ph ok) s₀ = .next t ∧ t.keys.wk = none ∧
        (s.keys.denyNs = none → Events s t [(0xB004, [n2w n, n2w (Master.bit m), n2w ph])]) ∧
        ((m = .lna ∨ m = .lnb) → t.prog.ret = 2) ∧ Frame [.evr, .prog, .keys] s t)) ∧
  (∀ (w : When) (r : WkReq) (s₀ s : State), s = s₀.advance w → s.keys.wk = some r →
    (s.keys.wait = [] → ∃ t, exec (.workingKeyRelease w) s₀ = .next t ∧ t.keys = { s.keys with wk := none } ∧
      Frame [.keys] s t) ∧
    (∀ q, q ∈ s.keys.wait → (∀ x ∈ s.keys.wait, x ≠ q → Master.rank q.m < Master.rank x.m) →
      s.keyUsable q.slot (s.keyKind q.slot) (Master.bit q.m) q.ph = true → q.ok = true →
      ∃ t, exec (.workingKeyRelease w) s₀ = .next t ∧ t.keys = { s.keys with wk := some q, wait := s.keys.wait.erase q } ∧
        Frame [.keys] s t))

/-! ### Images and updates (chapter 19) -/

/-- IMG_VERIFY with its end, IMG_CLEAR and IMG_SLOT_WRITE (R521 to R523, R529, R535): a check runs as long operation 8 and
makes the slot VERIFIED, which ends the wait of a lane's ROM for an image, or REJECTED with its REASON; a slot that is
neither in use nor BUILDING is cleared or written. IMG_APPLY with its end and DELTA_APPLY_RESUME (R525 to R528): an apply
on a verified base that is not the target starts long operation 2 with the target BUILDING; a bad header or base rejects
the target; the result, when the delta runs out right, lies in the target slot and is checked; after a cut the apply
resumes. -/
def Obligations.ImageSlotsAndDelta : Prop :=
  ((∀ (w : When) (who : Who) (n : Nat) (s₀ s : State), s = s₀.advance w → n < 4 →
    s.refuse who Reg.MOD_IMG_CTRL (imgCmd 1 n 0) = none →
    (s.pmWorks = true → ∃ t, exec (.imgVerify w who n) s₀ = .next t ∧ t.answered ansOK ∧ LongStarted 8 who s t ∧
      (t.ctr.long.map (·.work)) = some (.imgVerify n (s.imgReason n)) ∧ RegsKept [Reg.CTR_STATUS] s t ∧
      Frame [.regs, .ctr, .arb] s t) ∧
    (s.pmWorks = false → exec (.imgVerify w who n) s₀ = .next (s.answer ansBADSTATE))) ∧
  (∀ (w : When) (o : LongOp) (n r : Nat) (s₀ s : State), s = s₀.advance w → s.good .ref = true →
    s.pwr.pfail = false → s.ctr.long = some o → o.work = .imgVerify n r → o.kind = 8 → n < 4 → r < 8 →
    ∃ t, exec (.longOperationEnd w) s₀ = .next t ∧ t.ctr.long = none ∧ t.flag F.CTR_STATUS_BUSY = false ∧
      (r = 0 → t.imgState n = 3 ∧ t.rd (Reg.MOD_IMG_SLOT1 n) = n2w (s.imgVersion n) ∧
        t.img.lane.get? n = some (s.hashOfComp n 1) ∧ t.img.pm.get? n = some (s.hashOfComp n 2) ∧
        t.pms = { s.pms with romWait := 0 }) ∧
      (r ≠ 0 → t.imgState n = 4 ∧ t.fld (F.MOD_IMG_SLOT0_REASON n) = r ∧ t.img = s.img ∧ t.pms = s.pms) ∧
      (s.good .pmm = true → InRegistry (.counters [(Reg.MOD_IMG_SLOT0 n, t.rd (Reg.MOD_IMG_SLOT0 n)),
        (Reg.MOD_IMG_SLOT1 n, t.rd (Reg.MOD_IMG_SLOT1 n))]) t) ∧ t.pm.home = s.pm.home ∧
      EventsFrom s t [(0xC001, [n2w n, n2w (s.imgVersion n), n2w r])] ∧
      RegsKept [Reg.CTR_STATUS, Reg.CTR_LONGOP, Reg.MOD_IMG_SLOT0 n, Reg.MOD_IMG_SLOT1 n, Reg.PMC_JFILL] s t ∧
      Frame [.regs, .evr, .pm, .ctr, .pms, .perf, .arb, .img] s t) ∧
  (∀ (w : When) (who : Who) (n : Nat) (s₀ s : State), s = s₀.advance w → n < 4 →
    s.refuse who Reg.MOD_IMG_CTRL (imgCmd 4 n 0) = none →
    (s.imgInUse n = false → s.imgState n ≠ 2 → ∃ t, exec (.imgClear w who n) s₀ = .next t ∧ t.answered ansOK ∧
      t.imgState n = 0 ∧ t.fld (F.MOD_IMG_SLOT0_REASON n) = 0 ∧ t.img.pm.get? n = none ∧ t.pm.home = s.pm.home ∧
      RegsKept [Reg.MOD_IMG_SLOT0 n, Reg.PMC_JFILL] s t ∧ Frame [.regs, .pm, .ctr, .perf, .arb, .img] s t) ∧
    ((s.imgInUse n = true ∨ s.imgState n = 2) → exec (.imgClear w who n) s₀ = .next (s.answer ansBADSTATE))) ∧
  (∀ (w : When) (who : Who) (n o : Nat) (data : List Word) (s₀ s : State), s = s₀.advance w → n < 4 → o % 4 = 0 →
    data ≠ [] → o + 4 * data.length ≤ 0x4000000 → s.longBusy = false → who.role = .maker → s.on .pmm = true →
    (s.imgInUse n = false → s.imgState n ≠ 2 →
      ∃ t, exec (.imgSlotWrite w who n o data) s₀ = .next t ∧ t.answered ansOK ∧ t.imgState n = 1 ∧
        (∀ i, i < 4 * data.length →
          Mem.byte t.pm.home (imgBase n + o + i) = (data.flatMap fun v => leBytes 4 v.toNat).getD i 0) ∧
        (∀ a, (a < imgBase n + o ∨ imgBase n + o + 4 * data.length ≤ a) → Mem.byte t.pm.home a = Mem.byte s.pm.home a) ∧
        RegsKept [Reg.MOD_IMG_SLOT0 n, Reg.PMC_JFILL] s t ∧ Frame [.regs, .pm, .ctr, .perf, .arb] s t) ∧
    ((s.imgInUse n = true ∨ s.imgState n = 2) →
      ∃ t, exec (.imgSlotWrite w who n o data) s₀ = .next t ∧ t.answered ansPROTECTED ∧ t.pm = s.pm ∧ t.regs = s.regs ∧
        Frame [.evr, .free, .ctr] s t))) ∧
  ((∀ (w : When) (who : Who) (src dst : Nat) (s₀ s : State), s = s₀.advance w → src < 4 → dst < 4 →
    s.refuse who Reg.MOD_IMG_CTRL (imgCmd 2 src dst) = none → s.pwr.recovery = false → s.pmWorks = true →
    s.imgState src = 3 → src ≠ dst → s.imgInUse dst = false → s.imgState dst ≠ 2 → s.handoverImg dst = false → Settled s →
    ∃ t, exec (.imgApply w who src dst) s₀ = .next t ∧ t.answered ansOK ∧ LongStarted 2 who s t ∧
      (t.ctr.long.map (·.work)) = some (.delta src dst) ∧ Events s t [(0xC002, [n2w src, n2w dst, n2w s.resultLen])] ∧
      (s.deltaHeader = false → t.imgState dst = 4 ∧ t.fld (F.MOD_IMG_SLOT0_REASON dst) = 1 ∧ t.img.delta = none) ∧
      (s.deltaHeader = true → s.deltaOnBase src = false →
        t.imgState dst = 4 ∧ t.fld (F.MOD_IMG_SLOT0_REASON dst) = 6 ∧ t.img.delta = none) ∧
      (s.deltaHeader = true → s.deltaOnBase src = true → t.imgState dst = 2 ∧ t.img.delta = some (src, dst) ∧
        t.fld F.MOD_IMG_PROG_BLOCKS = 0 ∧ t.pm.words.get? Reg.MOD_IMG_PROG = some (t.rd Reg.MOD_IMG_PROG)) ∧
      RegsKept [Reg.CTR_STATUS, Reg.MOD_IMG_SLOT0 dst, Reg.MOD_IMG_PROG, Reg.PMC_JFILL, Reg.PMC_GROUPS_LO,
        Reg.PMC_GROUPS_HI] s t ∧ Frame [.regs, .evr, .pm, .ctr, .perf, .arb, .img] s t) ∧
  (∀ (w : When) (who : Who) (src dst : Nat) (s₀ s : State), s = s₀.advance w → src < 4 → dst < 4 →
    s.refuse who Reg.MOD_IMG_CTRL (imgCmd 2 src dst) = none →
    (s.pmWorks = false ∨ s.imgState src ≠ 3 ∨ src = dst ∨ s.imgInUse dst = true ∨ s.imgState dst = 2) →
    exec (.imgApply w who src dst) s₀ = .next (s.answer ansBADSTATE)) ∧
  (∀ (w : When) (o : LongOp) (src dst : Nat) (bs : List Byte) (s₀ s : State), s = s₀.advance w → s.good .ref = true →
    s.pwr.pfail = false → s.ctr.long = some o → o.work = .delta src dst → o.kind = 2 → src < 4 → dst < 4 → src ≠ dst →
    s.imgState dst = 2 → s.deltaOnBase src = true → s.deltaResult src = some bs → bs.length ≤ imgMax → Settled s →
    s.pm.fill ≤ 16000000 →
    ∃ t, exec (.longOperationEnd w) s₀ = .next t ∧ t.ctr.long = none ∧ t.img.delta = none ∧
      (∀ i, i < bs.length → Mem.byte t.pm.home (imgBase dst + i) = bs.getD i 0) ∧
      (∀ a, (a < imgBase dst ∨ imgBase dst + bs.length ≤ a) → Mem.byte t.pm.home a = Mem.byte s.pm.home a) ∧
      (t.imgState dst = 3 ∨ t.imgState dst = 4) ∧ (t.imgState dst = 3 → t.fld (F.MOD_IMG_SLOT0_REASON dst) = 0) ∧
      RegsKept [Reg.CTR_STATUS, Reg.CTR_LONGOP, Reg.MOD_IMG_SLOT0 dst, Reg.MOD_IMG_SLOT1 dst, Reg.MOD_IMG_PROG,
        Reg.PMC_JFILL, Reg.PMC_GROUPS_LO, Reg.PMC_GROUPS_HI] s t ∧
      Frame [.regs, .evr, .pm, .ctr, .pms, .perf, .arb, .img] s t) ∧
  (∀ (w : When) (o : LongOp) (src dst : Nat) (s₀ s : State), s = s₀.advance w → s.good .ref = true →
    s.pwr.pfail = false → s.ctr.long = some o → o.work = .delta src dst → o.kind = 2 → src < 4 → dst < 4 →
    s.imgState dst = 2 → (s.deltaOnBase src = false ∨ s.deltaResult src = none) →
    ∃ t, exec (.longOperationEnd w) s₀ = .next t ∧ t.ctr.long = none ∧ t.img.delta = none ∧ t.imgState dst = 4 ∧
      t.fld (F.MOD_IMG_SLOT0_REASON dst) = (if s.deltaOnBase src then 7 else 6) ∧ t.pm.home = s.pm.home ∧
      RegsKept [Reg.CTR_STATUS, Reg.CTR_LONGOP, Reg.MOD_IMG_SLOT0 dst, Reg.PMC_JFILL] s t ∧
      Frame [.regs, .evr, .pm, .ctr, .perf, .arb, .img] s t) ∧
  (∀ (w : When) (src dst : Nat) (s₀ s : State), s = s₀.advance w → s.img.delta = some (src, dst) → s.pmWorks = true →
    s.ctr.long = none →
    ∃ t, exec (.deltaApplyResume w) s₀ = .next t ∧ t.flag F.CTR_STATUS_BUSY = true ∧ t.fld F.CTR_STATUS_OPKIND = 2 ∧
      (t.ctr.long.map (·.work)) = some (.delta src dst) ∧
      Events s t [(0xC004, [n2w dst, n2w (s.fld F.MOD_IMG_PROG_BLOCKS)])] ∧
      RegsKept [Reg.CTR_STATUS] s t ∧ Frame [.regs, .evr, .ctr] s t))

/-- IMG_PMSWITCH, IMG_RECOVER and IMG_BOOT (R530 to R534): the Postmaster restarts on a verified image, recovery mode
starts the module with its cause, and BOOT leaves it with both images named. -/
def Obligations.ImageSwitches : Prop :=
  (∀ (w : When) (who : Who) (n : Nat) (s₀ s : State), s = s₀.advance w → n < 4 →
    s.refuse who Reg.MOD_IMG_CTRL (imgCmd 3 n 0) = none → s.pwr.recovery = false →
    (s.imgState n = 3 → s.pms.change = none → s.fld F.PMS_STATUS_PHASE = 0 → s.pms.restart = none → s.ctr.long = none →
      ∃ t, exec (.imgPmswitch w who n) s₀ = .next t ∧ t.answered ansOK ∧ t.fld F.MOD_IMG_USE_PM = n ∧
        t.fld F.MOD_IMG_USE_LANE = s.fld F.MOD_IMG_USE_LANE ∧ t.pms.restart = some (3, s.ns) ∧
        t.fld F.PMS_PMRST_CAUSE = 3 ∧ t.imgInUse n = true ∧
        (s.fld F.MOD_IMG_USE_PM ≠ n → Events s t [(0xC005, [n2w (s.fld F.MOD_IMG_USE_LANE), n2w (s.fld F.MOD_IMG_USE_LANE),
          n2w (s.fld F.MOD_IMG_USE_PM), n2w n, n2w who.role.num, n2w who.session])]) ∧
        RegsKept [Reg.MOD_IMG_USE, Reg.MOD_IMG_SLOT0 0, Reg.MOD_IMG_SLOT0 1, Reg.MOD_IMG_SLOT0 2, Reg.MOD_IMG_SLOT0 3,
          Reg.PMS_PMRST, Reg.PMC_JFILL] s t ∧ Frame [.regs, .evr, .pm, .ctr, .pms, .perf, .arb] s t) ∧
    ((s.imgState n ≠ 3 ∨ s.pms.change ≠ none ∨ s.fld F.PMS_STATUS_PHASE ≠ 0 ∨ s.pms.restart ≠ none) →
      exec (.imgPmswitch w who n) s₀ = .next (s.answer ansBADSTATE))) ∧
  (∀ (w : When) (who : Who) (s₀ s : State), s = s₀.advance w → s.refuse who Reg.MOD_IMG_CTRL (imgCmd 5 0 0) = none →
    (s.pwr.recovery = true → exec (.imgRecover w who) s₀ = .next (s.answer ansBADSTATE)) ∧
    (s.pwr.recovery = false → s.ctr.long = none → ∃ t, exec (.imgRecover w who) s₀ = .next t ∧ t.answered ansOK ∧ t.pwr.recovery = true ∧
      t.flag F.MOD_IMG_USE_RECOV = true ∧ t.fld F.PWR_RSTCAUSE_CAUSE = 6 ∧ t.ctr.sessions = [] ∧
      t.good .ref = true ∧ t.good .pmm = false ∧ t.pm = { s.pm with waiting := [] } ∧
      WordsKept (inBlocks [.mod, .ctr, .pwr, .pms, .saf, .key, .evr, .prf]) s t ∧
      Frame [.regs, .latch, .evr, .pm, .man, .prog, .pwr, .ctr, .pms, .saf, .keys] s t)) ∧
  (∀ (w : When) (who : Who) (n : Nat) (s₀ s : State), s = s₀.advance w → n < 4 →
    s.refuse who Reg.MOD_IMG_CTRL (imgCmd 6 n 0) = none →
    ((s.pwr.recovery = false ∨ s.imgState n ≠ 3) → exec (.imgBoot w who n) s₀ = .next (s.answer ansBADSTATE)) ∧
    (s.pwr.recovery = true → s.imgState n = 3 → s.pwr.recovStrap = false → s.img.pm.get? n = none → s.ctr.long = none →
      ∃ t, exec (.imgBoot w who n) s₀ = .next t ∧ t.answered ansOK ∧ t.pwr.recovery = false ∧
        t.fld F.MOD_IMG_USE_PM = n ∧ t.fld F.MOD_IMG_USE_LANE = n ∧ t.fld F.PWR_RSTCAUSE_CAUSE = 5 ∧
        t.ctr.sessions = [] ∧ t.pwr.staged = true ∧ t.good .ref = true ∧ t.good .pmm = false ∧ t.pm.home = s.pm.home ∧
        WordsKept (inBlocks [.mod, .ctr, .pwr, .pms, .saf, .key, .evr, .prf, .pmc]) s t ∧
        Frame [.regs, .latch, .evr, .pm, .man, .prog, .pwr, .ctr, .pms, .perf, .arb, .saf, .keys] s t))

/-! ### The event recorder (chapter 21) -/

/-- RECORDER_RING_WRITE and RECORDER_RESUME (R557, R562, R563, R565, R566): the buffered records go to their slots of the
ring in SEQ order, those of one postmark in the order of their codes, the newest is shown, and the buffer empties; the
sequence is resumed once, where the saved number and the records after it end, and every waiting record gets its number.
-/
def Obligations.RecorderRing : Prop :=
  (∀ (w : When) (r : EvRec) (q : Nat) (s₀ s : State), s = s₀.advance w → s.evr.run = true → s.good .pmm = true →
    s.pwr.pfail = false → s.fld F.PWR_STATUS_RUNG ≤ 1 → s.evr.buf = [r] → r.seq = some q → q < 2 ^ 32 → r.snap.length ≤ 16 →
    s.evr.dropping = false →
    ∃ t, exec (.recorderRingWrite w) s₀ = .next t ∧ t.evr.buf = [] ∧ t.evr.newest = q ∧
      (∀ i, i < 128 → Mem.byte t.pm.home (ringBase + 128 * (q % ringSlots) + i) = r.bytes.getD i 0) ∧
      (∀ a, (a < ringBase + 128 * (q % ringSlots) ∨ ringBase + 128 * (q % ringSlots) + 128 ≤ a) →
        Mem.byte t.pm.home a = Mem.byte s.pm.home a) ∧
      t.evr.wrapped = (s.evr.wrapped || decide (ringSlots ≤ q)) ∧
      ((q + 1) % 4096 = 0 → InRegistry (.evrNext ((q + 1) % 2 ^ 32)) t) ∧
      ((q + 1) % 4096 ≠ 0 → t.regs = s.regs) ∧ t.evr.saved = s.evr.saved ∧
      RegsKept [Reg.PMC_JFILL] s t ∧ Frame [.regs, .evr, .pm, .perf, .arb] s t) ∧
  (∀ (w : When) (s₀ s : State), s = s₀.advance w → s.evr.run = true → s.good .pmm = true →
    s.pwr.pfail = false → s.fld F.PWR_STATUS_RUNG ≤ 1 → s.evr.dropping = false → (∀ r ∈ s.evr.buf, r.seq.isSome = true) →
    ∃ t, exec (.recorderRingWrite w) s₀ = .next t ∧ t.evr.buf = [] ∧
      (∀ r q, s.evr.buf.getLast? = some r → r.seq = some q → t.evr.newest = q) ∧
      RegsKept [Reg.PMC_JFILL] s t ∧ Frame [.regs, .evr, .pm, .perf, .arb] s t) ∧
  (∀ (w : When) (a b : EvRec) (p q : Nat) (s₀ s : State), s = s₀.advance w → s.evr.run = true → s.good .pmm = true →
    s.pwr.pfail = false → s.fld F.PWR_STATUS_RUNG ≤ 1 → s.evr.buf = [a, b] → a.seq = some p → b.seq = some q →
    p % ringSlots ≠ q % ringSlots → a.pm = b.pm → a.snap.length ≤ 16 → b.snap.length ≤ 16 →
    ∃ t, exec (.recorderRingWrite w) s₀ = .next t ∧
      (let first := if b.code < a.code then b else a
       let second := if b.code < a.code then a else b
       (∀ i, 4 ≤ i → i < 6 → Mem.byte t.pm.home (ringBase + 128 * (p % ringSlots) + i) = first.bytes.getD i 0) ∧
       (∀ i, 4 ≤ i → i < 6 → Mem.byte t.pm.home (ringBase + 128 * (q % ringSlots) + i) = second.bytes.getD i 0) ∧
       (∀ i, i < 4 → Mem.byte t.pm.home (ringBase + 128 * (p % ringSlots) + i) = (leBytes 4 p).getD i 0) ∧
       (∀ i, i < 4 → Mem.byte t.pm.home (ringBase + 128 * (q % ringSlots) + i) = (leBytes 4 q).getD i 0))) ∧
  (∀ (w : When) (k q : Nat) (s₀ s : State), s = s₀.advance w → s.good .pmm = true → s.evr.resumed = false →
    s.evr.saved.use? = some (k, q) → s.evr.saved.conflict = false → s.evr.saved.lost = false →
    ∃ t, exec (.recorderResume w) s₀ = .next t ∧ t.evr.resumed = true ∧ t.evr.run = true ∧
      (let first := (q + s.pm.ringScan 4096 q) % 2 ^ 32
       t.evr.newest = (first + 2 ^ 32 - 1) % 2 ^ 32 ∧
       (∀ i r, s.evr.buf[i]? = some r → ∃ x, t.evr.buf[i]? = some x ∧ x.seq = some ((first + i) % 2 ^ 32) ∧ x.code = r.code ∧
         x.snap = r.snap) ∧
       Events s t [(0x0201, [n2w first, n2w (s.pm.ringScan 4096 q)])]) ∧
      Frame [.evr] s t) ∧
  (∀ (w : When) (s₀ s : State), s = s₀.advance w → s.evr.resumed = true →
    exec (.recorderResume w) s₀ = .next s)

/-! ### The power ladder and reset (chapter 22) -/

/-- The starts of the module (R539, R553, R570, R580, R585, R586, R588, R619, R620): VIN_VALID, DOMAIN_START of REF, the
RESET command, RST_N, PFAIL with its restart, the collapse of VIN and the first power of the backup domain. -/
def Obligations.ModuleStarts : Prop :=
  (∀ (w : When) (strap : Bool) (s₀ s : State), s = s₀.advance w → s.canonical = true → s.pwr.rstLow = false →
    s.domSt 1 = .off →
    ((s.pwr.backup = none ∨ s.flag F.BAK_PWRON_STATE = true ∨ s.pwr.next ≠ 0) → s.pwr.next < 8 →
      ∃ t, exec (.vinValid w strap) s₀ = .next t ∧ ModuleStarted
        (if s.pwr.next ≠ 0 then s.pwr.next else if s.pwr.backup.isSome then 7 else 2) s t) ∧
    (s.pwr.backup.isSome = true → s.flag F.BAK_PWRON_STATE = false → s.pwr.next = 0 →
      exec (.vinValid w strap) s₀ = .next { s with pwr := { s.pwr with started := true } })) ∧
  (∀ (w : When) (strap : Bool) (s₀ s : State), s = s₀.advance w → (s.pwr.rstLow = true ∨ s.domSt 1 ≠ .off) →
    exec (.vinValid w strap) s₀ = .next { s with pwr := { s.pwr with started := true } }) ∧
  (∀ (w : When) (x : Nat) (s₀ s : State), s = s₀.advance w → s.canonical = true → s.mayStart 1 = true → s.pwr.next < 8 →
    ∃ t, exec (.domainStart w .ref x) s₀ = .next t ∧
      ModuleStarted (if s.pwr.next = 0 then 2 else s.pwr.next) s t ∧
      (2 ≤ s.pwr.tries.getD 1 0 → t.flag F.PWR_STATUS_DOMFAIL = true)) ∧
  (∀ (w : When) (who : Who) (s₀ s : State), s = s₀.advance w → s.refuse who Reg.PWR_CTRL 2 = none →
    who.role = .maker → s.canonical = true →
    ∃ t, exec (.pwrResetCmd w who) s₀ = .next t ∧ t.answered ansOK ∧ ModuleStarted 5 s t) ∧
  (∀ (w : When) (s₀ s : State), s = s₀.advance w → s.canonical = true →
    ∃ t, exec (.rstNLow w) s₀ = .next t ∧ t.pwr.rstLow = true ∧ t.goodN 0 = s.goodN 0 ∧
      (∀ n, 1 ≤ n → n ≤ 8 → t.goodN n = false ∧ t.domSt n = .off) ∧ OutputsOff t ∧ t.keys.wk = none ∧
      t.pwr.started = s.pwr.started ∧ t.rtc = s.rtc ∧ WordsKept (inBlocks [.mod, .pwr, .saf]) s t ∧
      Frame [.regs, .evr, .prog, .pwr, .saf, .keys] s t) ∧
  (∀ (w : When) (strap : Bool) (s₀ s : State), s = s₀.advance w → s.canonical = true → s.pwr.rstLow = true →
    (s.pwr.started = true → ∃ t, exec (.rstNRelease w strap) s₀ = .next t ∧ ModuleStarted 4 s t) ∧
    (s.pwr.started = false → ∃ t, exec (.rstNRelease w strap) s₀ = .next t ∧ t.pwr.rstLow = false ∧ Frame [.pwr] s t)) ∧
  (∀ (w : When) (s₀ s : State), s = s₀.advance w →
    ∃ t, exec (.vinCollapse w) s₀ = .next t ∧ t.pwr.started = false ∧ t.pwr.pfail = false ∧ t.goodN 0 = s.goodN 0 ∧
      (∀ n, 1 ≤ n → n ≤ 8 → t.goodN n = false ∧ t.domSt n = .off) ∧ OutputsOff t ∧
      (s.good .pmm = true → s.pwr.pfail = false → t.pwr.flushLost = true ∧ t.pwr.flushed = false) ∧ t.rtc = s.rtc ∧
      t.flag F.BAK_STATUS_ONVBAK = true ∧ t.flag F.BAK_STATUS_CHARGING = false ∧
      t.pm = s.pm ∧ WordsKept (fun a => a = Reg.BAK_STATUS ∨ inBlocks [.mod, .pwr, .saf] a) s t ∧ Frame [.regs, .evr, .prog, .pwr, .saf, .keys] s t) ∧
  (∀ (w : When) (s₀ s : State), s = s₀.advance w →
    ∃ t, exec (.bakPowerOn w) s₀ = .next t ∧ t.keys.root = none ∧ t.pwr.next = 1 ∧ t.rtc = Rtc.reset ∧
      (s.canonical = true → t.flag F.RTC_STATUS_VALID = false ∧ t.flag F.BAK_PWRON_STATE = true) ∧ t.pm = s.pm ∧
      (∀ n, 1 ≤ n → n ≤ 8 → t.goodN n = false) ∧ WordsKept (inBlocks [.mod, .pwr, .rtc, .saf]) s t ∧
      Frame [.regs, .latch, .evr, .prog, .rtc, .pwr, .saf, .keys] s t) ∧
  (∀ (w : When) (mv : Nat) (pin : Bool) (s₀ s : State), s = s₀.advance w →
    (s.good .ref = true → s.pwr.pfail = false → s.pwr.rstLow = false → (pin = true ∨ mv < 16500) →
      ∃ t, exec (.pfailDetect w mv pin) s₀ = .next t ∧ t.pwr.pfail = true ∧ t.pwr.flushed = true ∧ t.good .ref = true ∧
        t.fld F.PWR_PFCNT_PFAILS = min 65535 (s.fld F.PWR_PFCNT_PFAILS + 1) ∧
        (∀ n, 2 ≤ n → n ≤ 8 → t.goodN n = false ∧ t.domSt n = .off) ∧ t.evr.run = false ∧
        (s.good .pmm = true → s.good .mtr = true → s.pm.fill ≤ 8000000 → s.evr.buf.length ≤ 960 →
          t.clk.saved.use?.map Prod.snd = some (s.clk.cycle.toNat, s.rtcSec) ∧ (∀ e ∈ t.pm.journal, e.durable = true)) ∧
        WordsKept (inBlocks [.mod, .ctr, .pwr, .pmc, .tsk, .mtr, .prf]) s t ∧
        Frame [.regs, .free, .evr, .clk, .pm, .man, .prog, .pwr, .ctr, .pms, .perf, .arb, .mtr, .saf, .keys] s t) ∧
    ((s.good .ref = false ∨ s.pwr.pfail = true ∨ s.pwr.rstLow = true) → exec (.pfailDetect w mv pin) s₀ = .next s)) ∧
  (∀ (w : When) (s₀ s : State), s = s₀.advance w → s.pwr.pfail = true → s.good .ref = true →
    ∃ t, exec (.pfailRestart w) s₀ = .next t ∧ t.pwr.pfail = false ∧ t.pwr.staged = true ∧
      t.fld F.PWR_RSTCAUSE_CAUSE = 3 ∧ t.flag F.PWR_RSTCAUSE_LASTFLUSH = true ∧ t.lane = 0 ∧ t.good .ref = true ∧
      t.ctr = s.ctr ∧ t.keys = s.keys ∧ t.saf.cut = false ∧ OutputsFollow t ∧ t.safState = s.safState ∧
      WordsKept (inBlocks [.mod, .pwr, .pms, .saf, .tsk]) s t ∧ Frame [.regs, .evr, .man, .prog, .pwr, .pms, .saf] s t)

/-- DOMAIN_START, DOMAIN_GOOD_TIMEOUT and DOMAIN_RETRY after REF (R12, R40, R386, R570 to R572): the next domain of the
order reports good and shows rung 0; one that does not report good is tried again after 100 ms, and once more not, is
failed with DOMFAIL and 16#D005. -/
def Obligations.DomainStarts : Prop :=
  (∀ (w : When) (d : Dom) (x : Nat) (s₀ s : State), s = s₀.advance w → 2 ≤ d.idx → d.idx ≤ 6 → s.mayStart d.idx = true →
    ∃ t, exec (.domainStart w d x) s₀ = .next t ∧ t.goodN d.idx = true ∧ t.domSt d.idx = .good ∧ t.domRung d.idx = 0 ∧
      (s.domSt d.idx ≠ .retention →
        (d = .pmm → t.flag F.PMC_STATUS_RECOVD = true ∧ (t.rd Reg.PMC_RECTIME).toNat ≤ 15000 ∧
          ∃ n m, EventsAmong s t [(0x9001, [n, m, t.rd Reg.PMC_RECTIME])]) ∧
        (d = .mtr → s.domSt 3 ≠ .good → t.clk.cycle = BitVec.ofNat 44 s.startCycle.1 ∧
          t.flag F.PMK_STATUS_CNTEST = s.startCycle.2 ∧ t.clk.saved = s.clk.saved) ∧
        (d = .net → t.net.sram = [] ∧ t.mtr = s.mtr)) ∧
      WordsKept (inBlocks ([.mod, .pwr] ++ (match d with
        | .pmm => [.arb, .pmc] | .mtr => [.pmk, .mtr, .pms, .tsk] | .fab => [.fpt, .gov, .prf] | .cle => [.cle, .cleTab, .prf]
        | .net => [.eth, .fpt] | _ => []))) s t ∧
      Frame [.regs, .latch, .free, .evr, .clk, .pm, .man, .fab, .prog, .rtc, .pwr, .pms, .perf, .arb, .cle, .net, .mtr, .gov] s t) ∧
  (∀ (w : When) (d : Dom) (x : Nat) (s₀ s : State), s = s₀.advance w → s.mayStart d.idx = false →
    exec (.domainStart w d x) s₀ = .next s) ∧
  (∀ (w : When) (d : Dom) (s₀ s : State), s = s₀.advance w → 2 ≤ d.idx → d.idx ≤ 6 → s.mayStart d.idx = true →
    s.domSt d.idx ≠ .good → s.domSt d.idx ≠ .retention →
    (s.pwr.tries.getD d.idx 0 = 0 → ∃ t, exec (.domainGoodTimeout w d) s₀ = .next t ∧ t.domSt d.idx = .retry ∧
      t.goodN d.idx = false ∧ t.pwr.tries.getD d.idx 0 = 1 ∧ t.pwr.lastStartNs = s.ns ∧
      RegsKept [Reg.MOD_DOMAINS, Reg.PWR_DOMRUNG] s t ∧ Frame [.regs, .pwr] s t) ∧
    (1 ≤ s.pwr.tries.getD d.idx 0 → ∃ t, exec (.domainGoodTimeout w d) s₀ = .next t ∧ t.domSt d.idx = .failed ∧
      t.goodN d.idx = false ∧ t.flag F.PWR_STATUS_DOMFAIL = true ∧ (d.idx ≤ 4 → t.pwr.staged = false) ∧
      (s.good .pmm = true → EventsFrom s t [(0xD005, [n2w d.idx, n2w (s.pwr.tries.getD d.idx 0 + 1)])]) ∧
      RegsKept [Reg.MOD_DOMAINS, Reg.PWR_DOMRUNG, Reg.PWR_STATUS] s t ∧ Frame [.regs, .evr, .pwr] s t)) ∧
  (∀ (w : When) (d : Dom) (s₀ s : State), s = s₀.advance w → s.domSt d.idx = .retry →
    (s.pwr.lastStartNs + (if d = .ref ∧ 2 ≤ s.pwr.tries.getD 1 0 then 1000000000 else 100000000) ≤ s.ns →
      ∃ t, exec (.domainRetry w d) s₀ = .next t ∧ t.domSt d.idx = .starting ∧ t.goodN d.idx = false ∧
        (∀ n, n ≠ d.idx → t.domSt n = s.domSt n) ∧ RegsKept [Reg.MOD_DOMAINS, Reg.PWR_DOMRUNG] s t ∧
        Frame [.regs, .pwr] s t) ∧
    (s.ns < s.pwr.lastStartNs + 100000000 → exec (.domainRetry w d) s₀ = .next s))

/-- The ladder's moves (R574 to R580, R596): the RUNG command, a descent's steps with 16#D003 and 16#D004, and wake
sources. -/
def Obligations.PowerLadder : Prop :=
  (∀ (w : When) (who : Who) (n : Nat) (s₀ s : State), s = s₀.advance w → n < 8 →
    s.refuse who Reg.PWR_CTRL (n2w (1 + n * 256)) = none →
    ((n = 1 ∨ n = 7 ∨ (n = 6 ∧ s.rd Reg.PWR_WAKE = 0) ∨ s.changing = true) →
      exec (.pwrRungCmd w who n) s₀ = .next (s.answer ansBADSTATE)) ∧
    (n ≠ 1 → n ≠ 7 → ¬ (n = 6 ∧ s.rd Reg.PWR_WAKE = 0) → s.changing = false →
      (s.fld F.PWR_STATUS_RUNG = n → s.pwr.move = none → exec (.pwrRungCmd w who n) s₀ = .next (s.answer ansOK)) ∧
      (n ≠ 0 → (s.fld F.PWR_STATUS_RUNG ≠ n ∨ s.pwr.move ≠ none) →
        ∃ t, exec (.pwrRungCmd w who n) s₀ = .next t ∧ t.answered ansOK ∧ t.fld F.PWR_STATUS_TARGET = n ∧
          t.flag F.PWR_STATUS_MOVING = true ∧ t.fld F.PWR_STATUS_RUNG = s.fld F.PWR_STATUS_RUNG ∧
          (∃ m, t.pwr.move = some m ∧ m.cause = 1 ∧ m.role = who.role.num ∧ m.session = who.session ∧ m.step ≤ 2) ∧
          (s.pwr.move = none → s.laneUp = true → s.mode ≠ 0 → t.mode = 0 ∧ t.fld F.TSK_STATUS_CAUSE = 2 ∧
            t.prog.remembered = s.mode) ∧
          WordsKept (inBlocks [.tsk, .pmc, .prf, .cle, .eth, .pms, .mod, .ctr, .pwr]) s t ∧
          Frame [.regs, .free, .evr, .clk, .pm, .man, .fab, .prog, .pwr, .ctr, .pms, .perf, .arb, .cle, .net, .saf] s t) ∧
      (n = 0 → (s.fld F.PWR_STATUS_RUNG ≠ 0 ∨ s.pwr.move ≠ none) →
        ∃ t, exec (.pwrRungCmd w who n) s₀ = .next t ∧ t.answered ansOK ∧ t.fld F.PWR_STATUS_TARGET = 0 ∧
          (s.fld F.PWR_STATUS_RUNG ≤ 4 → EventsAmong s t
            [(0xD003, [n2w (s.fld F.PWR_STATUS_RUNG), 0, 1, n2w who.role.num, n2w who.session])]) ∧
          WordsKept (inBlocks [.tsk, .pmc, .prf, .cle, .eth, .pms, .mod, .ctr, .pwr, .gov, .saf, .key, .evr]) s t ∧
          Frame [.regs, .latch, .free, .evr, .clk, .pm, .man, .fab, .prog, .pwr, .ctr, .pms, .perf, .arb, .cle, .net, .saf,
            .keys] s t))) ∧
  (∀ (w : When) (m : Move) (s₀ s : State), s = s₀.advance w → s.pwr.move = some m → s.pwr.pfail = false →
    ((m.step = 2 ∨ (m.step = 1 ∧ (m.classes = [] ∨ m.waitNs ≤ s.ns))) → s.axesOn = [] →
      (s.fld F.PWR_STATUS_TARGET = 6 → Settled s) →
      ∃ t, exec (.descentContinue w) s₀ = .next t ∧ t.fld F.PWR_STATUS_RUNG = s.fld F.PWR_STATUS_TARGET ∧
        t.flag F.PWR_STATUS_MOVING = false ∧ t.flag F.PWR_STATUS_AXWAIT = false ∧ t.pwr.move = none ∧
        (∀ n, 1 ≤ n → n ≤ 6 → s.domSt n = .good →
          t.domSt n = planOf (s.fld F.PWR_STATUS_TARGET) n ∧
          t.goodN n = (planOf (s.fld F.PWR_STATUS_TARGET) n == .good)) ∧
        (4 ≤ s.fld F.PWR_STATUS_TARGET → OutputsOff t) ∧
        (5 ≤ s.fld F.PWR_STATUS_TARGET → t.ctr.sessions = []) ∧
        (s.fld F.PWR_STATUS_TARGET = 6 → t.pwr.backup = some s.prog.remembered) ∧
        EventsAmong s t [(0xD003, [n2w (s.fld F.PWR_STATUS_RUNG), n2w (s.fld F.PWR_STATUS_TARGET), n2w m.cause,
          n2w m.role, n2w m.session])] ∧
        WordsKept (inBlocks [.mod, .pwr, .mtr, .pmc, .saf, .tsk, .rtc, .key]) s t ∧
        Frame [.regs, .free, .evr, .pm, .prog, .pwr, .ctr, .perf, .arb, .mtr, .saf, .keys] s t) ∧
    (m.step = 1 → (m.classes = [] ∨ m.waitNs ≤ s.ns) → s.axesOn ≠ [] →
      ∃ t, exec (.descentContinue w) s₀ = .next t ∧ t.flag F.PWR_STATUS_AXWAIT = true ∧
        t.pwr.move = some { m with step := 2, waitNs := s.ns } ∧ t.pwr.dom = s.pwr.dom ∧
        t.fld F.PWR_STATUS_RUNG = s.fld F.PWR_STATUS_RUNG ∧ WordsKept (inBlocks [.pwr, .cle, .tsk]) s t ∧
        Frame [.regs, .evr, .prog, .pwr, .cle] s t) ∧
    (((m.step = 1 ∧ m.classes ≠ [] ∧ s.ns < m.waitNs) ∨ (m.step = 2 ∧ s.axesOn ≠ [])) →
      exec (.descentContinue w) s₀ = .next s)) ∧
  (∀ (w : When) (m : Move) (s₀ s : State), s = s₀.advance w → s.pwr.move = some m → m.step = 2 → s.axesOn ≠ [] →
    (m.waitNs + 60000000000 ≤ s.ns → ∃ t, exec (.axwaitReport w) s₀ = .next t ∧
      t.pwr = { s.pwr with move := some { m with waitNs := s.ns } } ∧ Events s t [(0xD004, axMask s.axesOn)] ∧
      Frame [.evr, .pwr] s t) ∧
    (s.ns < m.waitNs + 60000000000 → exec (.axwaitReport w) s₀ = .next s)) ∧
  (∀ (w : When) (src : Wake) (s₀ s : State), s = s₀.advance w →
    (2 ≤ s.fld F.PWR_STATUS_RUNG → s.fld F.PWR_STATUS_RUNG ≤ 5 → (s.rd Reg.PWR_WAKE).bit (wakeBit src) = true →
      (src = .spi → s.fld F.PWR_STATUS_RUNG = 4) → s.pwr.rstLow = false → s.pwr.pfail = false → s.pwr.move = none →
      ∃ t, exec (.wakeSource w src) s₀ = .next t ∧ t.fld F.PWR_STATUS_TARGET = 0 ∧
        (s.domSt 1 = .retention → t.domSt 1 = .good ∧ t.good .ref = true) ∧
        (s.fld F.PWR_STATUS_RUNG ≤ 4 →
          EventsAmong s t [(0xD003, [n2w (s.fld F.PWR_STATUS_RUNG), 0, 4, 0xFF, 0])]) ∧
        WordsKept (inBlocks [.tsk, .pmc, .prf, .cle, .eth, .pms, .mod, .ctr, .pwr, .gov, .saf, .key, .evr]) s t ∧
        Frame [.regs, .latch, .free, .evr, .clk, .pm, .man, .fab, .prog, .pwr, .ctr, .pms, .perf, .arb, .cle, .net, .saf,
          .keys] s t) ∧
    ((s.rd Reg.PWR_WAKE).bit (wakeBit src) = false → exec (.wakeSource w src) s₀ = .next s))

/-- The supply policy and the temperature (R581, R582, R597, R628): SUPPLY_LOSS, its delays, a postponed descent,
SUPPLY_RESTORE, THERMAL_WARNING and THERMAL_FALL_BELOW_90. -/
def Obligations.SupplyPolicy : Prop :=
  (∀ (w : When) (s₀ s : State), s = s₀.advance w → s.good .ref = true → s.flag F.PWR_STATUS_SUPLOST = false →
    (s.fld F.PWR_LADCFG_SUPSRC = 2 ∨
      (s.fld F.PWR_LADCFG_SUPSRC = 1 ∧ s.fld F.PMK_STATUS_STATE ≠ 1 ∧ s.fld F.PMK_STATUS_LOSS = 1)) →
    ∃ t, exec (.supplyLoss w) s₀ = .next t ∧ t.flag F.PWR_STATUS_SUPLOST = true ∧ t.pwr.lostNs = some s.ns ∧
      Events s t [(0xD006, [1, n2w (s.fld F.PWR_LADCFG_SUPSRC)])] ∧ RegsKept [Reg.PWR_STATUS] s t ∧
      Frame [.regs, .evr, .pwr] s t) ∧
  (∀ (w : When) (second : Bool) (at_ rung : Nat) (s₀ s : State), s = s₀.advance w → s.pwr.lostNs = some at_ →
    rung = (if second then s.fld F.PWR_LADCFG_RUNG2 else s.fld F.PWR_LADCFG_RUNG1) →
    at_ + (if second then s.fld F.PWR_LADCFG_DLY2 else s.fld F.PWR_LADCFG_DLY1) * 60000000000 ≤ s.ns →
    s.pwr.stage = 0 → s.pwr.pfail = false → s.pwr.move = none →
    (rung ≤ s.fld F.PWR_STATUS_RUNG → ∃ t, exec (.supplyLossDelayExpiry w second) s₀ = .next t ∧ t.pwr.move = none ∧
      t.pwr.postponed = s.pwr.postponed ∧ Frame [.pwr] s t) ∧
    (s.fld F.PWR_STATUS_RUNG < rung → (s.longBusy = true ∨ s.changing = true) →
      ∃ t, exec (.supplyLossDelayExpiry w second) s₀ = .next t ∧ t.pwr.postponed = some rung ∧ t.pwr.move = none ∧
        Frame [.pwr] s t) ∧
    (s.fld F.PWR_STATUS_RUNG < rung → s.longBusy = false → s.changing = false →
      ∃ t, exec (.supplyLossDelayExpiry w second) s₀ = .next t ∧ t.fld F.PWR_STATUS_TARGET = rung ∧
        t.flag F.PWR_STATUS_MOVING = true ∧ (∃ m, t.pwr.move = some m ∧ m.step = 1 ∧ m.cause = 2 ∧ m.role = 0xFF) ∧
        WordsKept (inBlocks [.tsk, .pmc, .prf, .cle, .eth, .pms, .mod, .ctr, .pwr]) s t ∧
        Frame [.regs, .free, .evr, .clk, .pm, .man, .fab, .prog, .pwr, .ctr, .pms, .perf, .arb, .cle, .net, .saf] s t)) ∧
  (∀ (w : When) (n : Nat) (s₀ s : State), s = s₀.advance w → s.pwr.postponed = some n → n < 8 → s.pwr.pfail = false →
    ((s.longBusy = true ∨ s.changing = true) → exec (.postponedDescentStart w) s₀ = .next s) ∧
    (s.longBusy = false → s.changing = false →
      ∃ t, exec (.postponedDescentStart w) s₀ = .next t ∧ t.fld F.PWR_STATUS_TARGET = n ∧
        t.flag F.PWR_STATUS_MOVING = true ∧ t.pwr.postponed = none ∧
        EventsFrom s t [(0xD003, [n2w (s.fld F.PWR_STATUS_RUNG), n2w n, 2, 0xFF, 0])] ∧
        WordsKept (inBlocks [.tsk, .pmc, .prf, .cle, .eth, .pms, .mod, .ctr, .pwr]) s t ∧
        Frame [.regs, .free, .evr, .clk, .pm, .man, .fab, .prog, .pwr, .ctr, .pms, .perf, .arb, .cle, .net, .saf] s t)) ∧
  (∀ (w : When) (s₀ s : State), s = s₀.advance w → s.flag F.PWR_STATUS_SUPLOST = true → s.domSt 1 ≠ .off →
    (s.flag F.PWR_WAKE_SUPPLY = false → ∃ t, exec (.supplyRestore w) s₀ = .next t ∧ t.flag F.PWR_STATUS_SUPLOST = false ∧
      t.pwr = { s.pwr with lostNs := none, stage := 0, postponed := none } ∧
      Events s t [(0xD006, [0, n2w (s.fld F.PWR_LADCFG_SUPSRC)])] ∧ RegsKept [Reg.PWR_STATUS] s t ∧
      Frame [.regs, .evr, .pwr] s t) ∧
    (s.flag F.PWR_WAKE_SUPPLY = true → s.fld F.PWR_STATUS_RUNG ≠ 0 → s.pwr.move = none →
      ∃ t, exec (.supplyRestore w) s₀ = .next t ∧ t.flag F.PWR_STATUS_SUPLOST = false ∧ t.pwr.lostNs = none ∧
        t.pwr.postponed = none ∧ t.fld F.PWR_STATUS_TARGET = 0 ∧
        WordsKept (inBlocks [.tsk, .pmc, .prf, .cle, .eth, .pms, .mod, .ctr, .pwr, .gov, .saf, .key, .evr]) s t ∧
        Frame [.regs, .latch, .free, .evr, .clk, .pm, .man, .fab, .prog, .pwr, .ctr, .pms, .perf, .arb, .cle, .net, .saf,
          .keys] s t)) ∧
  (∀ (w : When) (temp : Int) (s₀ s : State), s = s₀.advance w → s.good .ref = true →
    (s.pwr.thermArmed = true → 950 ≤ temp → ∃ t, exec (.thermalWarning w temp) s₀ = .next t ∧
      t.pwr = { s.pwr with thermArmed := false } ∧
      Events s t [(0xD007, [i2w temp, n2w (s.fld F.PWR_STATUS_RUNG), s.peek Reg.PWR_VIN])] ∧ Frame [.evr, .pwr] s t) ∧
    ((s.pwr.thermArmed = false ∨ temp < 950) → exec (.thermalWarning w temp) s₀ = .next s)) ∧
  (∀ (w : When) (s₀ s : State), s = s₀.advance w → s.good .ref = true →
    exec (.thermalFallBelow90 w) s₀ = .next { s with pwr := { s.pwr with thermArmed := true } })

/-! ### Three rules whole -/

/-- R165: a command that R164 does not list for the current mode is answered BADSTATE and changes nothing; so are WARM and
COLD while no manifest with TASKS is armed. A watchdog that is due goes before a HOLD (R592), so none is due there. -/
def Obligations.UnlistedProgramCommands : Prop :=
  (∀ (w : When) (who : Who) (h : Bool) (n : Nat) (s₀ s : State), s = s₀.advance w → s.mode = 1 →
    (s.refuse who Reg.TSK_CTRL (tskCmd 3 0 false) = none →
      exec (.programResume w who) s₀ = .next (s.answer ansBADSTATE)) ∧
    (n < 64 → s.refuse who Reg.TSK_CTRL (tskCmd 4 n false) = none →
      exec (.programStep w who n) s₀ = .next (s.answer ansBADSTATE)) ∧
    (s.refuse who Reg.TSK_CTRL (tskCmd 5 0 h) = none → exec (.programWarm w who h) s₀ = .next (s.answer ansBADSTATE)) ∧
    (s.refuse who Reg.TSK_CTRL (tskCmd 6 0 h) = none → exec (.programCold w who h) s₀ = .next (s.answer ansBADSTATE))) ∧
  (∀ (w : When) (who : Who) (n : Nat) (s₀ s : State), s = s₀.advance w → s.mode = 0 →
    (s.refuse who Reg.TSK_CTRL (tskCmd 1 0 false) = none →
      exec (.programStop w who) s₀ = .next (s.answer ansBADSTATE)) ∧
    (s.refuse who Reg.TSK_CTRL (tskCmd 2 0 false) = none →
      exec (.programHold w who) s₀ = .next (s.answer ansBADSTATE)) ∧
    (s.refuse who Reg.TSK_CTRL (tskCmd 3 0 false) = none →
      exec (.programResume w who) s₀ = .next (s.answer ansBADSTATE)) ∧
    (n < 64 → s.refuse who Reg.TSK_CTRL (tskCmd 4 n false) = none →
      exec (.programStep w who n) s₀ = .next (s.answer ansBADSTATE))) ∧
  (∀ (w : When) (who : Who) (s₀ s : State), s = s₀.advance w → s.mode = 2 → Unexpired s →
    s.refuse who Reg.TSK_CTRL (tskCmd 2 0 false) = none →
    exec (.programHold w who) s₀ = .next (s.answer ansBADSTATE)) ∧
  (∀ (w : When) (who : Who) (h : Bool) (s₀ s : State), s = s₀.advance w → (s.program.none? = true ∨ s.armed = false) →
    (s.refuse who Reg.TSK_CTRL (tskCmd 5 0 h) = none → exec (.programWarm w who h) s₀ = .next (s.answer ansBADSTATE)) ∧
    (s.refuse who Reg.TSK_CTRL (tskCmd 6 0 h) = none → exec (.programCold w who h) s₀ = .next (s.answer ansBADSTATE)))

/-- R531: HANDOVER is answered BADSTATE when IMG is not VERIFIED or its VERSION is below MINIMG of the ARMED manifest;
PMSWITCH when SRC is not VERIFIED, or while a takeover or handover is in progress. -/
def Obligations.ImageNotVerified : Prop :=
  (∀ (w : When) (who : Who) (img : Nat) (s₀ s : State), s = s₀.advance w → img < 4 →
    s.refuse who Reg.PMS_CTRL (pmsCmd 1 img) = none →
    (s.imgState img ≠ 3 ∨ (s.rd (Reg.MOD_IMG_SLOT1 img)).toNat < s.minImg) →
    exec (.pmsHandover w who img) s₀ = .next (s.answer ansBADSTATE)) ∧
  (∀ (w : When) (who : Who) (src : Nat) (s₀ s : State), s = s₀.advance w → src < 4 →
    s.refuse who Reg.MOD_IMG_CTRL (imgCmd 3 src 0) = none → s.pwr.recovery = false →
    (s.imgState src ≠ 3 ∨ s.pms.change ≠ none ∨ s.fld F.PMS_STATUS_PHASE ≠ 0) →
    exec (.imgPmswitch w who src) s₀ = .next (s.answer ansBADSTATE))

/-- R414: WRAP passes from 2^48 - 1 to 0 and sets the counter's sticky OVF bit, SAT stops at 2^48 - 1 and sets it;
counting never clears the bit, and a register write clears exactly the bits that it writes with 1. -/
def Obligations.CounterModes : Prop :=
  (∀ (s : State) (u i n v : Nat), u < 4 → i < 8 → v = s.perf.cnt.getD (8 * u + i) 0 → v < 2 ^ 48 →
    let t := s.perfAdd u i n
    (v + n < 2 ^ 48 → t.perf.cnt.getD (8 * u + i) 0 = v + n ∧ t.regs = s.regs) ∧
    (2 ^ 48 ≤ v + n → (s.rd (Reg.PRF_U_CFG u i)).bit 30 = false →
      t.perf.cnt.getD (8 * u + i) 0 = (v + n) % 2 ^ 48 ∧ (t.rd (Reg.PRF_U_STATUS u)).bit i = true) ∧
    (2 ^ 48 ≤ v + n → (s.rd (Reg.PRF_U_CFG u i)).bit 30 = true →
      t.perf.cnt.getD (8 * u + i) 0 = 2 ^ 48 - 1 ∧ (t.rd (Reg.PRF_U_STATUS u)).bit i = true) ∧
    (∀ j, j < 8 → j ≠ i → (t.rd (Reg.PRF_U_STATUS u)).bit j = (s.rd (Reg.PRF_U_STATUS u)).bit j) ∧
    ((s.rd (Reg.PRF_U_STATUS u)).bit i = true → (t.rd (Reg.PRF_U_STATUS u)).bit i = true) ∧
    (∀ k, k ≠ 8 * u + i → t.perf.cnt.getD k 0 = s.perf.cnt.getD k 0) ∧
    RegsKept [Reg.PRF_U_STATUS u] s t ∧ Frame [.regs, .perf] s t) ∧
  (∀ (w : When) (who : Who) (u : Nat) (v : Word) (s₀ s : State), s = s₀.advance w → u < 4 →
    s.refuse who (Reg.PRF_U_STATUS u) v = none →
    ∃ t, exec (.registerWrite w who (Reg.PRF_U_STATUS u) v) s₀ = .next t ∧ t.answered ansOK ∧
      (∀ i, i < 8 → (t.rd (Reg.PRF_U_STATUS u)).bit i = ((s.rd (Reg.PRF_U_STATUS u)).bit i && !(v.bit i))) ∧
      RegsKept [Reg.PRF_U_STATUS u] s t ∧ Frame [.regs, .ctr, .perf, .arb] s t)

/-! ### What every step keeps -/

/-- Every step takes the front command off the queue and no other; TCXO time never runs backwards (R15, R37). -/
def Obligations.QueueAndTime : Prop :=
  ∀ s t : State, step s = .next t → t.pending = s.pending.tail ∧ s.ns ≤ t.ns

/-- Every step keeps the canonical form of the register file, of the persistent array and of the shared SRAM. -/
def Obligations.CanonicalFormKept : Prop :=
  ∀ s t : State, s.canonical = true → step s = .next t → t.canonical = true

/-- Every step keeps the session table: at most eight entries, each with a number of its own from 1 to 65,535 (R478 to
R482, R485). -/
def Obligations.SessionTableKept : Prop :=
  ∀ s t : State, SessionsOk s → step s = .next t → SessionsOk t
end

