-- ==== Sys2Proof/Laws/State.lean ====
section
/-! SUPPORT. One lemma per field of `State` for each update: what the update leaves alone. -/

namespace Sys2Proof.Machine

/-! ### `wr` -/

@[simp] theorem State.wr_pending (s : State) (a : Nat) (v : Word) : (s.wr a v).pending = s.pending := (rfl)
@[simp] theorem State.wr_ns (s : State) (a : Nat) (v : Word) : (s.wr a v).ns = s.ns := (rfl)
@[simp] theorem State.wr_latch (s : State) (a : Nat) (v : Word) : (s.wr a v).latch = s.latch := (rfl)
@[simp] theorem State.wr_free (s : State) (a : Nat) (v : Word) : (s.wr a v).free = s.free := (rfl)
@[simp] theorem State.wr_evr (s : State) (a : Nat) (v : Word) : (s.wr a v).evr = s.evr := (rfl)
@[simp] theorem State.wr_clk (s : State) (a : Nat) (v : Word) : (s.wr a v).clk = s.clk := (rfl)
@[simp] theorem State.wr_pm (s : State) (a : Nat) (v : Word) : (s.wr a v).pm = s.pm := (rfl)
@[simp] theorem State.wr_man (s : State) (a : Nat) (v : Word) : (s.wr a v).man = s.man := (rfl)
@[simp] theorem State.wr_fab (s : State) (a : Nat) (v : Word) : (s.wr a v).fab = s.fab := (rfl)
@[simp] theorem State.wr_prog (s : State) (a : Nat) (v : Word) : (s.wr a v).prog = s.prog := (rfl)
@[simp] theorem State.wr_rtc (s : State) (a : Nat) (v : Word) : (s.wr a v).rtc = s.rtc := (rfl)
@[simp] theorem State.wr_pwr (s : State) (a : Nat) (v : Word) : (s.wr a v).pwr = s.pwr := (rfl)
@[simp] theorem State.wr_ctr (s : State) (a : Nat) (v : Word) : (s.wr a v).ctr = s.ctr := (rfl)
@[simp] theorem State.wr_pms (s : State) (a : Nat) (v : Word) : (s.wr a v).pms = s.pms := (rfl)
@[simp] theorem State.wr_perf (s : State) (a : Nat) (v : Word) : (s.wr a v).perf = s.perf := (rfl)
@[simp] theorem State.wr_arb (s : State) (a : Nat) (v : Word) : (s.wr a v).arb = s.arb := (rfl)
@[simp] theorem State.wr_cle (s : State) (a : Nat) (v : Word) : (s.wr a v).cle = s.cle := (rfl)
@[simp] theorem State.wr_net (s : State) (a : Nat) (v : Word) : (s.wr a v).net = s.net := (rfl)
@[simp] theorem State.wr_mtr (s : State) (a : Nat) (v : Word) : (s.wr a v).mtr = s.mtr := (rfl)
@[simp] theorem State.wr_gov (s : State) (a : Nat) (v : Word) : (s.wr a v).gov = s.gov := (rfl)
@[simp] theorem State.wr_saf (s : State) (a : Nat) (v : Word) : (s.wr a v).saf = s.saf := (rfl)
@[simp] theorem State.wr_keys (s : State) (a : Nat) (v : Word) : (s.wr a v).keys = s.keys := (rfl)
@[simp] theorem State.wr_img (s : State) (a : Nat) (v : Word) : (s.wr a v).img = s.img := (rfl)
@[simp] theorem State.wr_tap (s : State) (a : Nat) (v : Word) : (s.wr a v).tap = s.tap := (rfl)

/-! ### `setFld` -/

@[simp] theorem State.setFld_pending (s : State) (f : Fld) (v : Nat) : (s.setFld f v).pending = s.pending := (rfl)
@[simp] theorem State.setFld_ns (s : State) (f : Fld) (v : Nat) : (s.setFld f v).ns = s.ns := (rfl)
@[simp] theorem State.setFld_latch (s : State) (f : Fld) (v : Nat) : (s.setFld f v).latch = s.latch := (rfl)
@[simp] theorem State.setFld_free (s : State) (f : Fld) (v : Nat) : (s.setFld f v).free = s.free := (rfl)
@[simp] theorem State.setFld_evr (s : State) (f : Fld) (v : Nat) : (s.setFld f v).evr = s.evr := (rfl)
@[simp] theorem State.setFld_clk (s : State) (f : Fld) (v : Nat) : (s.setFld f v).clk = s.clk := (rfl)
@[simp] theorem State.setFld_pm (s : State) (f : Fld) (v : Nat) : (s.setFld f v).pm = s.pm := (rfl)
@[simp] theorem State.setFld_man (s : State) (f : Fld) (v : Nat) : (s.setFld f v).man = s.man := (rfl)
@[simp] theorem State.setFld_fab (s : State) (f : Fld) (v : Nat) : (s.setFld f v).fab = s.fab := (rfl)
@[simp] theorem State.setFld_prog (s : State) (f : Fld) (v : Nat) : (s.setFld f v).prog = s.prog := (rfl)
@[simp] theorem State.setFld_rtc (s : State) (f : Fld) (v : Nat) : (s.setFld f v).rtc = s.rtc := (rfl)
@[simp] theorem State.setFld_pwr (s : State) (f : Fld) (v : Nat) : (s.setFld f v).pwr = s.pwr := (rfl)
@[simp] theorem State.setFld_ctr (s : State) (f : Fld) (v : Nat) : (s.setFld f v).ctr = s.ctr := (rfl)
@[simp] theorem State.setFld_pms (s : State) (f : Fld) (v : Nat) : (s.setFld f v).pms = s.pms := (rfl)
@[simp] theorem State.setFld_perf (s : State) (f : Fld) (v : Nat) : (s.setFld f v).perf = s.perf := (rfl)
@[simp] theorem State.setFld_arb (s : State) (f : Fld) (v : Nat) : (s.setFld f v).arb = s.arb := (rfl)
@[simp] theorem State.setFld_cle (s : State) (f : Fld) (v : Nat) : (s.setFld f v).cle = s.cle := (rfl)
@[simp] theorem State.setFld_net (s : State) (f : Fld) (v : Nat) : (s.setFld f v).net = s.net := (rfl)
@[simp] theorem State.setFld_mtr (s : State) (f : Fld) (v : Nat) : (s.setFld f v).mtr = s.mtr := (rfl)
@[simp] theorem State.setFld_gov (s : State) (f : Fld) (v : Nat) : (s.setFld f v).gov = s.gov := (rfl)
@[simp] theorem State.setFld_saf (s : State) (f : Fld) (v : Nat) : (s.setFld f v).saf = s.saf := (rfl)
@[simp] theorem State.setFld_keys (s : State) (f : Fld) (v : Nat) : (s.setFld f v).keys = s.keys := (rfl)
@[simp] theorem State.setFld_img (s : State) (f : Fld) (v : Nat) : (s.setFld f v).img = s.img := (rfl)
@[simp] theorem State.setFld_tap (s : State) (f : Fld) (v : Nat) : (s.setFld f v).tap = s.tap := (rfl)

/-! ### `setFlag` -/

@[simp] theorem State.setFlag_pending (s : State) (f : Fld) (b : Bool) : (s.setFlag f b).pending = s.pending := (rfl)
@[simp] theorem State.setFlag_ns (s : State) (f : Fld) (b : Bool) : (s.setFlag f b).ns = s.ns := (rfl)
@[simp] theorem State.setFlag_latch (s : State) (f : Fld) (b : Bool) : (s.setFlag f b).latch = s.latch := (rfl)
@[simp] theorem State.setFlag_free (s : State) (f : Fld) (b : Bool) : (s.setFlag f b).free = s.free := (rfl)
@[simp] theorem State.setFlag_evr (s : State) (f : Fld) (b : Bool) : (s.setFlag f b).evr = s.evr := (rfl)
@[simp] theorem State.setFlag_clk (s : State) (f : Fld) (b : Bool) : (s.setFlag f b).clk = s.clk := (rfl)
@[simp] theorem State.setFlag_pm (s : State) (f : Fld) (b : Bool) : (s.setFlag f b).pm = s.pm := (rfl)
@[simp] theorem State.setFlag_man (s : State) (f : Fld) (b : Bool) : (s.setFlag f b).man = s.man := (rfl)
@[simp] theorem State.setFlag_fab (s : State) (f : Fld) (b : Bool) : (s.setFlag f b).fab = s.fab := (rfl)
@[simp] theorem State.setFlag_prog (s : State) (f : Fld) (b : Bool) : (s.setFlag f b).prog = s.prog := (rfl)
@[simp] theorem State.setFlag_rtc (s : State) (f : Fld) (b : Bool) : (s.setFlag f b).rtc = s.rtc := (rfl)
@[simp] theorem State.setFlag_pwr (s : State) (f : Fld) (b : Bool) : (s.setFlag f b).pwr = s.pwr := (rfl)
@[simp] theorem State.setFlag_ctr (s : State) (f : Fld) (b : Bool) : (s.setFlag f b).ctr = s.ctr := (rfl)
@[simp] theorem State.setFlag_pms (s : State) (f : Fld) (b : Bool) : (s.setFlag f b).pms = s.pms := (rfl)
@[simp] theorem State.setFlag_perf (s : State) (f : Fld) (b : Bool) : (s.setFlag f b).perf = s.perf := (rfl)
@[simp] theorem State.setFlag_arb (s : State) (f : Fld) (b : Bool) : (s.setFlag f b).arb = s.arb := (rfl)
@[simp] theorem State.setFlag_cle (s : State) (f : Fld) (b : Bool) : (s.setFlag f b).cle = s.cle := (rfl)
@[simp] theorem State.setFlag_net (s : State) (f : Fld) (b : Bool) : (s.setFlag f b).net = s.net := (rfl)
@[simp] theorem State.setFlag_mtr (s : State) (f : Fld) (b : Bool) : (s.setFlag f b).mtr = s.mtr := (rfl)
@[simp] theorem State.setFlag_gov (s : State) (f : Fld) (b : Bool) : (s.setFlag f b).gov = s.gov := (rfl)
@[simp] theorem State.setFlag_saf (s : State) (f : Fld) (b : Bool) : (s.setFlag f b).saf = s.saf := (rfl)
@[simp] theorem State.setFlag_keys (s : State) (f : Fld) (b : Bool) : (s.setFlag f b).keys = s.keys := (rfl)
@[simp] theorem State.setFlag_img (s : State) (f : Fld) (b : Bool) : (s.setFlag f b).img = s.img := (rfl)
@[simp] theorem State.setFlag_tap (s : State) (f : Fld) (b : Bool) : (s.setFlag f b).tap = s.tap := (rfl)

/-! ### `inc` -/

@[simp] theorem State.inc_pending (s : State) (f : Fld) (n : Nat) : (s.inc f n).pending = s.pending := (rfl)
@[simp] theorem State.inc_ns (s : State) (f : Fld) (n : Nat) : (s.inc f n).ns = s.ns := (rfl)
@[simp] theorem State.inc_latch (s : State) (f : Fld) (n : Nat) : (s.inc f n).latch = s.latch := (rfl)
@[simp] theorem State.inc_free (s : State) (f : Fld) (n : Nat) : (s.inc f n).free = s.free := (rfl)
@[simp] theorem State.inc_evr (s : State) (f : Fld) (n : Nat) : (s.inc f n).evr = s.evr := (rfl)
@[simp] theorem State.inc_clk (s : State) (f : Fld) (n : Nat) : (s.inc f n).clk = s.clk := (rfl)
@[simp] theorem State.inc_pm (s : State) (f : Fld) (n : Nat) : (s.inc f n).pm = s.pm := (rfl)
@[simp] theorem State.inc_man (s : State) (f : Fld) (n : Nat) : (s.inc f n).man = s.man := (rfl)
@[simp] theorem State.inc_fab (s : State) (f : Fld) (n : Nat) : (s.inc f n).fab = s.fab := (rfl)
@[simp] theorem State.inc_prog (s : State) (f : Fld) (n : Nat) : (s.inc f n).prog = s.prog := (rfl)
@[simp] theorem State.inc_rtc (s : State) (f : Fld) (n : Nat) : (s.inc f n).rtc = s.rtc := (rfl)
@[simp] theorem State.inc_pwr (s : State) (f : Fld) (n : Nat) : (s.inc f n).pwr = s.pwr := (rfl)
@[simp] theorem State.inc_ctr (s : State) (f : Fld) (n : Nat) : (s.inc f n).ctr = s.ctr := (rfl)
@[simp] theorem State.inc_pms (s : State) (f : Fld) (n : Nat) : (s.inc f n).pms = s.pms := (rfl)
@[simp] theorem State.inc_perf (s : State) (f : Fld) (n : Nat) : (s.inc f n).perf = s.perf := (rfl)
@[simp] theorem State.inc_arb (s : State) (f : Fld) (n : Nat) : (s.inc f n).arb = s.arb := (rfl)
@[simp] theorem State.inc_cle (s : State) (f : Fld) (n : Nat) : (s.inc f n).cle = s.cle := (rfl)
@[simp] theorem State.inc_net (s : State) (f : Fld) (n : Nat) : (s.inc f n).net = s.net := (rfl)
@[simp] theorem State.inc_mtr (s : State) (f : Fld) (n : Nat) : (s.inc f n).mtr = s.mtr := (rfl)
@[simp] theorem State.inc_gov (s : State) (f : Fld) (n : Nat) : (s.inc f n).gov = s.gov := (rfl)
@[simp] theorem State.inc_saf (s : State) (f : Fld) (n : Nat) : (s.inc f n).saf = s.saf := (rfl)
@[simp] theorem State.inc_keys (s : State) (f : Fld) (n : Nat) : (s.inc f n).keys = s.keys := (rfl)
@[simp] theorem State.inc_img (s : State) (f : Fld) (n : Nat) : (s.inc f n).img = s.img := (rfl)
@[simp] theorem State.inc_tap (s : State) (f : Fld) (n : Nat) : (s.inc f n).tap = s.tap := (rfl)

/-! ### `incWord` -/

@[simp] theorem State.incWord_pending (s : State) (a : Nat) : (s.incWord a).pending = s.pending := (rfl)
@[simp] theorem State.incWord_ns (s : State) (a : Nat) : (s.incWord a).ns = s.ns := (rfl)
@[simp] theorem State.incWord_latch (s : State) (a : Nat) : (s.incWord a).latch = s.latch := (rfl)
@[simp] theorem State.incWord_free (s : State) (a : Nat) : (s.incWord a).free = s.free := (rfl)
@[simp] theorem State.incWord_evr (s : State) (a : Nat) : (s.incWord a).evr = s.evr := (rfl)
@[simp] theorem State.incWord_clk (s : State) (a : Nat) : (s.incWord a).clk = s.clk := (rfl)
@[simp] theorem State.incWord_pm (s : State) (a : Nat) : (s.incWord a).pm = s.pm := (rfl)
@[simp] theorem State.incWord_man (s : State) (a : Nat) : (s.incWord a).man = s.man := (rfl)
@[simp] theorem State.incWord_fab (s : State) (a : Nat) : (s.incWord a).fab = s.fab := (rfl)
@[simp] theorem State.incWord_prog (s : State) (a : Nat) : (s.incWord a).prog = s.prog := (rfl)
@[simp] theorem State.incWord_rtc (s : State) (a : Nat) : (s.incWord a).rtc = s.rtc := (rfl)
@[simp] theorem State.incWord_pwr (s : State) (a : Nat) : (s.incWord a).pwr = s.pwr := (rfl)
@[simp] theorem State.incWord_ctr (s : State) (a : Nat) : (s.incWord a).ctr = s.ctr := (rfl)
@[simp] theorem State.incWord_pms (s : State) (a : Nat) : (s.incWord a).pms = s.pms := (rfl)
@[simp] theorem State.incWord_perf (s : State) (a : Nat) : (s.incWord a).perf = s.perf := (rfl)
@[simp] theorem State.incWord_arb (s : State) (a : Nat) : (s.incWord a).arb = s.arb := (rfl)
@[simp] theorem State.incWord_cle (s : State) (a : Nat) : (s.incWord a).cle = s.cle := (rfl)
@[simp] theorem State.incWord_net (s : State) (a : Nat) : (s.incWord a).net = s.net := (rfl)
@[simp] theorem State.incWord_mtr (s : State) (a : Nat) : (s.incWord a).mtr = s.mtr := (rfl)
@[simp] theorem State.incWord_gov (s : State) (a : Nat) : (s.incWord a).gov = s.gov := (rfl)
@[simp] theorem State.incWord_saf (s : State) (a : Nat) : (s.incWord a).saf = s.saf := (rfl)
@[simp] theorem State.incWord_keys (s : State) (a : Nat) : (s.incWord a).keys = s.keys := (rfl)
@[simp] theorem State.incWord_img (s : State) (a : Nat) : (s.incWord a).img = s.img := (rfl)
@[simp] theorem State.incWord_tap (s : State) (a : Nat) : (s.incWord a).tap = s.tap := (rfl)

/-! ### `satWord` -/

@[simp] theorem State.satWord_pending (s : State) (a n : Nat) : (s.satWord a n).pending = s.pending := (rfl)
@[simp] theorem State.satWord_ns (s : State) (a n : Nat) : (s.satWord a n).ns = s.ns := (rfl)
@[simp] theorem State.satWord_latch (s : State) (a n : Nat) : (s.satWord a n).latch = s.latch := (rfl)
@[simp] theorem State.satWord_free (s : State) (a n : Nat) : (s.satWord a n).free = s.free := (rfl)
@[simp] theorem State.satWord_evr (s : State) (a n : Nat) : (s.satWord a n).evr = s.evr := (rfl)
@[simp] theorem State.satWord_clk (s : State) (a n : Nat) : (s.satWord a n).clk = s.clk := (rfl)
@[simp] theorem State.satWord_pm (s : State) (a n : Nat) : (s.satWord a n).pm = s.pm := (rfl)
@[simp] theorem State.satWord_man (s : State) (a n : Nat) : (s.satWord a n).man = s.man := (rfl)
@[simp] theorem State.satWord_fab (s : State) (a n : Nat) : (s.satWord a n).fab = s.fab := (rfl)
@[simp] theorem State.satWord_prog (s : State) (a n : Nat) : (s.satWord a n).prog = s.prog := (rfl)
@[simp] theorem State.satWord_rtc (s : State) (a n : Nat) : (s.satWord a n).rtc = s.rtc := (rfl)
@[simp] theorem State.satWord_pwr (s : State) (a n : Nat) : (s.satWord a n).pwr = s.pwr := (rfl)
@[simp] theorem State.satWord_ctr (s : State) (a n : Nat) : (s.satWord a n).ctr = s.ctr := (rfl)
@[simp] theorem State.satWord_pms (s : State) (a n : Nat) : (s.satWord a n).pms = s.pms := (rfl)
@[simp] theorem State.satWord_perf (s : State) (a n : Nat) : (s.satWord a n).perf = s.perf := (rfl)
@[simp] theorem State.satWord_arb (s : State) (a n : Nat) : (s.satWord a n).arb = s.arb := (rfl)
@[simp] theorem State.satWord_cle (s : State) (a n : Nat) : (s.satWord a n).cle = s.cle := (rfl)
@[simp] theorem State.satWord_net (s : State) (a n : Nat) : (s.satWord a n).net = s.net := (rfl)
@[simp] theorem State.satWord_mtr (s : State) (a n : Nat) : (s.satWord a n).mtr = s.mtr := (rfl)
@[simp] theorem State.satWord_gov (s : State) (a n : Nat) : (s.satWord a n).gov = s.gov := (rfl)
@[simp] theorem State.satWord_saf (s : State) (a n : Nat) : (s.satWord a n).saf = s.saf := (rfl)
@[simp] theorem State.satWord_keys (s : State) (a n : Nat) : (s.satWord a n).keys = s.keys := (rfl)
@[simp] theorem State.satWord_img (s : State) (a n : Nat) : (s.satWord a n).img = s.img := (rfl)
@[simp] theorem State.satWord_tap (s : State) (a n : Nat) : (s.satWord a n).tap = s.tap := (rfl)

/-! ### `wrPair` -/

@[simp] theorem State.wrPair_pending (s : State) (lo hi v : Nat) : (s.wrPair lo hi v).pending = s.pending := (rfl)
@[simp] theorem State.wrPair_ns (s : State) (lo hi v : Nat) : (s.wrPair lo hi v).ns = s.ns := (rfl)
@[simp] theorem State.wrPair_latch (s : State) (lo hi v : Nat) : (s.wrPair lo hi v).latch = s.latch := (rfl)
@[simp] theorem State.wrPair_free (s : State) (lo hi v : Nat) : (s.wrPair lo hi v).free = s.free := (rfl)
@[simp] theorem State.wrPair_evr (s : State) (lo hi v : Nat) : (s.wrPair lo hi v).evr = s.evr := (rfl)
@[simp] theorem State.wrPair_clk (s : State) (lo hi v : Nat) : (s.wrPair lo hi v).clk = s.clk := (rfl)
@[simp] theorem State.wrPair_pm (s : State) (lo hi v : Nat) : (s.wrPair lo hi v).pm = s.pm := (rfl)
@[simp] theorem State.wrPair_man (s : State) (lo hi v : Nat) : (s.wrPair lo hi v).man = s.man := (rfl)
@[simp] theorem State.wrPair_fab (s : State) (lo hi v : Nat) : (s.wrPair lo hi v).fab = s.fab := (rfl)
@[simp] theorem State.wrPair_prog (s : State) (lo hi v : Nat) : (s.wrPair lo hi v).prog = s.prog := (rfl)
@[simp] theorem State.wrPair_rtc (s : State) (lo hi v : Nat) : (s.wrPair lo hi v).rtc = s.rtc := (rfl)
@[simp] theorem State.wrPair_pwr (s : State) (lo hi v : Nat) : (s.wrPair lo hi v).pwr = s.pwr := (rfl)
@[simp] theorem State.wrPair_ctr (s : State) (lo hi v : Nat) : (s.wrPair lo hi v).ctr = s.ctr := (rfl)
@[simp] theorem State.wrPair_pms (s : State) (lo hi v : Nat) : (s.wrPair lo hi v).pms = s.pms := (rfl)
@[simp] theorem State.wrPair_perf (s : State) (lo hi v : Nat) : (s.wrPair lo hi v).perf = s.perf := (rfl)
@[simp] theorem State.wrPair_arb (s : State) (lo hi v : Nat) : (s.wrPair lo hi v).arb = s.arb := (rfl)
@[simp] theorem State.wrPair_cle (s : State) (lo hi v : Nat) : (s.wrPair lo hi v).cle = s.cle := (rfl)
@[simp] theorem State.wrPair_net (s : State) (lo hi v : Nat) : (s.wrPair lo hi v).net = s.net := (rfl)
@[simp] theorem State.wrPair_mtr (s : State) (lo hi v : Nat) : (s.wrPair lo hi v).mtr = s.mtr := (rfl)
@[simp] theorem State.wrPair_gov (s : State) (lo hi v : Nat) : (s.wrPair lo hi v).gov = s.gov := (rfl)
@[simp] theorem State.wrPair_saf (s : State) (lo hi v : Nat) : (s.wrPair lo hi v).saf = s.saf := (rfl)
@[simp] theorem State.wrPair_keys (s : State) (lo hi v : Nat) : (s.wrPair lo hi v).keys = s.keys := (rfl)
@[simp] theorem State.wrPair_img (s : State) (lo hi v : Nat) : (s.wrPair lo hi v).img = s.img := (rfl)
@[simp] theorem State.wrPair_tap (s : State) (lo hi v : Nat) : (s.wrPair lo hi v).tap = s.tap := (rfl)

/-! ### `setGood` -/

@[simp] theorem State.setGood_pending (s : State) (n : Nat) (b : Bool) : (s.setGood n b).pending = s.pending := (rfl)
@[simp] theorem State.setGood_ns (s : State) (n : Nat) (b : Bool) : (s.setGood n b).ns = s.ns := (rfl)
@[simp] theorem State.setGood_latch (s : State) (n : Nat) (b : Bool) : (s.setGood n b).latch = s.latch := (rfl)
@[simp] theorem State.setGood_free (s : State) (n : Nat) (b : Bool) : (s.setGood n b).free = s.free := (rfl)
@[simp] theorem State.setGood_evr (s : State) (n : Nat) (b : Bool) : (s.setGood n b).evr = s.evr := (rfl)
@[simp] theorem State.setGood_clk (s : State) (n : Nat) (b : Bool) : (s.setGood n b).clk = s.clk := (rfl)
@[simp] theorem State.setGood_pm (s : State) (n : Nat) (b : Bool) : (s.setGood n b).pm = s.pm := (rfl)
@[simp] theorem State.setGood_man (s : State) (n : Nat) (b : Bool) : (s.setGood n b).man = s.man := (rfl)
@[simp] theorem State.setGood_fab (s : State) (n : Nat) (b : Bool) : (s.setGood n b).fab = s.fab := (rfl)
@[simp] theorem State.setGood_prog (s : State) (n : Nat) (b : Bool) : (s.setGood n b).prog = s.prog := (rfl)
@[simp] theorem State.setGood_rtc (s : State) (n : Nat) (b : Bool) : (s.setGood n b).rtc = s.rtc := (rfl)
@[simp] theorem State.setGood_pwr (s : State) (n : Nat) (b : Bool) : (s.setGood n b).pwr = s.pwr := (rfl)
@[simp] theorem State.setGood_ctr (s : State) (n : Nat) (b : Bool) : (s.setGood n b).ctr = s.ctr := (rfl)
@[simp] theorem State.setGood_pms (s : State) (n : Nat) (b : Bool) : (s.setGood n b).pms = s.pms := (rfl)
@[simp] theorem State.setGood_perf (s : State) (n : Nat) (b : Bool) : (s.setGood n b).perf = s.perf := (rfl)
@[simp] theorem State.setGood_arb (s : State) (n : Nat) (b : Bool) : (s.setGood n b).arb = s.arb := (rfl)
@[simp] theorem State.setGood_cle (s : State) (n : Nat) (b : Bool) : (s.setGood n b).cle = s.cle := (rfl)
@[simp] theorem State.setGood_net (s : State) (n : Nat) (b : Bool) : (s.setGood n b).net = s.net := (rfl)
@[simp] theorem State.setGood_mtr (s : State) (n : Nat) (b : Bool) : (s.setGood n b).mtr = s.mtr := (rfl)
@[simp] theorem State.setGood_gov (s : State) (n : Nat) (b : Bool) : (s.setGood n b).gov = s.gov := (rfl)
@[simp] theorem State.setGood_saf (s : State) (n : Nat) (b : Bool) : (s.setGood n b).saf = s.saf := (rfl)
@[simp] theorem State.setGood_keys (s : State) (n : Nat) (b : Bool) : (s.setGood n b).keys = s.keys := (rfl)
@[simp] theorem State.setGood_img (s : State) (n : Nat) (b : Bool) : (s.setGood n b).img = s.img := (rfl)
@[simp] theorem State.setGood_tap (s : State) (n : Nat) (b : Bool) : (s.setGood n b).tap = s.tap := (rfl)

/-! ### `setDomRung` -/

@[simp] theorem State.setDomRung_pending (s : State) (n r : Nat) : (s.setDomRung n r).pending = s.pending := (rfl)
@[simp] theorem State.setDomRung_ns (s : State) (n r : Nat) : (s.setDomRung n r).ns = s.ns := (rfl)
@[simp] theorem State.setDomRung_latch (s : State) (n r : Nat) : (s.setDomRung n r).latch = s.latch := (rfl)
@[simp] theorem State.setDomRung_free (s : State) (n r : Nat) : (s.setDomRung n r).free = s.free := (rfl)
@[simp] theorem State.setDomRung_evr (s : State) (n r : Nat) : (s.setDomRung n r).evr = s.evr := (rfl)
@[simp] theorem State.setDomRung_clk (s : State) (n r : Nat) : (s.setDomRung n r).clk = s.clk := (rfl)
@[simp] theorem State.setDomRung_pm (s : State) (n r : Nat) : (s.setDomRung n r).pm = s.pm := (rfl)
@[simp] theorem State.setDomRung_man (s : State) (n r : Nat) : (s.setDomRung n r).man = s.man := (rfl)
@[simp] theorem State.setDomRung_fab (s : State) (n r : Nat) : (s.setDomRung n r).fab = s.fab := (rfl)
@[simp] theorem State.setDomRung_prog (s : State) (n r : Nat) : (s.setDomRung n r).prog = s.prog := (rfl)
@[simp] theorem State.setDomRung_rtc (s : State) (n r : Nat) : (s.setDomRung n r).rtc = s.rtc := (rfl)
@[simp] theorem State.setDomRung_pwr (s : State) (n r : Nat) : (s.setDomRung n r).pwr = s.pwr := (rfl)
@[simp] theorem State.setDomRung_ctr (s : State) (n r : Nat) : (s.setDomRung n r).ctr = s.ctr := (rfl)
@[simp] theorem State.setDomRung_pms (s : State) (n r : Nat) : (s.setDomRung n r).pms = s.pms := (rfl)
@[simp] theorem State.setDomRung_perf (s : State) (n r : Nat) : (s.setDomRung n r).perf = s.perf := (rfl)
@[simp] theorem State.setDomRung_arb (s : State) (n r : Nat) : (s.setDomRung n r).arb = s.arb := (rfl)
@[simp] theorem State.setDomRung_cle (s : State) (n r : Nat) : (s.setDomRung n r).cle = s.cle := (rfl)
@[simp] theorem State.setDomRung_net (s : State) (n r : Nat) : (s.setDomRung n r).net = s.net := (rfl)
@[simp] theorem State.setDomRung_mtr (s : State) (n r : Nat) : (s.setDomRung n r).mtr = s.mtr := (rfl)
@[simp] theorem State.setDomRung_gov (s : State) (n r : Nat) : (s.setDomRung n r).gov = s.gov := (rfl)
@[simp] theorem State.setDomRung_saf (s : State) (n r : Nat) : (s.setDomRung n r).saf = s.saf := (rfl)
@[simp] theorem State.setDomRung_keys (s : State) (n r : Nat) : (s.setDomRung n r).keys = s.keys := (rfl)
@[simp] theorem State.setDomRung_img (s : State) (n r : Nat) : (s.setDomRung n r).img = s.img := (rfl)
@[simp] theorem State.setDomRung_tap (s : State) (n r : Nat) : (s.setDomRung n r).tap = s.tap := (rfl)

/-! ### `setDom` -/

@[simp] theorem State.setDom_pending (s : State) (n : Nat) (d : DomSt) (r : Nat) : (s.setDom n d r).pending = s.pending := (rfl)
@[simp] theorem State.setDom_ns (s : State) (n : Nat) (d : DomSt) (r : Nat) : (s.setDom n d r).ns = s.ns := (rfl)
@[simp] theorem State.setDom_latch (s : State) (n : Nat) (d : DomSt) (r : Nat) : (s.setDom n d r).latch = s.latch := (rfl)
@[simp] theorem State.setDom_free (s : State) (n : Nat) (d : DomSt) (r : Nat) : (s.setDom n d r).free = s.free := (rfl)
@[simp] theorem State.setDom_evr (s : State) (n : Nat) (d : DomSt) (r : Nat) : (s.setDom n d r).evr = s.evr := (rfl)
@[simp] theorem State.setDom_clk (s : State) (n : Nat) (d : DomSt) (r : Nat) : (s.setDom n d r).clk = s.clk := (rfl)
@[simp] theorem State.setDom_pm (s : State) (n : Nat) (d : DomSt) (r : Nat) : (s.setDom n d r).pm = s.pm := (rfl)
@[simp] theorem State.setDom_man (s : State) (n : Nat) (d : DomSt) (r : Nat) : (s.setDom n d r).man = s.man := (rfl)
@[simp] theorem State.setDom_fab (s : State) (n : Nat) (d : DomSt) (r : Nat) : (s.setDom n d r).fab = s.fab := (rfl)
@[simp] theorem State.setDom_prog (s : State) (n : Nat) (d : DomSt) (r : Nat) : (s.setDom n d r).prog = s.prog := (rfl)
@[simp] theorem State.setDom_rtc (s : State) (n : Nat) (d : DomSt) (r : Nat) : (s.setDom n d r).rtc = s.rtc := (rfl)
@[simp] theorem State.setDom_ctr (s : State) (n : Nat) (d : DomSt) (r : Nat) : (s.setDom n d r).ctr = s.ctr := (rfl)
@[simp] theorem State.setDom_pms (s : State) (n : Nat) (d : DomSt) (r : Nat) : (s.setDom n d r).pms = s.pms := (rfl)
@[simp] theorem State.setDom_perf (s : State) (n : Nat) (d : DomSt) (r : Nat) : (s.setDom n d r).perf = s.perf := (rfl)
@[simp] theorem State.setDom_arb (s : State) (n : Nat) (d : DomSt) (r : Nat) : (s.setDom n d r).arb = s.arb := (rfl)
@[simp] theorem State.setDom_cle (s : State) (n : Nat) (d : DomSt) (r : Nat) : (s.setDom n d r).cle = s.cle := (rfl)
@[simp] theorem State.setDom_net (s : State) (n : Nat) (d : DomSt) (r : Nat) : (s.setDom n d r).net = s.net := (rfl)
@[simp] theorem State.setDom_mtr (s : State) (n : Nat) (d : DomSt) (r : Nat) : (s.setDom n d r).mtr = s.mtr := (rfl)
@[simp] theorem State.setDom_gov (s : State) (n : Nat) (d : DomSt) (r : Nat) : (s.setDom n d r).gov = s.gov := (rfl)
@[simp] theorem State.setDom_saf (s : State) (n : Nat) (d : DomSt) (r : Nat) : (s.setDom n d r).saf = s.saf := (rfl)
@[simp] theorem State.setDom_keys (s : State) (n : Nat) (d : DomSt) (r : Nat) : (s.setDom n d r).keys = s.keys := (rfl)
@[simp] theorem State.setDom_img (s : State) (n : Nat) (d : DomSt) (r : Nat) : (s.setDom n d r).img = s.img := (rfl)
@[simp] theorem State.setDom_tap (s : State) (n : Nat) (d : DomSt) (r : Nat) : (s.setDom n d r).tap = s.tap := (rfl)

/-! ### `freeNext` -/

@[simp] theorem State.freeNext_pending (s : State) : (s.freeNext).pending = s.pending := (rfl)
@[simp] theorem State.freeNext_ns (s : State) : (s.freeNext).ns = s.ns := (rfl)
@[simp] theorem State.freeNext_regs (s : State) : (s.freeNext).regs = s.regs := (rfl)
@[simp] theorem State.freeNext_latch (s : State) : (s.freeNext).latch = s.latch := (rfl)
@[simp] theorem State.freeNext_evr (s : State) : (s.freeNext).evr = s.evr := (rfl)
@[simp] theorem State.freeNext_clk (s : State) : (s.freeNext).clk = s.clk := (rfl)
@[simp] theorem State.freeNext_pm (s : State) : (s.freeNext).pm = s.pm := (rfl)
@[simp] theorem State.freeNext_man (s : State) : (s.freeNext).man = s.man := (rfl)
@[simp] theorem State.freeNext_fab (s : State) : (s.freeNext).fab = s.fab := (rfl)
@[simp] theorem State.freeNext_prog (s : State) : (s.freeNext).prog = s.prog := (rfl)
@[simp] theorem State.freeNext_rtc (s : State) : (s.freeNext).rtc = s.rtc := (rfl)
@[simp] theorem State.freeNext_pwr (s : State) : (s.freeNext).pwr = s.pwr := (rfl)
@[simp] theorem State.freeNext_ctr (s : State) : (s.freeNext).ctr = s.ctr := (rfl)
@[simp] theorem State.freeNext_pms (s : State) : (s.freeNext).pms = s.pms := (rfl)
@[simp] theorem State.freeNext_perf (s : State) : (s.freeNext).perf = s.perf := (rfl)
@[simp] theorem State.freeNext_arb (s : State) : (s.freeNext).arb = s.arb := (rfl)
@[simp] theorem State.freeNext_cle (s : State) : (s.freeNext).cle = s.cle := (rfl)
@[simp] theorem State.freeNext_net (s : State) : (s.freeNext).net = s.net := (rfl)
@[simp] theorem State.freeNext_mtr (s : State) : (s.freeNext).mtr = s.mtr := (rfl)
@[simp] theorem State.freeNext_gov (s : State) : (s.freeNext).gov = s.gov := (rfl)
@[simp] theorem State.freeNext_saf (s : State) : (s.freeNext).saf = s.saf := (rfl)
@[simp] theorem State.freeNext_keys (s : State) : (s.freeNext).keys = s.keys := (rfl)
@[simp] theorem State.freeNext_img (s : State) : (s.freeNext).img = s.img := (rfl)
@[simp] theorem State.freeNext_tap (s : State) : (s.freeNext).tap = s.tap := (rfl)

/-! ### `answer` -/

@[simp] theorem State.answer_pending (s : State) (c : Nat) (d : List Word) : (s.answer c d).pending = s.pending := (rfl)
@[simp] theorem State.answer_ns (s : State) (c : Nat) (d : List Word) : (s.answer c d).ns = s.ns := (rfl)
@[simp] theorem State.answer_regs (s : State) (c : Nat) (d : List Word) : (s.answer c d).regs = s.regs := (rfl)
@[simp] theorem State.answer_latch (s : State) (c : Nat) (d : List Word) : (s.answer c d).latch = s.latch := (rfl)
@[simp] theorem State.answer_free (s : State) (c : Nat) (d : List Word) : (s.answer c d).free = s.free := (rfl)
@[simp] theorem State.answer_evr (s : State) (c : Nat) (d : List Word) : (s.answer c d).evr = s.evr := (rfl)
@[simp] theorem State.answer_clk (s : State) (c : Nat) (d : List Word) : (s.answer c d).clk = s.clk := (rfl)
@[simp] theorem State.answer_pm (s : State) (c : Nat) (d : List Word) : (s.answer c d).pm = s.pm := (rfl)
@[simp] theorem State.answer_man (s : State) (c : Nat) (d : List Word) : (s.answer c d).man = s.man := (rfl)
@[simp] theorem State.answer_fab (s : State) (c : Nat) (d : List Word) : (s.answer c d).fab = s.fab := (rfl)
@[simp] theorem State.answer_prog (s : State) (c : Nat) (d : List Word) : (s.answer c d).prog = s.prog := (rfl)
@[simp] theorem State.answer_rtc (s : State) (c : Nat) (d : List Word) : (s.answer c d).rtc = s.rtc := (rfl)
@[simp] theorem State.answer_pwr (s : State) (c : Nat) (d : List Word) : (s.answer c d).pwr = s.pwr := (rfl)
@[simp] theorem State.answer_pms (s : State) (c : Nat) (d : List Word) : (s.answer c d).pms = s.pms := (rfl)
@[simp] theorem State.answer_perf (s : State) (c : Nat) (d : List Word) : (s.answer c d).perf = s.perf := (rfl)
@[simp] theorem State.answer_arb (s : State) (c : Nat) (d : List Word) : (s.answer c d).arb = s.arb := (rfl)
@[simp] theorem State.answer_cle (s : State) (c : Nat) (d : List Word) : (s.answer c d).cle = s.cle := (rfl)
@[simp] theorem State.answer_net (s : State) (c : Nat) (d : List Word) : (s.answer c d).net = s.net := (rfl)
@[simp] theorem State.answer_mtr (s : State) (c : Nat) (d : List Word) : (s.answer c d).mtr = s.mtr := (rfl)
@[simp] theorem State.answer_gov (s : State) (c : Nat) (d : List Word) : (s.answer c d).gov = s.gov := (rfl)
@[simp] theorem State.answer_saf (s : State) (c : Nat) (d : List Word) : (s.answer c d).saf = s.saf := (rfl)
@[simp] theorem State.answer_keys (s : State) (c : Nat) (d : List Word) : (s.answer c d).keys = s.keys := (rfl)
@[simp] theorem State.answer_img (s : State) (c : Nat) (d : List Word) : (s.answer c d).img = s.img := (rfl)
@[simp] theorem State.answer_tap (s : State) (c : Nat) (d : List Word) : (s.answer c d).tap = s.tap := (rfl)

/-! ### `setCtr` -/

@[simp] theorem State.setCtr_pending (s : State) (c : Ctr) : (s.setCtr c).pending = s.pending := (rfl)
@[simp] theorem State.setCtr_ns (s : State) (c : Ctr) : (s.setCtr c).ns = s.ns := (rfl)
@[simp] theorem State.setCtr_regs (s : State) (c : Ctr) : (s.setCtr c).regs = s.regs := (rfl)
@[simp] theorem State.setCtr_latch (s : State) (c : Ctr) : (s.setCtr c).latch = s.latch := (rfl)
@[simp] theorem State.setCtr_free (s : State) (c : Ctr) : (s.setCtr c).free = s.free := (rfl)
@[simp] theorem State.setCtr_evr (s : State) (c : Ctr) : (s.setCtr c).evr = s.evr := (rfl)
@[simp] theorem State.setCtr_clk (s : State) (c : Ctr) : (s.setCtr c).clk = s.clk := (rfl)
@[simp] theorem State.setCtr_pm (s : State) (c : Ctr) : (s.setCtr c).pm = s.pm := (rfl)
@[simp] theorem State.setCtr_man (s : State) (c : Ctr) : (s.setCtr c).man = s.man := (rfl)
@[simp] theorem State.setCtr_fab (s : State) (c : Ctr) : (s.setCtr c).fab = s.fab := (rfl)
@[simp] theorem State.setCtr_prog (s : State) (c : Ctr) : (s.setCtr c).prog = s.prog := (rfl)
@[simp] theorem State.setCtr_rtc (s : State) (c : Ctr) : (s.setCtr c).rtc = s.rtc := (rfl)
@[simp] theorem State.setCtr_pwr (s : State) (c : Ctr) : (s.setCtr c).pwr = s.pwr := (rfl)
@[simp] theorem State.setCtr_pms (s : State) (c : Ctr) : (s.setCtr c).pms = s.pms := (rfl)
@[simp] theorem State.setCtr_perf (s : State) (c : Ctr) : (s.setCtr c).perf = s.perf := (rfl)
@[simp] theorem State.setCtr_arb (s : State) (c : Ctr) : (s.setCtr c).arb = s.arb := (rfl)
@[simp] theorem State.setCtr_cle (s : State) (c : Ctr) : (s.setCtr c).cle = s.cle := (rfl)
@[simp] theorem State.setCtr_net (s : State) (c : Ctr) : (s.setCtr c).net = s.net := (rfl)
@[simp] theorem State.setCtr_mtr (s : State) (c : Ctr) : (s.setCtr c).mtr = s.mtr := (rfl)
@[simp] theorem State.setCtr_gov (s : State) (c : Ctr) : (s.setCtr c).gov = s.gov := (rfl)
@[simp] theorem State.setCtr_saf (s : State) (c : Ctr) : (s.setCtr c).saf = s.saf := (rfl)
@[simp] theorem State.setCtr_keys (s : State) (c : Ctr) : (s.setCtr c).keys = s.keys := (rfl)
@[simp] theorem State.setCtr_img (s : State) (c : Ctr) : (s.setCtr c).img = s.img := (rfl)
@[simp] theorem State.setCtr_tap (s : State) (c : Ctr) : (s.setCtr c).tap = s.tap := (rfl)
@[simp] theorem State.setCtr_ctr (s : State) (c : Ctr) : (s.setCtr c).ctr = c := (rfl)

/-! ### `setClk` -/

@[simp] theorem State.setClk_pending (s : State) (c : Clock) : (s.setClk c).pending = s.pending := (rfl)
@[simp] theorem State.setClk_ns (s : State) (c : Clock) : (s.setClk c).ns = s.ns := (rfl)
@[simp] theorem State.setClk_regs (s : State) (c : Clock) : (s.setClk c).regs = s.regs := (rfl)
@[simp] theorem State.setClk_latch (s : State) (c : Clock) : (s.setClk c).latch = s.latch := (rfl)
@[simp] theorem State.setClk_free (s : State) (c : Clock) : (s.setClk c).free = s.free := (rfl)
@[simp] theorem State.setClk_evr (s : State) (c : Clock) : (s.setClk c).evr = s.evr := (rfl)
@[simp] theorem State.setClk_pm (s : State) (c : Clock) : (s.setClk c).pm = s.pm := (rfl)
@[simp] theorem State.setClk_man (s : State) (c : Clock) : (s.setClk c).man = s.man := (rfl)
@[simp] theorem State.setClk_fab (s : State) (c : Clock) : (s.setClk c).fab = s.fab := (rfl)
@[simp] theorem State.setClk_prog (s : State) (c : Clock) : (s.setClk c).prog = s.prog := (rfl)
@[simp] theorem State.setClk_rtc (s : State) (c : Clock) : (s.setClk c).rtc = s.rtc := (rfl)
@[simp] theorem State.setClk_pwr (s : State) (c : Clock) : (s.setClk c).pwr = s.pwr := (rfl)
@[simp] theorem State.setClk_ctr (s : State) (c : Clock) : (s.setClk c).ctr = s.ctr := (rfl)
@[simp] theorem State.setClk_pms (s : State) (c : Clock) : (s.setClk c).pms = s.pms := (rfl)
@[simp] theorem State.setClk_perf (s : State) (c : Clock) : (s.setClk c).perf = s.perf := (rfl)
@[simp] theorem State.setClk_arb (s : State) (c : Clock) : (s.setClk c).arb = s.arb := (rfl)
@[simp] theorem State.setClk_cle (s : State) (c : Clock) : (s.setClk c).cle = s.cle := (rfl)
@[simp] theorem State.setClk_net (s : State) (c : Clock) : (s.setClk c).net = s.net := (rfl)
@[simp] theorem State.setClk_mtr (s : State) (c : Clock) : (s.setClk c).mtr = s.mtr := (rfl)
@[simp] theorem State.setClk_gov (s : State) (c : Clock) : (s.setClk c).gov = s.gov := (rfl)
@[simp] theorem State.setClk_saf (s : State) (c : Clock) : (s.setClk c).saf = s.saf := (rfl)
@[simp] theorem State.setClk_keys (s : State) (c : Clock) : (s.setClk c).keys = s.keys := (rfl)
@[simp] theorem State.setClk_img (s : State) (c : Clock) : (s.setClk c).img = s.img := (rfl)
@[simp] theorem State.setClk_tap (s : State) (c : Clock) : (s.setClk c).tap = s.tap := (rfl)
@[simp] theorem State.setClk_clk (s : State) (c : Clock) : (s.setClk c).clk = c := (rfl)

/-! ### `setPwr` -/

@[simp] theorem State.setPwr_pending (s : State) (p : Power) : (s.setPwr p).pending = s.pending := (rfl)
@[simp] theorem State.setPwr_ns (s : State) (p : Power) : (s.setPwr p).ns = s.ns := (rfl)
@[simp] theorem State.setPwr_regs (s : State) (p : Power) : (s.setPwr p).regs = s.regs := (rfl)
@[simp] theorem State.setPwr_latch (s : State) (p : Power) : (s.setPwr p).latch = s.latch := (rfl)
@[simp] theorem State.setPwr_free (s : State) (p : Power) : (s.setPwr p).free = s.free := (rfl)
@[simp] theorem State.setPwr_evr (s : State) (p : Power) : (s.setPwr p).evr = s.evr := (rfl)
@[simp] theorem State.setPwr_clk (s : State) (p : Power) : (s.setPwr p).clk = s.clk := (rfl)
@[simp] theorem State.setPwr_pm (s : State) (p : Power) : (s.setPwr p).pm = s.pm := (rfl)
@[simp] theorem State.setPwr_man (s : State) (p : Power) : (s.setPwr p).man = s.man := (rfl)
@[simp] theorem State.setPwr_fab (s : State) (p : Power) : (s.setPwr p).fab = s.fab := (rfl)
@[simp] theorem State.setPwr_prog (s : State) (p : Power) : (s.setPwr p).prog = s.prog := (rfl)
@[simp] theorem State.setPwr_rtc (s : State) (p : Power) : (s.setPwr p).rtc = s.rtc := (rfl)
@[simp] theorem State.setPwr_ctr (s : State) (p : Power) : (s.setPwr p).ctr = s.ctr := (rfl)
@[simp] theorem State.setPwr_pms (s : State) (p : Power) : (s.setPwr p).pms = s.pms := (rfl)
@[simp] theorem State.setPwr_perf (s : State) (p : Power) : (s.setPwr p).perf = s.perf := (rfl)
@[simp] theorem State.setPwr_arb (s : State) (p : Power) : (s.setPwr p).arb = s.arb := (rfl)
@[simp] theorem State.setPwr_cle (s : State) (p : Power) : (s.setPwr p).cle = s.cle := (rfl)
@[simp] theorem State.setPwr_net (s : State) (p : Power) : (s.setPwr p).net = s.net := (rfl)
@[simp] theorem State.setPwr_mtr (s : State) (p : Power) : (s.setPwr p).mtr = s.mtr := (rfl)
@[simp] theorem State.setPwr_gov (s : State) (p : Power) : (s.setPwr p).gov = s.gov := (rfl)
@[simp] theorem State.setPwr_saf (s : State) (p : Power) : (s.setPwr p).saf = s.saf := (rfl)
@[simp] theorem State.setPwr_keys (s : State) (p : Power) : (s.setPwr p).keys = s.keys := (rfl)
@[simp] theorem State.setPwr_img (s : State) (p : Power) : (s.setPwr p).img = s.img := (rfl)
@[simp] theorem State.setPwr_tap (s : State) (p : Power) : (s.setPwr p).tap = s.tap := (rfl)
@[simp] theorem State.setPwr_pwr (s : State) (p : Power) : (s.setPwr p).pwr = p := (rfl)

/-! ### `setPms` -/

@[simp] theorem State.setPms_pending (s : State) (p : Pms) : (s.setPms p).pending = s.pending := (rfl)
@[simp] theorem State.setPms_ns (s : State) (p : Pms) : (s.setPms p).ns = s.ns := (rfl)
@[simp] theorem State.setPms_regs (s : State) (p : Pms) : (s.setPms p).regs = s.regs := (rfl)
@[simp] theorem State.setPms_latch (s : State) (p : Pms) : (s.setPms p).latch = s.latch := (rfl)
@[simp] theorem State.setPms_free (s : State) (p : Pms) : (s.setPms p).free = s.free := (rfl)
@[simp] theorem State.setPms_evr (s : State) (p : Pms) : (s.setPms p).evr = s.evr := (rfl)
@[simp] theorem State.setPms_clk (s : State) (p : Pms) : (s.setPms p).clk = s.clk := (rfl)
@[simp] theorem State.setPms_pm (s : State) (p : Pms) : (s.setPms p).pm = s.pm := (rfl)
@[simp] theorem State.setPms_man (s : State) (p : Pms) : (s.setPms p).man = s.man := (rfl)
@[simp] theorem State.setPms_fab (s : State) (p : Pms) : (s.setPms p).fab = s.fab := (rfl)
@[simp] theorem State.setPms_prog (s : State) (p : Pms) : (s.setPms p).prog = s.prog := (rfl)
@[simp] theorem State.setPms_rtc (s : State) (p : Pms) : (s.setPms p).rtc = s.rtc := (rfl)
@[simp] theorem State.setPms_pwr (s : State) (p : Pms) : (s.setPms p).pwr = s.pwr := (rfl)
@[simp] theorem State.setPms_ctr (s : State) (p : Pms) : (s.setPms p).ctr = s.ctr := (rfl)
@[simp] theorem State.setPms_perf (s : State) (p : Pms) : (s.setPms p).perf = s.perf := (rfl)
@[simp] theorem State.setPms_arb (s : State) (p : Pms) : (s.setPms p).arb = s.arb := (rfl)
@[simp] theorem State.setPms_cle (s : State) (p : Pms) : (s.setPms p).cle = s.cle := (rfl)
@[simp] theorem State.setPms_net (s : State) (p : Pms) : (s.setPms p).net = s.net := (rfl)
@[simp] theorem State.setPms_mtr (s : State) (p : Pms) : (s.setPms p).mtr = s.mtr := (rfl)
@[simp] theorem State.setPms_gov (s : State) (p : Pms) : (s.setPms p).gov = s.gov := (rfl)
@[simp] theorem State.setPms_saf (s : State) (p : Pms) : (s.setPms p).saf = s.saf := (rfl)
@[simp] theorem State.setPms_keys (s : State) (p : Pms) : (s.setPms p).keys = s.keys := (rfl)
@[simp] theorem State.setPms_img (s : State) (p : Pms) : (s.setPms p).img = s.img := (rfl)
@[simp] theorem State.setPms_tap (s : State) (p : Pms) : (s.setPms p).tap = s.tap := (rfl)
@[simp] theorem State.setPms_pms (s : State) (p : Pms) : (s.setPms p).pms = p := (rfl)

/-! ### `setPair` -/

@[simp] theorem State.setPair_pending (s : State) (p : Pair) : (s.setPair p).pending = s.pending := (rfl)
@[simp] theorem State.setPair_ns (s : State) (p : Pair) : (s.setPair p).ns = s.ns := (rfl)
@[simp] theorem State.setPair_regs (s : State) (p : Pair) : (s.setPair p).regs = s.regs := (rfl)
@[simp] theorem State.setPair_latch (s : State) (p : Pair) : (s.setPair p).latch = s.latch := (rfl)
@[simp] theorem State.setPair_free (s : State) (p : Pair) : (s.setPair p).free = s.free := (rfl)
@[simp] theorem State.setPair_evr (s : State) (p : Pair) : (s.setPair p).evr = s.evr := (rfl)
@[simp] theorem State.setPair_clk (s : State) (p : Pair) : (s.setPair p).clk = s.clk := (rfl)
@[simp] theorem State.setPair_pm (s : State) (p : Pair) : (s.setPair p).pm = s.pm := (rfl)
@[simp] theorem State.setPair_man (s : State) (p : Pair) : (s.setPair p).man = s.man := (rfl)
@[simp] theorem State.setPair_fab (s : State) (p : Pair) : (s.setPair p).fab = s.fab := (rfl)
@[simp] theorem State.setPair_prog (s : State) (p : Pair) : (s.setPair p).prog = s.prog := (rfl)
@[simp] theorem State.setPair_rtc (s : State) (p : Pair) : (s.setPair p).rtc = s.rtc := (rfl)
@[simp] theorem State.setPair_pwr (s : State) (p : Pair) : (s.setPair p).pwr = s.pwr := (rfl)
@[simp] theorem State.setPair_ctr (s : State) (p : Pair) : (s.setPair p).ctr = s.ctr := (rfl)
@[simp] theorem State.setPair_perf (s : State) (p : Pair) : (s.setPair p).perf = s.perf := (rfl)
@[simp] theorem State.setPair_arb (s : State) (p : Pair) : (s.setPair p).arb = s.arb := (rfl)
@[simp] theorem State.setPair_cle (s : State) (p : Pair) : (s.setPair p).cle = s.cle := (rfl)
@[simp] theorem State.setPair_net (s : State) (p : Pair) : (s.setPair p).net = s.net := (rfl)
@[simp] theorem State.setPair_mtr (s : State) (p : Pair) : (s.setPair p).mtr = s.mtr := (rfl)
@[simp] theorem State.setPair_gov (s : State) (p : Pair) : (s.setPair p).gov = s.gov := (rfl)
@[simp] theorem State.setPair_saf (s : State) (p : Pair) : (s.setPair p).saf = s.saf := (rfl)
@[simp] theorem State.setPair_keys (s : State) (p : Pair) : (s.setPair p).keys = s.keys := (rfl)
@[simp] theorem State.setPair_img (s : State) (p : Pair) : (s.setPair p).img = s.img := (rfl)
@[simp] theorem State.setPair_tap (s : State) (p : Pair) : (s.setPair p).tap = s.tap := (rfl)

/-! ### `setKeys` -/

@[simp] theorem State.setKeys_pending (s : State) (k : Keys) : (s.setKeys k).pending = s.pending := (rfl)
@[simp] theorem State.setKeys_ns (s : State) (k : Keys) : (s.setKeys k).ns = s.ns := (rfl)
@[simp] theorem State.setKeys_regs (s : State) (k : Keys) : (s.setKeys k).regs = s.regs := (rfl)
@[simp] theorem State.setKeys_latch (s : State) (k : Keys) : (s.setKeys k).latch = s.latch := (rfl)
@[simp] theorem State.setKeys_free (s : State) (k : Keys) : (s.setKeys k).free = s.free := (rfl)
@[simp] theorem State.setKeys_evr (s : State) (k : Keys) : (s.setKeys k).evr = s.evr := (rfl)
@[simp] theorem State.setKeys_clk (s : State) (k : Keys) : (s.setKeys k).clk = s.clk := (rfl)
@[simp] theorem State.setKeys_pm (s : State) (k : Keys) : (s.setKeys k).pm = s.pm := (rfl)
@[simp] theorem State.setKeys_man (s : State) (k : Keys) : (s.setKeys k).man = s.man := (rfl)
@[simp] theorem State.setKeys_fab (s : State) (k : Keys) : (s.setKeys k).fab = s.fab := (rfl)
@[simp] theorem State.setKeys_prog (s : State) (k : Keys) : (s.setKeys k).prog = s.prog := (rfl)
@[simp] theorem State.setKeys_rtc (s : State) (k : Keys) : (s.setKeys k).rtc = s.rtc := (rfl)
@[simp] theorem State.setKeys_pwr (s : State) (k : Keys) : (s.setKeys k).pwr = s.pwr := (rfl)
@[simp] theorem State.setKeys_ctr (s : State) (k : Keys) : (s.setKeys k).ctr = s.ctr := (rfl)
@[simp] theorem State.setKeys_pms (s : State) (k : Keys) : (s.setKeys k).pms = s.pms := (rfl)
@[simp] theorem State.setKeys_perf (s : State) (k : Keys) : (s.setKeys k).perf = s.perf := (rfl)
@[simp] theorem State.setKeys_arb (s : State) (k : Keys) : (s.setKeys k).arb = s.arb := (rfl)
@[simp] theorem State.setKeys_cle (s : State) (k : Keys) : (s.setKeys k).cle = s.cle := (rfl)
@[simp] theorem State.setKeys_net (s : State) (k : Keys) : (s.setKeys k).net = s.net := (rfl)
@[simp] theorem State.setKeys_mtr (s : State) (k : Keys) : (s.setKeys k).mtr = s.mtr := (rfl)
@[simp] theorem State.setKeys_gov (s : State) (k : Keys) : (s.setKeys k).gov = s.gov := (rfl)
@[simp] theorem State.setKeys_saf (s : State) (k : Keys) : (s.setKeys k).saf = s.saf := (rfl)
@[simp] theorem State.setKeys_img (s : State) (k : Keys) : (s.setKeys k).img = s.img := (rfl)
@[simp] theorem State.setKeys_tap (s : State) (k : Keys) : (s.setKeys k).tap = s.tap := (rfl)
@[simp] theorem State.setKeys_keys (s : State) (k : Keys) : (s.setKeys k).keys = k := (rfl)

/-! ### `setRtc` -/

@[simp] theorem State.setRtc_pending (s : State) (r : Rtc) : (s.setRtc r).pending = s.pending := (rfl)
@[simp] theorem State.setRtc_ns (s : State) (r : Rtc) : (s.setRtc r).ns = s.ns := (rfl)
@[simp] theorem State.setRtc_regs (s : State) (r : Rtc) : (s.setRtc r).regs = s.regs := (rfl)
@[simp] theorem State.setRtc_latch (s : State) (r : Rtc) : (s.setRtc r).latch = s.latch := (rfl)
@[simp] theorem State.setRtc_free (s : State) (r : Rtc) : (s.setRtc r).free = s.free := (rfl)
@[simp] theorem State.setRtc_evr (s : State) (r : Rtc) : (s.setRtc r).evr = s.evr := (rfl)
@[simp] theorem State.setRtc_clk (s : State) (r : Rtc) : (s.setRtc r).clk = s.clk := (rfl)
@[simp] theorem State.setRtc_pm (s : State) (r : Rtc) : (s.setRtc r).pm = s.pm := (rfl)
@[simp] theorem State.setRtc_man (s : State) (r : Rtc) : (s.setRtc r).man = s.man := (rfl)
@[simp] theorem State.setRtc_fab (s : State) (r : Rtc) : (s.setRtc r).fab = s.fab := (rfl)
@[simp] theorem State.setRtc_prog (s : State) (r : Rtc) : (s.setRtc r).prog = s.prog := (rfl)
@[simp] theorem State.setRtc_pwr (s : State) (r : Rtc) : (s.setRtc r).pwr = s.pwr := (rfl)
@[simp] theorem State.setRtc_ctr (s : State) (r : Rtc) : (s.setRtc r).ctr = s.ctr := (rfl)
@[simp] theorem State.setRtc_pms (s : State) (r : Rtc) : (s.setRtc r).pms = s.pms := (rfl)
@[simp] theorem State.setRtc_perf (s : State) (r : Rtc) : (s.setRtc r).perf = s.perf := (rfl)
@[simp] theorem State.setRtc_arb (s : State) (r : Rtc) : (s.setRtc r).arb = s.arb := (rfl)
@[simp] theorem State.setRtc_cle (s : State) (r : Rtc) : (s.setRtc r).cle = s.cle := (rfl)
@[simp] theorem State.setRtc_net (s : State) (r : Rtc) : (s.setRtc r).net = s.net := (rfl)
@[simp] theorem State.setRtc_mtr (s : State) (r : Rtc) : (s.setRtc r).mtr = s.mtr := (rfl)
@[simp] theorem State.setRtc_gov (s : State) (r : Rtc) : (s.setRtc r).gov = s.gov := (rfl)
@[simp] theorem State.setRtc_saf (s : State) (r : Rtc) : (s.setRtc r).saf = s.saf := (rfl)
@[simp] theorem State.setRtc_keys (s : State) (r : Rtc) : (s.setRtc r).keys = s.keys := (rfl)
@[simp] theorem State.setRtc_img (s : State) (r : Rtc) : (s.setRtc r).img = s.img := (rfl)
@[simp] theorem State.setRtc_tap (s : State) (r : Rtc) : (s.setRtc r).tap = s.tap := (rfl)
@[simp] theorem State.setRtc_rtc (s : State) (r : Rtc) : (s.setRtc r).rtc = r := (rfl)

/-! ### `setTask` -/

@[simp] theorem State.setTask_pending (s : State) (n : Nat) (k : Task) : (s.setTask n k).pending = s.pending := (rfl)
@[simp] theorem State.setTask_ns (s : State) (n : Nat) (k : Task) : (s.setTask n k).ns = s.ns := (rfl)
@[simp] theorem State.setTask_regs (s : State) (n : Nat) (k : Task) : (s.setTask n k).regs = s.regs := (rfl)
@[simp] theorem State.setTask_latch (s : State) (n : Nat) (k : Task) : (s.setTask n k).latch = s.latch := (rfl)
@[simp] theorem State.setTask_free (s : State) (n : Nat) (k : Task) : (s.setTask n k).free = s.free := (rfl)
@[simp] theorem State.setTask_evr (s : State) (n : Nat) (k : Task) : (s.setTask n k).evr = s.evr := (rfl)
@[simp] theorem State.setTask_clk (s : State) (n : Nat) (k : Task) : (s.setTask n k).clk = s.clk := (rfl)
@[simp] theorem State.setTask_pm (s : State) (n : Nat) (k : Task) : (s.setTask n k).pm = s.pm := (rfl)
@[simp] theorem State.setTask_man (s : State) (n : Nat) (k : Task) : (s.setTask n k).man = s.man := (rfl)
@[simp] theorem State.setTask_fab (s : State) (n : Nat) (k : Task) : (s.setTask n k).fab = s.fab := (rfl)
@[simp] theorem State.setTask_rtc (s : State) (n : Nat) (k : Task) : (s.setTask n k).rtc = s.rtc := (rfl)
@[simp] theorem State.setTask_pwr (s : State) (n : Nat) (k : Task) : (s.setTask n k).pwr = s.pwr := (rfl)
@[simp] theorem State.setTask_ctr (s : State) (n : Nat) (k : Task) : (s.setTask n k).ctr = s.ctr := (rfl)
@[simp] theorem State.setTask_pms (s : State) (n : Nat) (k : Task) : (s.setTask n k).pms = s.pms := (rfl)
@[simp] theorem State.setTask_perf (s : State) (n : Nat) (k : Task) : (s.setTask n k).perf = s.perf := (rfl)
@[simp] theorem State.setTask_arb (s : State) (n : Nat) (k : Task) : (s.setTask n k).arb = s.arb := (rfl)
@[simp] theorem State.setTask_cle (s : State) (n : Nat) (k : Task) : (s.setTask n k).cle = s.cle := (rfl)
@[simp] theorem State.setTask_net (s : State) (n : Nat) (k : Task) : (s.setTask n k).net = s.net := (rfl)
@[simp] theorem State.setTask_mtr (s : State) (n : Nat) (k : Task) : (s.setTask n k).mtr = s.mtr := (rfl)
@[simp] theorem State.setTask_gov (s : State) (n : Nat) (k : Task) : (s.setTask n k).gov = s.gov := (rfl)
@[simp] theorem State.setTask_saf (s : State) (n : Nat) (k : Task) : (s.setTask n k).saf = s.saf := (rfl)
@[simp] theorem State.setTask_keys (s : State) (n : Nat) (k : Task) : (s.setTask n k).keys = s.keys := (rfl)
@[simp] theorem State.setTask_img (s : State) (n : Nat) (k : Task) : (s.setTask n k).img = s.img := (rfl)
@[simp] theorem State.setTask_tap (s : State) (n : Nat) (k : Task) : (s.setTask n k).tap = s.tap := (rfl)

/-! ### `setArea` -/

@[simp] theorem State.setArea_pending (s : State) (n : Nat) (p : Program) : (s.setArea n p).pending = s.pending := (rfl)
@[simp] theorem State.setArea_ns (s : State) (n : Nat) (p : Program) : (s.setArea n p).ns = s.ns := (rfl)
@[simp] theorem State.setArea_regs (s : State) (n : Nat) (p : Program) : (s.setArea n p).regs = s.regs := (rfl)
@[simp] theorem State.setArea_latch (s : State) (n : Nat) (p : Program) : (s.setArea n p).latch = s.latch := (rfl)
@[simp] theorem State.setArea_free (s : State) (n : Nat) (p : Program) : (s.setArea n p).free = s.free := (rfl)
@[simp] theorem State.setArea_evr (s : State) (n : Nat) (p : Program) : (s.setArea n p).evr = s.evr := (rfl)
@[simp] theorem State.setArea_clk (s : State) (n : Nat) (p : Program) : (s.setArea n p).clk = s.clk := (rfl)
@[simp] theorem State.setArea_pm (s : State) (n : Nat) (p : Program) : (s.setArea n p).pm = s.pm := (rfl)
@[simp] theorem State.setArea_man (s : State) (n : Nat) (p : Program) : (s.setArea n p).man = s.man := (rfl)
@[simp] theorem State.setArea_fab (s : State) (n : Nat) (p : Program) : (s.setArea n p).fab = s.fab := (rfl)
@[simp] theorem State.setArea_rtc (s : State) (n : Nat) (p : Program) : (s.setArea n p).rtc = s.rtc := (rfl)
@[simp] theorem State.setArea_pwr (s : State) (n : Nat) (p : Program) : (s.setArea n p).pwr = s.pwr := (rfl)
@[simp] theorem State.setArea_ctr (s : State) (n : Nat) (p : Program) : (s.setArea n p).ctr = s.ctr := (rfl)
@[simp] theorem State.setArea_pms (s : State) (n : Nat) (p : Program) : (s.setArea n p).pms = s.pms := (rfl)
@[simp] theorem State.setArea_perf (s : State) (n : Nat) (p : Program) : (s.setArea n p).perf = s.perf := (rfl)
@[simp] theorem State.setArea_arb (s : State) (n : Nat) (p : Program) : (s.setArea n p).arb = s.arb := (rfl)
@[simp] theorem State.setArea_cle (s : State) (n : Nat) (p : Program) : (s.setArea n p).cle = s.cle := (rfl)
@[simp] theorem State.setArea_net (s : State) (n : Nat) (p : Program) : (s.setArea n p).net = s.net := (rfl)
@[simp] theorem State.setArea_mtr (s : State) (n : Nat) (p : Program) : (s.setArea n p).mtr = s.mtr := (rfl)
@[simp] theorem State.setArea_gov (s : State) (n : Nat) (p : Program) : (s.setArea n p).gov = s.gov := (rfl)
@[simp] theorem State.setArea_saf (s : State) (n : Nat) (p : Program) : (s.setArea n p).saf = s.saf := (rfl)
@[simp] theorem State.setArea_keys (s : State) (n : Nat) (p : Program) : (s.setArea n p).keys = s.keys := (rfl)
@[simp] theorem State.setArea_img (s : State) (n : Nat) (p : Program) : (s.setArea n p).img = s.img := (rfl)
@[simp] theorem State.setArea_tap (s : State) (n : Nat) (p : Program) : (s.setArea n p).tap = s.tap := (rfl)

/-! ### `setSta` -/

@[simp] theorem State.setSta_pending (s : State) (n : Nat) (x : Station) : (s.setSta n x).pending = s.pending := (rfl)
@[simp] theorem State.setSta_ns (s : State) (n : Nat) (x : Station) : (s.setSta n x).ns = s.ns := (rfl)
@[simp] theorem State.setSta_regs (s : State) (n : Nat) (x : Station) : (s.setSta n x).regs = s.regs := (rfl)
@[simp] theorem State.setSta_latch (s : State) (n : Nat) (x : Station) : (s.setSta n x).latch = s.latch := (rfl)
@[simp] theorem State.setSta_free (s : State) (n : Nat) (x : Station) : (s.setSta n x).free = s.free := (rfl)
@[simp] theorem State.setSta_evr (s : State) (n : Nat) (x : Station) : (s.setSta n x).evr = s.evr := (rfl)
@[simp] theorem State.setSta_clk (s : State) (n : Nat) (x : Station) : (s.setSta n x).clk = s.clk := (rfl)
@[simp] theorem State.setSta_pm (s : State) (n : Nat) (x : Station) : (s.setSta n x).pm = s.pm := (rfl)
@[simp] theorem State.setSta_man (s : State) (n : Nat) (x : Station) : (s.setSta n x).man = s.man := (rfl)
@[simp] theorem State.setSta_prog (s : State) (n : Nat) (x : Station) : (s.setSta n x).prog = s.prog := (rfl)
@[simp] theorem State.setSta_rtc (s : State) (n : Nat) (x : Station) : (s.setSta n x).rtc = s.rtc := (rfl)
@[simp] theorem State.setSta_pwr (s : State) (n : Nat) (x : Station) : (s.setSta n x).pwr = s.pwr := (rfl)
@[simp] theorem State.setSta_ctr (s : State) (n : Nat) (x : Station) : (s.setSta n x).ctr = s.ctr := (rfl)
@[simp] theorem State.setSta_pms (s : State) (n : Nat) (x : Station) : (s.setSta n x).pms = s.pms := (rfl)
@[simp] theorem State.setSta_perf (s : State) (n : Nat) (x : Station) : (s.setSta n x).perf = s.perf := (rfl)
@[simp] theorem State.setSta_arb (s : State) (n : Nat) (x : Station) : (s.setSta n x).arb = s.arb := (rfl)
@[simp] theorem State.setSta_cle (s : State) (n : Nat) (x : Station) : (s.setSta n x).cle = s.cle := (rfl)
@[simp] theorem State.setSta_net (s : State) (n : Nat) (x : Station) : (s.setSta n x).net = s.net := (rfl)
@[simp] theorem State.setSta_mtr (s : State) (n : Nat) (x : Station) : (s.setSta n x).mtr = s.mtr := (rfl)
@[simp] theorem State.setSta_gov (s : State) (n : Nat) (x : Station) : (s.setSta n x).gov = s.gov := (rfl)
@[simp] theorem State.setSta_saf (s : State) (n : Nat) (x : Station) : (s.setSta n x).saf = s.saf := (rfl)
@[simp] theorem State.setSta_keys (s : State) (n : Nat) (x : Station) : (s.setSta n x).keys = s.keys := (rfl)
@[simp] theorem State.setSta_img (s : State) (n : Nat) (x : Station) : (s.setSta n x).img = s.img := (rfl)
@[simp] theorem State.setSta_tap (s : State) (n : Nat) (x : Station) : (s.setSta n x).tap = s.tap := (rfl)

/-! ### `setRound` -/

@[simp] theorem State.setRound_pending (s : State) (c : Nat) (r : Round) : (s.setRound c r).pending = s.pending := (rfl)
@[simp] theorem State.setRound_ns (s : State) (c : Nat) (r : Round) : (s.setRound c r).ns = s.ns := (rfl)
@[simp] theorem State.setRound_regs (s : State) (c : Nat) (r : Round) : (s.setRound c r).regs = s.regs := (rfl)
@[simp] theorem State.setRound_latch (s : State) (c : Nat) (r : Round) : (s.setRound c r).latch = s.latch := (rfl)
@[simp] theorem State.setRound_free (s : State) (c : Nat) (r : Round) : (s.setRound c r).free = s.free := (rfl)
@[simp] theorem State.setRound_evr (s : State) (c : Nat) (r : Round) : (s.setRound c r).evr = s.evr := (rfl)
@[simp] theorem State.setRound_clk (s : State) (c : Nat) (r : Round) : (s.setRound c r).clk = s.clk := (rfl)
@[simp] theorem State.setRound_pm (s : State) (c : Nat) (r : Round) : (s.setRound c r).pm = s.pm := (rfl)
@[simp] theorem State.setRound_man (s : State) (c : Nat) (r : Round) : (s.setRound c r).man = s.man := (rfl)
@[simp] theorem State.setRound_prog (s : State) (c : Nat) (r : Round) : (s.setRound c r).prog = s.prog := (rfl)
@[simp] theorem State.setRound_rtc (s : State) (c : Nat) (r : Round) : (s.setRound c r).rtc = s.rtc := (rfl)
@[simp] theorem State.setRound_pwr (s : State) (c : Nat) (r : Round) : (s.setRound c r).pwr = s.pwr := (rfl)
@[simp] theorem State.setRound_ctr (s : State) (c : Nat) (r : Round) : (s.setRound c r).ctr = s.ctr := (rfl)
@[simp] theorem State.setRound_pms (s : State) (c : Nat) (r : Round) : (s.setRound c r).pms = s.pms := (rfl)
@[simp] theorem State.setRound_perf (s : State) (c : Nat) (r : Round) : (s.setRound c r).perf = s.perf := (rfl)
@[simp] theorem State.setRound_arb (s : State) (c : Nat) (r : Round) : (s.setRound c r).arb = s.arb := (rfl)
@[simp] theorem State.setRound_cle (s : State) (c : Nat) (r : Round) : (s.setRound c r).cle = s.cle := (rfl)
@[simp] theorem State.setRound_net (s : State) (c : Nat) (r : Round) : (s.setRound c r).net = s.net := (rfl)
@[simp] theorem State.setRound_mtr (s : State) (c : Nat) (r : Round) : (s.setRound c r).mtr = s.mtr := (rfl)
@[simp] theorem State.setRound_gov (s : State) (c : Nat) (r : Round) : (s.setRound c r).gov = s.gov := (rfl)
@[simp] theorem State.setRound_saf (s : State) (c : Nat) (r : Round) : (s.setRound c r).saf = s.saf := (rfl)
@[simp] theorem State.setRound_keys (s : State) (c : Nat) (r : Round) : (s.setRound c r).keys = s.keys := (rfl)
@[simp] theorem State.setRound_img (s : State) (c : Nat) (r : Round) : (s.setRound c r).img = s.img := (rfl)
@[simp] theorem State.setRound_tap (s : State) (c : Nat) (r : Round) : (s.setRound c r).tap = s.tap := (rfl)

/-! ### `setCan` -/

@[simp] theorem State.setCan_pending (s : State) (g : Nat) (c : Can) : (s.setCan g c).pending = s.pending := (rfl)
@[simp] theorem State.setCan_ns (s : State) (g : Nat) (c : Can) : (s.setCan g c).ns = s.ns := (rfl)
@[simp] theorem State.setCan_regs (s : State) (g : Nat) (c : Can) : (s.setCan g c).regs = s.regs := (rfl)
@[simp] theorem State.setCan_latch (s : State) (g : Nat) (c : Can) : (s.setCan g c).latch = s.latch := (rfl)
@[simp] theorem State.setCan_free (s : State) (g : Nat) (c : Can) : (s.setCan g c).free = s.free := (rfl)
@[simp] theorem State.setCan_evr (s : State) (g : Nat) (c : Can) : (s.setCan g c).evr = s.evr := (rfl)
@[simp] theorem State.setCan_clk (s : State) (g : Nat) (c : Can) : (s.setCan g c).clk = s.clk := (rfl)
@[simp] theorem State.setCan_pm (s : State) (g : Nat) (c : Can) : (s.setCan g c).pm = s.pm := (rfl)
@[simp] theorem State.setCan_man (s : State) (g : Nat) (c : Can) : (s.setCan g c).man = s.man := (rfl)
@[simp] theorem State.setCan_fab (s : State) (g : Nat) (c : Can) : (s.setCan g c).fab = s.fab := (rfl)
@[simp] theorem State.setCan_prog (s : State) (g : Nat) (c : Can) : (s.setCan g c).prog = s.prog := (rfl)
@[simp] theorem State.setCan_rtc (s : State) (g : Nat) (c : Can) : (s.setCan g c).rtc = s.rtc := (rfl)
@[simp] theorem State.setCan_pwr (s : State) (g : Nat) (c : Can) : (s.setCan g c).pwr = s.pwr := (rfl)
@[simp] theorem State.setCan_ctr (s : State) (g : Nat) (c : Can) : (s.setCan g c).ctr = s.ctr := (rfl)
@[simp] theorem State.setCan_pms (s : State) (g : Nat) (c : Can) : (s.setCan g c).pms = s.pms := (rfl)
@[simp] theorem State.setCan_perf (s : State) (g : Nat) (c : Can) : (s.setCan g c).perf = s.perf := (rfl)
@[simp] theorem State.setCan_arb (s : State) (g : Nat) (c : Can) : (s.setCan g c).arb = s.arb := (rfl)
@[simp] theorem State.setCan_cle (s : State) (g : Nat) (c : Can) : (s.setCan g c).cle = s.cle := (rfl)
@[simp] theorem State.setCan_mtr (s : State) (g : Nat) (c : Can) : (s.setCan g c).mtr = s.mtr := (rfl)
@[simp] theorem State.setCan_gov (s : State) (g : Nat) (c : Can) : (s.setCan g c).gov = s.gov := (rfl)
@[simp] theorem State.setCan_saf (s : State) (g : Nat) (c : Can) : (s.setCan g c).saf = s.saf := (rfl)
@[simp] theorem State.setCan_keys (s : State) (g : Nat) (c : Can) : (s.setCan g c).keys = s.keys := (rfl)
@[simp] theorem State.setCan_img (s : State) (g : Nat) (c : Can) : (s.setCan g c).img = s.img := (rfl)
@[simp] theorem State.setCan_tap (s : State) (g : Nat) (c : Can) : (s.setCan g c).tap = s.tap := (rfl)

/-! ### `setUart` -/

@[simp] theorem State.setUart_pending (s : State) (g : Nat) (u : Uart) : (s.setUart g u).pending = s.pending := (rfl)
@[simp] theorem State.setUart_ns (s : State) (g : Nat) (u : Uart) : (s.setUart g u).ns = s.ns := (rfl)
@[simp] theorem State.setUart_regs (s : State) (g : Nat) (u : Uart) : (s.setUart g u).regs = s.regs := (rfl)
@[simp] theorem State.setUart_latch (s : State) (g : Nat) (u : Uart) : (s.setUart g u).latch = s.latch := (rfl)
@[simp] theorem State.setUart_free (s : State) (g : Nat) (u : Uart) : (s.setUart g u).free = s.free := (rfl)
@[simp] theorem State.setUart_evr (s : State) (g : Nat) (u : Uart) : (s.setUart g u).evr = s.evr := (rfl)
@[simp] theorem State.setUart_clk (s : State) (g : Nat) (u : Uart) : (s.setUart g u).clk = s.clk := (rfl)
@[simp] theorem State.setUart_pm (s : State) (g : Nat) (u : Uart) : (s.setUart g u).pm = s.pm := (rfl)
@[simp] theorem State.setUart_man (s : State) (g : Nat) (u : Uart) : (s.setUart g u).man = s.man := (rfl)
@[simp] theorem State.setUart_fab (s : State) (g : Nat) (u : Uart) : (s.setUart g u).fab = s.fab := (rfl)
@[simp] theorem State.setUart_prog (s : State) (g : Nat) (u : Uart) : (s.setUart g u).prog = s.prog := (rfl)
@[simp] theorem State.setUart_rtc (s : State) (g : Nat) (u : Uart) : (s.setUart g u).rtc = s.rtc := (rfl)
@[simp] theorem State.setUart_pwr (s : State) (g : Nat) (u : Uart) : (s.setUart g u).pwr = s.pwr := (rfl)
@[simp] theorem State.setUart_ctr (s : State) (g : Nat) (u : Uart) : (s.setUart g u).ctr = s.ctr := (rfl)
@[simp] theorem State.setUart_pms (s : State) (g : Nat) (u : Uart) : (s.setUart g u).pms = s.pms := (rfl)
@[simp] theorem State.setUart_perf (s : State) (g : Nat) (u : Uart) : (s.setUart g u).perf = s.perf := (rfl)
@[simp] theorem State.setUart_arb (s : State) (g : Nat) (u : Uart) : (s.setUart g u).arb = s.arb := (rfl)
@[simp] theorem State.setUart_cle (s : State) (g : Nat) (u : Uart) : (s.setUart g u).cle = s.cle := (rfl)
@[simp] theorem State.setUart_mtr (s : State) (g : Nat) (u : Uart) : (s.setUart g u).mtr = s.mtr := (rfl)
@[simp] theorem State.setUart_gov (s : State) (g : Nat) (u : Uart) : (s.setUart g u).gov = s.gov := (rfl)
@[simp] theorem State.setUart_saf (s : State) (g : Nat) (u : Uart) : (s.setUart g u).saf = s.saf := (rfl)
@[simp] theorem State.setUart_keys (s : State) (g : Nat) (u : Uart) : (s.setUart g u).keys = s.keys := (rfl)
@[simp] theorem State.setUart_img (s : State) (g : Nat) (u : Uart) : (s.setUart g u).img = s.img := (rfl)
@[simp] theorem State.setUart_tap (s : State) (g : Nat) (u : Uart) : (s.setUart g u).tap = s.tap := (rfl)

/-! ### `setLink` -/

@[simp] theorem State.setLink_pending (s : State) (g : Nat) (l : Link) : (s.setLink g l).pending = s.pending := (rfl)
@[simp] theorem State.setLink_ns (s : State) (g : Nat) (l : Link) : (s.setLink g l).ns = s.ns := (rfl)
@[simp] theorem State.setLink_regs (s : State) (g : Nat) (l : Link) : (s.setLink g l).regs = s.regs := (rfl)
@[simp] theorem State.setLink_latch (s : State) (g : Nat) (l : Link) : (s.setLink g l).latch = s.latch := (rfl)
@[simp] theorem State.setLink_free (s : State) (g : Nat) (l : Link) : (s.setLink g l).free = s.free := (rfl)
@[simp] theorem State.setLink_evr (s : State) (g : Nat) (l : Link) : (s.setLink g l).evr = s.evr := (rfl)
@[simp] theorem State.setLink_clk (s : State) (g : Nat) (l : Link) : (s.setLink g l).clk = s.clk := (rfl)
@[simp] theorem State.setLink_pm (s : State) (g : Nat) (l : Link) : (s.setLink g l).pm = s.pm := (rfl)
@[simp] theorem State.setLink_man (s : State) (g : Nat) (l : Link) : (s.setLink g l).man = s.man := (rfl)
@[simp] theorem State.setLink_fab (s : State) (g : Nat) (l : Link) : (s.setLink g l).fab = s.fab := (rfl)
@[simp] theorem State.setLink_prog (s : State) (g : Nat) (l : Link) : (s.setLink g l).prog = s.prog := (rfl)
@[simp] theorem State.setLink_rtc (s : State) (g : Nat) (l : Link) : (s.setLink g l).rtc = s.rtc := (rfl)
@[simp] theorem State.setLink_pwr (s : State) (g : Nat) (l : Link) : (s.setLink g l).pwr = s.pwr := (rfl)
@[simp] theorem State.setLink_ctr (s : State) (g : Nat) (l : Link) : (s.setLink g l).ctr = s.ctr := (rfl)
@[simp] theorem State.setLink_pms (s : State) (g : Nat) (l : Link) : (s.setLink g l).pms = s.pms := (rfl)
@[simp] theorem State.setLink_perf (s : State) (g : Nat) (l : Link) : (s.setLink g l).perf = s.perf := (rfl)
@[simp] theorem State.setLink_arb (s : State) (g : Nat) (l : Link) : (s.setLink g l).arb = s.arb := (rfl)
@[simp] theorem State.setLink_net (s : State) (g : Nat) (l : Link) : (s.setLink g l).net = s.net := (rfl)
@[simp] theorem State.setLink_mtr (s : State) (g : Nat) (l : Link) : (s.setLink g l).mtr = s.mtr := (rfl)
@[simp] theorem State.setLink_gov (s : State) (g : Nat) (l : Link) : (s.setLink g l).gov = s.gov := (rfl)
@[simp] theorem State.setLink_saf (s : State) (g : Nat) (l : Link) : (s.setLink g l).saf = s.saf := (rfl)
@[simp] theorem State.setLink_keys (s : State) (g : Nat) (l : Link) : (s.setLink g l).keys = s.keys := (rfl)
@[simp] theorem State.setLink_img (s : State) (g : Nat) (l : Link) : (s.setLink g l).img = s.img := (rfl)
@[simp] theorem State.setLink_tap (s : State) (g : Nat) (l : Link) : (s.setLink g l).tap = s.tap := (rfl)

/-! ### `setDali` -/

@[simp] theorem State.setDali_pending (s : State) (g : Nat) (d : Dali) : (s.setDali g d).pending = s.pending := (rfl)
@[simp] theorem State.setDali_ns (s : State) (g : Nat) (d : Dali) : (s.setDali g d).ns = s.ns := (rfl)
@[simp] theorem State.setDali_regs (s : State) (g : Nat) (d : Dali) : (s.setDali g d).regs = s.regs := (rfl)
@[simp] theorem State.setDali_latch (s : State) (g : Nat) (d : Dali) : (s.setDali g d).latch = s.latch := (rfl)
@[simp] theorem State.setDali_free (s : State) (g : Nat) (d : Dali) : (s.setDali g d).free = s.free := (rfl)
@[simp] theorem State.setDali_evr (s : State) (g : Nat) (d : Dali) : (s.setDali g d).evr = s.evr := (rfl)
@[simp] theorem State.setDali_clk (s : State) (g : Nat) (d : Dali) : (s.setDali g d).clk = s.clk := (rfl)
@[simp] theorem State.setDali_pm (s : State) (g : Nat) (d : Dali) : (s.setDali g d).pm = s.pm := (rfl)
@[simp] theorem State.setDali_man (s : State) (g : Nat) (d : Dali) : (s.setDali g d).man = s.man := (rfl)
@[simp] theorem State.setDali_fab (s : State) (g : Nat) (d : Dali) : (s.setDali g d).fab = s.fab := (rfl)
@[simp] theorem State.setDali_prog (s : State) (g : Nat) (d : Dali) : (s.setDali g d).prog = s.prog := (rfl)
@[simp] theorem State.setDali_rtc (s : State) (g : Nat) (d : Dali) : (s.setDali g d).rtc = s.rtc := (rfl)
@[simp] theorem State.setDali_pwr (s : State) (g : Nat) (d : Dali) : (s.setDali g d).pwr = s.pwr := (rfl)
@[simp] theorem State.setDali_ctr (s : State) (g : Nat) (d : Dali) : (s.setDali g d).ctr = s.ctr := (rfl)
@[simp] theorem State.setDali_pms (s : State) (g : Nat) (d : Dali) : (s.setDali g d).pms = s.pms := (rfl)
@[simp] theorem State.setDali_perf (s : State) (g : Nat) (d : Dali) : (s.setDali g d).perf = s.perf := (rfl)
@[simp] theorem State.setDali_arb (s : State) (g : Nat) (d : Dali) : (s.setDali g d).arb = s.arb := (rfl)
@[simp] theorem State.setDali_cle (s : State) (g : Nat) (d : Dali) : (s.setDali g d).cle = s.cle := (rfl)
@[simp] theorem State.setDali_mtr (s : State) (g : Nat) (d : Dali) : (s.setDali g d).mtr = s.mtr := (rfl)
@[simp] theorem State.setDali_gov (s : State) (g : Nat) (d : Dali) : (s.setDali g d).gov = s.gov := (rfl)
@[simp] theorem State.setDali_saf (s : State) (g : Nat) (d : Dali) : (s.setDali g d).saf = s.saf := (rfl)
@[simp] theorem State.setDali_keys (s : State) (g : Nat) (d : Dali) : (s.setDali g d).keys = s.keys := (rfl)
@[simp] theorem State.setDali_img (s : State) (g : Nat) (d : Dali) : (s.setDali g d).img = s.img := (rfl)
@[simp] theorem State.setDali_tap (s : State) (g : Nat) (d : Dali) : (s.setDali g d).tap = s.tap := (rfl)

/-! ### `setMac` -/

@[simp] theorem State.setMac_pending (s : State) (m : Nat) (x : MacSt) : (s.setMac m x).pending = s.pending := (rfl)
@[simp] theorem State.setMac_ns (s : State) (m : Nat) (x : MacSt) : (s.setMac m x).ns = s.ns := (rfl)
@[simp] theorem State.setMac_regs (s : State) (m : Nat) (x : MacSt) : (s.setMac m x).regs = s.regs := (rfl)
@[simp] theorem State.setMac_latch (s : State) (m : Nat) (x : MacSt) : (s.setMac m x).latch = s.latch := (rfl)
@[simp] theorem State.setMac_free (s : State) (m : Nat) (x : MacSt) : (s.setMac m x).free = s.free := (rfl)
@[simp] theorem State.setMac_evr (s : State) (m : Nat) (x : MacSt) : (s.setMac m x).evr = s.evr := (rfl)
@[simp] theorem State.setMac_clk (s : State) (m : Nat) (x : MacSt) : (s.setMac m x).clk = s.clk := (rfl)
@[simp] theorem State.setMac_pm (s : State) (m : Nat) (x : MacSt) : (s.setMac m x).pm = s.pm := (rfl)
@[simp] theorem State.setMac_man (s : State) (m : Nat) (x : MacSt) : (s.setMac m x).man = s.man := (rfl)
@[simp] theorem State.setMac_fab (s : State) (m : Nat) (x : MacSt) : (s.setMac m x).fab = s.fab := (rfl)
@[simp] theorem State.setMac_prog (s : State) (m : Nat) (x : MacSt) : (s.setMac m x).prog = s.prog := (rfl)
@[simp] theorem State.setMac_rtc (s : State) (m : Nat) (x : MacSt) : (s.setMac m x).rtc = s.rtc := (rfl)
@[simp] theorem State.setMac_pwr (s : State) (m : Nat) (x : MacSt) : (s.setMac m x).pwr = s.pwr := (rfl)
@[simp] theorem State.setMac_ctr (s : State) (m : Nat) (x : MacSt) : (s.setMac m x).ctr = s.ctr := (rfl)
@[simp] theorem State.setMac_pms (s : State) (m : Nat) (x : MacSt) : (s.setMac m x).pms = s.pms := (rfl)
@[simp] theorem State.setMac_perf (s : State) (m : Nat) (x : MacSt) : (s.setMac m x).perf = s.perf := (rfl)
@[simp] theorem State.setMac_arb (s : State) (m : Nat) (x : MacSt) : (s.setMac m x).arb = s.arb := (rfl)
@[simp] theorem State.setMac_cle (s : State) (m : Nat) (x : MacSt) : (s.setMac m x).cle = s.cle := (rfl)
@[simp] theorem State.setMac_mtr (s : State) (m : Nat) (x : MacSt) : (s.setMac m x).mtr = s.mtr := (rfl)
@[simp] theorem State.setMac_gov (s : State) (m : Nat) (x : MacSt) : (s.setMac m x).gov = s.gov := (rfl)
@[simp] theorem State.setMac_saf (s : State) (m : Nat) (x : MacSt) : (s.setMac m x).saf = s.saf := (rfl)
@[simp] theorem State.setMac_keys (s : State) (m : Nat) (x : MacSt) : (s.setMac m x).keys = s.keys := (rfl)
@[simp] theorem State.setMac_img (s : State) (m : Nat) (x : MacSt) : (s.setMac m x).img = s.img := (rfl)
@[simp] theorem State.setMac_tap (s : State) (m : Nat) (x : MacSt) : (s.setMac m x).tap = s.tap := (rfl)

/-! ### `setMb` -/

@[simp] theorem State.setMb_pending (s : State) (m : Nat) (x : Mbag) : (s.setMb m x).pending = s.pending := (rfl)
@[simp] theorem State.setMb_ns (s : State) (m : Nat) (x : Mbag) : (s.setMb m x).ns = s.ns := (rfl)
@[simp] theorem State.setMb_regs (s : State) (m : Nat) (x : Mbag) : (s.setMb m x).regs = s.regs := (rfl)
@[simp] theorem State.setMb_latch (s : State) (m : Nat) (x : Mbag) : (s.setMb m x).latch = s.latch := (rfl)
@[simp] theorem State.setMb_free (s : State) (m : Nat) (x : Mbag) : (s.setMb m x).free = s.free := (rfl)
@[simp] theorem State.setMb_evr (s : State) (m : Nat) (x : Mbag) : (s.setMb m x).evr = s.evr := (rfl)
@[simp] theorem State.setMb_clk (s : State) (m : Nat) (x : Mbag) : (s.setMb m x).clk = s.clk := (rfl)
@[simp] theorem State.setMb_pm (s : State) (m : Nat) (x : Mbag) : (s.setMb m x).pm = s.pm := (rfl)
@[simp] theorem State.setMb_man (s : State) (m : Nat) (x : Mbag) : (s.setMb m x).man = s.man := (rfl)
@[simp] theorem State.setMb_fab (s : State) (m : Nat) (x : Mbag) : (s.setMb m x).fab = s.fab := (rfl)
@[simp] theorem State.setMb_prog (s : State) (m : Nat) (x : Mbag) : (s.setMb m x).prog = s.prog := (rfl)
@[simp] theorem State.setMb_rtc (s : State) (m : Nat) (x : Mbag) : (s.setMb m x).rtc = s.rtc := (rfl)
@[simp] theorem State.setMb_pwr (s : State) (m : Nat) (x : Mbag) : (s.setMb m x).pwr = s.pwr := (rfl)
@[simp] theorem State.setMb_ctr (s : State) (m : Nat) (x : Mbag) : (s.setMb m x).ctr = s.ctr := (rfl)
@[simp] theorem State.setMb_pms (s : State) (m : Nat) (x : Mbag) : (s.setMb m x).pms = s.pms := (rfl)
@[simp] theorem State.setMb_perf (s : State) (m : Nat) (x : Mbag) : (s.setMb m x).perf = s.perf := (rfl)
@[simp] theorem State.setMb_arb (s : State) (m : Nat) (x : Mbag) : (s.setMb m x).arb = s.arb := (rfl)
@[simp] theorem State.setMb_cle (s : State) (m : Nat) (x : Mbag) : (s.setMb m x).cle = s.cle := (rfl)
@[simp] theorem State.setMb_mtr (s : State) (m : Nat) (x : Mbag) : (s.setMb m x).mtr = s.mtr := (rfl)
@[simp] theorem State.setMb_gov (s : State) (m : Nat) (x : Mbag) : (s.setMb m x).gov = s.gov := (rfl)
@[simp] theorem State.setMb_saf (s : State) (m : Nat) (x : Mbag) : (s.setMb m x).saf = s.saf := (rfl)
@[simp] theorem State.setMb_keys (s : State) (m : Nat) (x : Mbag) : (s.setMb m x).keys = s.keys := (rfl)
@[simp] theorem State.setMb_img (s : State) (m : Nat) (x : Mbag) : (s.setMb m x).img = s.img := (rfl)
@[simp] theorem State.setMb_tap (s : State) (m : Nat) (x : Mbag) : (s.setMb m x).tap = s.tap := (rfl)

/-! ### `setAxis` -/

@[simp] theorem State.setAxis_pending (s : State) (k : Nat) (x : Axis) : (s.setAxis k x).pending = s.pending := (rfl)
@[simp] theorem State.setAxis_ns (s : State) (k : Nat) (x : Axis) : (s.setAxis k x).ns = s.ns := (rfl)
@[simp] theorem State.setAxis_regs (s : State) (k : Nat) (x : Axis) : (s.setAxis k x).regs = s.regs := (rfl)
@[simp] theorem State.setAxis_latch (s : State) (k : Nat) (x : Axis) : (s.setAxis k x).latch = s.latch := (rfl)
@[simp] theorem State.setAxis_free (s : State) (k : Nat) (x : Axis) : (s.setAxis k x).free = s.free := (rfl)
@[simp] theorem State.setAxis_evr (s : State) (k : Nat) (x : Axis) : (s.setAxis k x).evr = s.evr := (rfl)
@[simp] theorem State.setAxis_clk (s : State) (k : Nat) (x : Axis) : (s.setAxis k x).clk = s.clk := (rfl)
@[simp] theorem State.setAxis_pm (s : State) (k : Nat) (x : Axis) : (s.setAxis k x).pm = s.pm := (rfl)
@[simp] theorem State.setAxis_man (s : State) (k : Nat) (x : Axis) : (s.setAxis k x).man = s.man := (rfl)
@[simp] theorem State.setAxis_fab (s : State) (k : Nat) (x : Axis) : (s.setAxis k x).fab = s.fab := (rfl)
@[simp] theorem State.setAxis_prog (s : State) (k : Nat) (x : Axis) : (s.setAxis k x).prog = s.prog := (rfl)
@[simp] theorem State.setAxis_rtc (s : State) (k : Nat) (x : Axis) : (s.setAxis k x).rtc = s.rtc := (rfl)
@[simp] theorem State.setAxis_pwr (s : State) (k : Nat) (x : Axis) : (s.setAxis k x).pwr = s.pwr := (rfl)
@[simp] theorem State.setAxis_ctr (s : State) (k : Nat) (x : Axis) : (s.setAxis k x).ctr = s.ctr := (rfl)
@[simp] theorem State.setAxis_pms (s : State) (k : Nat) (x : Axis) : (s.setAxis k x).pms = s.pms := (rfl)
@[simp] theorem State.setAxis_perf (s : State) (k : Nat) (x : Axis) : (s.setAxis k x).perf = s.perf := (rfl)
@[simp] theorem State.setAxis_arb (s : State) (k : Nat) (x : Axis) : (s.setAxis k x).arb = s.arb := (rfl)
@[simp] theorem State.setAxis_net (s : State) (k : Nat) (x : Axis) : (s.setAxis k x).net = s.net := (rfl)
@[simp] theorem State.setAxis_mtr (s : State) (k : Nat) (x : Axis) : (s.setAxis k x).mtr = s.mtr := (rfl)
@[simp] theorem State.setAxis_gov (s : State) (k : Nat) (x : Axis) : (s.setAxis k x).gov = s.gov := (rfl)
@[simp] theorem State.setAxis_saf (s : State) (k : Nat) (x : Axis) : (s.setAxis k x).saf = s.saf := (rfl)
@[simp] theorem State.setAxis_keys (s : State) (k : Nat) (x : Axis) : (s.setAxis k x).keys = s.keys := (rfl)
@[simp] theorem State.setAxis_img (s : State) (k : Nat) (x : Axis) : (s.setAxis k x).img = s.img := (rfl)
@[simp] theorem State.setAxis_tap (s : State) (k : Nat) (x : Axis) : (s.setAxis k x).tap = s.tap := (rfl)

/-! ### `setFdr` -/

@[simp] theorem State.setFdr_pending (s : State) (f : Nat) (x : Fdr) : (s.setFdr f x).pending = s.pending := (rfl)
@[simp] theorem State.setFdr_ns (s : State) (f : Nat) (x : Fdr) : (s.setFdr f x).ns = s.ns := (rfl)
@[simp] theorem State.setFdr_regs (s : State) (f : Nat) (x : Fdr) : (s.setFdr f x).regs = s.regs := (rfl)
@[simp] theorem State.setFdr_latch (s : State) (f : Nat) (x : Fdr) : (s.setFdr f x).latch = s.latch := (rfl)
@[simp] theorem State.setFdr_free (s : State) (f : Nat) (x : Fdr) : (s.setFdr f x).free = s.free := (rfl)
@[simp] theorem State.setFdr_evr (s : State) (f : Nat) (x : Fdr) : (s.setFdr f x).evr = s.evr := (rfl)
@[simp] theorem State.setFdr_clk (s : State) (f : Nat) (x : Fdr) : (s.setFdr f x).clk = s.clk := (rfl)
@[simp] theorem State.setFdr_pm (s : State) (f : Nat) (x : Fdr) : (s.setFdr f x).pm = s.pm := (rfl)
@[simp] theorem State.setFdr_man (s : State) (f : Nat) (x : Fdr) : (s.setFdr f x).man = s.man := (rfl)
@[simp] theorem State.setFdr_fab (s : State) (f : Nat) (x : Fdr) : (s.setFdr f x).fab = s.fab := (rfl)
@[simp] theorem State.setFdr_prog (s : State) (f : Nat) (x : Fdr) : (s.setFdr f x).prog = s.prog := (rfl)
@[simp] theorem State.setFdr_rtc (s : State) (f : Nat) (x : Fdr) : (s.setFdr f x).rtc = s.rtc := (rfl)
@[simp] theorem State.setFdr_pwr (s : State) (f : Nat) (x : Fdr) : (s.setFdr f x).pwr = s.pwr := (rfl)
@[simp] theorem State.setFdr_ctr (s : State) (f : Nat) (x : Fdr) : (s.setFdr f x).ctr = s.ctr := (rfl)
@[simp] theorem State.setFdr_pms (s : State) (f : Nat) (x : Fdr) : (s.setFdr f x).pms = s.pms := (rfl)
@[simp] theorem State.setFdr_perf (s : State) (f : Nat) (x : Fdr) : (s.setFdr f x).perf = s.perf := (rfl)
@[simp] theorem State.setFdr_arb (s : State) (f : Nat) (x : Fdr) : (s.setFdr f x).arb = s.arb := (rfl)
@[simp] theorem State.setFdr_cle (s : State) (f : Nat) (x : Fdr) : (s.setFdr f x).cle = s.cle := (rfl)
@[simp] theorem State.setFdr_net (s : State) (f : Nat) (x : Fdr) : (s.setFdr f x).net = s.net := (rfl)
@[simp] theorem State.setFdr_mtr (s : State) (f : Nat) (x : Fdr) : (s.setFdr f x).mtr = s.mtr := (rfl)
@[simp] theorem State.setFdr_saf (s : State) (f : Nat) (x : Fdr) : (s.setFdr f x).saf = s.saf := (rfl)
@[simp] theorem State.setFdr_keys (s : State) (f : Nat) (x : Fdr) : (s.setFdr f x).keys = s.keys := (rfl)
@[simp] theorem State.setFdr_img (s : State) (f : Nat) (x : Fdr) : (s.setFdr f x).img = s.img := (rfl)
@[simp] theorem State.setFdr_tap (s : State) (f : Nat) (x : Fdr) : (s.setFdr f x).tap = s.tap := (rfl)

/-! ### `setLoad` -/

@[simp] theorem State.setLoad_pending (s : State) (p : Nat) (x : Load) : (s.setLoad p x).pending = s.pending := (rfl)
@[simp] theorem State.setLoad_ns (s : State) (p : Nat) (x : Load) : (s.setLoad p x).ns = s.ns := (rfl)
@[simp] theorem State.setLoad_regs (s : State) (p : Nat) (x : Load) : (s.setLoad p x).regs = s.regs := (rfl)
@[simp] theorem State.setLoad_latch (s : State) (p : Nat) (x : Load) : (s.setLoad p x).latch = s.latch := (rfl)
@[simp] theorem State.setLoad_free (s : State) (p : Nat) (x : Load) : (s.setLoad p x).free = s.free := (rfl)
@[simp] theorem State.setLoad_evr (s : State) (p : Nat) (x : Load) : (s.setLoad p x).evr = s.evr := (rfl)
@[simp] theorem State.setLoad_clk (s : State) (p : Nat) (x : Load) : (s.setLoad p x).clk = s.clk := (rfl)
@[simp] theorem State.setLoad_pm (s : State) (p : Nat) (x : Load) : (s.setLoad p x).pm = s.pm := (rfl)
@[simp] theorem State.setLoad_man (s : State) (p : Nat) (x : Load) : (s.setLoad p x).man = s.man := (rfl)
@[simp] theorem State.setLoad_fab (s : State) (p : Nat) (x : Load) : (s.setLoad p x).fab = s.fab := (rfl)
@[simp] theorem State.setLoad_prog (s : State) (p : Nat) (x : Load) : (s.setLoad p x).prog = s.prog := (rfl)
@[simp] theorem State.setLoad_rtc (s : State) (p : Nat) (x : Load) : (s.setLoad p x).rtc = s.rtc := (rfl)
@[simp] theorem State.setLoad_pwr (s : State) (p : Nat) (x : Load) : (s.setLoad p x).pwr = s.pwr := (rfl)
@[simp] theorem State.setLoad_ctr (s : State) (p : Nat) (x : Load) : (s.setLoad p x).ctr = s.ctr := (rfl)
@[simp] theorem State.setLoad_pms (s : State) (p : Nat) (x : Load) : (s.setLoad p x).pms = s.pms := (rfl)
@[simp] theorem State.setLoad_perf (s : State) (p : Nat) (x : Load) : (s.setLoad p x).perf = s.perf := (rfl)
@[simp] theorem State.setLoad_arb (s : State) (p : Nat) (x : Load) : (s.setLoad p x).arb = s.arb := (rfl)
@[simp] theorem State.setLoad_cle (s : State) (p : Nat) (x : Load) : (s.setLoad p x).cle = s.cle := (rfl)
@[simp] theorem State.setLoad_net (s : State) (p : Nat) (x : Load) : (s.setLoad p x).net = s.net := (rfl)
@[simp] theorem State.setLoad_mtr (s : State) (p : Nat) (x : Load) : (s.setLoad p x).mtr = s.mtr := (rfl)
@[simp] theorem State.setLoad_saf (s : State) (p : Nat) (x : Load) : (s.setLoad p x).saf = s.saf := (rfl)
@[simp] theorem State.setLoad_keys (s : State) (p : Nat) (x : Load) : (s.setLoad p x).keys = s.keys := (rfl)
@[simp] theorem State.setLoad_img (s : State) (p : Nat) (x : Load) : (s.setLoad p x).img = s.img := (rfl)
@[simp] theorem State.setLoad_tap (s : State) (p : Nat) (x : Load) : (s.setLoad p x).tap = s.tap := (rfl)

/-! ### `setPulse` -/

@[simp] theorem State.setPulse_pending (s : State) (p : Nat) (x : Pulse) : (s.setPulse p x).pending = s.pending := (rfl)
@[simp] theorem State.setPulse_ns (s : State) (p : Nat) (x : Pulse) : (s.setPulse p x).ns = s.ns := (rfl)
@[simp] theorem State.setPulse_regs (s : State) (p : Nat) (x : Pulse) : (s.setPulse p x).regs = s.regs := (rfl)
@[simp] theorem State.setPulse_latch (s : State) (p : Nat) (x : Pulse) : (s.setPulse p x).latch = s.latch := (rfl)
@[simp] theorem State.setPulse_free (s : State) (p : Nat) (x : Pulse) : (s.setPulse p x).free = s.free := (rfl)
@[simp] theorem State.setPulse_evr (s : State) (p : Nat) (x : Pulse) : (s.setPulse p x).evr = s.evr := (rfl)
@[simp] theorem State.setPulse_clk (s : State) (p : Nat) (x : Pulse) : (s.setPulse p x).clk = s.clk := (rfl)
@[simp] theorem State.setPulse_pm (s : State) (p : Nat) (x : Pulse) : (s.setPulse p x).pm = s.pm := (rfl)
@[simp] theorem State.setPulse_man (s : State) (p : Nat) (x : Pulse) : (s.setPulse p x).man = s.man := (rfl)
@[simp] theorem State.setPulse_fab (s : State) (p : Nat) (x : Pulse) : (s.setPulse p x).fab = s.fab := (rfl)
@[simp] theorem State.setPulse_prog (s : State) (p : Nat) (x : Pulse) : (s.setPulse p x).prog = s.prog := (rfl)
@[simp] theorem State.setPulse_rtc (s : State) (p : Nat) (x : Pulse) : (s.setPulse p x).rtc = s.rtc := (rfl)
@[simp] theorem State.setPulse_pwr (s : State) (p : Nat) (x : Pulse) : (s.setPulse p x).pwr = s.pwr := (rfl)
@[simp] theorem State.setPulse_ctr (s : State) (p : Nat) (x : Pulse) : (s.setPulse p x).ctr = s.ctr := (rfl)
@[simp] theorem State.setPulse_pms (s : State) (p : Nat) (x : Pulse) : (s.setPulse p x).pms = s.pms := (rfl)
@[simp] theorem State.setPulse_perf (s : State) (p : Nat) (x : Pulse) : (s.setPulse p x).perf = s.perf := (rfl)
@[simp] theorem State.setPulse_arb (s : State) (p : Nat) (x : Pulse) : (s.setPulse p x).arb = s.arb := (rfl)
@[simp] theorem State.setPulse_cle (s : State) (p : Nat) (x : Pulse) : (s.setPulse p x).cle = s.cle := (rfl)
@[simp] theorem State.setPulse_net (s : State) (p : Nat) (x : Pulse) : (s.setPulse p x).net = s.net := (rfl)
@[simp] theorem State.setPulse_gov (s : State) (p : Nat) (x : Pulse) : (s.setPulse p x).gov = s.gov := (rfl)
@[simp] theorem State.setPulse_saf (s : State) (p : Nat) (x : Pulse) : (s.setPulse p x).saf = s.saf := (rfl)
@[simp] theorem State.setPulse_keys (s : State) (p : Nat) (x : Pulse) : (s.setPulse p x).keys = s.keys := (rfl)
@[simp] theorem State.setPulse_img (s : State) (p : Nat) (x : Pulse) : (s.setPulse p x).img = s.img := (rfl)
@[simp] theorem State.setPulse_tap (s : State) (p : Nat) (x : Pulse) : (s.setPulse p x).tap = s.tap := (rfl)

/-! ### `setSafPair` -/

@[simp] theorem State.setSafPair_pending (s : State) (n : Nat) (p : SafPair) : (s.setSafPair n p).pending = s.pending := (rfl)
@[simp] theorem State.setSafPair_ns (s : State) (n : Nat) (p : SafPair) : (s.setSafPair n p).ns = s.ns := (rfl)
@[simp] theorem State.setSafPair_regs (s : State) (n : Nat) (p : SafPair) : (s.setSafPair n p).regs = s.regs := (rfl)
@[simp] theorem State.setSafPair_latch (s : State) (n : Nat) (p : SafPair) : (s.setSafPair n p).latch = s.latch := (rfl)
@[simp] theorem State.setSafPair_free (s : State) (n : Nat) (p : SafPair) : (s.setSafPair n p).free = s.free := (rfl)
@[simp] theorem State.setSafPair_evr (s : State) (n : Nat) (p : SafPair) : (s.setSafPair n p).evr = s.evr := (rfl)
@[simp] theorem State.setSafPair_clk (s : State) (n : Nat) (p : SafPair) : (s.setSafPair n p).clk = s.clk := (rfl)
@[simp] theorem State.setSafPair_pm (s : State) (n : Nat) (p : SafPair) : (s.setSafPair n p).pm = s.pm := (rfl)
@[simp] theorem State.setSafPair_man (s : State) (n : Nat) (p : SafPair) : (s.setSafPair n p).man = s.man := (rfl)
@[simp] theorem State.setSafPair_fab (s : State) (n : Nat) (p : SafPair) : (s.setSafPair n p).fab = s.fab := (rfl)
@[simp] theorem State.setSafPair_prog (s : State) (n : Nat) (p : SafPair) : (s.setSafPair n p).prog = s.prog := (rfl)
@[simp] theorem State.setSafPair_rtc (s : State) (n : Nat) (p : SafPair) : (s.setSafPair n p).rtc = s.rtc := (rfl)
@[simp] theorem State.setSafPair_pwr (s : State) (n : Nat) (p : SafPair) : (s.setSafPair n p).pwr = s.pwr := (rfl)
@[simp] theorem State.setSafPair_ctr (s : State) (n : Nat) (p : SafPair) : (s.setSafPair n p).ctr = s.ctr := (rfl)
@[simp] theorem State.setSafPair_pms (s : State) (n : Nat) (p : SafPair) : (s.setSafPair n p).pms = s.pms := (rfl)
@[simp] theorem State.setSafPair_perf (s : State) (n : Nat) (p : SafPair) : (s.setSafPair n p).perf = s.perf := (rfl)
@[simp] theorem State.setSafPair_arb (s : State) (n : Nat) (p : SafPair) : (s.setSafPair n p).arb = s.arb := (rfl)
@[simp] theorem State.setSafPair_cle (s : State) (n : Nat) (p : SafPair) : (s.setSafPair n p).cle = s.cle := (rfl)
@[simp] theorem State.setSafPair_net (s : State) (n : Nat) (p : SafPair) : (s.setSafPair n p).net = s.net := (rfl)
@[simp] theorem State.setSafPair_mtr (s : State) (n : Nat) (p : SafPair) : (s.setSafPair n p).mtr = s.mtr := (rfl)
@[simp] theorem State.setSafPair_gov (s : State) (n : Nat) (p : SafPair) : (s.setSafPair n p).gov = s.gov := (rfl)
@[simp] theorem State.setSafPair_keys (s : State) (n : Nat) (p : SafPair) : (s.setSafPair n p).keys = s.keys := (rfl)
@[simp] theorem State.setSafPair_img (s : State) (n : Nat) (p : SafPair) : (s.setSafPair n p).img = s.img := (rfl)
@[simp] theorem State.setSafPair_tap (s : State) (n : Nat) (p : SafPair) : (s.setSafPair n p).tap = s.tap := (rfl)

/-! ### `setSafFunc` -/

@[simp] theorem State.setSafFunc_pending (s : State) (f : Nat) (x : SafFunc) : (s.setSafFunc f x).pending = s.pending := (rfl)
@[simp] theorem State.setSafFunc_ns (s : State) (f : Nat) (x : SafFunc) : (s.setSafFunc f x).ns = s.ns := (rfl)
@[simp] theorem State.setSafFunc_regs (s : State) (f : Nat) (x : SafFunc) : (s.setSafFunc f x).regs = s.regs := (rfl)
@[simp] theorem State.setSafFunc_latch (s : State) (f : Nat) (x : SafFunc) : (s.setSafFunc f x).latch = s.latch := (rfl)
@[simp] theorem State.setSafFunc_free (s : State) (f : Nat) (x : SafFunc) : (s.setSafFunc f x).free = s.free := (rfl)
@[simp] theorem State.setSafFunc_evr (s : State) (f : Nat) (x : SafFunc) : (s.setSafFunc f x).evr = s.evr := (rfl)
@[simp] theorem State.setSafFunc_clk (s : State) (f : Nat) (x : SafFunc) : (s.setSafFunc f x).clk = s.clk := (rfl)
@[simp] theorem State.setSafFunc_pm (s : State) (f : Nat) (x : SafFunc) : (s.setSafFunc f x).pm = s.pm := (rfl)
@[simp] theorem State.setSafFunc_man (s : State) (f : Nat) (x : SafFunc) : (s.setSafFunc f x).man = s.man := (rfl)
@[simp] theorem State.setSafFunc_fab (s : State) (f : Nat) (x : SafFunc) : (s.setSafFunc f x).fab = s.fab := (rfl)
@[simp] theorem State.setSafFunc_prog (s : State) (f : Nat) (x : SafFunc) : (s.setSafFunc f x).prog = s.prog := (rfl)
@[simp] theorem State.setSafFunc_rtc (s : State) (f : Nat) (x : SafFunc) : (s.setSafFunc f x).rtc = s.rtc := (rfl)
@[simp] theorem State.setSafFunc_pwr (s : State) (f : Nat) (x : SafFunc) : (s.setSafFunc f x).pwr = s.pwr := (rfl)
@[simp] theorem State.setSafFunc_ctr (s : State) (f : Nat) (x : SafFunc) : (s.setSafFunc f x).ctr = s.ctr := (rfl)
@[simp] theorem State.setSafFunc_pms (s : State) (f : Nat) (x : SafFunc) : (s.setSafFunc f x).pms = s.pms := (rfl)
@[simp] theorem State.setSafFunc_perf (s : State) (f : Nat) (x : SafFunc) : (s.setSafFunc f x).perf = s.perf := (rfl)
@[simp] theorem State.setSafFunc_arb (s : State) (f : Nat) (x : SafFunc) : (s.setSafFunc f x).arb = s.arb := (rfl)
@[simp] theorem State.setSafFunc_cle (s : State) (f : Nat) (x : SafFunc) : (s.setSafFunc f x).cle = s.cle := (rfl)
@[simp] theorem State.setSafFunc_net (s : State) (f : Nat) (x : SafFunc) : (s.setSafFunc f x).net = s.net := (rfl)
@[simp] theorem State.setSafFunc_mtr (s : State) (f : Nat) (x : SafFunc) : (s.setSafFunc f x).mtr = s.mtr := (rfl)
@[simp] theorem State.setSafFunc_gov (s : State) (f : Nat) (x : SafFunc) : (s.setSafFunc f x).gov = s.gov := (rfl)
@[simp] theorem State.setSafFunc_keys (s : State) (f : Nat) (x : SafFunc) : (s.setSafFunc f x).keys = s.keys := (rfl)
@[simp] theorem State.setSafFunc_img (s : State) (f : Nat) (x : SafFunc) : (s.setSafFunc f x).img = s.img := (rfl)
@[simp] theorem State.setSafFunc_tap (s : State) (f : Nat) (x : SafFunc) : (s.setSafFunc f x).tap = s.tap := (rfl)

/-! ### `pmPut` -/

@[simp] theorem State.pmPut_pending (s : State) (o : Nat) (bs : List Byte) : (s.pmPut o bs).pending = s.pending := (rfl)
@[simp] theorem State.pmPut_ns (s : State) (o : Nat) (bs : List Byte) : (s.pmPut o bs).ns = s.ns := (rfl)
@[simp] theorem State.pmPut_regs (s : State) (o : Nat) (bs : List Byte) : (s.pmPut o bs).regs = s.regs := (rfl)
@[simp] theorem State.pmPut_latch (s : State) (o : Nat) (bs : List Byte) : (s.pmPut o bs).latch = s.latch := (rfl)
@[simp] theorem State.pmPut_free (s : State) (o : Nat) (bs : List Byte) : (s.pmPut o bs).free = s.free := (rfl)
@[simp] theorem State.pmPut_evr (s : State) (o : Nat) (bs : List Byte) : (s.pmPut o bs).evr = s.evr := (rfl)
@[simp] theorem State.pmPut_clk (s : State) (o : Nat) (bs : List Byte) : (s.pmPut o bs).clk = s.clk := (rfl)
@[simp] theorem State.pmPut_man (s : State) (o : Nat) (bs : List Byte) : (s.pmPut o bs).man = s.man := (rfl)
@[simp] theorem State.pmPut_fab (s : State) (o : Nat) (bs : List Byte) : (s.pmPut o bs).fab = s.fab := (rfl)
@[simp] theorem State.pmPut_prog (s : State) (o : Nat) (bs : List Byte) : (s.pmPut o bs).prog = s.prog := (rfl)
@[simp] theorem State.pmPut_rtc (s : State) (o : Nat) (bs : List Byte) : (s.pmPut o bs).rtc = s.rtc := (rfl)
@[simp] theorem State.pmPut_pwr (s : State) (o : Nat) (bs : List Byte) : (s.pmPut o bs).pwr = s.pwr := (rfl)
@[simp] theorem State.pmPut_ctr (s : State) (o : Nat) (bs : List Byte) : (s.pmPut o bs).ctr = s.ctr := (rfl)
@[simp] theorem State.pmPut_pms (s : State) (o : Nat) (bs : List Byte) : (s.pmPut o bs).pms = s.pms := (rfl)
@[simp] theorem State.pmPut_perf (s : State) (o : Nat) (bs : List Byte) : (s.pmPut o bs).perf = s.perf := (rfl)
@[simp] theorem State.pmPut_arb (s : State) (o : Nat) (bs : List Byte) : (s.pmPut o bs).arb = s.arb := (rfl)
@[simp] theorem State.pmPut_cle (s : State) (o : Nat) (bs : List Byte) : (s.pmPut o bs).cle = s.cle := (rfl)
@[simp] theorem State.pmPut_net (s : State) (o : Nat) (bs : List Byte) : (s.pmPut o bs).net = s.net := (rfl)
@[simp] theorem State.pmPut_mtr (s : State) (o : Nat) (bs : List Byte) : (s.pmPut o bs).mtr = s.mtr := (rfl)
@[simp] theorem State.pmPut_gov (s : State) (o : Nat) (bs : List Byte) : (s.pmPut o bs).gov = s.gov := (rfl)
@[simp] theorem State.pmPut_saf (s : State) (o : Nat) (bs : List Byte) : (s.pmPut o bs).saf = s.saf := (rfl)
@[simp] theorem State.pmPut_keys (s : State) (o : Nat) (bs : List Byte) : (s.pmPut o bs).keys = s.keys := (rfl)
@[simp] theorem State.pmPut_img (s : State) (o : Nat) (bs : List Byte) : (s.pmPut o bs).img = s.img := (rfl)
@[simp] theorem State.pmPut_tap (s : State) (o : Nat) (bs : List Byte) : (s.pmPut o bs).tap = s.tap := (rfl)

/-! ### `trunk` -/

@[simp] theorem State.trunk_pending (s : State) (r who n : Nat) (x : Xfer) : (s.trunk r who n x).pending = s.pending := (rfl)
@[simp] theorem State.trunk_ns (s : State) (r who n : Nat) (x : Xfer) : (s.trunk r who n x).ns = s.ns := (rfl)
@[simp] theorem State.trunk_regs (s : State) (r who n : Nat) (x : Xfer) : (s.trunk r who n x).regs = s.regs := (rfl)
@[simp] theorem State.trunk_latch (s : State) (r who n : Nat) (x : Xfer) : (s.trunk r who n x).latch = s.latch := (rfl)
@[simp] theorem State.trunk_free (s : State) (r who n : Nat) (x : Xfer) : (s.trunk r who n x).free = s.free := (rfl)
@[simp] theorem State.trunk_evr (s : State) (r who n : Nat) (x : Xfer) : (s.trunk r who n x).evr = s.evr := (rfl)
@[simp] theorem State.trunk_clk (s : State) (r who n : Nat) (x : Xfer) : (s.trunk r who n x).clk = s.clk := (rfl)
@[simp] theorem State.trunk_pm (s : State) (r who n : Nat) (x : Xfer) : (s.trunk r who n x).pm = s.pm := (rfl)
@[simp] theorem State.trunk_man (s : State) (r who n : Nat) (x : Xfer) : (s.trunk r who n x).man = s.man := (rfl)
@[simp] theorem State.trunk_fab (s : State) (r who n : Nat) (x : Xfer) : (s.trunk r who n x).fab = s.fab := (rfl)
@[simp] theorem State.trunk_prog (s : State) (r who n : Nat) (x : Xfer) : (s.trunk r who n x).prog = s.prog := (rfl)
@[simp] theorem State.trunk_rtc (s : State) (r who n : Nat) (x : Xfer) : (s.trunk r who n x).rtc = s.rtc := (rfl)
@[simp] theorem State.trunk_pwr (s : State) (r who n : Nat) (x : Xfer) : (s.trunk r who n x).pwr = s.pwr := (rfl)
@[simp] theorem State.trunk_ctr (s : State) (r who n : Nat) (x : Xfer) : (s.trunk r who n x).ctr = s.ctr := (rfl)
@[simp] theorem State.trunk_pms (s : State) (r who n : Nat) (x : Xfer) : (s.trunk r who n x).pms = s.pms := (rfl)
@[simp] theorem State.trunk_cle (s : State) (r who n : Nat) (x : Xfer) : (s.trunk r who n x).cle = s.cle := (rfl)
@[simp] theorem State.trunk_net (s : State) (r who n : Nat) (x : Xfer) : (s.trunk r who n x).net = s.net := (rfl)
@[simp] theorem State.trunk_mtr (s : State) (r who n : Nat) (x : Xfer) : (s.trunk r who n x).mtr = s.mtr := (rfl)
@[simp] theorem State.trunk_gov (s : State) (r who n : Nat) (x : Xfer) : (s.trunk r who n x).gov = s.gov := (rfl)
@[simp] theorem State.trunk_saf (s : State) (r who n : Nat) (x : Xfer) : (s.trunk r who n x).saf = s.saf := (rfl)
@[simp] theorem State.trunk_keys (s : State) (r who n : Nat) (x : Xfer) : (s.trunk r who n x).keys = s.keys := (rfl)
@[simp] theorem State.trunk_img (s : State) (r who n : Nat) (x : Xfer) : (s.trunk r who n x).img = s.img := (rfl)
@[simp] theorem State.trunk_tap (s : State) (r who n : Nat) (x : Xfer) : (s.trunk r who n x).tap = s.tap := (rfl)

/-! ### `advance` -/

@[simp] theorem State.advance_pending (s : State) (w : When) : (s.advance w).pending = s.pending := (rfl)
@[simp] theorem State.advance_regs (s : State) (w : When) : (s.advance w).regs = s.regs := (rfl)
@[simp] theorem State.advance_latch (s : State) (w : When) : (s.advance w).latch = s.latch := (rfl)
@[simp] theorem State.advance_free (s : State) (w : When) : (s.advance w).free = s.free := (rfl)
@[simp] theorem State.advance_evr (s : State) (w : When) : (s.advance w).evr = s.evr := (rfl)
@[simp] theorem State.advance_pm (s : State) (w : When) : (s.advance w).pm = s.pm := (rfl)
@[simp] theorem State.advance_man (s : State) (w : When) : (s.advance w).man = s.man := (rfl)
@[simp] theorem State.advance_fab (s : State) (w : When) : (s.advance w).fab = s.fab := (rfl)
@[simp] theorem State.advance_prog (s : State) (w : When) : (s.advance w).prog = s.prog := (rfl)
@[simp] theorem State.advance_pwr (s : State) (w : When) : (s.advance w).pwr = s.pwr := (rfl)
@[simp] theorem State.advance_ctr (s : State) (w : When) : (s.advance w).ctr = s.ctr := (rfl)
@[simp] theorem State.advance_pms (s : State) (w : When) : (s.advance w).pms = s.pms := (rfl)
@[simp] theorem State.advance_perf (s : State) (w : When) : (s.advance w).perf = s.perf := (rfl)
@[simp] theorem State.advance_arb (s : State) (w : When) : (s.advance w).arb = s.arb := (rfl)
@[simp] theorem State.advance_cle (s : State) (w : When) : (s.advance w).cle = s.cle := (rfl)
@[simp] theorem State.advance_net (s : State) (w : When) : (s.advance w).net = s.net := (rfl)
@[simp] theorem State.advance_mtr (s : State) (w : When) : (s.advance w).mtr = s.mtr := (rfl)
@[simp] theorem State.advance_gov (s : State) (w : When) : (s.advance w).gov = s.gov := (rfl)
@[simp] theorem State.advance_saf (s : State) (w : When) : (s.advance w).saf = s.saf := (rfl)
@[simp] theorem State.advance_keys (s : State) (w : When) : (s.advance w).keys = s.keys := (rfl)
@[simp] theorem State.advance_img (s : State) (w : When) : (s.advance w).img = s.img := (rfl)
@[simp] theorem State.advance_tap (s : State) (w : When) : (s.advance w).tap = s.tap := (rfl)

/-! ### `record`: the recorder's engine alone changes -/

/-- All that recording an event changes is the recorder's engine. -/
theorem State.record_eq (s : State) (code : Nat) (snap : List Word) (role ph session : Nat) :
    ∃ e, s.record code snap role ph session = { s with evr := e } := by
  unfold State.record
  dsimp only
  repeat' split
  all_goals first
    | exact ⟨s.evr, rfl⟩
    | exact ⟨_, rfl⟩

@[simp] theorem State.record_pending (s : State) (code : Nat) (snap : List Word) (role ph session : Nat) :
    (s.record code snap role ph session).pending = s.pending := by
  obtain ⟨e, h⟩ := s.record_eq code snap role ph session
  rw [h]
@[simp] theorem State.record_ns (s : State) (code : Nat) (snap : List Word) (role ph session : Nat) :
    (s.record code snap role ph session).ns = s.ns := by
  obtain ⟨e, h⟩ := s.record_eq code snap role ph session
  rw [h]
@[simp] theorem State.record_regs (s : State) (code : Nat) (snap : List Word) (role ph session : Nat) :
    (s.record code snap role ph session).regs = s.regs := by
  obtain ⟨e, h⟩ := s.record_eq code snap role ph session
  rw [h]
@[simp] theorem State.record_latch (s : State) (code : Nat) (snap : List Word) (role ph session : Nat) :
    (s.record code snap role ph session).latch = s.latch := by
  obtain ⟨e, h⟩ := s.record_eq code snap role ph session
  rw [h]
@[simp] theorem State.record_free (s : State) (code : Nat) (snap : List Word) (role ph session : Nat) :
    (s.record code snap role ph session).free = s.free := by
  obtain ⟨e, h⟩ := s.record_eq code snap role ph session
  rw [h]
@[simp] theorem State.record_clk (s : State) (code : Nat) (snap : List Word) (role ph session : Nat) :
    (s.record code snap role ph session).clk = s.clk := by
  obtain ⟨e, h⟩ := s.record_eq code snap role ph session
  rw [h]
@[simp] theorem State.record_pm (s : State) (code : Nat) (snap : List Word) (role ph session : Nat) :
    (s.record code snap role ph session).pm = s.pm := by
  obtain ⟨e, h⟩ := s.record_eq code snap role ph session
  rw [h]
@[simp] theorem State.record_man (s : State) (code : Nat) (snap : List Word) (role ph session : Nat) :
    (s.record code snap role ph session).man = s.man := by
  obtain ⟨e, h⟩ := s.record_eq code snap role ph session
  rw [h]
@[simp] theorem State.record_fab (s : State) (code : Nat) (snap : List Word) (role ph session : Nat) :
    (s.record code snap role ph session).fab = s.fab := by
  obtain ⟨e, h⟩ := s.record_eq code snap role ph session
  rw [h]
@[simp] theorem State.record_prog (s : State) (code : Nat) (snap : List Word) (role ph session : Nat) :
    (s.record code snap role ph session).prog = s.prog := by
  obtain ⟨e, h⟩ := s.record_eq code snap role ph session
  rw [h]
@[simp] theorem State.record_rtc (s : State) (code : Nat) (snap : List Word) (role ph session : Nat) :
    (s.record code snap role ph session).rtc = s.rtc := by
  obtain ⟨e, h⟩ := s.record_eq code snap role ph session
  rw [h]
@[simp] theorem State.record_pwr (s : State) (code : Nat) (snap : List Word) (role ph session : Nat) :
    (s.record code snap role ph session).pwr = s.pwr := by
  obtain ⟨e, h⟩ := s.record_eq code snap role ph session
  rw [h]
@[simp] theorem State.record_ctr (s : State) (code : Nat) (snap : List Word) (role ph session : Nat) :
    (s.record code snap role ph session).ctr = s.ctr := by
  obtain ⟨e, h⟩ := s.record_eq code snap role ph session
  rw [h]
@[simp] theorem State.record_pms (s : State) (code : Nat) (snap : List Word) (role ph session : Nat) :
    (s.record code snap role ph session).pms = s.pms := by
  obtain ⟨e, h⟩ := s.record_eq code snap role ph session
  rw [h]
@[simp] theorem State.record_perf (s : State) (code : Nat) (snap : List Word) (role ph session : Nat) :
    (s.record code snap role ph session).perf = s.perf := by
  obtain ⟨e, h⟩ := s.record_eq code snap role ph session
  rw [h]
@[simp] theorem State.record_arb (s : State) (code : Nat) (snap : List Word) (role ph session : Nat) :
    (s.record code snap role ph session).arb = s.arb := by
  obtain ⟨e, h⟩ := s.record_eq code snap role ph session
  rw [h]
@[simp] theorem State.record_cle (s : State) (code : Nat) (snap : List Word) (role ph session : Nat) :
    (s.record code snap role ph session).cle = s.cle := by
  obtain ⟨e, h⟩ := s.record_eq code snap role ph session
  rw [h]
@[simp] theorem State.record_net (s : State) (code : Nat) (snap : List Word) (role ph session : Nat) :
    (s.record code snap role ph session).net = s.net := by
  obtain ⟨e, h⟩ := s.record_eq code snap role ph session
  rw [h]
@[simp] theorem State.record_mtr (s : State) (code : Nat) (snap : List Word) (role ph session : Nat) :
    (s.record code snap role ph session).mtr = s.mtr := by
  obtain ⟨e, h⟩ := s.record_eq code snap role ph session
  rw [h]
@[simp] theorem State.record_gov (s : State) (code : Nat) (snap : List Word) (role ph session : Nat) :
    (s.record code snap role ph session).gov = s.gov := by
  obtain ⟨e, h⟩ := s.record_eq code snap role ph session
  rw [h]
@[simp] theorem State.record_saf (s : State) (code : Nat) (snap : List Word) (role ph session : Nat) :
    (s.record code snap role ph session).saf = s.saf := by
  obtain ⟨e, h⟩ := s.record_eq code snap role ph session
  rw [h]
@[simp] theorem State.record_keys (s : State) (code : Nat) (snap : List Word) (role ph session : Nat) :
    (s.record code snap role ph session).keys = s.keys := by
  obtain ⟨e, h⟩ := s.record_eq code snap role ph session
  rw [h]
@[simp] theorem State.record_img (s : State) (code : Nat) (snap : List Word) (role ph session : Nat) :
    (s.record code snap role ph session).img = s.img := by
  obtain ⟨e, h⟩ := s.record_eq code snap role ph session
  rw [h]
@[simp] theorem State.record_tap (s : State) (code : Nat) (snap : List Word) (role ph session : Nat) :
    (s.record code snap role ph session).tap = s.tap := by
  obtain ⟨e, h⟩ := s.record_eq code snap role ph session
  rw [h]

end Sys2Proof.Machine
end

