-- ==== Sys2Proof/Laws/Tab.lean ====
section
/-! SUPPORT. Laws of the sparse tables: a lookup after an insertion, a removal and a canonical write, and that these keep
the canonical form. -/

namespace Sys2Proof.Machine

variable {α : Type}

theorem Tab.get?_put_same (t : Tab α) (k : Nat) (v : α) : (t.put k v).get? k = some v := by
  induction t with
  | nil => simp [Tab.put, Tab.get?]
  | cons e t ih =>
    obtain ⟨a, b⟩ := e
    simp only [Tab.put]
    split
    · simp [Tab.get?]
    · split
      · simp [Tab.get?]
      · rename_i h; simp [Tab.get?, h, ih]

theorem Tab.get?_put_other (t : Tab α) {k j : Nat} (v : α) (h : j ≠ k) : (t.put k v).get? j = t.get? j := by
  induction t with
  | nil => simp [Tab.put, Tab.get?, Ne.symm h]
  | cons e t ih =>
    obtain ⟨a, b⟩ := e
    simp only [Tab.put]
    split
    · simp [Tab.get?, Ne.symm h]
    · split
      · rename_i h2; subst h2; simp [Tab.get?, Ne.symm h]
      · simp only [Tab.get?, ih]

theorem Tab.get?_del_same (t : Tab α) (k : Nat) : (t.del k).get? k = none := by
  induction t with
  | nil => rfl
  | cons e t ih =>
    obtain ⟨a, b⟩ := e
    by_cases h : a = k
    · simpa [Tab.del, h] using ih
    · simpa [Tab.del, Tab.get?, h] using ih

theorem Tab.get?_del_other (t : Tab α) {k j : Nat} (h : j ≠ k) : (t.del k).get? j = t.get? j := by
  induction t with
  | nil => rfl
  | cons e t ih =>
    obtain ⟨a, b⟩ := e
    by_cases h2 : a = k
    · subst h2; simpa [Tab.del, Tab.get?, Ne.symm h] using ih
    · simp only [Tab.del] at ih ⊢; simp [Tab.get?, h2, ih]

variable [BEq α] [LawfulBEq α]

/-- What a key reads as after a canonical write under it. -/
theorem Tab.getD_set_same (t : Tab α) (d : α) (k : Nat) (v : α) : ((t.set d k v).get? k).getD d = v := by
  unfold Tab.set
  split
  · rename_i h; simp [Tab.get?_del_same, eq_of_beq h]
  · simp [Tab.get?_put_same]

omit [LawfulBEq α] in
/-- A canonical write leaves every other key alone. -/
theorem Tab.get?_set_other (t : Tab α) (d : α) {k j : Nat} (v : α) (h : j ≠ k) : (t.set d k v).get? j = t.get? j := by
  unfold Tab.set
  split
  · exact Tab.get?_del_other t h
  · exact Tab.get?_put_other t v h

/-! ## Canonical form -/

/-- The canonical form, entry by entry: keys strictly rising, and no entry equal to what its absent key reads as. -/
theorem Tab.wf_iff (dflt : Nat → α) (t : Tab α) :
    Tab.wf dflt t = true ↔ t.Pairwise (fun x y => x.1 < y.1) ∧ ∀ e ∈ t, e.2 ≠ dflt e.1 := by
  induction t with
  | nil => simp [Tab.wf]
  | cons e t ih =>
    obtain ⟨a, v⟩ := e
    cases t with
    | nil => simp [Tab.wf]
    | cons f t =>
      obtain ⟨b, w⟩ := f
      simp only [Tab.wf, Bool.and_eq_true, ih, decide_eq_true_eq, Bool.not_eq_true', beq_eq_false_iff_ne]
      constructor
      · rintro ⟨⟨h1, h2⟩, h3, h4⟩
        refine ⟨List.pairwise_cons.2 ⟨?_, h3⟩, ?_⟩
        · intro y hy
          rcases List.mem_cons.1 hy with rfl | hy
          · exact h2
          · exact lt_trans h2 ((List.pairwise_cons.1 h3).1 y hy)
        · intro y hy
          rcases List.mem_cons.1 hy with rfl | hy
          · exact h1
          · exact h4 y hy
      · rintro ⟨h1, h2⟩
        exact ⟨⟨h2 _ (List.mem_cons_self), (List.pairwise_cons.1 h1).1 _ (List.mem_cons_self)⟩,
          (List.pairwise_cons.1 h1).2, fun y hy => h2 y (List.mem_cons_of_mem _ hy)⟩

omit [BEq α] [LawfulBEq α] in
/-- The entries after an insertion. -/
theorem Tab.mem_put {t : Tab α} {k : Nat} {v : α} {e : Nat × α} (h : e ∈ t.put k v) : e = (k, v) ∨ e ∈ t := by
  induction t with
  | nil => simpa [Tab.put] using h
  | cons f t ih =>
    obtain ⟨a, b⟩ := f
    simp only [Tab.put] at h
    split at h
    · rcases List.mem_cons.1 h with h | h <;> simp [h]
    · split at h
      · rcases List.mem_cons.1 h with h | h <;> simp [h]
      · rcases List.mem_cons.1 h with h | h
        · simp [h]
        · rcases ih h with h | h <;> simp [h]

omit [BEq α] [LawfulBEq α] in
theorem Tab.put_sorted {t : Tab α} (h : t.Pairwise (fun x y => x.1 < y.1)) (k : Nat) (v : α) :
    (t.put k v).Pairwise (fun x y => x.1 < y.1) := by
  induction t with
  | nil => simp [Tab.put]
  | cons f t ih =>
    obtain ⟨a, b⟩ := f
    obtain ⟨h1, h2⟩ := List.pairwise_cons.1 h
    simp only [Tab.put]
    split
    · rename_i hk
      refine List.pairwise_cons.2 ⟨?_, h⟩
      intro y hy
      rcases List.mem_cons.1 hy with rfl | hy
      · exact hk
      · exact lt_trans hk (h1 y hy)
    · split
      · rename_i hk; subst hk
        exact List.pairwise_cons.2 ⟨h1, h2⟩
      · rename_i h3 h4
        refine List.pairwise_cons.2 ⟨?_, ih h2⟩
        intro y hy
        rcases Tab.mem_put hy with rfl | hy
        · exact lt_of_le_of_ne (Nat.le_of_not_lt h3) h4
        · exact h1 y hy

/-- A canonical write keeps the canonical form, where an absent key reads as the write's default. -/
theorem Tab.wf_set {dflt : Nat → α} {t : Tab α} (h : Tab.wf dflt t = true) (k : Nat) (v : α) :
    Tab.wf dflt (t.set (dflt k) k v) = true := by
  rw [Tab.wf_iff] at h ⊢
  unfold Tab.set
  split
  · exact ⟨h.1.sublist List.filter_sublist, fun e he => h.2 e (List.mem_of_mem_filter he)⟩
  · rename_i hv
    refine ⟨Tab.put_sorted h.1 k v, fun e he => ?_⟩
    rcases Tab.mem_put he with rfl | he
    · simpa using hv
    · exact h.2 e he

/-! ## Bytes -/

theorem Mem.wf_setByte {m : Mem} (h : Tab.wf (fun _ => (0 : Byte)) m = true) (a : Nat) (b : Byte) :
    Tab.wf (fun _ => (0 : Byte)) (Mem.setByte m a b) = true := Tab.wf_set (dflt := fun _ => (0 : Byte)) h a b

theorem Mem.wf_setBytes {m : Mem} (h : Tab.wf (fun _ => (0 : Byte)) m = true) (a : Nat) (bs : List Byte) :
    Tab.wf (fun _ => (0 : Byte)) (Mem.setBytes m a bs) = true := by
  induction bs generalizing m a with
  | nil => exact h
  | cons b bs ih => exact ih (Mem.wf_setByte h a b) (a + 1)

theorem Mem.wf_setCells {m : Mem} (h : Tab.wf (fun _ => (0 : Byte)) m = true) (cs : List (Nat × Byte)) :
    Tab.wf (fun _ => (0 : Byte)) (Mem.setCells m cs) = true := by
  unfold Mem.setCells
  induction cs generalizing m with
  | nil => exact h
  | cons c cs ih => exact ih (Mem.wf_setByte h c.1 c.2)

@[simp] theorem Mem.byte_setByte_same (m : Mem) (a : Nat) (b : Byte) : Mem.byte (Mem.setByte m a b) a = b :=
  Tab.getD_set_same m 0 a b

theorem Mem.byte_setByte_other (m : Mem) {a c : Nat} (b : Byte) (h : c ≠ a) :
    Mem.byte (Mem.setByte m a b) c = Mem.byte m c := by
  exact congrArg (fun o => Option.getD o 0) (Tab.get?_set_other (α := Byte) m 0 b h)

/-- Bytes outside a write keep their value. -/
theorem Mem.byte_setBytes_other (m : Mem) (a : Nat) (bs : List Byte) {c : Nat} (h : c < a ∨ a + bs.length ≤ c) :
    Mem.byte (Mem.setBytes m a bs) c = Mem.byte m c := by
  induction bs generalizing m a with
  | nil => rfl
  | cons b bs ih =>
    simp only [List.length_cons] at h
    rw [Mem.setBytes, ih (Mem.setByte m a b) (a + 1) (by omega), Mem.byte_setByte_other m b (by omega)]

/-- A byte inside a write reads what was written. -/
theorem Mem.byte_setBytes_same (m : Mem) (a : Nat) (bs : List Byte) (i : Nat) (h : i < bs.length) :
    Mem.byte (Mem.setBytes m a bs) (a + i) = bs[i] := by
  induction bs generalizing m a i with
  | nil => simp at h
  | cons b bs ih =>
    cases i with
    | zero =>
      rw [Mem.setBytes, Nat.add_zero, Mem.byte_setBytes_other _ _ _ (by omega)]
      simp
    | succ i =>
      have := ih (Mem.setByte m a b) (a + 1) i (by simpa using h)
      rw [Mem.setBytes]
      simpa [Nat.add_assoc, Nat.add_comm 1 i] using this

end Sys2Proof.Machine
end

