-- ==== Sys2Proof/Laws/Regs.lean ====
section
/-! SUPPORT. Laws of the register file: a word and a field after a store, which words a store leaves alone, and that every
store keeps the canonical form. -/

namespace Sys2Proof

/-- Splits a number at two bit places. -/
theorem Word.parts_lt {hi lo w v : Nat} (h1 : lo ≤ hi) (h2 : hi < 32) (hw : w < 2 ^ 32) :
    w / 2 ^ (hi + 1) * 2 ^ (hi + 1) + v % 2 ^ (hi + 1 - lo) * 2 ^ lo + w % 2 ^ lo < 2 ^ 32 := by
  have e1 : 2 ^ (hi + 1 - lo) * 2 ^ lo = 2 ^ (hi + 1) := by rw [← pow_add]; congr 1; omega
  have e2 : 2 ^ (31 - hi) * 2 ^ (hi + 1) = 2 ^ 32 := by rw [← pow_add]; congr 1; omega
  have a1 : w / 2 ^ (hi + 1) < 2 ^ (31 - hi) := by
    rw [Nat.div_lt_iff_lt_mul (by positivity), e2]; exact hw
  have a2 : v % 2 ^ (hi + 1 - lo) < 2 ^ (hi + 1 - lo) := Nat.mod_lt _ (by positivity)
  have a3 : w % 2 ^ lo < 2 ^ lo := Nat.mod_lt _ (by positivity)
  have b1 : v % 2 ^ (hi + 1 - lo) * 2 ^ lo + 2 ^ lo ≤ 2 ^ (hi + 1) := by
    have := Nat.mul_le_mul_right (2 ^ lo) (Nat.succ_le_of_lt a2)
    rw [e1, Nat.succ_mul] at this; exact this
  have b2 : w / 2 ^ (hi + 1) * 2 ^ (hi + 1) + 2 ^ (hi + 1) ≤ 2 ^ 32 := by
    have := Nat.mul_le_mul_right (2 ^ (hi + 1)) (Nat.succ_le_of_lt a1)
    rw [e2, Nat.succ_mul] at this; exact this
  omega

/-- The word behind `setBits`, as a number. -/
theorem Word.toNat_setBits (w : Word) {hi lo : Nat} (v : Nat) (h1 : lo ≤ hi) (h2 : hi < 32) :
    (w.setBits hi lo v).toNat =
      w.toNat / 2 ^ (hi + 1) * 2 ^ (hi + 1) + v % 2 ^ (hi + 1 - lo) * 2 ^ lo + w.toNat % 2 ^ lo := by
  rw [Word.setBits, BitVec.toNat_ofNat, Nat.mod_eq_of_lt (Word.parts_lt h1 h2 w.isLt)]

/-- A field after a store into it. -/
theorem Word.bits_setBits_same (w : Word) {hi lo : Nat} (v : Nat) (h1 : lo ≤ hi) (h2 : hi < 32) :
    (w.setBits hi lo v).bits hi lo = v % 2 ^ (hi + 1 - lo) := by
  have e : w.toNat / 2 ^ (hi + 1) * 2 ^ (hi + 1) = w.toNat / 2 ^ (hi + 1) * 2 ^ (hi + 1 - lo) * 2 ^ lo := by
    rw [mul_assoc, ← pow_add]; congr 2; omega
  rw [Word.bits, Word.toNat_setBits w v h1 h2, e, ← Nat.add_mul, Nat.add_comm, Nat.add_mul_div_right _ _ (by positivity),
    Nat.div_eq_of_lt (Nat.mod_lt _ (by positivity)), Nat.zero_add, Nat.add_comm, Nat.add_mul_mod_self_right, Nat.mod_mod]

/-- A field below a store. -/
theorem Word.bits_setBits_below (w : Word) {hi lo h l : Nat} (v : Nat) (h1 : lo ≤ hi) (h2 : hi < 32) (h3 : l ≤ h)
    (hd : h < lo) : (w.setBits hi lo v).bits h l = w.bits h l := by
  have split : ∀ n, n / 2 ^ l % 2 ^ (h + 1 - l) = n % 2 ^ lo / 2 ^ l % 2 ^ (h + 1 - l) := by
    intro n
    have e : (2 : Nat) ^ lo = 2 ^ l * 2 ^ (lo - l) := by rw [← pow_add]; congr 1; omega
    rw [e, Nat.mod_mul_right_div_self, Nat.mod_mod_of_dvd _ (pow_dvd_pow 2 (by omega))]
  have e1 : w.toNat / 2 ^ (hi + 1) * 2 ^ (hi + 1) = w.toNat / 2 ^ (hi + 1) * 2 ^ (hi + 1 - lo) * 2 ^ lo := by
    rw [mul_assoc, ← pow_add]; congr 2; omega
  rw [Word.bits, Word.bits, split, split w.toNat, Word.toNat_setBits w v h1 h2, e1, ← Nat.add_mul, Nat.add_comm,
    Nat.add_mul_mod_self_right, Nat.mod_mod]

/-- A field above a store. -/
theorem Word.bits_setBits_above (w : Word) {hi lo h l : Nat} (v : Nat) (h1 : lo ≤ hi) (h2 : hi < 32)
    (hd : hi < l) : (w.setBits hi lo v).bits h l = w.bits h l := by
  have e : (2 : Nat) ^ l = 2 ^ (hi + 1) * 2 ^ (l - (hi + 1)) := by rw [← pow_add]; congr 1; omega
  have hlt : v % 2 ^ (hi + 1 - lo) * 2 ^ lo + w.toNat % 2 ^ lo < 2 ^ (hi + 1) := by
    have e1 : 2 ^ (hi + 1 - lo) * 2 ^ lo = 2 ^ (hi + 1) := by rw [← pow_add]; congr 1; omega
    have a2 : v % 2 ^ (hi + 1 - lo) < 2 ^ (hi + 1 - lo) := Nat.mod_lt _ (by positivity)
    have a3 : w.toNat % 2 ^ lo < 2 ^ lo := Nat.mod_lt _ (by positivity)
    have := Nat.mul_le_mul_right (2 ^ lo) (Nat.succ_le_of_lt a2)
    rw [e1, Nat.succ_mul] at this
    omega
  rw [Word.bits, Word.bits, Word.toNat_setBits w v h1 h2, e, ← Nat.div_div_eq_div_mul, ← Nat.div_div_eq_div_mul,
    Nat.add_assoc, Nat.add_comm, Nat.add_mul_div_right _ _ (by positivity), Nat.div_eq_of_lt hlt, Nat.zero_add]

end Sys2Proof

namespace Sys2Proof.Machine

/-! ## Words -/

@[simp] theorem State.rd_wr_same (s : State) (a : Nat) (v : Word) : (s.wr a v).rd a = v :=
  Tab.getD_set_same s.regs (resetOf a) a v

theorem State.rd_wr_other (s : State) {a b : Nat} (v : Word) (h : b ≠ a) : (s.wr a v).rd b = s.rd b := by
  rw [State.rd, State.rd, State.wr, Tab.get?_set_other _ _ _ h]

/-- Two states with one register file read alike. -/
theorem State.rd_of_regs {s t : State} (h : t.regs = s.regs) (a : Nat) : t.rd a = s.rd a := by rw [State.rd, State.rd, h]

theorem State.fld_of_regs {s t : State} (h : t.regs = s.regs) (f : Fld) : t.fld f = s.fld f := by
  rw [State.fld, State.fld, State.rd_of_regs h]

theorem State.flag_of_regs {s t : State} (h : t.regs = s.regs) (f : Fld) : t.flag f = s.flag f := by
  rw [State.flag, State.flag, State.fld_of_regs h]

/-! ## Fields -/

theorem State.rd_setFld_other (s : State) {f : Fld} {b : Nat} (v : Nat) (h : b ≠ f.a) : (s.setFld f v).rd b = s.rd b :=
  State.rd_wr_other s _ h

/-- A field after a store into it, modulo its size. -/
theorem State.fld_setFld_same (s : State) {f : Fld} (v : Nat) (h1 : f.lo ≤ f.hi) (h2 : f.hi < 32) :
    (s.setFld f v).fld f = v % 2 ^ (f.hi + 1 - f.lo) := by
  rw [State.fld, State.setFld, State.rd_wr_same, Word.bits_setBits_same _ _ h1 h2]

/-- A field of another register. -/
theorem State.fld_setFld_reg (s : State) {f g : Fld} (v : Nat) (h : g.a ≠ f.a) : (s.setFld f v).fld g = s.fld g := by
  rw [State.fld, State.fld, State.rd_setFld_other s v h]

/-- Another field of the same register. -/
theorem State.fld_setFld_apart (s : State) {f g : Fld} (v : Nat) (h1 : f.lo ≤ f.hi) (h2 : f.hi < 32) (h3 : g.lo ≤ g.hi)
    (hd : g.hi < f.lo ∨ f.hi < g.lo) : (s.setFld f v).fld g = s.fld g := by
  by_cases ha : g.a = f.a
  · rw [State.fld, State.fld, State.setFld, ha, State.rd_wr_same]
    rcases hd with hd | hd
    · exact Word.bits_setBits_below _ v h1 h2 h3 hd
    · exact Word.bits_setBits_above _ v h1 h2 hd
  · exact State.fld_setFld_reg s v ha

theorem State.flag_setFlag_same (s : State) {f : Fld} (b : Bool) (h1 : f.lo = f.hi) (h2 : f.hi < 32) :
    (s.setFlag f b).flag f = b := by
  have e : f.hi + 1 - f.lo = 1 := by omega
  rw [State.flag, State.setFlag, State.fld_setFld_same s _ (by omega) h2, e]
  cases b <;> rfl

/-! ## Frames of the register file -/

theorem RegsKept.refl (c : List Nat) (s : State) : RegsKept c s s := fun _ _ => rfl

theorem RegsKept.of_regs {c : List Nat} {s t : State} (h : t.regs = s.regs) : RegsKept c s t :=
  fun a _ => State.rd_of_regs h a

theorem RegsKept.trans {c : List Nat} {s t u : State} (h1 : RegsKept c s t) (h2 : RegsKept c t u) : RegsKept c s u :=
  fun a ha => (h2 a ha).trans (h1 a ha)

theorem RegsKept.mono {c d : List Nat} {s t : State} (h : RegsKept c s t) (hcd : ∀ a ∈ c, a ∈ d) : RegsKept d s t :=
  fun a ha => h a fun hc => ha (hcd a hc)

theorem RegsKept.wr {c : List Nat} {s t : State} {a : Nat} (h : RegsKept c s t) (v : Word) (ha : a ∈ c) :
    RegsKept c s (t.wr a v) :=
  fun b hb => (State.rd_wr_other t v (by rintro rfl; exact hb ha)).trans (h b hb)

theorem RegsKept.setFld {c : List Nat} {s t : State} {f : Fld} (h : RegsKept c s t) (v : Nat) (ha : f.a ∈ c) :
    RegsKept c s (t.setFld f v) := h.wr _ ha

theorem RegsKept.setFlag {c : List Nat} {s t : State} {f : Fld} (h : RegsKept c s t) (b : Bool) (ha : f.a ∈ c) :
    RegsKept c s (t.setFlag f b) := h.setFld _ ha

theorem RegsKept.inc {c : List Nat} {s t : State} {f : Fld} (h : RegsKept c s t) (n : Nat) (ha : f.a ∈ c) :
    RegsKept c s (t.inc f n) := h.setFld _ ha

theorem RegsKept.words {c : List Nat} {p : Nat → Prop} {s t : State} (h : RegsKept c s t) (hp : ∀ a ∈ c, p a) :
    WordsKept p s t := fun a ha => h a fun hc => ha (hp a hc)

theorem WordsKept.trans {p : Nat → Prop} {s t u : State} (h1 : WordsKept p s t) (h2 : WordsKept p t u) : WordsKept p s u :=
  fun a ha => (h2 a ha).trans (h1 a ha)

/-! ## Canonical form -/

theorem State.canonical_iff (s : State) : s.canonical = true ↔
    Tab.wf resetOf s.regs = true ∧ Tab.wf (fun _ => (0 : Byte)) s.pm.home = true ∧
      Tab.wf (fun _ => (0 : Byte)) s.net.sram = true := by
  simp only [State.canonical, Bool.and_eq_true, and_assoc]

theorem State.wr_canonical {s : State} (h : s.canonical = true) (a : Nat) (v : Word) : (s.wr a v).canonical = true := by
  rw [State.canonical_iff] at h ⊢
  exact ⟨Tab.wf_set h.1 a v, h.2⟩

theorem State.setFld_canonical {s : State} (h : s.canonical = true) (f : Fld) (v : Nat) : (s.setFld f v).canonical = true :=
  State.wr_canonical h _ _

theorem State.setFlag_canonical {s : State} (h : s.canonical = true) (f : Fld) (b : Bool) :
    (s.setFlag f b).canonical = true := State.wr_canonical h _ _

theorem State.inc_canonical {s : State} (h : s.canonical = true) (f : Fld) (n : Nat) : (s.inc f n).canonical = true :=
  State.wr_canonical h _ _

theorem State.wrPair_canonical {s : State} (h : s.canonical = true) (lo hi v : Nat) :
    (s.wrPair lo hi v).canonical = true := State.wr_canonical (State.wr_canonical h _ _) _ _

theorem State.pmPut_canonical {s : State} (h : s.canonical = true) (o : Nat) (bs : List Byte) :
    (s.pmPut o bs).canonical = true := by
  rw [State.canonical_iff] at h ⊢
  exact ⟨h.1, Mem.wf_setBytes h.2.1 o bs, h.2.2⟩

theorem State.sramPut_canonical {s : State} (h : s.canonical = true) (a : Nat) (bs : List Byte) :
    (s.sramPut a bs).canonical = true := by
  rw [State.canonical_iff] at h ⊢
  exact ⟨h.1, h.2.1, Mem.wf_setBytes h.2.2 a bs⟩

theorem PMem.applyLoad_wf {m : PMem} (h : Tab.wf (fun _ => (0 : Byte)) m.home = true) (p : Payload) :
    Tab.wf (fun _ => (0 : Byte)) (m.applyLoad p).home = true := by
  cases p <;> first | exact h | exact Mem.wf_setCells h _

/-- A reset of a domain's words keeps the canonical form: it removes entries and rewrites others to other words. -/
theorem State.resetRegs_canonical {s : State} (h : s.canonical = true) (n : Nat) : (s.resetRegs n).canonical = true := by
  rw [State.canonical_iff] at h ⊢
  refine ⟨?_, h.2⟩
  have hs := h.1
  rw [Tab.wf_iff] at hs ⊢
  simp only [State.resetRegs]
  have key : ∀ e e' : Nat × Word,
      (if domOwns n e.1 then (let v := afterReset e.1 e.2; if v == resetOf e.1 then none else some (e.1, v)) else some e)
        = some e' → e'.1 = e.1 ∧ (e.2 ≠ resetOf e.1 → e'.2 ≠ resetOf e'.1) := by
    intro e e' he
    split at he
    · simp only at he
      split at he
      · cases he
      · rename_i hne
        cases he
        exact ⟨rfl, fun _ => by simpa using hne⟩
    · cases he; exact ⟨rfl, id⟩
  constructor
  · refine List.Pairwise.filterMap _ ?_ hs.1
    intro e f hef e' he f' hf
    rw [(key _ _ he).1, (key _ _ hf).1]
    exact hef
  · intro e' he
    obtain ⟨e, hmem, he⟩ := List.mem_filterMap.1 he
    exact (key _ _ he).2 (hs.2 e hmem)

end Sys2Proof.Machine
end

