-- ==== Sys2Proof/Laws/Ops.lean ====
section
/-! SUPPORT. What each shared operation does, said once: the clocks, an answer, a recorded event, a long operation, a
Registry group, a session that ends, a task's record, and the fields of manifest records. -/

namespace Sys2Proof

/-! ## Numbers in bytes -/

theorem Machine.leNat_lt (l : List Byte) : Machine.leNat l < 256 ^ l.length := by
  induction l with
  | nil => simp [Machine.leNat]
  | cons b l ih =>
    have hb : b.toNat < 256 := b.isLt
    rw [Machine.leNat, List.length_cons, pow_succ]
    omega

end Sys2Proof

namespace Sys2Proof.Machine

/-- A field of a record is below the bound of its size. -/
theorem Rec.u_lt (r : Rec) (off n : Nat) : Rec.u r off n < 256 ^ n := by
  refine lt_of_lt_of_le (leNat_lt _) (Nat.pow_le_pow_right (by decide) ?_)
  exact List.length_take_le _ _

theorem Rec.u8_lt (r : Rec) (off : Nat) : Rec.u8 r off < 256 := lt_of_lt_of_eq (Rec.u_lt r off 1) (pow_one 256)

/-! ## The moment of a command, and its answer -/

/-- TCXO time never runs backwards. -/
theorem State.le_advance_ns (s : State) (w : When) : s.ns ≤ (s.advance w).ns := le_max_left _ _

theorem State.advance_canonical {s : State} (h : s.canonical = true) (w : When) : (s.advance w).canonical = true := h

@[simp] theorem State.answer_answered (s : State) (c : Nat) (d : List Word) : (s.answer c d).answered c d := rfl

theorem State.answer_canonical {s : State} (h : s.canonical = true) (c : Nat) (d : List Word) :
    (s.answer c d).canonical = true := h

/-- An answer changes nothing of the session table. -/
theorem State.answer_sessions (s : State) (c : Nat) (d : List Word) : (s.answer c d).ctr.sessions = s.ctr.sessions := rfl

/-! ## Recording -/

/-- Without a record for its code, an event with at most 16 words enters a buffer that has room for it. -/
theorem State.record_events {s : State} {code : Nat} {snap : List Word} (role ph session : Nat)
    (h : s.recRec code = none) (hl : snap.length ≤ 16) (hr : s.evr.buf.length < 960) :
    (s.record code snap role ph session).events = s.events ++ [(code, snap)] := by
  have room : s.evr.room code = true := by
    rw [Evr.room]; split <;> simp <;> omega
  simp only [State.record, h, Evr.limit, room, if_true, Bool.false_eq_true, if_false, List.append_nil]
  simp only [State.events, Evr.accept, List.map_append, List.map_cons, List.map_nil]
  rw [List.take_of_length_le hl]

theorem State.record_canonical {s : State} (h : s.canonical = true) (code : Nat) (snap : List Word)
    (role ph session : Nat) : (s.record code snap role ph session).canonical = true := by
  obtain ⟨e, he⟩ := s.record_eq code snap role ph session
  rw [he]; exact h

theorem RegsKept.record {c : List Nat} {s t : State} (h : RegsKept c s t) (code : Nat) (snap : List Word)
    (role ph session : Nat) : RegsKept c s (t.record code snap role ph session) :=
  h.trans (RegsKept.of_regs (by simp))

/-! ## Long operations -/

/-- The start of a long operation, as stores. -/
theorem State.startLong_eq (s : State) (kind : Nat) (who : Who) (work : LongWork) :
    s.startLong kind who work =
      (let id := (s.fld F.CTR_STATUS_OPID + 1) % 256
       let t := ((s.setFld F.CTR_STATUS_OPID id).setFld F.CTR_STATUS_OPKIND kind).setFld F.CTR_STATUS_BUSY 1
       (t.setCtr { t.ctr with long := some ⟨kind, id, t.ns, who.session, who.role.num, work⟩ }).answer ansOK) := rfl

/-- The register file after the start of a long operation. -/
theorem State.startLong_regs (s : State) (kind : Nat) (who : Who) (work : LongWork) :
    (s.startLong kind who work).regs =
      (((s.setFld F.CTR_STATUS_OPID ((s.fld F.CTR_STATUS_OPID + 1) % 256)).setFld F.CTR_STATUS_OPKIND kind).setFld
        F.CTR_STATUS_BUSY 1).regs := by
  rw [State.startLong_eq, State.answer_regs, State.setCtr_regs]

/-- The Counter after the start of a long operation. -/
theorem State.startLong_ctr (s : State) (kind : Nat) (who : Who) (work : LongWork) :
    (s.startLong kind who work).ctr = { s.ctr with
      long := some ⟨kind, (s.fld F.CTR_STATUS_OPID + 1) % 256, s.ns, who.session, who.role.num, work⟩
      answer := some ⟨ansOK, [], true⟩ } := by
  have aux : ∀ (t : State) (id : Nat), t.ctr = s.ctr → t.ns = s.ns →
      ((t.setCtr { t.ctr with long := some ⟨kind, id, t.ns, who.session, who.role.num, work⟩ }).answer ansOK).ctr =
        { s.ctr with long := some ⟨kind, id, s.ns, who.session, who.role.num, work⟩, answer := some ⟨ansOK, [], true⟩ } := by
    intro t id h1 h2
    rw [← h1, ← h2]
    rfl
  rw [State.startLong_eq]
  exact aux _ _ (by rw [State.setFld_ctr, State.setFld_ctr, State.setFld_ctr])
    (by rw [State.setFld_ns, State.setFld_ns, State.setFld_ns])

/-- The start of a long operation of a kind that OPKIND can show. -/
theorem State.startLong_started (s : State) (kind : Nat) (who : Who) (work : LongWork) (h : kind < 16) :
    LongStarted kind who s (s.startLong kind who work) := by
  have e0 := s.startLong_regs kind who work
  have id_ : (s.startLong kind who work).fld F.CTR_STATUS_OPID = (s.fld F.CTR_STATUS_OPID + 1) % 256 := by
    rw [State.fld_of_regs e0, State.fld_setFld_apart _ _ (by decide) (by decide) (by decide) (by decide),
      State.fld_setFld_apart _ _ (by decide) (by decide) (by decide) (by decide),
      State.fld_setFld_same _ _ (by decide) (by decide)]
    exact Nat.mod_mod _ _
  refine ⟨?_, ?_, id_, ⟨kind, (s.fld F.CTR_STATUS_OPID + 1) % 256, s.ns, who.session, who.role.num, work⟩, ?_, rfl,
    id_.symm, rfl, rfl, rfl⟩
  · rw [State.flag_of_regs e0, State.flag, State.fld_setFld_same _ _ (by decide) (by decide)]; decide
  · rw [State.fld_of_regs e0, State.fld_setFld_apart _ _ (by decide) (by decide) (by decide) (by decide),
      State.fld_setFld_same _ _ (by decide) (by decide)]
    exact Nat.mod_eq_of_lt h
  · rw [State.startLong_ctr]

/-- The start of a long operation answers OK, and writes no other register word than CTR_STATUS. -/
theorem State.startLong_kept (s : State) (kind : Nat) (who : Who) (work : LongWork) :
    (s.startLong kind who work).answered ansOK ∧ RegsKept [Reg.CTR_STATUS] s (s.startLong kind who work) := by
  refine ⟨by rw [State.answered, State.startLong_ctr], ?_⟩
  have h := (((RegsKept.refl [Reg.CTR_STATUS] s).setFld (f := F.CTR_STATUS_OPID)
    ((s.fld F.CTR_STATUS_OPID + 1) % 256) (by simp)).setFld (f := F.CTR_STATUS_OPKIND) kind (by simp)).setFld
    (f := F.CTR_STATUS_BUSY) 1 (by simp)
  exact h.trans (RegsKept.of_regs (s.startLong_regs kind who work))

/-- A state with the memories of a canonical one is canonical. -/
theorem State.canonical_of {s t : State} (h : s.canonical = true) (h1 : t.regs = s.regs) (h2 : t.pm.home = s.pm.home)
    (h3 : t.net.sram = s.net.sram) : t.canonical = true := by
  rw [State.canonical_iff] at h ⊢
  rwa [h1, h2, h3]

theorem State.startLong_canonical {s : State} (h : s.canonical = true) (kind : Nat) (who : Who) (work : LongWork) :
    (s.startLong kind who work).canonical = true := by
  refine State.canonical_of (s := ((s.setFld F.CTR_STATUS_OPID ((s.fld F.CTR_STATUS_OPID + 1) % 256)).setFld
    F.CTR_STATUS_OPKIND kind).setFld F.CTR_STATUS_BUSY 1)
    (State.setFld_canonical (State.setFld_canonical (State.setFld_canonical h _ _) _ _) _ _) (s.startLong_regs kind who work)
    ?_ ?_
  · rw [State.startLong_eq, State.answer_pm, State.setCtr_pm]
  · rw [State.startLong_eq, State.answer_net, State.setCtr_net]

/-- The end of a long operation that runs is two register writes, the end of the operation and a recorded event. -/
theorem State.endLong_eq {s : State} {o : LongOp} (h : s.ctr.long = some o) (result : Nat) :
    ∃ v code snap session, s.endLong result = (((s.wr Reg.CTR_LONGOP v).setFld F.CTR_STATUS_BUSY 0).setCtr
      { ((s.wr Reg.CTR_LONGOP v).setFld F.CTR_STATUS_BUSY 0).ctr with long := none }).record code snap 0xFF 0 session := by
  unfold State.endLong State.putLongop
  rw [h]
  exact ⟨_, _, _, _, rfl⟩

/-- The end of a long operation that runs: no operation runs any more, BUSY is 0, and beside CTR_STATUS and CTR_LONGOP
every register word stays. -/
theorem State.endLong_kept {s : State} {o : LongOp} (h : s.ctr.long = some o) (result : Nat) :
    (s.endLong result).ctr.long = none ∧ (s.endLong result).flag F.CTR_STATUS_BUSY = false ∧
      RegsKept [Reg.CTR_STATUS, Reg.CTR_LONGOP] s (s.endLong result) := by
  obtain ⟨v, c, w, n, he⟩ := State.endLong_eq h result
  have er : (s.endLong result).regs = ((s.wr Reg.CTR_LONGOP v).setFld F.CTR_STATUS_BUSY 0).regs := by
    rw [he, State.record_regs, State.setCtr_regs]
  refine ⟨by rw [he, State.record_ctr]; rfl, ?_, ?_⟩
  · rw [State.flag_of_regs er, State.flag, State.fld_setFld_same _ _ (by decide) (by decide)]; decide
  · have k := ((RegsKept.refl [Reg.CTR_STATUS, Reg.CTR_LONGOP] s).wr (a := Reg.CTR_LONGOP) v (by simp)).setFld
      (f := F.CTR_STATUS_BUSY) 0 (by simp)
    exact k.trans (RegsKept.of_regs er)

theorem State.endLong_canonical {s : State} (h : s.canonical = true) (result : Nat) :
    (s.endLong result).canonical = true := by
  cases hl : s.ctr.long with
  | none => unfold State.endLong; rw [hl]; exact h
  | some o =>
    obtain ⟨v, c, w, n, he⟩ := State.endLong_eq hl result
    rw [he]
    refine State.record_canonical (State.canonical_of (State.setFld_canonical (State.wr_canonical h Reg.CTR_LONGOP v)
      F.CTR_STATUS_BUSY 0) ?_ ?_ ?_) ..
    · rw [State.setCtr_regs]
    · rw [State.setCtr_pm]
    · rw [State.setCtr_net]

/-! ## Registry groups -/

/-- All that submitting a group changes: the journal or the groups that wait, the arbiter, the write load counted, and the
register word that shows the journal's fill; no byte of the array. -/
theorem State.submitGroup_eq (s : State) (rank cells data : Nat) (load : Payload) (who : Nat) :
    ∃ m a p r, s.submitGroup rank cells data load who = { s with pm := m, arb := a, perf := p, regs := r }
      ∧ m.home = s.pm.home := by
  unfold State.submitGroup
  dsimp only
  split
  · exact ⟨_, _, _, _, rfl, rfl⟩
  · exact ⟨_, _, _, _, rfl, rfl⟩

/-- A group that enters the journal or waits changes no byte of the array. -/
theorem State.submitGroup_home (s : State) (rank cells data : Nat) (load : Payload) (who : Nat) :
    (s.submitGroup rank cells data load who).pm.home = s.pm.home := by
  obtain ⟨m, a, p, r, h, hm⟩ := s.submitGroup_eq rank cells data load who
  rw [h]
  exact hm

/-- The register word that a group may change shows the journal's fill. -/
theorem State.submitGroup_kept (s : State) (rank cells data : Nat) (load : Payload) (who : Nat) :
    RegsKept [Reg.PMC_JFILL] s (s.submitGroup rank cells data load who) := by
  have fill : ∀ t : State, RegsKept [Reg.PMC_JFILL] s t → RegsKept [Reg.PMC_JFILL] s t.showFill := fun t h =>
    (h.setFld (f := F.PMC_JFILL_NOW) _ (by simp)).setFld (f := F.PMC_JFILL_HIGH) _ (by simp)
  unfold State.submitGroup
  dsimp only
  split
  · unfold State.enterGroup
    exact fill _ (RegsKept.of_regs rfl)
  · exact RegsKept.of_regs rfl

/-! ## Sessions -/

theorem SessionsOk.of_sessions {s t : State} (h : SessionsOk s) (e : t.ctr.sessions = s.ctr.sessions) : SessionsOk t := by
  simpa only [SessionsOk, e] using h

/-- A session that ends leaves the table in order. -/
theorem State.dropSession_ok {s : State} (h : SessionsOk s) (entry num : Nat) : SessionsOk (s.dropSession entry num) := by
  have e : (s.dropSession entry num).ctr.sessions = s.ctr.sessions.del entry := by
    unfold State.dropSession
    dsimp only
    split <;> rfl
  obtain ⟨h1, h2, h3⟩ := h
  rw [SessionsOk, e]
  exact ⟨h1.sublist (List.filter_sublist.map _), fun x hx => h2 x (List.mem_of_mem_filter hx),
    h3.sublist (List.filter_sublist.map _)⟩

theorem State.closeSession_ok {s : State} (h : SessionsOk s) (entry cause : Nat) : SessionsOk (s.closeSession entry cause) := by
  unfold State.closeSession
  split
  · exact h
  · rename_i x _
    exact (State.dropSession_ok h entry x.num).of_sessions (by rw [State.record_ctr])

theorem State.closeAll_ok {s : State} (h : SessionsOk s) (cause : Nat) : SessionsOk (s.closeAll cause) := by
  unfold State.closeAll
  induction List.range 8 generalizing s with
  | nil => exact h
  | cons k l ih => exact ih (State.closeSession_ok h k cause)

/-! ## Tasks -/

/-- What holds of a new task and of every stored one holds of every task. -/
theorem State.task_all {s : State} {P : Task → Prop} (h0 : P .new) (h : ∀ e ∈ s.prog.tasks, P e.2) (n : Nat) :
    P (s.task n) := by
  have key : ∀ t : Tab Task, (∀ e ∈ t, P e.2) → P ((t.get? n).getD .new) := by
    intro t
    induction t with
    | nil => intro _; exact h0
    | cons e t ih =>
      intro ht
      rw [Tab.get?]
      split
      · exact ht e (by simp)
      · exact ih fun x hx => ht x (by simp [hx])
  exact key _ h

/-- A task's number is one byte of its record. -/
theorem State.taskRec_of_large (s : State) {n : Nat} (h : 256 ≤ n) : s.taskRec n = none := by
  rw [State.taskRec, Program.rec?, List.find?_eq_none]
  intro r _ hr
  have hb := Rec.u8_lt r 0
  simp only [beq_iff_eq] at hr
  omega

theorem State.wdogDue_of_small {s : State} (h : ∀ n < 256, s.wdogDue n = false) (n : Nat) : s.wdogDue n = false := by
  by_cases hn : n < 256
  · exact h n hn
  · rw [State.wdogDue, s.taskRec_of_large (by omega)]

end Sys2Proof.Machine
end

