-- ==== Sys2Proof/WellFormed.lean ====
section
/-! DEFINITION. Well-formed commands: every operand lies in the range that the row's rule gives it. -/

namespace Sys2Proof

/-- A number below a bound. -/
def below (bound n : Nat) : Bool := decide (n < bound)

/-- A Counter address: 40 bits (R27). -/
def addrOk (a : Nat) : Bool := decide (a < 2 ^ 40)

/-- COUNT of a READ or WRITE: 1 to 64 words (R476). -/
def wordsOk (n : Nat) : Bool := decide (1 ≤ n) && decide (n ≤ 64)

/-- Words within a slot of the given size (R73, R521). -/
def slotRange (size offset : Nat) (data : List Word) : Bool :=
  offset % 4 == 0 && decide (offset + 4 * data.length ≤ size) && wordsOk data.length

/-- A session's party: pigeonhole 0 to 63, session number of 16 bits (R476, R478). -/
def Who.wf (w : Who) : Bool := below 64 w.ph && below 65536 w.session

/-- The source of a PMK_CFG write (R49): the manifest or a session. -/
def srcOk : Option Who → Bool
  | none => true
  | some w => w.wf

/-- A transport: SPI or MAC 0 to 6 (R473). -/
def Transport.wf : Transport → Bool
  | .spi => true
  | .mac m => below 7 m

/-- A request frame: fields of the sizes of R476. -/
def Frame.wf (f : Frame) : Bool :=
  below 256 f.ver && below 65536 f.session && decide (f.seq < 2 ^ 32) && f.tp.wf && below 65536 f.srcPort

/-- An Aelzon segment: header fields of the sizes of R119, at most 16 segments (R122). -/
def Segment.wf (s : Segment) : Bool :=
  below 256 s.typ && below 16 s.idx && below 17 s.total && below 65536 s.tag && below 256 s.stat && below 256 s.ver

/-- An error of a CAN controller has a code of R451 that occurs. -/
def CanErr.wf (e : CanErr) : Bool := decide (1 ≤ e.code) && below 7 e.code

def CanTx.wf : CanTx → Bool
  | .error e => e.wf
  | _ => true

/-- A CAN frame: an identifier of 11 or 29 bits, DLC 0 to 15, at most 64 data bytes (R430). -/
def CanFrame.wf (f : CanFrame) : Bool :=
  (if f.ext then decide (f.id < 2 ^ 29) else below 2048 f.id) && below 16 f.dlc && below 65 f.data.length && f.err.all CanErr.wf

/-- A lane's answer: a Modbus value has one register or two (R113). -/
def LaneAnswer.wf : LaneAnswer → Bool
  | .registers _ vs => vs.all fun v => decide (1 ≤ v.2.length) && below 3 v.2.length
  | _ => true

/-- The cells of a Registry group: aligned cells of 64 bytes in the array of 4 GiB, at most 64 of them (R376, R380). -/
def cellsOk (cs : List CellWrite) : Bool :=
  below 65 cs.length && cs.all fun c => c.offset % 64 == 0 && decide (c.offset < 2 ^ 32) && c.bytes.all fun b => below 64 b.1

/-- Well-formed commands. -/
def Instr.wf : Instr → Bool
  | .loRegisterRead _ who addr => who.wf && addrOk addr
  | .readClearAccess _ who addr => who.wf && addrOk addr
  | .registerWrite _ who addr _ => who.wf && addrOk addr
  | .referenceCycle _ _ _ _ => true
  | .clockCycleBoundary _ => true
  | .pmkCfgWrite _ src _ => srcOk src
  | .pmkCorSeqRead _ who => who.wf
  | .rtcSecondBoundary _ => true
  | .manVerify _ who slot => who.wf && below 4 slot
  | .manArm _ who slot => who.wf && below 4 slot
  | .manArmfb _ who => who.wf
  | .manClear _ who slot => who.wf && below 4 slot
  | .manSlotWrite _ who slot offset data => who.wf && below 4 slot && slotRange 0x8000000 offset data
  | .classSSwitch _ => true
  | .classWSwitch _ => true
  | .programSwitchBoundary _ => true
  | .powerupManifestCheck _ => true
  | .roundStart _ _ => true
  | .inputPhaseClose _ _ => true
  | .outputPhaseOpen _ _ => true
  | .roundEnd _ _ => true
  | .aelzonInputReceived _ station seg => below 2048 station && seg.wf
  | .aelzonChgReceived _ station seg => below 2048 station && seg.wf
  | .aelzonIdaReceived _ station seg _ _ _ => below 2048 station && seg.wf
  | .aelzonAckReceived _ station seg _ => below 2048 station && seg.wf
  | .outputAckTimeout _ station => below 2048 station
  | .aelzonFollowSend _ station => below 2048 station
  | .laneProtocolResponse _ station ans => below 2048 station && ans.wf
  | .stationDisableWrite _ who station _ => who.wf && below 2048 station
  | .pointWord0Read _ who p => who.wf && below 131072 p
  | .pointValueWrite _ who p _ => who.wf && below 131072 p
  | .pointForceWrite _ who p _ => who.wf && below 131072 p
  | .taskRelease _ task => below 64 task
  | .taskDispatch _ task => below 64 task
  | .taskReturn _ task _ => below 64 task
  | .checkpointDurable _ task => below 64 task
  | .eventSourceFire _ source _ => below 128 source
  | .taskWatchdogExpiry _ task => below 64 task
  | .programStop _ who => who.wf
  | .programHold _ who => who.wf
  | .programResume _ who => who.wf
  | .programStep _ who task => who.wf && below 64 task
  | .programWarm _ who _ => who.wf
  | .programCold _ who _ => who.wf
  | .tskDoorbellWrite _ who _ => who.wf
  | .rtPostmark _ task => below 64 task
  | .rtRelease _ task => below 64 task
  | .rtRtc _ task => below 64 task
  | .rtEvent _ task => below 64 task
  | .rtTrigger _ task source _ => below 64 task && below 128 source
  | .rtAxisSet _ task axis _ _ _ _ => below 64 task && below 64 axis
  | .rtAxisEnable _ task axis _ => below 64 task && below 64 axis
  | .rtAxisStop _ task axis => below 64 task && below 64 axis
  | .rtAxisState _ task axis => below 64 task && below 64 axis
  | .rtCmpSet _ task axis cmp _ dir => below 64 task && below 64 axis && below 16 cmp && below 4 dir
  | .rtMtrRead _ task group qty => below 64 task && below 16 group && below 256 qty
  | .rtSafStatus _ task => below 64 task
  | .rtMbSend _ task mb _ => below 64 task && below 128 mb
  | .rtMbRecv _ task mb => below 64 task && below 128 mb
  | .rtTrend _ task rec _ => below 64 task && below 65536 rec
  | .rtLog _ task code _ _ _ _ => below 64 task && below 65536 code
  | .rtTaskinfo _ task => below 64 task
  | .ocPreparationDone _ => true
  | .baseSwitch _ => true
  | .linkEvent _ link => below 24 link
  | .dexjoResponse _ axis frame _ => below 64 axis && below 21 frame.length
  | .dexjoResponseMiss _ axis => below 64 axis
  | .refereeVerdict _ axis _ _ _ _ => below 64 axis
  | .comparatorAction _ axis cmp => below 64 axis && below 16 cmp
  | .axisEnableTimeout _ axis => below 64 axis
  | .orphanStop _ => true
  | .axisStoEntry _ group => below 8 group
  | .coeffSwapCmd _ who axis => who.wf && below 64 axis
  | .coeffCopyCmd _ who axis => who.wf && below 64 axis
  | .tableEntryWrite _ who axis entry _ => who.wf && below 64 axis && below 1280 entry
  | .meteringCycleEnd _ _ _ => true
  | .meterTrimWrite _ who addr _ => who.wf && addrOk addr
  | .windowClearingRead _ who group reg => who.wf && below 16 group && below 6 reg
  | .pulseEmit _ p => below 8 p
  | .pulseWidthEnd _ p => below 8 p
  | .governorEvaluation _ => true
  | .switchingSend _ load => below 4080 load
  | .govModeWrite _ who mode => who.wf && below 4 mode
  | .heartbeatSend _ => true
  | .heartbeatTimeout _ _ _ _ => true
  | .faultLineReport _ _ _ _ _ => true
  | .spareTestStart _ => true
  | .spareTestDone _ _ _ => true
  | .pmsHandover _ who img => who.wf && below 4 img
  | .handoverSwitch _ => true
  | .pmsSparetest _ who => who.wf
  | .pmsRecover _ who => who.wf
  | .pmsPairjoin _ who _ _ _ _ _ => who.wf
  | .pmsPairleave _ who => who.wf
  | .pmsPairswap _ who => who.wf
  | .postmasterRestart _ _ => true
  | .postmasterRestartDone _ => true
  | .leaseRequestSend _ => true
  | .leaseReplyReceived _ _ _ _ _ => true
  | .selfFence _ => true
  | .grantRequest _ => true
  | .witnessGrant _ => true
  | .grantReceived _ _ => true
  | .pairStreamReceive _ _ => true
  | .pairRejoin _ => true
  | .safetyInputFilter _ pair _ _ => below 16 pair
  | .testPulseWindow _ pair _ _ => below 16 pair
  | .discrepancyTimerExpiry _ pair => below 16 pair
  | .degradedTimerExpiry _ pair => below 16 pair
  | .outputOffPulse _ o _ => below 8 o
  | .outputReadbackMismatch _ o => below 8 o
  | .sealSwitchChange _ _ => true
  | .closeRunEnd _ f => below 16 f
  | .clearTimeExpiry _ f => below 16 f
  | .stogrpDelayExpiry _ f => below 16 f
  | .thermoMinTimeExpiry _ f => below 16 f
  | .safConfirmWrite _ who _ => who.wf
  | .confirmLockoutExpiry _ => true
  | .safClearPair _ who pair => who.wf && below 16 pair
  | .safClearLatch _ who => who.wf
  | .safetyDiagnosticRun _ _ _ => true
  | .safetySupplyFault _ => true
  | .safetyWatchdogExpiry _ => true
  | .safetyStartDone _ _ => true
  | .registryGroupSubmit _ rank cells => below 8 rank && cellsOk cells
  | .registryGroupDurable _ => true
  | .registryApply _ => true
  | .scrubPass _ _ _ => true
  | .protectLevelWrite _ who level => who.wf && below 4 level
  | .starvationCount _ rank _ => below 8 rank
  | .perfSnapshot _ who => who.wf
  | .perfSnapshotDone _ => true
  | .canFrameReceived _ group fr => below 24 group && fr.wf
  | .canFrameSent _ tx => below 24 tx.group && tx.ev.wf
  | .canBusOff _ group => below 24 group
  | .canBusoffRecovered _ group => below 24 group
  | .canBorecCmd _ who group => who.wf && below 24 group
  | .canRestrWrite _ who group _ => who.wf && below 24 group
  | .canRestrictedChange _ group => below 24 group
  | .uartFrameSend _ group _ => below 24 group
  | .uartFrameReceived _ group _ => below 24 group
  | .daliForwardFrameSend _ group _ _ => below 24 group
  | .daliBackwardWindow _ group _ => below 24 group
  | .daliEventFrameReceived _ group _ => below 24 group
  | .daliBackoffExpiry _ group _ => below 24 group
  | .daliPowerLost _ group => below 24 group
  | .daliPowerRestored _ group => below 24 group
  | .daliCommission _ who group _ => who.wf && below 24 group
  | .ethFrameReceived _ m _ => below 7 m
  | .pauseExpiry _ m => below 7 m
  | .ethFrameTxStart _ m => below 7 m
  | .ethFrameTxDone _ m => below 7 m
  | .ethLinkChange _ m _ rate => below 7 m && below 3 rate
  | .mailbagTailAdvance _ mb _ => below 128 mb
  | .ctrIdent _ fr => fr.wf
  | .ctrHello _ fr binding _ => fr.wf && below 256 binding
  | .ctrOpen _ fr => fr.wf
  | .ctrClose _ fr => fr.wf
  | .ctrRead _ fr addr count => fr.wf && addrOk addr && wordsOk count
  | .ctrWrite _ fr addr data => fr.wf && addrOk addr && wordsOk data.length
  | .ctrSpiAnswerRead _ => true
  | .ctrQueueDispatch _ => true
  | .sessionPendingTimeout _ session => below 65536 session
  | .sessionIdleTimeout _ session => below 65536 session
  | .authfailLockoutExpiry _ binding => below 256 binding
  | .ctrKillWrite _ who session => who.wf && below 65536 session
  | .keyWriteCmd _ who slot => who.wf && below 32 slot
  | .keyErase _ who slot => who.wf && below 32 slot
  | .keyAttest _ who slot => who.wf && below 32 slot
  | .keyRekey _ who => who.wf
  | .keyZeroize _ who zmask => who.wf && below 8 zmask
  | .keyLoadwinTimeout _ => true
  | .lcAdvance _ who => who.wf
  | .lcService _ who => who.wf
  | .lcField _ who => who.wf
  | .lcRetire _ who => who.wf
  | .serviceTimerExpiry _ => true
  | .tamperDetect _ _ => true
  | .workingKeyRequest _ _ slot ph _ => below 32 slot && below 64 ph
  | .workingKeyRelease _ => true
  | .imgVerify _ who slot => who.wf && below 4 slot
  | .imgApply _ who src dst => who.wf && below 4 src && below 4 dst
  | .deltaApplyResume _ => true
  | .imgPmswitch _ who src => who.wf && below 4 src
  | .imgClear _ who slot => who.wf && below 4 slot
  | .imgRecover _ who => who.wf
  | .imgBoot _ who src => who.wf && below 4 src
  | .imgSlotWrite _ who slot offset data => who.wf && below 4 slot && slotRange 0x4000000 offset data
  | .rtcHaltSet _ who => who.wf
  | .rtcHaltRelease _ who => who.wf
  | .rtcFieldWrite _ who addr _ => who.wf && addrOk addr
  | .rtcDisciplineWrite _ _ => true
  | .rtcCalendarRead _ _ addr => addrOk addr
  | .rtcYearRead _ _ => true
  | .rtcFreezeExpiry _ _ => true
  | .rtcAlarmWrite _ who addr _ => who.wf && addrOk addr
  | .pwronAssertCmd _ who => who.wf
  | .pwronDeassertCmd _ who => who.wf
  | .wakeEdge _ => true
  | .bakPowerOn _ => true
  | .recorderRingWrite _ => true
  | .recorderResume _ => true
  | .vinValid _ _ => true
  | .domainStart _ _ _ => true
  | .domainGoodTimeout _ _ => true
  | .domainRetry _ _ => true
  | .pwrRungCmd _ who rung => who.wf && below 8 rung
  | .pwrResetCmd _ who => who.wf
  | .descentContinue _ => true
  | .axwaitReport _ => true
  | .wakeSource _ _ => true
  | .supplyLoss _ => true
  | .supplyLossDelayExpiry _ _ => true
  | .postponedDescentStart _ => true
  | .supplyRestore _ => true
  | .pfailDetect _ _ _ => true
  | .pfailRestart _ => true
  | .vinCollapse _ => true
  | .rstNLow _ => true
  | .rstNRelease _ _ => true
  | .thermalWarning _ _ => true
  | .referenceCycleTimeout _ => true
  | .laneBootDone _ _ => true
  | .longOperationEnd _ => true
  | .zeroizeResume _ => true
  | .tamperSourceCleared _ _ => true
  | .leaseRequestReceived _ _ => true
  | .pairStreamAck _ _ => true
  | .epochBlockRequest _ => true
  | .epochBlockReceived _ _ => true
  | .thermalFallBelow90 _ => true

end Sys2Proof
end

