-- ==== Sys2Proof/Tests/Slice0.lean ====
section
/-! SUPPORT. Tests: an ill-formed command for each check of `Instr.wf`, single steps with results computed by hand from
the spec, and one witness for each statement with hypotheses: concrete states and operands that meet them, clause by clause. -/

open Sys2Proof Sys2Proof.Machine

namespace Sys2Proof.Tests

set_option Elab.async false

/-! ### Small states and parties -/

def wh : When := ⟨1000000000, 7, 5⟩
def op : Who := ⟨.operator, 0, 1⟩
def ins : Who := ⟨.installer, 0, 2⟩
def mk : Who := ⟨.maker, 0, 3⟩
def ten : Who := ⟨.tenant, 1, 4⟩
/-- All domains good at RUN, lane A active, a manifest armed. -/
def up : State :=
  (((((State.reset.wr Reg.PWR_DOMRUNG 0).setFld F.MOD_DOMAINS_GOOD 0xFF).setFld F.PMS_STATUS_ACTIVE 1).setFld
    F.MOD_MAN_STATUS_ARMVALID 1).setFld (F.PMS_LANE_STATE 0) 4)
def nx (c : Instr) (s : State) : State := match exec c s with | .next t => t | _ => s
def la (n : Nat) : When := ⟨wh.ns + n, 7, 5⟩

def rdOf (a : Nat) : RegDesc := (findReg a).getD ⟨"", 0, 0, 0, 0, 0, []⟩
def theLong (o : Option LongOp) : LongOp := o.getD ⟨0, 0, 0, 0, 0, .keyWrite 0 0⟩
def theSession (o : Option Session) : Session := o.getD ⟨0, 0, .operator, 0, false, .spi, 0, 0, 0, none, 0, 0, 0, 0, []⟩
def theLoad (o : Option EvLoad) : EvLoad := o.getD ⟨0, [], 0, 0, 0, 0, false, false, []⟩

/-! ### Well-formed commands: each check refuses an ill-formed command, and takes the nearest well-formed one -/

def w0 : When := ⟨0, 0, 0⟩
def who0 : Who := ⟨.installer, 0, 1⟩
def fr0 : Sys2Proof.Frame := ⟨1, 1, 1, true, true, .spi, 0, 0⟩
def refused (l : List Instr) : Bool := l.all fun i => !i.wf
def taken (l : List Instr) : Bool := l.all fun i => i.wf

theorem test_wf_session_party_a : refused
  [.loRegisterRead w0 ⟨.operator, 64, 0⟩ 0, .readClearAccess w0 ⟨.operator, 64, 0⟩ 0,
   .registerWrite w0 ⟨.operator, 64, 0⟩ 0 0, .registerWrite w0 ⟨.operator, 0, 65536⟩ 0 0,
   .pmkCfgWrite w0 (some ⟨.operator, 64, 0⟩) 0, .pmkCorSeqRead w0 ⟨.operator, 64, 0⟩,
   .manVerify w0 ⟨.operator, 64, 0⟩ 0, .manArm w0 ⟨.operator, 64, 0⟩ 0, .manArmfb w0 ⟨.operator, 64, 0⟩,
   .manClear w0 ⟨.operator, 64, 0⟩ 0, .manSlotWrite w0 ⟨.operator, 64, 0⟩ 0 0 [0],
   .stationDisableWrite w0 ⟨.operator, 64, 0⟩ 0 true, .pointWord0Read w0 ⟨.operator, 64, 0⟩ 0,
   .pointValueWrite w0 ⟨.operator, 64, 0⟩ 0 0, .pointForceWrite w0 ⟨.operator, 64, 0⟩ 0 0,
   .programStop w0 ⟨.operator, 64, 0⟩, .programHold w0 ⟨.operator, 64, 0⟩, .programResume w0 ⟨.operator, 64, 0⟩,
   .programStep w0 ⟨.operator, 64, 0⟩ 0, .programWarm w0 ⟨.operator, 64, 0⟩ true,
   .programCold w0 ⟨.operator, 64, 0⟩ true, .tskDoorbellWrite w0 ⟨.operator, 64, 0⟩ 0,
   .coeffSwapCmd w0 ⟨.operator, 64, 0⟩ 0, .coeffCopyCmd w0 ⟨.operator, 64, 0⟩ 0,
   .tableEntryWrite w0 ⟨.operator, 64, 0⟩ 0 0 0, .meterTrimWrite w0 ⟨.operator, 64, 0⟩ 0 0,
   .windowClearingRead w0 ⟨.operator, 64, 0⟩ 0 0, .govModeWrite w0 ⟨.operator, 64, 0⟩ 0,
   .pmsHandover w0 ⟨.operator, 64, 0⟩ 0, .pmsSparetest w0 ⟨.operator, 64, 0⟩, .pmsRecover w0 ⟨.operator, 64, 0⟩,
   .pmsPairjoin w0 ⟨.operator, 64, 0⟩ 0 0 true true true, .pmsPairleave w0 ⟨.operator, 64, 0⟩,
   .pmsPairswap w0 ⟨.operator, 64, 0⟩, .safConfirmWrite w0 ⟨.operator, 64, 0⟩ 0,
   .safClearPair w0 ⟨.operator, 64, 0⟩ 0, .safClearLatch w0 ⟨.operator, 64, 0⟩,
   .protectLevelWrite w0 ⟨.operator, 64, 0⟩ 0, .perfSnapshot w0 ⟨.operator, 64, 0⟩,
   .canBorecCmd w0 ⟨.operator, 64, 0⟩ 0, .canRestrWrite w0 ⟨.operator, 64, 0⟩ 0 true,
   .daliCommission w0 ⟨.operator, 64, 0⟩ 0 0, .ctrKillWrite w0 ⟨.operator, 64, 0⟩ 0,
   .keyWriteCmd w0 ⟨.operator, 64, 0⟩ 0, .keyErase w0 ⟨.operator, 64, 0⟩ 0] = true ∧ taken
  [.loRegisterRead w0 ⟨.operator, 63, 65535⟩ 0, .readClearAccess w0 ⟨.operator, 63, 65535⟩ 0,
   .registerWrite w0 ⟨.operator, 63, 65535⟩ 0 0, .pmkCfgWrite w0 (some ⟨.operator, 63, 65535⟩) 0,
   .pmkCorSeqRead w0 ⟨.operator, 63, 65535⟩, .manVerify w0 ⟨.operator, 63, 65535⟩ 0,
   .manArm w0 ⟨.operator, 63, 65535⟩ 0, .manArmfb w0 ⟨.operator, 63, 65535⟩, .manClear w0 ⟨.operator, 63, 65535⟩ 0,
   .manSlotWrite w0 ⟨.operator, 63, 65535⟩ 0 0 [0], .stationDisableWrite w0 ⟨.operator, 63, 65535⟩ 0 true,
   .pointWord0Read w0 ⟨.operator, 63, 65535⟩ 0, .pointValueWrite w0 ⟨.operator, 63, 65535⟩ 0 0,
   .pointForceWrite w0 ⟨.operator, 63, 65535⟩ 0 0, .programStop w0 ⟨.operator, 63, 65535⟩,
   .programHold w0 ⟨.operator, 63, 65535⟩, .programResume w0 ⟨.operator, 63, 65535⟩,
   .programStep w0 ⟨.operator, 63, 65535⟩ 0, .programWarm w0 ⟨.operator, 63, 65535⟩ true,
   .programCold w0 ⟨.operator, 63, 65535⟩ true, .tskDoorbellWrite w0 ⟨.operator, 63, 65535⟩ 0,
   .coeffSwapCmd w0 ⟨.operator, 63, 65535⟩ 0, .coeffCopyCmd w0 ⟨.operator, 63, 65535⟩ 0,
   .tableEntryWrite w0 ⟨.operator, 63, 65535⟩ 0 0 0, .meterTrimWrite w0 ⟨.operator, 63, 65535⟩ 0 0,
   .windowClearingRead w0 ⟨.operator, 63, 65535⟩ 0 0, .govModeWrite w0 ⟨.operator, 63, 65535⟩ 0,
   .pmsHandover w0 ⟨.operator, 63, 65535⟩ 0, .pmsSparetest w0 ⟨.operator, 63, 65535⟩,
   .pmsRecover w0 ⟨.operator, 63, 65535⟩, .pmsPairjoin w0 ⟨.operator, 63, 65535⟩ 0 0 true true true,
   .pmsPairleave w0 ⟨.operator, 63, 65535⟩, .pmsPairswap w0 ⟨.operator, 63, 65535⟩,
   .safConfirmWrite w0 ⟨.operator, 63, 65535⟩ 0, .safClearPair w0 ⟨.operator, 63, 65535⟩ 0,
   .safClearLatch w0 ⟨.operator, 63, 65535⟩, .protectLevelWrite w0 ⟨.operator, 63, 65535⟩ 0,
   .perfSnapshot w0 ⟨.operator, 63, 65535⟩, .canBorecCmd w0 ⟨.operator, 63, 65535⟩ 0,
   .canRestrWrite w0 ⟨.operator, 63, 65535⟩ 0 true, .daliCommission w0 ⟨.operator, 63, 65535⟩ 0 0,
   .ctrKillWrite w0 ⟨.operator, 63, 65535⟩ 0, .keyWriteCmd w0 ⟨.operator, 63, 65535⟩ 0,
   .keyErase w0 ⟨.operator, 63, 65535⟩ 0, .keyAttest w0 ⟨.operator, 63, 65535⟩ 0] = true := by
  decide +kernel

theorem test_wf_session_party_b : refused
  [.keyAttest w0 ⟨.operator, 64, 0⟩ 0, .keyRekey w0 ⟨.operator, 64, 0⟩, .keyZeroize w0 ⟨.operator, 64, 0⟩ 0,
   .lcAdvance w0 ⟨.operator, 64, 0⟩, .lcService w0 ⟨.operator, 64, 0⟩, .lcField w0 ⟨.operator, 64, 0⟩,
   .lcRetire w0 ⟨.operator, 64, 0⟩, .imgVerify w0 ⟨.operator, 64, 0⟩ 0, .imgApply w0 ⟨.operator, 64, 0⟩ 0 0,
   .imgPmswitch w0 ⟨.operator, 64, 0⟩ 0, .imgClear w0 ⟨.operator, 64, 0⟩ 0, .imgRecover w0 ⟨.operator, 64, 0⟩,
   .imgBoot w0 ⟨.operator, 64, 0⟩ 0, .imgSlotWrite w0 ⟨.operator, 64, 0⟩ 0 0 [0], .rtcHaltSet w0 ⟨.operator, 64, 0⟩,
   .rtcHaltRelease w0 ⟨.operator, 64, 0⟩, .rtcFieldWrite w0 ⟨.operator, 64, 0⟩ 0 0,
   .rtcAlarmWrite w0 ⟨.operator, 64, 0⟩ 0 0, .pwronAssertCmd w0 ⟨.operator, 64, 0⟩,
   .pwronDeassertCmd w0 ⟨.operator, 64, 0⟩, .pwrRungCmd w0 ⟨.operator, 64, 0⟩ 0, .pwrResetCmd w0 ⟨.operator, 64, 0⟩] = true ∧ taken
  [.keyRekey w0 ⟨.operator, 63, 65535⟩, .keyZeroize w0 ⟨.operator, 63, 65535⟩ 0,
   .lcAdvance w0 ⟨.operator, 63, 65535⟩, .lcService w0 ⟨.operator, 63, 65535⟩, .lcField w0 ⟨.operator, 63, 65535⟩,
   .lcRetire w0 ⟨.operator, 63, 65535⟩, .imgVerify w0 ⟨.operator, 63, 65535⟩ 0,
   .imgApply w0 ⟨.operator, 63, 65535⟩ 0 0, .imgPmswitch w0 ⟨.operator, 63, 65535⟩ 0,
   .imgClear w0 ⟨.operator, 63, 65535⟩ 0, .imgRecover w0 ⟨.operator, 63, 65535⟩,
   .imgBoot w0 ⟨.operator, 63, 65535⟩ 0, .imgSlotWrite w0 ⟨.operator, 63, 65535⟩ 0 0 [0],
   .rtcHaltSet w0 ⟨.operator, 63, 65535⟩, .rtcHaltRelease w0 ⟨.operator, 63, 65535⟩,
   .rtcFieldWrite w0 ⟨.operator, 63, 65535⟩ 0 0, .rtcAlarmWrite w0 ⟨.operator, 63, 65535⟩ 0 0,
   .pwronAssertCmd w0 ⟨.operator, 63, 65535⟩, .pwronDeassertCmd w0 ⟨.operator, 63, 65535⟩,
   .pwrRungCmd w0 ⟨.operator, 63, 65535⟩ 0, .pwrResetCmd w0 ⟨.operator, 63, 65535⟩] = true := by
  decide +kernel

theorem test_wf_address : refused
  [.loRegisterRead w0 who0 0x10000000000, .readClearAccess w0 who0 0x10000000000,
   .registerWrite w0 who0 0x10000000000 0, .meterTrimWrite w0 who0 0x10000000000 0, .ctrRead w0 fr0 0x10000000000 1,
   .ctrWrite w0 fr0 0x10000000000 [0], .rtcFieldWrite w0 who0 0x10000000000 0,
   .rtcCalendarRead w0 true 0x10000000000, .rtcAlarmWrite w0 who0 0x10000000000 0] = true ∧ taken
  [.loRegisterRead w0 who0 0xFFFFFFFFFF, .readClearAccess w0 who0 0xFFFFFFFFFF,
   .registerWrite w0 who0 0xFFFFFFFFFF 0, .meterTrimWrite w0 who0 0xFFFFFFFFFF 0, .ctrRead w0 fr0 0xFFFFFFFFFF 1,
   .ctrWrite w0 fr0 0xFFFFFFFFFF [0], .rtcFieldWrite w0 who0 0xFFFFFFFFFF 0, .rtcCalendarRead w0 true 0xFFFFFFFFFF,
   .rtcAlarmWrite w0 who0 0xFFFFFFFFFF 0] = true := by
  decide +kernel

theorem test_wf_below_4 : refused
  [.manVerify w0 who0 4, .manArm w0 who0 4, .manClear w0 who0 4, .manSlotWrite w0 who0 4 0 [0], .imgVerify w0 who0 4,
   .imgClear w0 who0 4, .imgSlotWrite w0 who0 4 0 [0], .rtCmpSet w0 0 0 0 0 4, .govModeWrite w0 who0 4,
   .pmsHandover w0 who0 4, .protectLevelWrite w0 who0 4, .imgApply w0 who0 4 0, .imgPmswitch w0 who0 4,
   .imgBoot w0 who0 4, .imgApply w0 who0 0 4] = true ∧ taken
  [.manVerify w0 who0 3, .manArm w0 who0 3, .manClear w0 who0 3, .manSlotWrite w0 who0 3 0 [0], .imgVerify w0 who0 3,
   .imgClear w0 who0 3, .imgSlotWrite w0 who0 3 0 [0], .rtCmpSet w0 0 0 0 0 3, .govModeWrite w0 who0 3,
   .pmsHandover w0 who0 3, .protectLevelWrite w0 who0 3, .imgApply w0 who0 3 0, .imgPmswitch w0 who0 3,
   .imgBoot w0 who0 3, .imgApply w0 who0 0 3] = true := by
  decide +kernel

theorem test_wf_slot_range : refused
  [.manSlotWrite w0 who0 0 2 [0], .manSlotWrite w0 who0 0 0x8000000 [0], .manSlotWrite w0 who0 0 0 [],
   .imgSlotWrite w0 who0 0 2 [0], .imgSlotWrite w0 who0 0 0x4000000 [0], .imgSlotWrite w0 who0 0 0 []] = true ∧ taken
  [.manSlotWrite w0 who0 0 0x7fffffc [0], .manSlotWrite w0 who0 0 0 [0], .imgSlotWrite w0 who0 0 0x3fffffc [0],
   .imgSlotWrite w0 who0 0 0 [0]] = true := by
  decide +kernel

theorem test_wf_below_2048 : refused
  [.aelzonInputReceived w0 2048 ⟨1, 0, 1, 7, 0, 1, true, true, []⟩,
   .aelzonChgReceived w0 2048 ⟨1, 0, 1, 7, 0, 1, true, true, []⟩,
   .aelzonIdaReceived w0 2048 ⟨1, 0, 1, 7, 0, 1, true, true, []⟩ 0 0 0,
   .aelzonAckReceived w0 2048 ⟨1, 0, 1, 7, 0, 1, true, true, []⟩ 0, .outputAckTimeout w0 2048,
   .aelzonFollowSend w0 2048, .laneProtocolResponse w0 2048 (.written 0 []), .stationDisableWrite w0 who0 2048 true] = true ∧ taken
  [.aelzonInputReceived w0 2047 ⟨1, 0, 1, 7, 0, 1, true, true, []⟩,
   .aelzonChgReceived w0 2047 ⟨1, 0, 1, 7, 0, 1, true, true, []⟩,
   .aelzonIdaReceived w0 2047 ⟨1, 0, 1, 7, 0, 1, true, true, []⟩ 0 0 0,
   .aelzonAckReceived w0 2047 ⟨1, 0, 1, 7, 0, 1, true, true, []⟩ 0, .outputAckTimeout w0 2047,
   .aelzonFollowSend w0 2047, .laneProtocolResponse w0 2047 (.written 0 []), .stationDisableWrite w0 who0 2047 true] = true := by
  decide +kernel

theorem test_wf_segment : refused
  [.aelzonInputReceived w0 0 ⟨256, 0, 1, 7, 0, 1, true, true, []⟩,
   .aelzonInputReceived w0 0 ⟨1, 16, 1, 7, 0, 1, true, true, []⟩,
   .aelzonInputReceived w0 0 ⟨1, 0, 17, 7, 0, 1, true, true, []⟩,
   .aelzonInputReceived w0 0 ⟨1, 0, 1, 65536, 0, 1, true, true, []⟩,
   .aelzonInputReceived w0 0 ⟨1, 0, 1, 7, 256, 1, true, true, []⟩,
   .aelzonInputReceived w0 0 ⟨1, 0, 1, 7, 0, 256, true, true, []⟩,
   .aelzonChgReceived w0 0 ⟨256, 0, 1, 7, 0, 1, true, true, []⟩,
   .aelzonIdaReceived w0 0 ⟨256, 0, 1, 7, 0, 1, true, true, []⟩ 0 0 0,
   .aelzonAckReceived w0 0 ⟨256, 0, 1, 7, 0, 1, true, true, []⟩ 0] = true ∧ taken
  [.aelzonInputReceived w0 0 ⟨255, 15, 16, 65535, 255, 255, true, true, []⟩,
   .aelzonChgReceived w0 0 ⟨255, 15, 16, 65535, 255, 255, true, true, []⟩,
   .aelzonIdaReceived w0 0 ⟨255, 15, 16, 65535, 255, 255, true, true, []⟩ 0 0 0,
   .aelzonAckReceived w0 0 ⟨255, 15, 16, 65535, 255, 255, true, true, []⟩ 0] = true := by
  decide +kernel

theorem test_wf_answer_registers : refused
  [.laneProtocolResponse w0 0 (.registers 0 [(5, [])]), .laneProtocolResponse w0 0 (.registers 0 [(5, [1, 2, 3])])] = true ∧ taken
  [.laneProtocolResponse w0 0 (.registers 0 [(5, [1]), (6, [1, 2])])] = true := by
  decide +kernel

theorem test_wf_below_131072 : refused
  [.pointWord0Read w0 who0 131072, .pointValueWrite w0 who0 131072 0, .pointForceWrite w0 who0 131072 0] = true ∧ taken
  [.pointWord0Read w0 who0 131071, .pointValueWrite w0 who0 131071 0, .pointForceWrite w0 who0 131071 0] = true := by
  decide +kernel

theorem test_wf_below_64 : refused
  [.taskRelease w0 64, .taskDispatch w0 64, .taskReturn w0 64 [], .checkpointDurable w0 64,
   .taskWatchdogExpiry w0 64, .programStep w0 who0 64, .rtPostmark w0 64, .rtRelease w0 64, .rtRtc w0 64,
   .rtEvent w0 64, .rtTrigger w0 64 0 0, .rtAxisSet w0 64 0 0 0 0 0, .rtAxisEnable w0 64 0 true, .rtAxisStop w0 64 0,
   .rtAxisState w0 64 0, .rtCmpSet w0 64 0 0 0 0, .rtMtrRead w0 64 0 0, .rtSafStatus w0 64, .rtMbSend w0 64 0 [],
   .rtMbRecv w0 64 0, .rtTrend w0 64 0 [], .rtLog w0 64 0 0 0 0 0, .rtTaskinfo w0 64, .rtAxisSet w0 0 64 0 0 0 0,
   .rtAxisEnable w0 0 64 true, .rtAxisStop w0 0 64, .rtAxisState w0 0 64, .rtCmpSet w0 0 64 0 0 0,
   .dexjoResponse w0 64 [] none, .dexjoResponseMiss w0 64, .refereeVerdict w0 64 .agrees 0 0 0,
   .comparatorAction w0 64 0, .axisEnableTimeout w0 64, .coeffSwapCmd w0 who0 64, .coeffCopyCmd w0 who0 64,
   .tableEntryWrite w0 who0 64 0 0, .workingKeyRequest w0 .net 0 64 true] = true ∧ taken
  [.taskRelease w0 63, .taskDispatch w0 63, .taskReturn w0 63 [], .checkpointDurable w0 63,
   .taskWatchdogExpiry w0 63, .programStep w0 who0 63, .rtPostmark w0 63, .rtRelease w0 63, .rtRtc w0 63,
   .rtEvent w0 63, .rtTrigger w0 63 0 0, .rtAxisSet w0 63 0 0 0 0 0, .rtAxisEnable w0 63 0 true, .rtAxisStop w0 63 0,
   .rtAxisState w0 63 0, .rtCmpSet w0 63 0 0 0 0, .rtMtrRead w0 63 0 0, .rtSafStatus w0 63, .rtMbSend w0 63 0 [],
   .rtMbRecv w0 63 0, .rtTrend w0 63 0 [], .rtLog w0 63 0 0 0 0 0, .rtTaskinfo w0 63, .rtAxisSet w0 0 63 0 0 0 0,
   .rtAxisEnable w0 0 63 true, .rtAxisStop w0 0 63, .rtAxisState w0 0 63, .rtCmpSet w0 0 63 0 0 0,
   .dexjoResponse w0 63 [] none, .dexjoResponseMiss w0 63, .refereeVerdict w0 63 .agrees 0 0 0,
   .comparatorAction w0 63 0, .axisEnableTimeout w0 63, .coeffSwapCmd w0 who0 63, .coeffCopyCmd w0 who0 63,
   .tableEntryWrite w0 who0 63 0 0, .workingKeyRequest w0 .net 0 63 true] = true := by
  decide +kernel

theorem test_wf_below_128 : refused
  [.eventSourceFire w0 128 0, .rtTrigger w0 0 128 0, .rtMbSend w0 0 128 [], .rtMbRecv w0 0 128,
   .mailbagTailAdvance w0 128 []] = true ∧ taken
  [.eventSourceFire w0 127 0, .rtTrigger w0 0 127 0, .rtMbSend w0 0 127 [], .rtMbRecv w0 0 127,
   .mailbagTailAdvance w0 127 []] = true := by
  decide +kernel

theorem test_wf_below_16 : refused
  [.rtCmpSet w0 0 0 16 0 0, .comparatorAction w0 0 16, .rtMtrRead w0 0 16 0, .windowClearingRead w0 who0 16 0,
   .safetyInputFilter w0 16 true true, .testPulseWindow w0 16 true true, .discrepancyTimerExpiry w0 16,
   .degradedTimerExpiry w0 16, .safClearPair w0 who0 16, .closeRunEnd w0 16, .clearTimeExpiry w0 16,
   .stogrpDelayExpiry w0 16, .thermoMinTimeExpiry w0 16] = true ∧ taken
  [.rtCmpSet w0 0 0 15 0 0, .comparatorAction w0 0 15, .rtMtrRead w0 0 15 0, .windowClearingRead w0 who0 15 0,
   .safetyInputFilter w0 15 true true, .testPulseWindow w0 15 true true, .discrepancyTimerExpiry w0 15,
   .degradedTimerExpiry w0 15, .safClearPair w0 who0 15, .closeRunEnd w0 15, .clearTimeExpiry w0 15,
   .stogrpDelayExpiry w0 15, .thermoMinTimeExpiry w0 15] = true := by
  decide +kernel

theorem test_wf_below_256 : refused
  [.rtMtrRead w0 0 0 256, .ctrHello w0 fr0 256 0, .authfailLockoutExpiry w0 256] = true ∧ taken
  [.rtMtrRead w0 0 0 255, .ctrHello w0 fr0 255 0, .authfailLockoutExpiry w0 255] = true := by
  decide +kernel

theorem test_wf_below_65536 : refused
  [.rtTrend w0 0 65536 [], .rtLog w0 0 65536 0 0 0 0, .sessionPendingTimeout w0 65536, .sessionIdleTimeout w0 65536,
   .ctrKillWrite w0 who0 65536] = true ∧ taken
  [.rtTrend w0 0 65535 [], .rtLog w0 0 65535 0 0 0 0, .sessionPendingTimeout w0 65535, .sessionIdleTimeout w0 65535,
   .ctrKillWrite w0 who0 65535] = true := by
  decide +kernel

theorem test_wf_below_24 : refused
  [.linkEvent w0 24, .canFrameReceived w0 24 ⟨0, none, 0, false, false, false, false, false, 0, []⟩,
   .canBusOff w0 24, .canBusoffRecovered w0 24, .canBorecCmd w0 who0 24, .canRestrWrite w0 who0 24 true,
   .canRestrictedChange w0 24, .uartFrameSend w0 24 [], .uartFrameReceived w0 24 [],
   .daliForwardFrameSend w0 24 .query true, .daliBackwardWindow w0 24 .none, .daliEventFrameReceived w0 24 0,
   .daliBackoffExpiry w0 24 true, .daliPowerLost w0 24, .daliPowerRestored w0 24, .daliCommission w0 who0 24 0,
   .canFrameSent w0 ⟨24, .lost⟩] = true ∧ taken
  [.linkEvent w0 23, .canFrameReceived w0 23 ⟨0, none, 0, false, false, false, false, false, 0, []⟩,
   .canBusOff w0 23, .canBusoffRecovered w0 23, .canBorecCmd w0 who0 23, .canRestrWrite w0 who0 23 true,
   .canRestrictedChange w0 23, .uartFrameSend w0 23 [], .uartFrameReceived w0 23 [],
   .daliForwardFrameSend w0 23 .query true, .daliBackwardWindow w0 23 .none, .daliEventFrameReceived w0 23 0,
   .daliBackoffExpiry w0 23 true, .daliPowerLost w0 23, .daliPowerRestored w0 23, .daliCommission w0 who0 23 0,
   .canFrameSent w0 ⟨23, .lost⟩] = true := by
  decide +kernel

theorem test_wf_length_frame : refused
  [.dexjoResponse w0 0 (List.replicate 21 0) none] = true ∧ taken
  [.dexjoResponse w0 0 (List.replicate 20 0) none] = true := by
  decide +kernel

theorem test_wf_below_8 : refused
  [.axisStoEntry w0 8, .pulseEmit w0 8, .pulseWidthEnd w0 8, .outputOffPulse w0 8 true, .outputReadbackMismatch w0 8,
   .registryGroupSubmit w0 8 [], .starvationCount w0 8 0, .keyZeroize w0 who0 8, .pwrRungCmd w0 who0 8] = true ∧ taken
  [.axisStoEntry w0 7, .pulseEmit w0 7, .pulseWidthEnd w0 7, .outputOffPulse w0 7 true, .outputReadbackMismatch w0 7,
   .registryGroupSubmit w0 7 [], .starvationCount w0 7 0, .keyZeroize w0 who0 7, .pwrRungCmd w0 who0 7] = true := by
  decide +kernel

theorem test_wf_below_1280 : refused
  [.tableEntryWrite w0 who0 0 1280 0] = true ∧ taken
  [.tableEntryWrite w0 who0 0 1279 0] = true := by
  decide +kernel

theorem test_wf_below_6 : refused
  [.windowClearingRead w0 who0 0 6] = true ∧ taken
  [.windowClearingRead w0 who0 0 5] = true := by
  decide +kernel

theorem test_wf_below_4080 : refused
  [.switchingSend w0 4080] = true ∧ taken
  [.switchingSend w0 4079] = true := by
  decide +kernel

theorem test_wf_registry_cells : refused
  [.registryGroupSubmit w0 0 [⟨1, []⟩], .registryGroupSubmit w0 0 [⟨0x100000000, []⟩],
   .registryGroupSubmit w0 0 [⟨0, [(64, 1)]⟩], .registryGroupSubmit w0 0 (List.replicate 65 ⟨0, []⟩)] = true ∧ taken
  [.registryGroupSubmit w0 0 [⟨0xFFFFFFC0, [(63, 1)]⟩]] = true := by
  decide +kernel

theorem test_wf_can_frame : refused
  [.canFrameReceived w0 0 ⟨0, none, 0x20000000, true, false, false, false, false, 0, []⟩,
   .canFrameReceived w0 0 ⟨0, none, 2048, false, false, false, false, false, 0, []⟩,
   .canFrameReceived w0 0 ⟨0, none, 0, false, false, false, false, false, 16, []⟩,
   .canFrameReceived w0 0 ⟨0, none, 0, false, false, false, false, false, 0, List.replicate 65 0⟩,
   .canFrameReceived w0 0 ⟨0, some ⟨7, false⟩, 0, false, false, false, false, false, 0, []⟩,
   .canFrameReceived w0 0 ⟨0, some ⟨0, false⟩, 0, false, false, false, false, false, 0, []⟩] = true ∧ taken
  [.canFrameReceived w0 0 ⟨0, some ⟨6, true⟩, 0x1FFFFFFF, true, false, false, false, false, 15, []⟩] = true := by
  decide +kernel

theorem test_wf_can_error : refused
  [.canFrameSent w0 ⟨0, .error ⟨0, false⟩⟩, .canFrameSent w0 ⟨0, .error ⟨7, true⟩⟩] = true ∧ taken
  [.canFrameSent w0 ⟨0, .error ⟨6, true⟩⟩] = true := by
  decide +kernel

theorem test_wf_below_7 : refused
  [.ethFrameReceived w0 7 ⟨[], 64, true, none, 0, none, none, 0, []⟩, .pauseExpiry w0 7, .ethFrameTxStart w0 7,
   .ethFrameTxDone w0 7, .ethLinkChange w0 7 true 0] = true ∧ taken
  [.ethFrameReceived w0 6 ⟨[], 64, true, none, 0, none, none, 0, []⟩, .pauseExpiry w0 6, .ethFrameTxStart w0 6,
   .ethFrameTxDone w0 6, .ethLinkChange w0 6 true 0] = true := by
  decide +kernel

theorem test_wf_below_3 : refused
  [.ethLinkChange w0 0 true 3] = true ∧ taken
  [.ethLinkChange w0 0 true 2] = true := by
  decide +kernel

theorem test_wf_request_frame : refused
  [.ctrIdent w0 { fr0 with ver := 256 }, .ctrIdent w0 { fr0 with session := 65536 },
   .ctrIdent w0 { fr0 with seq := 0x100000000 }, .ctrIdent w0 { fr0 with tp := .mac 7 },
   .ctrIdent w0 { fr0 with srcPort := 65536 }, .ctrHello w0 { fr0 with ver := 256 } 0 0,
   .ctrOpen w0 { fr0 with ver := 256 }, .ctrClose w0 { fr0 with ver := 256 },
   .ctrRead w0 { fr0 with ver := 256 } 0 1, .ctrWrite w0 { fr0 with ver := 256 } 0 [0]] = true ∧ taken
  [.ctrIdent w0 ⟨255, 65535, 0xFFFFFFFF, true, true, .mac 6, 0, 65535⟩,
   .ctrHello w0 ⟨255, 65535, 0xFFFFFFFF, true, true, .mac 6, 0, 65535⟩ 0 0,
   .ctrOpen w0 ⟨255, 65535, 0xFFFFFFFF, true, true, .mac 6, 0, 65535⟩,
   .ctrClose w0 ⟨255, 65535, 0xFFFFFFFF, true, true, .mac 6, 0, 65535⟩,
   .ctrRead w0 ⟨255, 65535, 0xFFFFFFFF, true, true, .mac 6, 0, 65535⟩ 0 1,
   .ctrWrite w0 ⟨255, 65535, 0xFFFFFFFF, true, true, .mac 6, 0, 65535⟩ 0 [0]] = true := by
  decide +kernel

theorem test_wf_word_count : refused
  [.ctrRead w0 fr0 0 0, .ctrRead w0 fr0 0 65, .ctrWrite w0 fr0 0 [], .ctrWrite w0 fr0 0 (List.replicate 65 0)] = true ∧ taken
  [.ctrRead w0 fr0 0 64, .ctrWrite w0 fr0 0 [0], .ctrWrite w0 fr0 0 (List.replicate 64 0)] = true := by
  decide +kernel

theorem test_wf_below_32 : refused
  [.keyWriteCmd w0 who0 32, .keyErase w0 who0 32, .keyAttest w0 who0 32, .workingKeyRequest w0 .net 32 0 true] = true ∧ taken
  [.keyWriteCmd w0 who0 31, .keyErase w0 who0 31, .keyAttest w0 who0 31, .workingKeyRequest w0 .net 31 0 true] = true := by
  decide +kernel

/-! ### Single steps. Each expected value is computed by hand from the rule, or is the spec's worked example. -/

/-- The section entry of the worked example of chapter 7: B0, B1, B2, A1, A2, EC 0, SFLAGS INTEG. -/
def piSec : Rec := leBytes 4 0x00673333 ++ leBytes 4 0xFF99999A ++ leBytes 4 0 ++ leBytes 4 0xFF800000 ++ leBytes 4 0 ++ [0, 1]

/-- Worked example of chapter 7, steps 2 and 3. -/
theorem test_pi_section : secStep piSec ⟨0, 1720320, 0, 10⟩ ⟨1966080, 9⟩ = (⟨2512896, 1726464, 0, 10⟩, 0) := by decide +kernel

/-- Worked example of chapter 7, step 4. -/
theorem test_pi_exponent : reExp ⟨2512896, 1726464, 0, 10⟩ = (⟨1256448, 863232, 0, 11⟩, true) := by decide +kernel

def civil (y mo d h mi sec : Nat) (s : State) : State :=
  (((((s.setFld F.RTC_YEAR_YEAR y).setFld F.RTC_MONTH_MONTH mo).setFld F.RTC_DATE_DATE d).setFld F.RTC_HOUR_HOUR h).setFld
    F.RTC_MIN_MIN mi).setFld F.RTC_SEC_SEC sec

def ymdOf (s : State) : Nat × Nat × Nat := (s.fld F.RTC_YEAR_YEAR, s.fld F.RTC_MONTH_MONTH, s.fld F.RTC_DATE_DATE)

/-- R538: 2024 is a leap year, 2100 is not. -/
theorem test_leap_day : ymdOf (civil 2024 2 28 23 59 59 up).tickCalendar = (2024, 2, 29) := by decide +kernel
theorem test_no_leap_day : ymdOf (civil 2100 2 28 23 59 59 up).tickCalendar = (2100, 3, 1) := by decide +kernel

/-- R35: a cycle boundary counts one cycle and starts the angle at 0. -/
theorem test_cycle_boundary : (nx (.clockCycleBoundary wh) up).clk.cycle = up.clk.cycle + 1 ∧
    (nx (.clockCycleBoundary wh) up).clk.angle = 0 := by decide +kernel

/-- R165, R164: STEP is not listed in RUN. -/
theorem test_step_in_run : (nx (.programStep wh ins 3) (up.setFld F.TSK_STATUS_MODE 1)).ctr.answer =
    some ⟨ansBADSTATE, [], true⟩ := by decide +kernel

/-- R7: an operator may not write PWR_WAKE; an installer may. -/
theorem test_denied : (nx (.registerWrite wh op Reg.PWR_WAKE 0x1F) up).ctr.answer = some ⟨ansDENIED, [], true⟩ := by
  decide +kernel
theorem test_written : (nx (.registerWrite wh ins Reg.PWR_WAKE 0x1F) up).rd Reg.PWR_WAKE = 0x1F := by decide +kernel

/-- R376: the array is 4 GiB. -/
theorem test_outside_array : (match exec (.registryGroupSubmit wh 0 [⟨0x100000000, []⟩]) up with
    | .fault f => decide (f = .outsideArray 0x100000000)
    | _ => false) = true := by decide +kernel

/-- A command of the front of the queue runs, and leaves the queue. -/
theorem test_front : (match step { up with pending := [.registerWrite wh ins Reg.PWR_WAKE 0x1F, .clockCycleBoundary wh] } with
    | .next t => decide (t.rd Reg.PWR_WAKE = 0x1F ∧ t.pending = [.clockCycleBoundary wh])
    | _ => false) = true := by decide +kernel

/-- R414: a counter that saturates stops at 2^48 - 1, one that wraps passes to 0; OVF is set. -/
theorem test_counter_wraps : (({ up with perf := { up.perf with cnt := up.perf.cnt.put 0 (2 ^ 48 - 1) } } : State).perfAdd 0 0
    1).perf.cnt.getD 0 7 = 0 := by decide +kernel

def queued : State := { up with pending := [.registerWrite wh ins Reg.PWR_WAKE 0x1F, .clockCycleBoundary wh] }
def isNext (r : Out) : Bool := match r with | .next _ => true | _ => false

theorem exists_next {r : Out} (h : isNext r = true) : ∃ t, r = .next t := by
  cases r with
  | next t => exact ⟨t, rfl⟩
  | fault f => cases h
  | refused f => cases h

/-- `Obligations.QueueAndTime`: a state that steps, and one with an empty queue that steps. -/
theorem witness_QueueAndTime : (∃ t, step queued = .next t) ∧ (∃ t, step up = .next t) ∧ queued.pending ≠ [] ∧
    up.pending = [] := ⟨exists_next (by decide +kernel), exists_next (by decide +kernel), by decide +kernel, by decide +kernel⟩

/-- `Obligations.CanonicalFormKept`: a canonical state that steps. -/
theorem witness_CanonicalFormKept : queued.canonical = true ∧ ∃ t, step queued = .next t :=
  ⟨by decide +kernel, exists_next (by decide +kernel)⟩

def withSession : State := { queued with ctr := { queued.ctr with
  sessions := [(7, ⟨65535, 0, .maker, 0, true, .spi, 0, 0, 1, none, 0, 60, 15, 0, []⟩)] } }

/-- `Obligations.SessionTableKept`: a state with a session that steps. -/
theorem witness_SessionTableKept : SessionsOk withSession ∧ ∃ t, step withSession = .next t :=
  ⟨by unfold SessionsOk; decide +kernel, exists_next (by decide +kernel)⟩

/-! ### Registers, the clock, the calendar -/

namespace WB

def lk : State := up.setFld F.PMK_STATUS_STATE 1
def od (s : State) : State := {s with clk := {s.clk with zc := some (0, 0)}}
def qq : State := {(up.setFld F.PMK_STATUS_QCNT 10) with clk := {up.clk with cfg := 0x00140A01}}
def ymd (y mo d h mi sec : Nat) (s : State) : State := (((((s.setFld F.RTC_YEAR_YEAR y).setFld F.RTC_MONTH_MONTH mo).setFld F.RTC_DATE_DATE d).setFld F.RTC_HOUR_HOUR h).setFld F.RTC_MIN_MIN mi).setFld F.RTC_SEC_SEC sec
def hl : State := nx (.rtcHaltSet wh ins) (ymd 2024 2 28 23 59 59 up)
def x_StepTakesFront_41 : Instr := .wakeEdge wh
def x_StepTakesFront_42 : List Instr := [.rstNLow wh]
def x_StepTakesFront_43 : State := {up with pending := [.wakeEdge wh, .rstNLow wh]}
def x_RegisterReads_0 : RegDesc := rdOf ( Reg.EVR_HIGHFILL)
def x_RegisterReads_1 : State := {up with evr := {up.evr with highfill := 7}}
def x_RegisterWrites_2 : RegDesc := rdOf ( Reg.PWR_WAKE)
def x_RegisterWrites_3 : RegDesc := rdOf Reg.PMS_PAIRCFG
def x_RegisterWrites_4 : RegDesc := rdOf ( Reg.PWR_WAKE)
def x_RegisterWrites_5 : RegDesc := rdOf ( Reg.PWR_WAKE)
def x_ReferenceJudged_10 : State := od lk
def x_ReferenceJudged_11 : State := od up
def x_CycleBoundary_12 : State := up.setFld F.PMK_STATUS_STATE 2
def x_ClockRegistersAndSeconds_17 : State := ymd 2135 12 31 23 59 59 up
def x_ClockRegistersAndSeconds_18 : State := {ymd 2100 2 28 23 59 59 up with clk := {up.clk with setSince := true}}
def x_Calendar_19 : When := la 5
def x_Calendar_20 : When := la 5
def x_Calendar_21 : State := hl.setFld F.MOD_DOMAINS_GOOD 3
def x_Calendar_22 : When := la 5
def x_Calendar_23 : State := ymd 2023 2 29 1 2 3 hl
def x_Calendar_24 : When := la 5
def x_Calendar_25 : When := la 5
def x_Calendar_27 : When := la 5
def x_Calendar_33 : When := la 1000000000
def x_Calendar_34 : State := nx (.rtcCalendarRead wh false Reg.RTC_MIN) up
def x_Calendar_37 : State := up.setFlag (F.RTC_ALM_CTRL_EN 1) true
def x_Calendar_38 : State := up.setFlag F.BAK_PWRON_STATE false
def x_Calendar_40 : State := up.setFlag F.BAK_PWRON_STATE false

/-- `Obligations.StepTakesFront`: its hypotheses are met, clause by clause. -/
theorem witness_StepTakesFront :
    x_StepTakesFront_43.pending = x_StepTakesFront_41 :: x_StepTakesFront_42 ∧
    up.pending = [] :=
  by constructorm* _ ∧ _ <;> decide +kernel

/-- `Obligations.RegisterReads`: its hypotheses are met, clause by clause. -/
theorem witness_RegisterReads :
    (isLo Reg.PMK_NOW_LO = true ∧ (State.advance wh up).longBusy = false ∧ (State.advance wh up).refuseWordRead op
      Reg.PMK_NOW_LO = none) ∧
    (findReg Reg.EVR_HIGHFILL = some x_RegisterReads_0 ∧ x_RegisterReads_0.hasRC = true ∧ (State.advance wh
      x_RegisterReads_1).longBusy = false ∧ (State.advance wh x_RegisterReads_1).refuseWordRead op Reg.EVR_HIGHFILL =
      none ∧ (State.advance wh x_RegisterReads_1).latch.get? Reg.EVR_HIGHFILL = none) :=
  by constructorm* _ ∧ _ <;> decide +kernel

/-- `Obligations.RegisterWrites`: its hypotheses are met, clause by clause. -/
theorem witness_RegisterWrites :
    ((ownRow Reg.PWR_WAKE = false ∧ findReg Reg.PWR_WAKE = some x_RegisterWrites_2 ∧ (State.advance wh up).refuse mk
      Reg.PWR_WAKE 31 = none ∧ (State.advance wh up).valueBad Reg.PWR_WAKE 31 = false ∧ (∀ g < 16, Reg.PWR_WAKE ≠
      Reg.MTR_G_STATUS g) ∧ Reg.PWR_WAKE ≠ Reg.PMS_PAIRCFG) ∧
    (ownRow Reg.PMS_PAIRCFG = false ∧ findReg Reg.PMS_PAIRCFG = some x_RegisterWrites_3 ∧ (State.advance wh up).refuse
      mk Reg.PMS_PAIRCFG 4 = none ∧ (State.advance wh up).valueBad Reg.PMS_PAIRCFG 4 = false ∧ (∀ g < 16,
      Reg.PMS_PAIRCFG ≠ Reg.MTR_G_STATUS g) ∧ (State.advance wh up).paired = false) ∧
    (ownRow Reg.PWR_WAKE = false ∧ Reg.PWR_WAKE % 4 = 0 ∧ (findReg Reg.PWR_WAKE).isSome = true ∧ (State.advance wh
      up).refuse op Reg.PWR_WAKE 31 = some 2) ∧
    (findReg Reg.PWR_WAKE = some x_RegisterWrites_4 ∧ (∀ f ∈ x_RegisterWrites_4.fields, f.writable = true → f.lists
      op.role = false) ∧ (∃ f ∈ x_RegisterWrites_4.fields, f.writable = true ∧ f.lists op.role = false ∧ f.acts (up.peek
      Reg.PWR_WAKE) 31 = true) ∧ op.role ≠ Role.tenant ∧ up.longBusy = false ∧ up.mapped Reg.PWR_WAKE = true ∧
      (x_RegisterWrites_4.mayWrite op.role (up.peek Reg.PWR_WAKE) 31 = false ∨ up.valueDenied op Reg.PWR_WAKE 31 =
      true)) ∧
    (findReg Reg.PWR_WAKE = some x_RegisterWrites_5 ∧ (∃ f ∈ x_RegisterWrites_5.fields, f.writable = true ∧ f.lists
      ins.role = true) ∧ (∀ f ∈ x_RegisterWrites_5.fields, f.writable = true → f.lists ins.role = false → f.acts
      (up.peek Reg.PWR_WAKE) 31 = false) ∧ ins.role ≠ Role.tenant ∧ up.longBusy = false ∧ up.mapped Reg.PWR_WAKE =
      true)) ∧
    (¬inBlocks [Blk.prf] Reg.PWR_WAKE) :=
  ⟨by constructorm* _ ∧ _ <;> decide +kernel,
   by rintro ⟨b, hb, h⟩; revert b; decide +kernel⟩

/-- `Obligations.ReferenceJudged`: its hypotheses are met, clause by clause. -/
theorem witness_ReferenceJudged :
    ((State.advance wh up).good Dom.mtr = true ∧
    ((State.advance wh up).good Dom.mtr = true ∧ (State.advance wh up).fld F.PMK_STATUS_STATE ≠ 1) ∧
    ((State.advance wh lk).good Dom.mtr = true ∧ (State.advance wh lk).fld F.PMK_STATUS_STATE = 1) ∧
    ((State.advance wh x_ReferenceJudged_10).good Dom.mtr = true ∧ (State.advance wh x_ReferenceJudged_10).refOverdue
      = true ∧ (State.advance wh x_ReferenceJudged_10).fld F.PMK_STATUS_STATE = 1) ∧
    ((State.advance wh x_ReferenceJudged_11).good Dom.mtr = true ∧ (State.advance wh x_ReferenceJudged_11).refOverdue
      = true ∧ (State.advance wh x_ReferenceJudged_11).fld F.PMK_STATUS_STATE ≠ 1)) ∧
    (∀ (c : Nat), ¬RefFault (State.advance wh up).clk.cfg 1000000 50000000 131072 c) ∧
    RefFault (State.advance wh up).clk.cfg 1000000 42499999 0 2 ∧
    (∀ c < 2, ¬RefFault (State.advance wh up).clk.cfg 1000000 42499999 0 c) ∧
    RefFault (State.advance wh lk).clk.cfg 1000000 42499999 0 2 ∧
    (∀ c < 2, ¬RefFault (State.advance wh lk).clk.cfg 1000000 42499999 0 c) :=
  ⟨by constructorm* _ ∧ _ <;> decide +kernel,
   by rintro c (⟨-, h⟩ | ⟨-, h⟩ | ⟨-, h⟩) <;> revert h <;> decide +kernel,
   by simp only [RefFault]; decide +kernel,
   by simp only [RefFault]; decide +kernel,
   by simp only [RefFault]; decide +kernel,
   by simp only [RefFault]; decide +kernel⟩

/-- `Obligations.CycleBoundary`: its hypotheses are met, clause by clause. -/
theorem witness_CycleBoundary :
    ((State.advance wh lk).good Dom.mtr = true ∧ (State.advance wh lk).clk.cfgNew = none ∧ (State.advance wh lk).fld
      F.PMK_STATUS_STATE = 1) ∧
    ((State.advance wh up).good Dom.mtr = true ∧ (State.advance wh up).clk.cfgNew = none ∧ (State.advance wh up).fld
      F.PMK_STATUS_STATE ≠ 1 ∧ (State.advance wh up).fld F.PMK_STATUS_STATE = 0 ∧ (State.advance wh up).clk.cfg.bit 0 =
      false ∨ (State.advance wh up).fld F.PMK_STATUS_QCNT < max 1 ((State.advance wh up).clk.cfg.bits 15 8)) ∧
    ((State.advance wh x_CycleBoundary_12).good Dom.mtr = true ∧ (State.advance wh x_CycleBoundary_12).clk.cfgNew =
      none ∧ (State.advance wh x_CycleBoundary_12).fld F.PMK_STATUS_STATE ≠ 1 ∧ (State.advance wh
      x_CycleBoundary_12).fld F.PMK_STATUS_STATE = 2 ∧ (State.advance wh x_CycleBoundary_12).clk.cfg.bit 0 = false ∨
      (State.advance wh x_CycleBoundary_12).fld F.PMK_STATUS_QCNT < max 1 ((State.advance wh
      x_CycleBoundary_12).clk.cfg.bits 15 8)) ∧
    ((State.advance wh qq).good Dom.mtr = true ∧ (State.advance wh qq).clk.cfgNew = none ∧ (State.advance wh qq).fld
      F.PMK_STATUS_STATE ≠ 1 ∧ (State.advance wh qq).clk.cfg.bit 0 = true ∧ max 1 ((State.advance wh qq).clk.cfg.bits 15
      8) ≤ (State.advance wh qq).fld F.PMK_STATUS_QCNT ∧ (State.advance wh qq).fld F.PMK_STATUS_STATE = 0) :=
  by constructorm* _ ∧ _ <;> decide +kernel

/-- `Obligations.ClockRegistersAndSeconds`: its hypotheses are met, clause by clause. -/
theorem witness_ClockRegistersAndSeconds :
    ((State.advance wh up).refuse ins Reg.PMK_CFG 1313281 = none ∧
    (State.advance wh up).good Dom.mtr = true ∧
    ((State.advance wh up).longBusy = false ∧ op.role ≠ Role.tenant ∧ (State.advance wh up).good Dom.mtr = true) ∧
    ((State.advance wh State.reset).flag F.RTC_CTRL_HALT = false ∧ validDate ((State.advance wh State.reset).fld
      F.RTC_YEAR_YEAR) ((State.advance wh State.reset).fld F.RTC_MONTH_MONTH) ((State.advance wh State.reset).fld
      F.RTC_DATE_DATE) = true ∧ (State.advance wh State.reset).fld F.RTC_YEAR_YEAR ≤ 2135 ∧ (State.advance wh
      State.reset).fld F.RTC_HOUR_HOUR ≤ 23 ∧ (State.advance wh State.reset).fld F.RTC_MIN_MIN ≤ 59 ∧ (State.advance wh
      State.reset).fld F.RTC_SEC_SEC ≤ 59 ∧ (State.advance wh State.reset).calSec ≠ rtcLast ∧ (State.advance wh
      State.reset).good Dom.mtr = false) ∧
    ((State.advance wh x_ClockRegistersAndSeconds_17).flag F.RTC_CTRL_HALT = false ∧ validDate ((State.advance wh
      x_ClockRegistersAndSeconds_17).fld F.RTC_YEAR_YEAR) ((State.advance wh x_ClockRegistersAndSeconds_17).fld
      F.RTC_MONTH_MONTH) ((State.advance wh x_ClockRegistersAndSeconds_17).fld F.RTC_DATE_DATE) = true ∧ (State.advance
      wh x_ClockRegistersAndSeconds_17).fld F.RTC_YEAR_YEAR ≤ 2135 ∧ (State.advance wh
      x_ClockRegistersAndSeconds_17).fld F.RTC_HOUR_HOUR ≤ 23 ∧ (State.advance wh x_ClockRegistersAndSeconds_17).fld
      F.RTC_MIN_MIN ≤ 59 ∧ (State.advance wh x_ClockRegistersAndSeconds_17).fld F.RTC_SEC_SEC ≤ 59 ∧ (State.advance wh
      x_ClockRegistersAndSeconds_17).calSec = rtcLast ∧ (State.advance wh x_ClockRegistersAndSeconds_17).good Dom.mtr =
      true ∧ (State.advance wh x_ClockRegistersAndSeconds_17).good Dom.pmm = true) ∧
    ((State.advance wh x_ClockRegistersAndSeconds_18).flag F.RTC_CTRL_HALT = false ∧ validDate ((State.advance wh
      x_ClockRegistersAndSeconds_18).fld F.RTC_YEAR_YEAR) ((State.advance wh x_ClockRegistersAndSeconds_18).fld
      F.RTC_MONTH_MONTH) ((State.advance wh x_ClockRegistersAndSeconds_18).fld F.RTC_DATE_DATE) = true ∧ (State.advance
      wh x_ClockRegistersAndSeconds_18).fld F.RTC_YEAR_YEAR ≤ 2135 ∧ (State.advance wh
      x_ClockRegistersAndSeconds_18).fld F.RTC_HOUR_HOUR ≤ 23 ∧ (State.advance wh x_ClockRegistersAndSeconds_18).fld
      F.RTC_MIN_MIN ≤ 59 ∧ (State.advance wh x_ClockRegistersAndSeconds_18).fld F.RTC_SEC_SEC ≤ 59 ∧ (State.advance wh
      x_ClockRegistersAndSeconds_18).calSec ≠ rtcLast ∧ (State.advance wh x_ClockRegistersAndSeconds_18).good Dom.mtr =
      true ∧ (State.advance wh x_ClockRegistersAndSeconds_18).clk.setSince = true ∧ (State.advance wh
      x_ClockRegistersAndSeconds_18).good Dom.pmm = true)) ∧
    Unexpired (State.advance wh State.reset) ∧
    Unexpired (State.advance wh x_ClockRegistersAndSeconds_17) ∧
    Unexpired (State.advance wh x_ClockRegistersAndSeconds_18) :=
  ⟨by constructorm* _ ∧ _ <;> decide +kernel,
   State.wdogDue_of_small (by decide +kernel),
   State.wdogDue_of_small (by decide +kernel),
   State.wdogDue_of_small (by decide +kernel)⟩

/-- `Obligations.Calendar`: its hypotheses are met, clause by clause. -/
theorem witness_Calendar :
    ((State.advance wh up).refuse ins Reg.RTC_CTRL 1 = none ∧ (State.advance wh up).flag F.RTC_CTRL_HALT = false) ∧
    ((State.advance x_Calendar_19 hl).refuse ins Reg.RTC_CTRL 0 = none ∧ (State.advance x_Calendar_19 hl).flag
      F.RTC_CTRL_HALT = true ∧ (State.advance x_Calendar_19 hl).dateOk = true ∧ (State.advance x_Calendar_19 hl).good
      Dom.mtr = true) ∧
    ((State.advance x_Calendar_20 x_Calendar_21).refuse ins Reg.RTC_CTRL 0 = none ∧ (State.advance x_Calendar_20
      x_Calendar_21).flag F.RTC_CTRL_HALT = true ∧ (State.advance x_Calendar_20 x_Calendar_21).dateOk = true ∧
      (State.advance x_Calendar_20 x_Calendar_21).good Dom.mtr = false) ∧
    ((State.advance x_Calendar_22 x_Calendar_23).refuse ins Reg.RTC_CTRL 0 = none ∧ (State.advance x_Calendar_22
      x_Calendar_23).flag F.RTC_CTRL_HALT = true ∧ (State.advance x_Calendar_22 x_Calendar_23).dateOk = false) ∧
    (Reg.RTC_SEC ∈ rtcFields ∧ (State.advance x_Calendar_24 hl).refuse ins Reg.RTC_SEC 59 = none ∧ (State.advance
      x_Calendar_24 hl).flag F.RTC_CTRL_HALT = true ∧ rtcRange Reg.RTC_SEC (rtcMask Reg.RTC_SEC 59) = true) ∧
    (Reg.RTC_SEC ∈ rtcFields ∧ (State.advance x_Calendar_25 hl).refuse ins Reg.RTC_SEC 60 = none ∧ (State.advance
      x_Calendar_25 hl).flag F.RTC_CTRL_HALT = true ∧ ((State.advance x_Calendar_25 hl).flag F.RTC_CTRL_HALT = false ∨
      rtcRange Reg.RTC_SEC (rtcMask Reg.RTC_SEC 60) = false)) ∧
    ((State.advance x_Calendar_27 up).good Dom.bak = true ∧ (State.advance x_Calendar_27 up).laneUp = true ∧
      (State.advance x_Calendar_27 up).flag F.RTC_CTRL_HALT = false ∧ 59 ≤ 59 ∧ (State.advance x_Calendar_27 up).good
      Dom.mtr = true) ∧
    (Reg.RTC_SUBSEC ≤ Reg.RTC_SUBSEC ∧ Reg.RTC_SUBSEC < Reg.RTC_YEAR ∧ Reg.RTC_SUBSEC % 4 = 0) ∧
    (((State.advance x_Calendar_33 x_Calendar_34).shadow? false).isSome = true ∧ (State.advance x_Calendar_33
      x_Calendar_34).frozenNs false + 1000000000 ≤ (State.advance x_Calendar_33 x_Calendar_34).ns) ∧
    (1 < 2 ∧ (State.advance wh up).refuse ins (Reg.RTC_ALM_CTRL 1) 4 = none ∧ (State.advance wh up).almBad 1 0 4 =
      false) ∧
    (1 < 2 ∧ (8 = 4 ∨ 8 = 8) ∧ (State.advance wh up).refuse ins (Reg.RTC_ALM_CTRL 1 + 8) 305419896 = none ∧
      (State.advance wh up).flag (F.RTC_ALM_CTRL_EN 1) = false) ∧
    (1 < 2 ∧ (8 = 4 ∨ 8 = 8) ∧ (State.advance wh x_Calendar_37).refuse ins (Reg.RTC_ALM_CTRL 1 + 8) 305419896 = none ∧
      (State.advance wh x_Calendar_37).flag (F.RTC_ALM_CTRL_EN 1) = true) ∧
    ((State.advance wh up).refuse ins Reg.BAK_PWRON 1 = none ∧ (State.advance wh up).flag F.BAK_PWRON_STATE = true) ∧
    ((State.advance wh x_Calendar_38).refuse ins Reg.BAK_PWRON 1 = none ∧ (State.advance wh x_Calendar_38).flag
      F.BAK_PWRON_STATE = false) ∧
    ((State.advance wh up).refuse ins Reg.BAK_PWRON 2 = none ∧ (State.advance wh up).flag F.BAK_PWRON_STATE = true) ∧
    (State.advance wh x_Calendar_40).flag F.BAK_PWRON_STATE = false :=
  by constructorm* _ ∧ _ <;> decide +kernel

end WB

/-! ### The manifest -/

namespace WC

def doneOf (s : State) : State := { s with pwr := { s.pwr with manDone := true } }
def vrf : State := (((up.setFld F.KEY_STATUS_LC 2).setFld (F.MOD_MAN_SLOT_STATE 1) 1).setFld (F.MOD_MAN_SLOT_STATE 0) 3)
def rd0 (s : State) : State := {s with pwr := {s.pwr with manDone := true}}
def fbk : State := rd0 (vrf.setFld (F.MOD_MAN_SLOT_STATE 3) 4)
def ar (cls : Nat) (sd pd : Bool) : Arm := ⟨1, cls, false, sd, pd, 0, mk⟩
def tb : Rec := Rec.build 16 [(4,4,7),(8,4,7),(12,4,7)]
def arm (a : Arm) : State := let s := fbk; ({s with man := {s.man with arm := some a, cfg := [(2,[tb]),(14,[Rec.build 64 []])]}}).startLong 1 mk (.manArm 1)
def busy : State := let s := (arm (ar 3 false true)); (s.setFld (F.CLE_AX_STATUS_STATE 0) 3)
def mini : List Byte := List.replicate 25 0 ++ [1] ++ List.replicate 230 0 ++ [2, 0, 0, 0] ++ leBytes 4 320 ++ leBytes 4 0 ++ leBytes 4 1 ++ List.replicate 64 0 ++ tb
def first : State := let s := arm (ar 0 false true); {s with pm := {s.pm with home := Mem.setBytes s.pm.home (slotBase 1) mini}, man := {s.man with cfg := []}}
def w7 : When := ⟨1000000000, 0, 5⟩
def ocp : State := ((arm (ar 1 true true)).setFld F.TSK_OC_STATUS_PHASE 1).setFld F.TSK_STATUS_MODE 1
def prg : Program := ⟨[Rec.build 32 [(0,1,5),(1,1,1),(2,1,1),(4,1,1),(8,4,7)], Rec.build 32 [(0,1,6),(1,1,2),(2,1,1),(4,1,1),(8,4,9)]], [1], []⟩
def t5 : Task := {Task.new with phase := .running, area := 0}
def bsw : State := let s := ocp.setFld F.TSK_OC_STATUS_PHASE 2; {s with prog := {s.prog with area0 := prg, area1 := prg, tasks := [(5, Task.new), (6, t5)]}}
def ver (r : Word) : LongWork := .manVerify 1 r 2 1
def lv (r : Word) : State := rd0 vrf |>.startLong 1 mk (ver r)
def la1 : State := (rd0 vrf).startLong 1 mk (.manArm 1)
def x_ManifestCommands_0 : State := rd0 vrf
def x_ManifestCommands_1 : State := rd0 vrf
def x_ManifestSlotWrite_2 : List Word := [1, 0x80000002]
def x_ManifestSlotWrite_3 : List Word := [1]
def x_ManifestSlotWrite_4 : State := vrf.setFld F.PMC_STATUS_LEVEL 2
def x_SwitchPoints_5 : Arm := ar 2 false true
def x_SwitchPoints_6 : State := arm (ar 2 false true)
def x_SwitchPoints_7 : Arm := ar 3 false true
def x_SwitchPoints_8 : List Nat := []
def x_SwitchPoints_9 : Arm := ar 3 false true
def x_SwitchPoints_10 : State := arm (ar 3 false true)
def x_SwitchPoints_14 : Arm := ar 0 false true
def x_SwitchPoints_15 : Arm := ar 1 true false
def x_SwitchPoints_16 : State := arm (ar 1 true false)
def x_SwitchPoints_19 : Arm := ar 3 true true
def x_SwitchPoints_20 : State := (arm (ar 3 true true)).setFld F.PMS_STATUS_ACTIVE 0
def x_ProgramSwitch_21 : Arm := ar 1 true true
def x_ProgramSwitch_22 : Arm := ar 1 true true
def x_ProgramSwitch_23 : State := ocp.setFld F.TSK_STATUS_MODE 0
def x_ProgramSwitch_24 : Arm := ar 1 true true
def x_ProgramSwitch_25 : List Nat := [6]
def x_ProgramSwitch_26 : Arm := ar 1 true true
def x_ProgramSwitch_27 : List Nat := []
def x_ProgramSwitch_28 : State := {bsw with prog := {bsw.prog with tasks := []}}
def x_ProgramSwitch_30 : State := {vrf with pwr := {vrf.pwr with manDone := false}}
def x_ProgramSwitch_31 : State := {up with pwr := {up.pwr with manDone := false}}
def x_LongOperationEnds_32 : LongOp := (lv 0x10000000).ctr.long.getD ⟨0,0,0,0,0,.manArm 0⟩
def x_LongOperationEnds_33 : State := lv 0x10000000
def x_LongOperationEnds_34 : LongOp := (lv 0x01000101).ctr.long.getD ⟨0,0,0,0,0,.manArm 0⟩
def x_LongOperationEnds_35 : State := lv 0x01000101
def x_LongOperationEnds_36 : LongOp := la1.ctr.long.getD ⟨0,0,0,0,0,.manArm 0⟩

/-- `Obligations.ManifestCommands`: its hypotheses are met, clause by clause. -/
theorem witness_ManifestCommands :
    (1 < 4 ∧ ManReady (State.advance wh x_ManifestCommands_0) mk (manCmd 1 1) ∧ (State.advance wh
      x_ManifestCommands_0).slotState 1 ∈ [1, 2, 5]) ∧
    (1 < 4 ∧ ManReady (State.advance wh x_ManifestCommands_1) ins (manCmd 2 1) ∧ (State.advance wh
      x_ManifestCommands_1).slotState 1 ∈ [1, 2, 5]) ∧
    (3 < 4 ∧ (State.advance wh fbk).slotState 3 ∈ [0, 3, 4] ∧ ManReady (State.advance wh fbk) mk (manCmd 1 3) ∧
      ManReady (State.advance wh fbk) mk (manCmd 2 3)) ∧
    (3 < 4 ∧ ManReady (State.advance wh fbk) mk (manCmd 3 0) ∧ mk.role = Role.maker ∧ (State.advance wh fbk).slotState
      3 = 4 ∧ (∀ m < 3, (State.advance wh fbk).slotState m ≠ 4)) ∧
    (3 < 4 ∧ ManReady (State.advance wh fbk) ins (manCmd 4 3) ∧ (State.advance wh fbk).slotState 3 ≠ 3 ∧
      ((State.advance wh fbk).slotState 3 = 3 ∨ (State.advance wh fbk).slotState 3 = 4)) ∧
    (1 < 4 ∧ ManReady (State.advance wh fbk) ins (manCmd 4 1) ∧ (State.advance wh fbk).slotState 1 ≠ 3 ∧
      (State.advance wh fbk).slotState 1 ≠ 4) :=
  by constructorm* _ ∧ _ <;> (try unfold ManReady) <;> decide +kernel

/-- `Obligations.ManifestSlotWrite`: its hypotheses are met, clause by clause. -/
theorem witness_ManifestSlotWrite :
    (3 < 4 ∧ 134217720 % 4 = 0 ∧ x_ManifestSlotWrite_2 ≠ [] ∧ 134217720 + 4 * x_ManifestSlotWrite_2.length ≤ 134217728
      ∧ (State.advance wh vrf).longBusy = false ∧ mk.im = true ∧ (State.advance wh vrf).on Dom.pmm = true ∧
      (State.advance wh vrf).pwr.recovery = false ∧ (State.advance wh vrf).slotState 3 ≠ 3 ∧ (State.advance wh
      vrf).slotState 3 ≠ 4) ∧
    (0 < 4 ∧ 0 % 4 = 0 ∧ x_ManifestSlotWrite_3 ≠ [] ∧ 0 + 4 * x_ManifestSlotWrite_3.length ≤ 134217728 ∧
      (State.advance wh vrf).longBusy = false ∧ mk.im = true ∧ (State.advance wh vrf).on Dom.pmm = true ∧ (State.advance
      wh vrf).pwr.recovery = false ∧ ((State.advance wh vrf).slotState 0 = 3 ∨ (State.advance wh vrf).slotState 0 = 4)) ∧
    (0 < 4 ∧ 134217727 < 134217728 ∧ (vrf.slotState 0 = 3 ∨ vrf.slotState 0 = 4)) ∧
    (1 < 4 ∧ 0 < 134217728 ∧ x_ManifestSlotWrite_4.slotState 1 ≠ 3 ∧ x_ManifestSlotWrite_4.slotState 1 ≠ 4) :=
  by constructorm* _ ∧ _ <;> decide +kernel

/-- `Obligations.SwitchPoints`: its hypotheses are met, clause by clause. -/
theorem witness_SwitchPoints :
    ((State.advance wh x_SwitchPoints_6).man.arm = some x_SwitchPoints_5 ∧ x_SwitchPoints_5.cls = 2 ∧
      x_SwitchPoints_5.structDone = false ∧ (State.advance wh x_SwitchPoints_6).good Dom.fab = true ∧ (State.advance wh
      x_SwitchPoints_6).switchWaits = false ∧ (State.advance wh x_SwitchPoints_6).phaseStarts ((State.advance wh
      x_SwitchPoints_6).switchClass x_SwitchPoints_5) = true ∧ ((State.advance wh x_SwitchPoints_6).fld
      F.TSK_OC_STATUS_PHASE ≠ 2 ∨ (State.advance wh x_SwitchPoints_6).mode = 1)) ∧
    ((State.advance wh busy).man.arm = some x_SwitchPoints_7 ∧ (x_SwitchPoints_7.cls = 3 ∧ (State.advance wh
      busy).phaseStarts 2 = true ∨ x_SwitchPoints_7.cls = 0 ∧ (State.advance wh busy).firstPhase x_SwitchPoints_7 =
      true) ∧ x_SwitchPoints_7.structDone = false ∧ (State.advance wh busy).good Dom.fab = true ∧ (State.advance wh
      busy).switchWaits = false ∧ (State.advance wh busy).good Dom.cle = true ∧ (State.advance wh busy).busyAxes
      x_SwitchPoints_7.slot = 0 :: x_SwitchPoints_8 ∧ x_SwitchPoints_7.postponed < 30) ∧
    ((State.advance wh x_SwitchPoints_10).man.arm = some x_SwitchPoints_9 ∧ x_SwitchPoints_9.cls = 3 ∧ (State.advance
      wh x_SwitchPoints_10).phaseStarts 2 = true ∧ x_SwitchPoints_9.structDone = false ∧ (State.advance wh
      x_SwitchPoints_10).good Dom.fab = true ∧ (State.advance wh x_SwitchPoints_10).switchWaits = false ∧
      ((State.advance wh x_SwitchPoints_10).good Dom.cle = true ∨ ((State.advance wh x_SwitchPoints_10).secOf
      x_SwitchPoints_9.slot 14).isNone = true ∨ (State.advance wh x_SwitchPoints_10).domSt 5 = DomSt.failed) ∧
      (State.advance wh x_SwitchPoints_10).busyAxes x_SwitchPoints_9.slot = [] ∧ ((State.advance wh
      x_SwitchPoints_10).fld F.TSK_OC_STATUS_PHASE ≠ 2 ∨ (State.advance wh x_SwitchPoints_10).mode = 1)) ∧
    ((State.advance wh first).man.arm = some x_SwitchPoints_14 ∧ x_SwitchPoints_14.cls = 0 ∧ (State.advance wh
      first).firstPhase x_SwitchPoints_14 = true ∧ x_SwitchPoints_14.structDone = false ∧ x_SwitchPoints_14.slot < 4 ∧
      (State.advance wh first).good Dom.fab = true ∧ (State.advance wh first).switchWaits = false ∧ ((State.advance wh
      first).good Dom.cle = true ∨ ((State.advance wh first).secOf x_SwitchPoints_14.slot 14).isNone = true ∨
      (State.advance wh first).domSt 5 = DomSt.failed) ∧ (State.advance wh first).busyAxes x_SwitchPoints_14.slot = [] ∧
      Settled (State.advance wh first)) ∧
    ((State.advance w7 x_SwitchPoints_16).good Dom.mtr = true ∧ (State.advance w7 x_SwitchPoints_16).clk.angle = 0 ∧
      (State.advance w7 x_SwitchPoints_16).man.arm = some x_SwitchPoints_15 ∧ x_SwitchPoints_15.structDone = true ∧
      (x_SwitchPoints_15.progDiffers = false ∨ (State.advance w7 x_SwitchPoints_16).lane = 0) ∧ x_SwitchPoints_15.slot <
      4 ∧ (State.advance w7 x_SwitchPoints_16).switchWaits = false ∧ (State.advance w7 x_SwitchPoints_16).armedSlot =
      some 0 ∧ 0 ≠ x_SwitchPoints_15.slot ∧ (∀ m < 4, (State.advance w7 x_SwitchPoints_16).slotState m = 3 → m = 0) ∧
      (State.advance w7 x_SwitchPoints_16).fld F.TSK_OC_STATUS_PHASE ≠ 3 ∧ (x_SwitchPoints_15.progDiffers = true →
      Settled (State.advance w7 x_SwitchPoints_16)) ∧ x_SwitchPoints_15.fb = false ∧ x_SwitchPoints_15.progDiffers =
      false) ∧
    ((State.advance w7 x_SwitchPoints_20).good Dom.mtr = true ∧ (State.advance w7 x_SwitchPoints_20).clk.angle = 0 ∧
      (State.advance w7 x_SwitchPoints_20).man.arm = some x_SwitchPoints_19 ∧ x_SwitchPoints_19.structDone = true ∧
      (x_SwitchPoints_19.progDiffers = false ∨ (State.advance w7 x_SwitchPoints_20).lane = 0) ∧ x_SwitchPoints_19.slot <
      4 ∧ (State.advance w7 x_SwitchPoints_20).switchWaits = false ∧ (State.advance w7 x_SwitchPoints_20).armedSlot =
      some 0 ∧ 0 ≠ x_SwitchPoints_19.slot ∧ (∀ m < 4, (State.advance w7 x_SwitchPoints_20).slotState m = 3 → m = 0) ∧
      (State.advance w7 x_SwitchPoints_20).fld F.TSK_OC_STATUS_PHASE ≠ 3 ∧ (x_SwitchPoints_19.progDiffers = true →
      Settled (State.advance w7 x_SwitchPoints_20)) ∧ x_SwitchPoints_19.fb = false ∧ x_SwitchPoints_19.progDiffers =
      true) :=
  by constructorm* _ ∧ _ <;> (try unfold Settled) <;> decide +kernel

/-- `Obligations.ProgramSwitch`: its hypotheses are met, clause by clause. -/
theorem witness_ProgramSwitch :
    (((State.advance wh ocp).laneUp = true ∧ (State.advance wh ocp).pwr.pfail = false ∧ (State.advance wh ocp).man.arm
      = some x_ProgramSwitch_21 ∧ (State.advance wh ocp).fld F.TSK_OC_STATUS_PHASE = 1 ∧ ((State.advance wh ocp).mode =
      1 ∨ x_ProgramSwitch_21.structDone = false)) ∧
    ((State.advance wh x_ProgramSwitch_23).laneUp = true ∧ (State.advance wh x_ProgramSwitch_23).pwr.pfail = false ∧
      (State.advance wh x_ProgramSwitch_23).man.arm = some x_ProgramSwitch_22 ∧ (State.advance wh
      x_ProgramSwitch_23).fld F.TSK_OC_STATUS_PHASE = 1 ∧ (State.advance wh x_ProgramSwitch_23).mode = 0 ∧
      x_ProgramSwitch_22.structDone = true ∧ (State.advance wh x_ProgramSwitch_23).switchWaits = false ∧
      x_ProgramSwitch_22.slot < 4) ∧
    ((State.advance wh bsw).laneUp = true ∧ (State.advance wh bsw).man.arm = some x_ProgramSwitch_24 ∧ (State.advance
      wh bsw).fld F.TSK_OC_STATUS_PHASE = 2 ∧ x_ProgramSwitch_24.structDone = true ∧ (State.advance wh bsw).switchWaits
      = false ∧ (State.advance wh bsw).mode = 1 ∧ (State.advance wh bsw).baseDue = true ∧ ((State.advance wh
      bsw).prog.area (1 - (State.advance wh bsw).areaN)).none? = false ∧ x_ProgramSwitch_24.slot < 4 ∧ (List.filter (fun
      t => ((State.advance wh bsw).task t).inCycle) (State.advance wh bsw).taskNums = x_ProgramSwitch_25) ∧
      x_ProgramSwitch_25.Nodup ∧ (∀ v ∈ x_ProgramSwitch_25, v < 64) ∧ x_ProgramSwitch_25 ≠ []) ∧
    ((State.advance wh x_ProgramSwitch_28).laneUp = true ∧ (State.advance wh x_ProgramSwitch_28).man.arm = some
      x_ProgramSwitch_26 ∧ (State.advance wh x_ProgramSwitch_28).fld F.TSK_OC_STATUS_PHASE = 2 ∧
      x_ProgramSwitch_26.structDone = true ∧ (State.advance wh x_ProgramSwitch_28).switchWaits = false ∧ (State.advance
      wh x_ProgramSwitch_28).mode = 1 ∧ (State.advance wh x_ProgramSwitch_28).baseDue = true ∧ ((State.advance wh
      x_ProgramSwitch_28).prog.area (1 - (State.advance wh x_ProgramSwitch_28).areaN)).none? = false ∧
      x_ProgramSwitch_26.slot < 4 ∧ (List.filter (fun t => ((State.advance wh x_ProgramSwitch_28).task t).inCycle)
      (State.advance wh x_ProgramSwitch_28).taskNums = x_ProgramSwitch_27) ∧ x_ProgramSwitch_27.Nodup ∧ (∀ v ∈
      x_ProgramSwitch_27, v < 64) ∧ x_ProgramSwitch_27 = []) ∧
    ((State.advance wh x_ProgramSwitch_30).pmWorks = true ∧ (State.advance wh x_ProgramSwitch_30).good Dom.ref = true
      ∧ (State.advance wh x_ProgramSwitch_30).pwr.manDone = false ∧ (State.advance wh x_ProgramSwitch_30).pwr.recovery =
      false ∧ (State.advance wh x_ProgramSwitch_30).pwr.pfail = false ∧ (State.advance wh x_ProgramSwitch_30).armedSlot
      = some 0 ∧ (doneOf (State.advance wh x_ProgramSwitch_30)).showSlots.validate 0 Ask.power Role.maker ≠ none ∧ (∀ m
      < 4, (doneOf (State.advance wh x_ProgramSwitch_30)).showSlots.slotState m ≠ 4)) ∧
    ((State.advance wh x_ProgramSwitch_31).pmWorks = true ∧ (State.advance wh x_ProgramSwitch_31).good Dom.ref = true
      ∧ (State.advance wh x_ProgramSwitch_31).pwr.manDone = false ∧ (State.advance wh x_ProgramSwitch_31).pwr.recovery =
      false ∧ (State.advance wh x_ProgramSwitch_31).pwr.pfail = false ∧ (State.advance wh x_ProgramSwitch_31).armedSlot
      = none)) ∧
    (∀ (u : Nat), ((State.advance wh x_ProgramSwitch_23).task u).inCycle = false) :=
  ⟨by constructorm* _ ∧ _ <;> decide +kernel,
   State.task_all (P := fun k => k.inCycle = false) (by decide) (by decide +kernel)⟩

/-- `Obligations.LongOperationEnds`: its hypotheses are met, clause by clause. -/
theorem witness_LongOperationEnds :
    ((State.advance wh x_LongOperationEnds_33).good Dom.ref = true ∧ (State.advance wh
      x_LongOperationEnds_33).pwr.pfail = false ∧ (State.advance wh x_LongOperationEnds_33).pms.restart = none ∧
      (State.advance wh x_LongOperationEnds_33).ctr.long = some x_LongOperationEnds_32 ∧ x_LongOperationEnds_32.work =
      LongWork.manVerify 1 268435456 2 1 ∧ x_LongOperationEnds_32.kind = 1 ∧ 1 < 4 ∧ (State.advance wh
      x_LongOperationEnds_33).slotState 1 ≠ 4 ∧ Word.bits 268435456 11 8 = 0) ∧
    ((State.advance wh x_LongOperationEnds_35).good Dom.ref = true ∧ (State.advance wh
      x_LongOperationEnds_35).pwr.pfail = false ∧ (State.advance wh x_LongOperationEnds_35).pms.restart = none ∧
      (State.advance wh x_LongOperationEnds_35).ctr.long = some x_LongOperationEnds_34 ∧ x_LongOperationEnds_34.work =
      LongWork.manVerify 1 16777473 2 1 ∧ x_LongOperationEnds_34.kind = 1 ∧ 1 < 4 ∧ (State.advance wh
      x_LongOperationEnds_35).slotState 1 ≠ 4 ∧ Word.bits 16777473 11 8 ≠ 0) ∧
    ((State.advance wh la1).good Dom.ref = true ∧ (State.advance wh la1).pwr.pfail = false ∧ (State.advance wh
      la1).pms.restart = none ∧ (State.advance wh la1).ctr.long = some x_LongOperationEnds_36 ∧
      x_LongOperationEnds_36.work = LongWork.manArm 1 ∧ (State.advance wh la1).man.arm = none ∧ 1 < 4) :=
  by constructorm* _ ∧ _ <;> decide +kernel

end WC

/-! ### Rounds, stations and points -/

namespace WD

def sA : Rec := Rec.build 64 [(0,2,0),(8,1,2)]
def sM : Rec := Rec.build 64 [(0,2,2047),(2,1,3),(3,1,1),(8,1,2),(9,1,1)]
def p0 : Rec := Rec.build 64 [(0,4,0),(4,2,0),(7,1,2),(0x0C,4,3)]
def p1 : Rec := Rec.build 64 [(0,4,1),(4,2,0),(7,1,2),(9,1,1),(0x0C,4,4)]
def p2 : Rec := Rec.build 64 [(0,4,2),(4,2,0xFFFF),(9,1,2)]
def p3 : Rec := Rec.build 64 [(0,4,3),(4,2,2047),(7,1,2),(0x0C,4,9)]
def pE : Rec := Rec.build 64 [(0,4,4),(4,2,0),(7,1,3),(0x0C,4,5)]
def tb : Rec := Rec.build 16 [(4,4,7),(8,4,7),(12,4,7)]
def bk (c n : Nat) (s : State) : State := s.setRound c {s.round c with start := (s.round c).start - BitVec.ofNat 64 n}
def fx : State := (({up with man := {up.man with cfg := [(2,[tb]),(7,[p0,p1,p2,p3,pE]),(8,[sA,sM])]}, net := {up.net with ports := [(0, Rec.build 64 [(1,1,1)])]}}).setFld (F.FPT_STA_STATE 0) 2).setFld (F.FPT_STA_STATE 2047) 2
def r1 := nx (.roundStart wh .s) fx
def r2 := bk 2 (13*2^20) (nx (.inputPhaseClose (la 5) .s) (bk 2 (13*2^20) r1))
def r3 := bk 2 (25*2^20) <| nx (.outputPhaseOpen (la 9) .s) r2
def pl : Poll := (r1.sta 0).polls.headD ⟨2,1,1000000000,false,false,[]⟩
def plm : Poll := (r1.sta 2047).polls.headD pl
def seg (ty tag : Nat) (es : List ChanEntry) : Segment := ⟨ty, 0, 1, tag, 0, 1, true, true, es⟩
def omM : OutMsg := ⟨7, 1, [3], false, 0, none, 2, some 1000000000, [], [], [], [4]⟩
def offM := nx (.roundStart wh .s) (fx.setFld (F.FPT_STA_STATE 2047) 3)
def sB : Rec := Rec.build 64 [(0,2,2047),(2,1,4),(3,1,1),(8,1,2),(9,1,1)]
def fb : State := {fx with man := {fx.man with cfg := [(2,[tb]),(7,[p0,p1,p2,p3,pE]),(8,[sA,sB])]}}
def rB := nx (.roundStart wh .s) fb
def off0 := fx.setFld (F.FPT_STA_STATE 0) 3
def r4 := nx (.roundStart wh .s) off0
def pli : Poll := (r4.sta 0).polls.headD pl
def sAi : Rec := Rec.build 64 [(0,2,0),(8,1,2),(16,4,6)]
def r5 : State := let s := r4; {s with man := {s.man with cfg := [(2,[tb]),(7,[p0,p1]),(8,[sAi])]}}
def om (att : Nat) (img : Bool) : OutMsg := ⟨7, att, [1], img, 0, none, 2, some 0, [], [], [[1]], [5]⟩
def wo (m : OutMsg) (st : Nat) : State := let s := {fx with pms := {fx.pms with frMux := 0x10001}}.setFld (F.FPT_STA_STATE 0) st; s.setSta 0 {s.sta 0 with out := [m]}
def fxF : State := let s := fx; {s with fab := {s.fab with points := s.fab.points.put 2 {s.point 2 with qual := 0xFF}}}
def x_RoundPhases_0 : When := la 5
def x_RoundPhases_1 : State := bk 2 (13*2^20) r1
def x_RoundPhases_4 : When := la 9
def x_RoundPhases_5 : When := la 9
def x_RoundPhases_6 : State := let s := r2.setFld (F.FPT_STA_STATE 0) 3; {s with pms := {s.pms with frMux := 0x10001}}
def x_RoundPhases_7 : When := la 12
def x_RoundPhases_10 : When := la 12
def x_RoundPhases_11 : State := nx (.outputPhaseOpen wh .f) (nx (.inputPhaseClose wh .f) (bk 0 (2^20) (nx (.roundStart wh .f) fx)))
def x_StationTraffic_12 : When := la 3
def x_StationTraffic_13 : Segment := seg 0x11 1 [⟨3,false,77⟩]
def x_StationTraffic_14 : List ChanEntry := []
def x_StationTraffic_15 : ChanEntry := ⟨3,false,77⟩
def x_StationTraffic_21 : When := la 3
def x_StationTraffic_22 : Segment := seg 0x11 999 [⟨3,false,77⟩]
def x_StationTraffic_23 : When := la 3
def x_StationTraffic_24 : Segment := seg 0x12 1 [⟨5,false,77⟩, ⟨3,false,1⟩]
def x_StationTraffic_25 : When := la 3
def x_StationTraffic_26 : Segment := seg 0x12 1 [⟨5,false,77⟩, ⟨3,false,1⟩]
def x_StationTraffic_27 : State := fx.setSta 0 {fx.sta 0 with readmit := true}
def x_StationTraffic_28 : When := la 3
def x_StationTraffic_29 : Nat := plm.tag
def x_StationTraffic_30 : LaneAnswer := .values plm.tag [(9,55)]
def x_StationTraffic_34 : When := la 9
def x_StationTraffic_35 : Nat := plm.tag
def x_StationTraffic_36 : LaneAnswer := .values plm.tag [(9,55)]
def x_StationTraffic_37 : State := nx (.inputPhaseClose (la 5) .s) (bk 2 (13*2^20) r1)
def x_StationTraffic_38 : When := la 3
def x_StationTraffic_40 : When := la 3
def x_StationTraffic_41 : Nat := plm.tag
def x_StationTraffic_42 : When := la 3
def x_StationTraffic_43 : State := fx.setSta 2047 {fx.sta 2047 with out := [omM]}
def x_StationTraffic_44 : When := la 3
def x_StationTraffic_45 : List Nat := [9]
def x_StationTraffic_46 : State := fx.setSta 2047 {fx.sta 2047 with out := [omM]}
def x_StationTraffic_47 : When := la 3
def x_StationTraffic_48 : Nat := ((offM.sta 2047).polls.headD pl).tag
def x_StationTraffic_50 : Poll := (offM.sta 2047).polls.headD pl
def x_StationTraffic_51 : When := la 3
def x_StationTraffic_55 : When := la 3
def x_StationTraffic_56 : Segment := seg 0x13 1 []
def x_StationTraffic_57 : When := la 3
def x_StationTraffic_58 : Segment := seg 0x13 1 []
def x_StationTraffic_61 : Segment := seg 0x14 7 []
def x_StationTraffic_62 : OutMsg := om 1 false
def x_StationTraffic_63 : State := wo (om 1 false) 2
def x_StationTraffic_64 : Segment := seg 0x14 7 []
def x_StationTraffic_65 : OutMsg := om 1 true
def x_StationTraffic_66 : State := wo (om 1 true) 1
def x_StationTraffic_67 : Segment := {seg 0x14 7 [⟨3,false,0⟩] with stat := 1}
def x_StationTraffic_68 : OutMsg := om 1 false
def x_StationTraffic_69 : State := wo (om 1 false) 2
def x_StationTraffic_70 : Segment := {seg 0x14 7 [⟨3,false,0⟩] with stat := 2}
def x_StationTraffic_71 : OutMsg := om 1 false
def x_StationTraffic_72 : State := wo (om 1 false) 2
def x_StationTraffic_76 : Segment := {seg 0x14 7 [⟨3,false,0⟩] with stat := 3}
def x_StationTraffic_77 : OutMsg := om 1 false
def x_StationTraffic_78 : State := wo (om 1 false) 2
def x_StationTraffic_85 : OutMsg := om 1 false
def x_StationTraffic_86 : State := wo (om 1 false) 2
def x_StationTraffic_87 : OutMsg := om 3 false
def x_StationTraffic_88 : State := wo (om 3 false) 2
def x_StationTraffic_91 : State := fx.setFld F.PMS_STATUS_ACTIVE 0
def x_StationTraffic_92 : State := fx.setSta 0 {fx.sta 0 with syncTag := some 9, syncNs := some 1000000000}

/-- `Obligations.RoundPhases`: its hypotheses are met, clause by clause. -/
theorem witness_RoundPhases :
    (Scan.s ≠ Scan.e ∧ (State.advance wh fx).good Dom.fab = true ∧ (State.advance wh fx).armed = true ∧ (State.advance
      wh fx).drives = true ∧ ((State.advance wh fx).round (scanNum Scan.s)).phase = RPhase.idle ∧ (State.advance wh
      fx).roundDue (scanNum Scan.s) = true ∧ (State.advance wh fx).man.quiesced = [] ∧ (State.advance wh fx).man.pts =
      [] ∧ (State.advance wh fx).net.ports ≠ [] ∧ (List.map Prod.fst (State.advance wh fx).stations).Nodup ∧ (List.map
      Prod.fst (State.advance wh fx).allPoints).Nodup) ∧
    (Scan.s ≠ Scan.e ∧ (State.advance x_RoundPhases_0 x_RoundPhases_1).good Dom.fab = true ∧ ((State.advance
      x_RoundPhases_0 x_RoundPhases_1).round (scanNum Scan.s)).phase = RPhase.input ∧ (List.map Prod.fst (State.advance
      x_RoundPhases_0 x_RoundPhases_1).stations).Nodup ∧ (∀ nr ∈ (State.advance x_RoundPhases_0
      x_RoundPhases_1).stations, nr.1 < 2048) ∧ (((State.advance x_RoundPhases_0 x_RoundPhases_1).round (scanNum
      Scan.s)).period / 4 ≤ (State.advance x_RoundPhases_0 x_RoundPhases_1).roundAge (scanNum Scan.s) ∨ (State.advance
      x_RoundPhases_0 x_RoundPhases_1).allDelivered (scanNum Scan.s) = true) ∧ (List.map Prod.fst (State.advance
      x_RoundPhases_0 x_RoundPhases_1).allPoints).Nodup) ∧
    (Scan.s ≠ Scan.e ∧ (State.advance x_RoundPhases_4 r2).good Dom.fab = true ∧ ((State.advance x_RoundPhases_4
      r2).round (scanNum Scan.s)).phase = RPhase.closed ∧ ((State.advance x_RoundPhases_4 r2).round (scanNum
      Scan.s)).period / 2 ≤ (State.advance x_RoundPhases_4 r2).roundAge (scanNum Scan.s) ∧ (State.advance
      x_RoundPhases_4 r2).pms.frMux = 0) ∧
    (Scan.s ≠ Scan.e ∧ (State.advance x_RoundPhases_5 x_RoundPhases_6).good Dom.fab = true ∧ ((State.advance
      x_RoundPhases_5 x_RoundPhases_6).round (scanNum Scan.s)).phase = RPhase.closed ∧ ((State.advance x_RoundPhases_5
      x_RoundPhases_6).round (scanNum Scan.s)).period / 2 ≤ (State.advance x_RoundPhases_5 x_RoundPhases_6).roundAge
      (scanNum Scan.s) ∧ (State.advance x_RoundPhases_5 x_RoundPhases_6).pms.frMux ≠ 0 ∧ (State.advance x_RoundPhases_5
      x_RoundPhases_6).pwr.pfail = false ∧ (List.map Prod.fst (State.advance x_RoundPhases_5
      x_RoundPhases_6).allPoints).Nodup) ∧
    (Scan.s ≠ Scan.e ∧ (State.advance x_RoundPhases_7 r3).good Dom.fab = true ∧ ((State.advance x_RoundPhases_7
      r3).round (scanNum Scan.s)).phase = RPhase.output ∧ ((State.advance x_RoundPhases_7 r3).round (scanNum
      Scan.s)).period ≤ (State.advance x_RoundPhases_7 r3).roundAge (scanNum Scan.s) ∧ (List.map Prod.fst (State.advance
      x_RoundPhases_7 r3).stations).Nodup ∧ (∀ nr ∈ (State.advance x_RoundPhases_7 r3).stations, nr.1 < 2048) ∧
      (State.advance x_RoundPhases_7 r3).good Dom.pmm = true) ∧
    (Scan.f ≠ Scan.e ∧ (State.advance x_RoundPhases_10 x_RoundPhases_11).good Dom.fab = true ∧ ((State.advance
      x_RoundPhases_10 x_RoundPhases_11).round (scanNum Scan.f)).phase = RPhase.output ∧ ((State.advance
      x_RoundPhases_10 x_RoundPhases_11).round (scanNum Scan.f)).period ≤ (State.advance x_RoundPhases_10
      x_RoundPhases_11).roundAge (scanNum Scan.f) ∧ (List.map Prod.fst (State.advance x_RoundPhases_10
      x_RoundPhases_11).stations).Nodup ∧ (∀ nr ∈ (State.advance x_RoundPhases_10 x_RoundPhases_11).stations, nr.1 <
      2048) ∧ Scan.f ≠ Scan.s) :=
  by constructorm* _ ∧ _ <;> decide +kernel

/-- `Obligations.StationTraffic`: its hypotheses are met, clause by clause. -/
theorem witness_StationTraffic :
    ((0 < 2048 ∧ (State.advance x_StationTraffic_12 r1).staReach 0 = some sA ∧ segOk x_StationTraffic_13 17 = true ∧
      (State.advance x_StationTraffic_12 r1).inputsFrom 0 = true ∧ (List.find? (fun p => p.tag ==
      x_StationTraffic_13.tag && !p.ident) ((State.advance x_StationTraffic_12 r1).sta 0).polls = some pl) ∧
      ((State.advance x_StationTraffic_12 r1).round pl.cls).phase = RPhase.input ∧ x_StationTraffic_13.entries =
      x_StationTraffic_14 ++ [x_StationTraffic_15] ∧ (State.advance x_StationTraffic_12 r1).inputAt 0
      x_StationTraffic_15.ch = some (0, p0) ∧ serves pl.cls (ptClass p0) = true ∧ x_StationTraffic_15.bad = false ∧ qGet
      ((State.advance x_StationTraffic_12 r1).point 0).qual qFORCED = false) ∧
    ((State.advance x_StationTraffic_21 r1).staReach 0 = some sA ∧ segOk x_StationTraffic_22 17 = true ∧ (List.find?
      (fun p => p.tag == x_StationTraffic_22.tag && !p.ident) ((State.advance x_StationTraffic_21 r1).sta 0).polls =
      none ∨ (State.advance x_StationTraffic_21 r1).inputsFrom 0 = false ∨ ∃ p, List.find? (fun p => p.tag ==
      x_StationTraffic_22.tag && !p.ident) ((State.advance x_StationTraffic_21 r1).sta 0).polls = some p ∧
      ((State.advance x_StationTraffic_21 r1).round p.cls).phase ≠ RPhase.input)) ∧
    ((State.advance x_StationTraffic_23 fx).staReach 0 = some sA ∧ segOk x_StationTraffic_24 18 = true ∧ (∀ c < 3,
      ((State.advance x_StationTraffic_23 fx).round c).phase ≠ RPhase.input) ∧ (State.advance x_StationTraffic_23
      fx).inputsFrom 0 = true) ∧
    ((State.advance x_StationTraffic_25 x_StationTraffic_27).staReach 0 = some sA ∧ segOk x_StationTraffic_26 18 =
      true ∧ (∀ c < 3, ((State.advance x_StationTraffic_25 x_StationTraffic_27).round c).phase ≠ RPhase.input) ∧
      (State.advance x_StationTraffic_25 x_StationTraffic_27).inputsFrom 0 = false) ∧
    (2047 < 2048 ∧ (State.advance x_StationTraffic_28 r1).staRec 2047 = some sM ∧ (State.advance x_StationTraffic_28
      r1).good Dom.fab = true ∧ (State.advance x_StationTraffic_28 r1).laneUp = true ∧ stAelzon sM = false ∧
      (State.advance x_StationTraffic_28 r1).inputsFrom 2047 = true ∧ (∀ p ∈ ((State.advance x_StationTraffic_28 r1).sta
      2047).polls, p.tag = x_StationTraffic_29 → p.ident = true → p.ns + stAnstoNs sM < (State.advance
      x_StationTraffic_28 r1).ns) ∧ (List.find? (fun p => p.tag == x_StationTraffic_29 && !p.ident) ((State.advance
      x_StationTraffic_28 r1).sta 2047).polls = some plm) ∧ ((State.advance x_StationTraffic_28 r1).round plm.cls).phase
      = RPhase.input ∧ (State.advance x_StationTraffic_28 r1).inputAt 2047 9 = some (3, p3) ∧ serves plm.cls (ptClass
      p3) = true ∧ qGet ((State.advance x_StationTraffic_28 r1).point 3).qual qFORCED = false) ∧
    ((State.advance x_StationTraffic_34 x_StationTraffic_37).staRec 2047 = some sM ∧ (State.advance
      x_StationTraffic_34 x_StationTraffic_37).good Dom.fab = true ∧ (State.advance x_StationTraffic_34
      x_StationTraffic_37).laneUp = true ∧ stAelzon sM = false ∧ (∀ p ∈ ((State.advance x_StationTraffic_34
      x_StationTraffic_37).sta 2047).polls, p.tag = x_StationTraffic_35 → p.ident = true → p.ns + stAnstoNs sM <
      (State.advance x_StationTraffic_34 x_StationTraffic_37).ns) ∧ (List.find? (fun p => p.tag == x_StationTraffic_35
      && !p.ident) ((State.advance x_StationTraffic_34 x_StationTraffic_37).sta 2047).polls = some plm) ∧
      ((State.advance x_StationTraffic_34 x_StationTraffic_37).round plm.cls).phase ≠ RPhase.input) ∧
    ((State.advance x_StationTraffic_38 fx).staRec 2047 = some sM ∧ (State.advance x_StationTraffic_38 fx).good
      Dom.fab = true ∧ (State.advance x_StationTraffic_38 fx).laneUp = true ∧ stAelzon sM = false ∧ (State.advance
      x_StationTraffic_38 fx).inputsFrom 2047 = true ∧ (∀ c < 3, ((State.advance x_StationTraffic_38 fx).round c).phase
      ≠ RPhase.input)) ∧
    (2047 < 2048 ∧ (State.advance x_StationTraffic_40 r1).staRec 2047 = some sM ∧ (State.advance x_StationTraffic_40
      r1).good Dom.fab = true ∧ (State.advance x_StationTraffic_40 r1).laneUp = true ∧ stAelzon sM = false ∧
      (State.advance x_StationTraffic_40 r1).inputsFrom 2047 = true ∧ (List.find? (fun p => p.tag == x_StationTraffic_41
      && !p.ident) ((State.advance x_StationTraffic_40 r1).sta 2047).polls = some plm) ∧ ((State.advance
      x_StationTraffic_40 r1).round plm.cls).phase = RPhase.input) ∧
    ((State.advance x_StationTraffic_42 x_StationTraffic_43).staRec 2047 = some sM ∧ (State.advance
      x_StationTraffic_42 x_StationTraffic_43).good Dom.fab = true ∧ (State.advance x_StationTraffic_42
      x_StationTraffic_43).laneUp = true ∧ stAelzon sM = false ∧ (List.find? (fun p => p.tag == 7 && !p.ident)
      ((State.advance x_StationTraffic_42 x_StationTraffic_43).sta 2047).polls = none) ∧ ((State.advance
      x_StationTraffic_42 x_StationTraffic_43).sta 2047).msg? 7 = some omM ∧ omM.vals.length = omM.pts.length ∧
      (State.advance x_StationTraffic_42 x_StationTraffic_43).ptRec 3 = some p3) ∧
    ((State.advance x_StationTraffic_44 x_StationTraffic_46).staRec 2047 = some sM ∧ (State.advance
      x_StationTraffic_44 x_StationTraffic_46).good Dom.fab = true ∧ (State.advance x_StationTraffic_44
      x_StationTraffic_46).laneUp = true ∧ stAelzon sM = false ∧ ((State.advance x_StationTraffic_44
      x_StationTraffic_46).sta 2047).msg? 7 = some omM ∧ omM.image = false ∧ omM.vals.length = omM.pts.length ∧ (∀ p ∈
      omM.pts, ∃ q, (State.advance x_StationTraffic_44 x_StationTraffic_46).ptRec p = some q ∧ ptAddr q ∈
      x_StationTraffic_45)) ∧
    (2047 < 2048 ∧ (State.advance x_StationTraffic_47 offM).staRec 2047 = some sM ∧ (State.advance x_StationTraffic_47
      offM).good Dom.fab = true ∧ (State.advance x_StationTraffic_47 offM).laneUp = true ∧ stAelzon sM = false ∧
      ((State.advance x_StationTraffic_47 offM).staState 2047 = 0 ∨ (State.advance x_StationTraffic_47 offM).staState
      2047 = 3) ∧ ((State.advance x_StationTraffic_47 offM).sta 2047).readmit = false ∧ x_StationTraffic_50 ∈
      ((State.advance x_StationTraffic_47 offM).sta 2047).polls ∧ x_StationTraffic_50.tag = x_StationTraffic_48 ∧
      x_StationTraffic_50.ident = true ∧ (State.advance x_StationTraffic_47 offM).ns ≤ x_StationTraffic_50.ns +
      stAnstoNs sM) ∧
    ((State.advance x_StationTraffic_51 rB).staRec 2047 = some sB ∧ (State.advance x_StationTraffic_51 rB).good
      Dom.fab = true ∧ (State.advance x_StationTraffic_51 rB).laneUp = true ∧ stAelzon sB = false ∧ stBacnet sB = true) ∧
    (0 < 2048 ∧ (State.advance x_StationTraffic_55 r4).staReach 0 = some sA ∧ segOk x_StationTraffic_56 19 = true ∧
      ((State.advance x_StationTraffic_55 r4).staState 0 = 0 ∨ (State.advance x_StationTraffic_55 r4).staState 0 = 3 ∨
      ((State.advance x_StationTraffic_55 r4).sta 0).readmit = true) ∧ (List.find? (fun p => p.tag ==
      x_StationTraffic_56.tag && p.ident && decide ((State.advance x_StationTraffic_55 r4).ns ≤ p.ns + stAnstoNs sA))
      ((State.advance x_StationTraffic_55 r4).sta 0).polls = some pli) ∧ (stIdent sA = 0 ∨ stIdent sA = (5 : Nat))) ∧
    (0 < 2048 ∧ (State.advance x_StationTraffic_57 r5).staReach 0 = some sAi ∧ segOk x_StationTraffic_58 19 = true ∧
      ((State.advance x_StationTraffic_57 r5).staState 0 = 0 ∨ (State.advance x_StationTraffic_57 r5).staState 0 = 3 ∨
      ((State.advance x_StationTraffic_57 r5).sta 0).readmit = true) ∧ (List.find? (fun p => p.tag ==
      x_StationTraffic_58.tag && p.ident && decide ((State.advance x_StationTraffic_57 r5).ns ≤ p.ns + stAnstoNs sAi))
      ((State.advance x_StationTraffic_57 r5).sta 0).polls = some pli) ∧ stIdent sAi ≠ 0 ∧ stIdent sAi ≠ (5 : Nat)) ∧
    (0 < 2048 ∧ (State.advance wh x_StationTraffic_63).staReach 0 = some sA ∧ segOk x_StationTraffic_61 20 = true ∧
      ((State.advance wh x_StationTraffic_63).sta 0).msg? x_StationTraffic_61.tag = some x_StationTraffic_62 ∧
      x_StationTraffic_61.stat = 0 ∧ x_StationTraffic_62.sw = none ∧ (x_StationTraffic_61.total ≤ (if
      x_StationTraffic_62.segs.contains x_StationTraffic_61.idx = true then x_StationTraffic_62.segs else
      x_StationTraffic_61.idx :: x_StationTraffic_62.segs).length) ∧ (¬(x_StationTraffic_62.image = true ∧
      (State.advance wh x_StationTraffic_63).staState 0 = 1))) ∧
    (0 < 2048 ∧ (State.advance wh x_StationTraffic_66).staReach 0 = some sA ∧ segOk x_StationTraffic_64 20 = true ∧
      ((State.advance wh x_StationTraffic_66).sta 0).msg? x_StationTraffic_64.tag = some x_StationTraffic_65 ∧
      x_StationTraffic_64.stat = 0 ∧ x_StationTraffic_65.sw = none ∧ (x_StationTraffic_64.total ≤ (if
      x_StationTraffic_65.segs.contains x_StationTraffic_64.idx = true then x_StationTraffic_65.segs else
      x_StationTraffic_64.idx :: x_StationTraffic_65.segs).length) ∧ x_StationTraffic_65.image = true ∧ (State.advance
      wh x_StationTraffic_66).staState 0 = 1) ∧
    (0 < 2048 ∧ (State.advance wh x_StationTraffic_69).staReach 0 = some sA ∧ segOk x_StationTraffic_67 20 = true ∧
      ((State.advance wh x_StationTraffic_69).sta 0).msg? x_StationTraffic_67.tag = some x_StationTraffic_68 ∧
      x_StationTraffic_68.sw = none ∧ (State.advance wh x_StationTraffic_69).pms.frMux ≠ 0 ∧ (x_StationTraffic_67.total
      ≤ (if x_StationTraffic_68.segs.contains x_StationTraffic_67.idx = true then x_StationTraffic_68.segs else
      x_StationTraffic_67.idx :: x_StationTraffic_68.segs).length) ∧ x_StationTraffic_67.stat = 1 ∧ ((State.advance wh
      x_StationTraffic_69).staState 0 = 1 ∨ (State.advance wh x_StationTraffic_69).staState 0 = 2)) ∧
    (0 < 2048 ∧ (State.advance wh x_StationTraffic_72).staReach 0 = some sA ∧ segOk x_StationTraffic_70 20 = true ∧
      ((State.advance wh x_StationTraffic_72).sta 0).msg? x_StationTraffic_70.tag = some x_StationTraffic_71 ∧
      x_StationTraffic_71.sw = none ∧ (State.advance wh x_StationTraffic_72).pms.frMux ≠ 0 ∧ (x_StationTraffic_70.total
      ≤ (if x_StationTraffic_71.segs.contains x_StationTraffic_70.idx = true then x_StationTraffic_71.segs else
      x_StationTraffic_70.idx :: x_StationTraffic_71.segs).length) ∧ x_StationTraffic_70.stat = 2 ∧
      x_StationTraffic_71.attempts < 3) ∧
    (0 < 2048 ∧ (State.advance wh x_StationTraffic_78).staReach 0 = some sA ∧ segOk x_StationTraffic_76 20 = true ∧
      ((State.advance wh x_StationTraffic_78).sta 0).msg? x_StationTraffic_76.tag = some x_StationTraffic_77 ∧
      x_StationTraffic_77.sw = none ∧ (State.advance wh x_StationTraffic_78).pms.frMux ≠ 0 ∧ (x_StationTraffic_76.total
      ≤ (if x_StationTraffic_77.segs.contains x_StationTraffic_76.idx = true then x_StationTraffic_77.segs else
      x_StationTraffic_76.idx :: x_StationTraffic_77.segs).length) ∧ x_StationTraffic_76.stat = 3) ∧
    (0 < 2048 ∧ (State.advance wh x_StationTraffic_86).good Dom.fab = true ∧ (State.advance wh
      x_StationTraffic_86).staRec 0 = some sA ∧ (State.advance wh x_StationTraffic_86).pms.frMux ≠ 0 ∧ (stAelzon sA =
      true ∨ (State.advance wh x_StationTraffic_86).laneUp = true) ∧ (List.find? (fun m =>
      match m.ns with | some t => decide (t + stAnstoNs sA ≤ (State.advance wh x_StationTraffic_86).ns) | none => false)
      ((State.advance wh x_StationTraffic_86).sta 0).out = some x_StationTraffic_85) ∧ x_StationTraffic_85.attempts < 3) ∧
    (0 < 2048 ∧ (State.advance wh x_StationTraffic_88).good Dom.fab = true ∧ (State.advance wh
      x_StationTraffic_88).staRec 0 = some sA ∧ (State.advance wh x_StationTraffic_88).pms.frMux ≠ 0 ∧ (stAelzon sA =
      true ∨ (State.advance wh x_StationTraffic_88).laneUp = true) ∧ (List.find? (fun m =>
      match m.ns with | some t => decide (t + stAnstoNs sA ≤ (State.advance wh x_StationTraffic_88).ns) | none => false)
      ((State.advance wh x_StationTraffic_88).sta 0).out = some x_StationTraffic_87) ∧ 3 ≤ x_StationTraffic_87.attempts
      ∧ ((State.advance wh x_StationTraffic_88).staState 0 = 1 ∨ (State.advance wh x_StationTraffic_88).staState 0 = 2)
      ∧ (State.advance wh x_StationTraffic_88).quiescing (stPort sA) = false) ∧
    ((State.advance wh x_StationTraffic_91).staRec 2047 = some sM ∧ stAelzon sM = false ∧ (State.advance wh
      x_StationTraffic_91).laneUp = false) ∧
    ((State.advance wh x_StationTraffic_92).good Dom.fab = true ∧ (State.advance wh x_StationTraffic_92).staRec 0 =
      some sA ∧ ((State.advance wh x_StationTraffic_92).sta 0).syncTag = some 9 ∧ ((State.advance wh
      x_StationTraffic_92).sta 0).syncNs = some 1000000000 ∧ (State.advance wh x_StationTraffic_92).ns ≤ 1000000000 +
      5000000)) ∧
    ((∃ vs, x_StationTraffic_30 = LaneAnswer.values x_StationTraffic_29 (vs ++ [(9, 55)])) ∨ ∃ vs rs,
      x_StationTraffic_30 = LaneAnswer.registers x_StationTraffic_29 (vs ++ [(9, rs)]) ∧ 55 = regsWord (stWswap sM) rs) ∧
    ((∃ vs, x_StationTraffic_36 = LaneAnswer.values x_StationTraffic_35 vs) ∨ ∃ vs, x_StationTraffic_36 =
      LaneAnswer.registers x_StationTraffic_35 vs) :=
  ⟨by constructorm* _ ∧ _ <;> decide +kernel,
   Or.inl ⟨[], by decide +kernel⟩,
   Or.inl ⟨_, rfl⟩⟩

/-- `Obligations.PointAccess`: its hypotheses are met, clause by clause. -/
theorem witness_PointAccess :
    (2047 < 2048 ∧ ((State.advance wh fx).refuse ins (Reg.FPT_STA 2047) (n2w ((if true = true then 1 else 0) * 2 ^
      31)) = none)) ∧
    (State.advance wh fx).refusePoint op 0 = none ∧
    ((State.advance wh fx).refuseValue op 2 = none ∧ (State.advance wh fx).ptRec 2 = some p2 ∧ qGet ((State.advance wh
      fx).point 2).qual qFORCED = false) ∧
    ((State.advance wh fxF).refuseValue ins 2 = none ∧ (State.advance wh fxF).ptRec 2 = some p2 ∧ qGet ((State.advance
      wh fxF).point 2).qual qFORCED = true) ∧
    ((State.advance wh fx).refuseForce ins 2 = none ∧ ((State.advance wh fx).ptRec 2).isSome = true ∧ qGet
      ((State.advance wh fx).point 2).qual qFORCED ≠ Word.bit 16 4) :=
  by constructorm* _ ∧ _ <;> decide +kernel

end WD

/-! ### Programs -/

namespace WE1

def prg : Program := ⟨[Rec.build 32 [(0,1,5),(1,1,1),(2,1,1),(4,1,1),(5,1,2),(8,4,7)], Rec.build 32 [(0,1,6),(1,1,2),(2,1,1),(4,1,1),(8,4,9)], Rec.build 32 [(0,1,40),(1,1,3),(2,1,1),(3,1,3),(6,1,2),(7,1,126)], Rec.build 32 [(0,1,41),(1,1,4),(2,1,1),(3,1,3),(6,1,1),(7,1,50)]], [1], []⟩
def ps (m : Nat) (l : List (Nat × Task)) : State := let s := up.setFld F.TSK_STATUS_MODE m; {s with prog := {s.prog with area0 := prg, area1 := prg, tasks := l}}
def tk (p : TPhase) : Task := {Task.new with phase := p, area := 0}
def cka : Ckpt := ⟨0, 0x10001, 77, 0, [], [], 0, 0, 0⟩
def run5 : State := ps 1 [(5, tk .running)]
def com : State := nx (.taskReturn wh 5 []) run5
def c0 : Ckpt := (com.task 5).pend.getD cka
def late : State := ps 1 [(5, {tk .running with rel := 0})]
def x_TaskCycles_0 : Rec := prg.tasks.headD []
def x_TaskCycles_1 : State := ps 1 []
def x_TaskCycles_2 : Rec := prg.tasks.headD []
def x_TaskCycles_3 : State := ps 1 [(5, tk .ready)]
def x_TaskCycles_4 : State := ps 1 [(5, tk .ready)]
def x_TaskCycles_5 : State := ps 1 [(40, {tk .idle with queue := [⟨126,false,0,5,9⟩]})]
def x_TaskCycles_7 : When := la 9
def x_TaskCycles_8 : List JEntry := (markDurable com.pm.journal).1
def x_TaskCycles_9 : JEntry := (markDurable com.pm.journal).2.getD ⟨0,0,0,0,.header 0,false⟩
def x_TaskCycles_10 : When := ⟨20*50*1000000000, 7, 9⟩
def x_TaskCycles_11 : State := {late with clk := {late.clk with cycle := 5}}
def x_EventSources_12 : State := ps 0 []
def x_EventSources_14 : State := ps 1 []
def x_EventSources_15 : State := ps 1 [(41, {tk .idle with queue := [⟨50,false,0,5,9⟩]})]
def x_EventSources_16 : State := ps 1 [(41, {tk .idle with queue := [⟨50,false,0,5,9⟩], burst := true})]
def x_EventSources_17 : State := ps 1 []
def x_EventSources_18 : State := ps 0 []
def x_ProgramModes_19 : State := ps 1 [(5, {tk .running with rel := 1<<<60})]
def x_ProgramModes_20 : State := ps 1 [(5, {tk .running with rel := 1<<<60}), (6, {tk .ready with rel := 1<<<60})]
def x_ProgramModes_21 : State := ps 1 []
def x_ProgramModes_22 : State := ps 2 []
def x_ProgramModes_23 : State := ps 2 []
def x_ProgramModes_25 : State := ps 0 []
def x_ProgramModes_26 : State := ps 2 []

/-- `Obligations.TaskCycles`: its hypotheses are met, clause by clause. -/
theorem witness_TaskCycles :
    ((5 < 32 ∧ (State.advance wh x_TaskCycles_1).taskRec 5 = some x_TaskCycles_0 ∧ (State.advance wh
      x_TaskCycles_1).laneUp = true ∧ (State.advance wh x_TaskCycles_1).mode = 1 ∧ (State.advance wh
      x_TaskCycles_1).prog.holdReq = false ∧ (State.advance wh x_TaskCycles_1).fld F.PMS_STATUS_PHASE ≠ 1 ∧
      (State.advance wh x_TaskCycles_1).pwr.pfail = false ∧ (State.advance wh x_TaskCycles_1).onSchedule x_TaskCycles_0
      = true ∧ ((State.advance wh x_TaskCycles_1).task 5).last ≠ some (State.advance wh x_TaskCycles_1).pmNow ∧
      ((State.advance wh x_TaskCycles_1).task 5).phase = TPhase.idle) ∧
    (5 < 32 ∧ (State.advance wh x_TaskCycles_3).taskRec 5 = some x_TaskCycles_2 ∧ (State.advance wh
      x_TaskCycles_3).laneUp = true ∧ (State.advance wh x_TaskCycles_3).mode = 1 ∧ (State.advance wh
      x_TaskCycles_3).prog.holdReq = false ∧ (State.advance wh x_TaskCycles_3).fld F.PMS_STATUS_PHASE ≠ 1 ∧
      (State.advance wh x_TaskCycles_3).pwr.pfail = false ∧ (State.advance wh x_TaskCycles_3).onSchedule x_TaskCycles_2
      = true ∧ ((State.advance wh x_TaskCycles_3).task 5).last ≠ some (State.advance wh x_TaskCycles_3).pmNow ∧
      ((State.advance wh x_TaskCycles_3).task 5).phase ≠ TPhase.idle) ∧
    ((State.advance wh x_TaskCycles_4).laneUp = true ∧ ((State.advance wh x_TaskCycles_4).mode = 1 ∨ (State.advance wh
      x_TaskCycles_4).mode = 2 ∧ ((State.advance wh x_TaskCycles_4).task 5).stepped = true) ∧ (State.advance wh
      x_TaskCycles_4).fld F.PMS_STATUS_PHASE ≠ 1 ∧ (State.advance wh x_TaskCycles_4).pwr.pfail = false ∧ (State.advance
      wh x_TaskCycles_4).mayDispatch 5 = true ∧ 5 < 32) ∧
    ((State.advance wh x_TaskCycles_5).laneUp = true ∧ ((State.advance wh x_TaskCycles_5).mode = 1 ∨ (State.advance wh
      x_TaskCycles_5).mode = 2 ∧ ((State.advance wh x_TaskCycles_5).task 40).stepped = true) ∧ (State.advance wh
      x_TaskCycles_5).fld F.PMS_STATUS_PHASE ≠ 1 ∧ (State.advance wh x_TaskCycles_5).pwr.pfail = false ∧ (State.advance
      wh x_TaskCycles_5).mayDispatch 40 = true ∧ 32 ≤ 40 ∧ ((State.advance wh x_TaskCycles_5).task 40).ev = none) ∧
    ((State.advance wh run5).executes 5 = true ∧ (State.advance wh run5).pwr.pfail = false) ∧
    (5 < 64 ∧ (State.advance x_TaskCycles_7 com).good Dom.pmm = true ∧ (State.advance x_TaskCycles_7 com).laneUp =
      true ∧ ((State.advance x_TaskCycles_7 com).task 5).phase = TPhase.committing ∧ ((State.advance x_TaskCycles_7
      com).task 5).pend = some c0 ∧ markDurable (State.advance x_TaskCycles_7 com).pm.journal = (x_TaskCycles_8, some
      x_TaskCycles_9) ∧ x_TaskCycles_9.load = Payload.header 5 ∧ (State.advance x_TaskCycles_7 com).fld
      F.TSK_OC_STATUS_PHASE = 0) ∧
    (5 < 64 ∧ (State.advance x_TaskCycles_10 x_TaskCycles_11).laneUp = true ∧ (State.advance x_TaskCycles_10
      x_TaskCycles_11).pwr.pfail = false ∧ (State.advance x_TaskCycles_10 x_TaskCycles_11).wdogDue 5 = true)) ∧
    Unexpired (State.advance wh x_TaskCycles_1) ∧
    Unexpired (State.advance wh x_TaskCycles_3) :=
  ⟨by constructorm* _ ∧ _ <;> decide +kernel,
   State.wdogDue_of_small (by decide +kernel),
   State.wdogDue_of_small (by decide +kernel)⟩

/-- `Obligations.EventSources`: its hypotheses are met, clause by clause. -/
theorem witness_EventSources :
    ((State.advance wh x_EventSources_12).mode = 0 ∨ (State.advance wh x_EventSources_12).laneUp = false) ∧
    ((State.advance wh x_EventSources_14).mode ≠ 0 ∧ (State.advance wh x_EventSources_14).laneUp = true) ∧
    ((State.advance wh x_EventSources_15).mode ≠ 0 ∧ (State.advance wh x_EventSources_15).laneUp = true) ∧
    ((State.advance wh x_EventSources_16).mode ≠ 0 ∧ (State.advance wh x_EventSources_16).laneUp = true) ∧
    ((State.advance wh x_EventSources_17).refuse ins Reg.TSK_DOORBELL 7 = none ∧ (State.advance wh
      x_EventSources_17).mode ≠ 0 ∧ (State.advance wh x_EventSources_17).laneUp = true) ∧
    ((State.advance wh x_EventSources_18).refuse ins Reg.TSK_DOORBELL 7 = none ∧ (State.advance wh
      x_EventSources_18).mode = 0) :=
  by constructorm* _ ∧ _ <;> decide +kernel

/-- `Obligations.ProgramModes`: its hypotheses are met, clause by clause. -/
theorem witness_ProgramModes :
    (((State.advance wh x_ProgramModes_19).refuse ins Reg.TSK_CTRL (tskCmd 1 0 false) = none ∧ (State.advance wh
      x_ProgramModes_19).mode ≠ 0) ∧
    ((State.advance wh x_ProgramModes_20).refuse ins Reg.TSK_CTRL (tskCmd 2 0 false) = none ∧ (State.advance wh
      x_ProgramModes_20).mode = 1 ∧ (State.advance wh x_ProgramModes_20).anyCycle = true) ∧
    ((State.advance wh x_ProgramModes_21).refuse ins Reg.TSK_CTRL (tskCmd 2 0 false) = none ∧ (State.advance wh
      x_ProgramModes_21).mode = 1 ∧ (State.advance wh x_ProgramModes_21).anyCycle = false ∧ (State.advance wh
      x_ProgramModes_21).fld F.TSK_OC_STATUS_PHASE = 0) ∧
    ((State.advance wh x_ProgramModes_22).refuse ins Reg.TSK_CTRL (tskCmd 3 0 false) = none ∧ (State.advance wh
      x_ProgramModes_22).mode = 2) ∧
    (5 < 64 ∧ (State.advance wh x_ProgramModes_23).refuse ins Reg.TSK_CTRL (tskCmd 4 5 false) = none ∧ (State.advance
      wh x_ProgramModes_23).mode = 2 ∧ (State.advance wh x_ProgramModes_23).flag F.TSK_STATUS_STEPBUSY = false ∧
      ((State.advance wh x_ProgramModes_23).taskRec 5).isSome = true ∧ (32 ≤ 5 → ((State.advance wh
      x_ProgramModes_23).task 5).queue ≠ []) ∧ (State.advance wh x_ProgramModes_23).fld F.TSK_OC_STATUS_PHASE = 0) ∧
    ((State.advance wh x_ProgramModes_25).refuse ins Reg.TSK_CTRL (tskCmd 5 0 true) = none ∧ (State.advance wh
      x_ProgramModes_25).mode ≠ 1 ∧ (State.advance wh x_ProgramModes_25).program.none? = false ∧ (State.advance wh
      x_ProgramModes_25).armed = true ∧ (State.advance wh x_ProgramModes_25).fld F.PMC_STATUS_LEVEL ≠ 3 ∧ (State.advance
      wh x_ProgramModes_25).anyCycle = false ∧ Settled (State.advance wh x_ProgramModes_25)) ∧
    ((State.advance wh x_ProgramModes_26).refuse ins Reg.TSK_CTRL (tskCmd 6 0 false) = none ∧ (State.advance wh
      x_ProgramModes_26).mode ≠ 1 ∧ (State.advance wh x_ProgramModes_26).program.none? = false ∧ (State.advance wh
      x_ProgramModes_26).armed = true ∧ (State.advance wh x_ProgramModes_26).fld F.PMC_STATUS_LEVEL ≠ 3 ∧ (State.advance
      wh x_ProgramModes_26).anyCycle = false ∧ Settled (State.advance wh x_ProgramModes_26))) ∧
    Unexpired (State.advance wh x_ProgramModes_19) ∧
    Unexpired (State.advance wh x_ProgramModes_20) ∧
    Unexpired (State.advance wh x_ProgramModes_21) :=
  ⟨by constructorm* _ ∧ _ <;> (try unfold Settled) <;> decide +kernel,
   State.wdogDue_of_small (by decide +kernel),
   State.wdogDue_of_small (by decide +kernel),
   State.wdogDue_of_small (by decide +kernel)⟩

/-- `Obligations.RuntimeCalls`: its hypotheses are met, clause by clause. -/
theorem witness_RuntimeCalls :
    (State.advance wh run5).executes 5 = true ∧ (State.advance wh run5).pwr.pfail = false ∧ ((State.advance wh
      run5).task 5).ev = none :=
  by constructorm* _ ∧ _ <;> decide +kernel

end WE1

/-! ### Runtime calls -/

namespace WE2

def prg : Program := ⟨[Rec.build 32 [(0,1,5),(1,1,1),(2,1,1),(4,1,1),(5,1,2),(8,4,7)], Rec.build 32 [(0,1,6),(1,1,2),(2,1,1),(4,1,1),(8,4,9)], Rec.build 32 [(0,1,40),(1,1,3),(2,1,1),(3,1,3),(6,1,2),(7,1,126)], Rec.build 32 [(0,1,41),(1,1,4),(2,1,1),(3,1,3),(6,1,1),(7,1,50)]], [1], []⟩
def ps (m : Nat) (l : List (Nat × Task)) : State := let s := up.setFld F.TSK_STATUS_MODE m; {s with prog := {s.prog with area0 := prg, area1 := prg, tasks := l}}
def tk (p : TPhase) : Task := {Task.new with phase := p, area := 0}
def run5 : State := ps 1 [(5, tk .running)]
def axm : State := {run5 with man := {run5.man with cfg := [(5,[Rec.build 64 [(0,1,2),(1,1,3),(2,1,1),(4,2,16),(6,2,64),(8,4,0x1000),(12,4,0x2000),(16,1,1)],Rec.build 64 [(0,1,3),(1,1,3),(2,1,1),(4,2,16),(6,2,64),(8,4,0x1000),(12,4,0x2000),(16,1,0)]]),(22,[Rec.build 64 [(0,2,3),(2,1,5),(4,4,0x1000),(8,2,64),(0xC,4,8)]])]}}
def axr : State := {axm with man := {axm.man with cfg := axm.man.cfg.put 14 [Rec.build 64 [(0,1,2)]]}}
def x_RuntimeCalls_0 : State := axr.setFld F.CLE_ENG_STATUS_MODE 2
def x_RuntimeCalls_2 : Rec := (axm.mbRec 2).getD []
def x_RuntimeCalls_3 : List Byte := [1,2,3]
def x_RuntimeCalls_4 : State := axm.wr (Reg.MBG_TAIL 2) 15
def x_RuntimeCalls_5 : Rec := (axm.mbRec 2).getD []
def x_RuntimeCalls_6 : List Byte := [1,2,3]
def x_RuntimeCalls_7 : Rec := (axm.mbRec 3).getD []
def x_RuntimeCalls_8 : State := axm.wr (Reg.MBG_HEAD 3) 2
def x_RuntimeCalls_9 : Rec := (axm.mbRec 3).getD []
def x_RuntimeCalls_10 : Rec := (axm.recs 22).headD []
def x_RuntimeCalls_11 : List Byte := [1,2,3]

/-- `Obligations.RuntimeCalls`: its hypotheses are met, clause by clause. -/
theorem witness_RuntimeCalls :
    ((State.advance wh axm).executes 5 = true ∧ (State.advance wh axm).pwr.pfail = false ∧ 118 ≤ 118 ∧ 118 ≤ 125) ∧
    ((State.advance wh axm).executes 5 = true ∧ (State.advance wh axm).pwr.pfail = false ∧ (126 < 118 ∨ 125 < 126)) ∧
    ((State.advance wh axr).executes 5 = true ∧ (State.advance wh axr).pwr.pfail = false ∧ finite32 1065353216 = true
      ∧ 0 ≤ real32D 1065353216 ∧ (State.advance wh axr).axStatus 2 = rtOK) ∧
    ((State.advance wh axr).executes 5 = true ∧ (State.advance wh axr).pwr.pfail = false ∧ (State.advance wh
      axr).axStatus 2 = rtOK ∧ (State.advance wh axr).engMode ≠ engHALTED ∧ (true = true → (State.advance wh
      axr).axDevStop 2 = false)) ∧
    ((State.advance wh x_RuntimeCalls_0).executes 5 = true ∧ (State.advance wh x_RuntimeCalls_0).pwr.pfail = false) ∧
    ((State.advance wh axr).executes 5 = true ∧ (State.advance wh axr).pwr.pfail = false ∧ (State.advance wh
      axr).axStatus 2 = rtOK) ∧
    ((State.advance wh axr).executes 5 = true ∧ (State.advance wh axr).pwr.pfail = false ∧ 15 < 16 ∧ 3 < 4 ∧
      (State.advance wh axr).axStatus 2 = rtOK) ∧
    ((State.advance wh axr).executes 5 = true ∧ (State.advance wh axr).pwr.pfail = false ∧ (State.advance wh
      axr).axStatus 3 ≠ rtOK ∧ finite32 0 = true ∧ 0 ≤ real32D 0 ∧ 2 < 16 ∧ 3 < 4) ∧
    ((State.advance wh axm).executes 5 = true ∧ (State.advance wh axm).pwr.pfail = false ∧ (State.advance wh
      axm).mbRec 2 = some x_RuntimeCalls_2 ∧ (State.advance wh axm).mbStatus 2 1 = rtOK ∧ x_RuntimeCalls_3 ≠ [] ∧
      x_RuntimeCalls_3.length ≤ mbBufsz x_RuntimeCalls_2 ∧ ((State.advance wh axm).task 5).calls = [] ∧ 0 <
      (State.advance wh axm).mbRoom 2 x_RuntimeCalls_2) ∧
    ((State.advance wh x_RuntimeCalls_4).executes 5 = true ∧ (State.advance wh x_RuntimeCalls_4).pwr.pfail = false ∧
      (State.advance wh x_RuntimeCalls_4).mbRec 2 = some x_RuntimeCalls_5 ∧ (State.advance wh x_RuntimeCalls_4).mbStatus
      2 1 = rtOK ∧ x_RuntimeCalls_6 ≠ [] ∧ x_RuntimeCalls_6.length ≤ mbBufsz x_RuntimeCalls_5 ∧ ((State.advance wh
      x_RuntimeCalls_4).task 5).calls = [] ∧ (State.advance wh x_RuntimeCalls_4).mbRoom 2 x_RuntimeCalls_5 = 0) ∧
    ((State.advance wh axm).executes 5 = true ∧ (State.advance wh axm).pwr.pfail = false ∧ (State.advance wh
      axm).mbRec 3 = some x_RuntimeCalls_7 ∧ (State.advance wh axm).mbStatus 3 0 = rtOK ∧ ((State.advance wh axm).task
      5).calls = [] ∧ ((State.advance wh axm).mb 3).rd % max 1 (mbEntries x_RuntimeCalls_7) = BitVec.toNat
      ((State.advance wh axm).rd (Reg.MBG_HEAD 3))) ∧
    ((State.advance wh x_RuntimeCalls_8).executes 5 = true ∧ (State.advance wh x_RuntimeCalls_8).pwr.pfail = false ∧
      (State.advance wh x_RuntimeCalls_8).mbRec 3 = some x_RuntimeCalls_9 ∧ (State.advance wh x_RuntimeCalls_8).mbStatus
      3 0 = rtOK ∧ ((State.advance wh x_RuntimeCalls_8).task 5).calls = [] ∧ ((State.advance wh x_RuntimeCalls_8).mb
      3).rd % max 1 (mbEntries x_RuntimeCalls_9) ≠ BitVec.toNat ((State.advance wh x_RuntimeCalls_8).rd (Reg.MBG_HEAD
      3))) ∧
    ((State.advance wh axm).executes 5 = true ∧ (State.advance wh axm).pwr.pfail = false ∧ 3 < 1024 ∧ (List.find? (fun
      r => r.u16 0 == 3) ((State.advance wh axm).recs 22) = some x_RuntimeCalls_10) ∧ x_RuntimeCalls_11 ≠ [] ∧
      x_RuntimeCalls_11.length ≤ trEntry x_RuntimeCalls_10 - 16 ∧ trTask x_RuntimeCalls_10 = 5 ∧ (State.advance wh
      axm).protects (trOff x_RuntimeCalls_10) = false ∧ ((State.advance wh axm).task 5).calls = []) ∧
    ((State.advance wh axm).executes 5 = true ∧ (State.advance wh axm).pwr.pfail = false ∧ 61440 ≤ 61440 ∧ 61440 ≤
      65535) ∧
    ((State.advance wh axm).executes 5 = true ∧ (State.advance wh axm).pwr.pfail = false ∧ 61439 < 61440) ∧
    (State.advance wh run5).executes 6 = false ∧
    (State.advance wh run5).executes 6 = false ∧
    (State.advance wh run5).executes 6 = false ∧
    (State.advance wh run5).executes 6 = false :=
  by constructorm* _ ∧ _ <;> decide +kernel

end WE2

/-! ### Axes and the engine -/

namespace WF

def ax (k g : Nat) (n : Nat) : Rec := Rec.build 64 [(0,1,k),(1,1,3),(2,1,9+k),(3,1,n),(4,1,1),(5,1,1),(8,1,1),(0x0B,1,g),(0x18,4,1000),(0x1C,4,1000),(0x20,4,0x3F800000),(0x24,4,0x3F800000),(0x28,4,0x3F800000),(0x39,1,2),(0x3C,4,5)]
def bnk : List Byte := Rec.build 512 [(0,1,2),(0x24,4,0x3F800000)]
def axs : Axis := {Axis.new with bank0 := bnk, bank1 := bnk, secs := [⟨5,3,1,2⟩], fric := List.replicate 256 .zero, cog := List.replicate 256 .zero}
def cl (st : Nat) : State := let s := {up with man := {up.man with cfg := [(14,[ax 2 0 4, ax 7 1 2])]}, cle := {up.cle with axes := [(2, axs), (7, axs)]}, net := {up.net with ports := [(3, Rec.build 64 [(1,1,1),(4,4,7)])]}}
  (((s.setFld (F.CLE_LINK_NLINK 3) 4).setFld (F.FPT_PG_STATUS_USE 3) 4).setFld (F.CLE_AX_STATUS_STATE 2) st).setFld (F.CLE_AX_STATUS_STATE 7) st
def sw : State := (cl 0).setAxis 2 {(cl 0).axis 2 with swap := some ⟨2,2,2⟩}
def le (st : Nat) : State := nx (.linkEvent wh 3) (cl st)
def dr (st : Nat) (sq : Nat) : DriveResp := ⟨11, sq, 1000, -5, 7, BitVec.ofNat 16 st⟩
def frm (a st sq : Nat) : List Byte := let b := [BitVec.ofNat 8 a, BitVec.ofNat 8 sq] ++ leBytes 6 1000 ++ leBytes 4 0xFFFFFFFB ++ leBytes 2 7 ++ leBytes 2 st; [0x55, 0xA9] ++ b ++ leBytes 2 (crc16 b)
def jj (s : State) : Nat := (s.link 3).j % 256
def en : State := (cl 1).setAxis 2 {(cl 1).axis 2 with enPm := some 0}
def lc1 : State := (cl 0).setFld F.KEY_STATUS_LC 1
def mi : State := (cl 2).setAxis 2 {(cl 2).axis 2 with mism := some (0, 5, 6)}
def ca : State := {cl 2 with cle := {(cl 2).cle with acts := [⟨2,3,77,88⟩]}}
def dg (a : Nat) : State := (cl 2).setFld F.CLE_ENG_STATUS_MODE 1 |>.setFld (if a == 1 then F.CLE_ENG_STATUS_FENCEA else F.CLE_ENG_STATUS_FENCEB) 1
def cq : Rec := Rec.build 64 [(0,4,8),(4,2,0xFFFF),(7,1,2),(9,1,1)]
def ca2 : State := let s := ca; {s with clk := {s.clk with cycle := 5}, man := {s.man with cfg := s.man.cfg.put 7 [cq]}}
def x_LinkSamples_1 : When := la 50
def x_LinkSamples_2 : Rec := ax 2 0 4
def x_LinkSamples_3 : List Byte := frm 11 1 (jj (le 1))
def x_LinkSamples_4 : DriveResp := dr 1 (jj (le 1))
def x_LinkSamples_6 : State := le 1
def x_LinkSamples_19 : When := la 50
def x_LinkSamples_20 : Rec := ax 2 0 4
def x_LinkSamples_21 : List Byte := frm 11 2 (jj (le 1))
def x_LinkSamples_22 : DriveResp := dr 2 (jj (le 1))
def x_LinkSamples_24 : State := le 1
def x_LinkSamples_37 : When := la 50
def x_LinkSamples_38 : Rec := ax 2 0 4
def x_LinkSamples_39 : List Byte := frm 11 0 (jj (le 0))
def x_LinkSamples_40 : DriveResp := dr 0 (jj (le 0))
def x_LinkSamples_42 : State := le 0
def x_LinkSamples_49 : When := la 50
def x_LinkSamples_50 : Rec := ax 2 0 4
def x_LinkSamples_51 : List Byte := (frm 11 1 0).set 18 0x77
def x_LinkSamples_53 : State := le 2
def x_LinkSamples_62 : When := la 50
def x_LinkSamples_63 : Rec := ax 2 0 4
def x_LinkSamples_64 : State := (le 2).setAxis 2 {(le 2).axis 2 with miss := 1}
def x_AxisStates_68 : When := ⟨200000000, 0, 1⟩
def x_AxisStates_69 : State := {en with clk := {en.clk with cycle := 5}}
def x_AxisStates_70 : State := {cl 2 with pms := {up.pms with noHolderNs := some 5}}
def x_AxisStates_72 : State := cl 2
def x_EngineAndComparators_74 : Rec := ax 2 0 4
def x_EngineAndComparators_75 : State := cl 0
def x_EngineAndComparators_76 : Rec := ax 2 0 4
def x_EngineAndComparators_77 : State := (cl 2).setFld F.KEY_STATUS_LC 2
def x_EngineAndComparators_78 : State := (cl 0).setAxis 2 {(cl 0).axis 2 with bank1 := [1,2,3]}
def x_EngineAndComparators_80 : State := dg 1
def x_EngineAndComparators_81 : State := dg 2
def x_EngineAndComparators_82 : Rec := ax 2 0 4
def x_EngineAndComparators_83 : CmpAct := ⟨2,3,77,88⟩
def x_EngineAndComparators_84 : Rec := ax 2 0 4
def x_EngineAndComparators_85 : CmpAct := ⟨2,3,77,88⟩
def x_EngineAndComparators_86 : State := {ca2 with fab := {ca2.fab with points := ca2.fab.points.put 8 {ca2.point 8 with qual := 0xFF}}}

/-- `Obligations.LinkSamples`: its hypotheses are met, clause by clause. -/
theorem witness_LinkSamples :
    ((State.advance wh sw).good Dom.cle = true ∧ (State.advance wh sw).good Dom.mtr = true ∧ (State.advance wh
      sw).linkIndex 3 = some 0 ∧ ((State.advance wh sw).link 3).pm ≠ (State.advance wh sw).pmNow ∧ (State.advance wh
      sw).fld (F.FPT_PG_STATUS_USE 3) = 4 ∧ (∀ k ∈ ((State.advance wh sw).link 3).sampled, k ∈ ((State.advance wh
      sw).link 3).ok ∨ k ∈ ((State.advance wh sw).link 3).missed) ∧ 3 < 24 ∧ (∀ r ∈ (State.advance wh sw).linkAxes 3,
      r.u8 0 < 64) ∧ ((List.map (fun r => r.u8 0) ((State.advance wh sw).linkAxes 3)).Nodup)) ∧
    ((State.advance x_LinkSamples_1 x_LinkSamples_6).axRec 2 = some x_LinkSamples_2 ∧ 2 < 64 ∧ axLink x_LinkSamples_2
      < 24 ∧ (State.advance x_LinkSamples_1 x_LinkSamples_6).good Dom.cle = true ∧ (State.advance x_LinkSamples_1
      x_LinkSamples_6).axExpected 2 x_LinkSamples_2 = true ∧ (State.advance x_LinkSamples_1 x_LinkSamples_6).axAnswer
      x_LinkSamples_2 x_LinkSamples_3 = some x_LinkSamples_4 ∧ (State.advance x_LinkSamples_1 x_LinkSamples_6).axState 2
      = 1 ∧ x_LinkSamples_4.status.getLsbD 0 = true ∧ x_LinkSamples_4.status.getLsbD 1 = false ∧ ((State.advance
      x_LinkSamples_1 x_LinkSamples_6).axState 2 = 1 ∨ (State.advance x_LinkSamples_1 x_LinkSamples_6).axState 2 = 2 ∨
      (State.advance x_LinkSamples_1 x_LinkSamples_6).axState 2 = 3)) ∧
    ((State.advance x_LinkSamples_19 x_LinkSamples_24).axRec 2 = some x_LinkSamples_20 ∧ 2 < 64 ∧ axLink
      x_LinkSamples_20 < 24 ∧ (State.advance x_LinkSamples_19 x_LinkSamples_24).good Dom.cle = true ∧ (State.advance
      x_LinkSamples_19 x_LinkSamples_24).axExpected 2 x_LinkSamples_20 = true ∧ (State.advance x_LinkSamples_19
      x_LinkSamples_24).axAnswer x_LinkSamples_20 x_LinkSamples_21 = some x_LinkSamples_22 ∧ (State.advance
      x_LinkSamples_19 x_LinkSamples_24).axState 2 = 1 ∧ ((State.advance x_LinkSamples_19 x_LinkSamples_24).axState 2 =
      1 ∨ (State.advance x_LinkSamples_19 x_LinkSamples_24).axState 2 = 2 ∨ (State.advance x_LinkSamples_19
      x_LinkSamples_24).axState 2 = 3) ∧ x_LinkSamples_22.status.getLsbD 1 = true) ∧
    ((State.advance x_LinkSamples_37 x_LinkSamples_42).axRec 2 = some x_LinkSamples_38 ∧ 2 < 64 ∧ axLink
      x_LinkSamples_38 < 24 ∧ (State.advance x_LinkSamples_37 x_LinkSamples_42).good Dom.cle = true ∧ (State.advance
      x_LinkSamples_37 x_LinkSamples_42).axExpected 2 x_LinkSamples_38 = true ∧ (State.advance x_LinkSamples_37
      x_LinkSamples_42).axAnswer x_LinkSamples_38 x_LinkSamples_39 = some x_LinkSamples_40 ∧ ((State.advance
      x_LinkSamples_37 x_LinkSamples_42).axState 2 = 0 ∨ (State.advance x_LinkSamples_37 x_LinkSamples_42).axState 2 =
      4)) ∧
    ((State.advance x_LinkSamples_49 x_LinkSamples_53).axRec 2 = some x_LinkSamples_50 ∧ (State.advance
      x_LinkSamples_49 x_LinkSamples_53).axAnswer x_LinkSamples_50 x_LinkSamples_51 = none) ∧
    ((State.advance x_LinkSamples_62 x_LinkSamples_64).axRec 2 = some x_LinkSamples_63 ∧ 2 < 64 ∧ axLink
      x_LinkSamples_63 < 24 ∧ (State.advance x_LinkSamples_62 x_LinkSamples_64).good Dom.cle = true ∧ (State.advance
      x_LinkSamples_62 x_LinkSamples_64).axExpected 2 x_LinkSamples_63 = true ∧ ((State.advance x_LinkSamples_62
      x_LinkSamples_64).axState 2 = 1 ∨ (State.advance x_LinkSamples_62 x_LinkSamples_64).axState 2 = 2) ∧ moLmiss
      x_LinkSamples_63 ≤ ((State.advance x_LinkSamples_62 x_LinkSamples_64).axis 2).miss + 1) :=
  by constructorm* _ ∧ _ <;> decide +kernel

/-- `Obligations.AxisStates`: its hypotheses are met, clause by clause. -/
theorem witness_AxisStates :
    (2 < 64 ∧ ((State.advance x_AxisStates_68 x_AxisStates_69).axis 2).enPm = some 0 ∧ (State.advance x_AxisStates_68
      x_AxisStates_69).good Dom.cle = true ∧ (State.advance x_AxisStates_68 x_AxisStates_69).axState 2 = 1 ∧ 5 * 2 ^ 20
      ≤ BitVec.toNat ((State.advance x_AxisStates_68 x_AxisStates_69).pmNow - 0)) ∧
    ((State.advance wh x_AxisStates_70).pms.noHolderNs = some 5 ∧ (State.advance wh x_AxisStates_70).good Dom.cle =
      true ∧ 5 + 250000000 ≤ (State.advance wh x_AxisStates_70).ns ∧ (∀ k ∈ (State.advance wh x_AxisStates_70).axisNums,
      k < 64)) ∧
    (1 < 8 ∧ (State.advance wh x_AxisStates_72).good Dom.cle = true ∧ (State.advance wh x_AxisStates_72).stoClosed 1 =
      false ∧ (∀ k ∈ (State.advance wh x_AxisStates_72).axisNums, k < 64) ∧ (State.advance wh
      x_AxisStates_72).axisNums.Nodup) :=
  by constructorm* _ ∧ _ <;> decide +kernel

/-- `Obligations.EngineAndComparators`: its hypotheses are met, clause by clause. -/
theorem witness_EngineAndComparators :
    (2 < 64 ∧ (State.advance wh x_EngineAndComparators_75).refuse mk (Reg.CLE_AX_CTRL 2) 1 = none ∧ (State.advance wh
      x_EngineAndComparators_75).axRec 2 = some x_EngineAndComparators_74 ∧ ((State.advance wh
      x_EngineAndComparators_75).axState 2 = 0 ∨ (State.advance wh x_EngineAndComparators_75).fld F.KEY_STATUS_LC = 1 ∨
      (State.advance wh x_EngineAndComparators_75).fld F.KEY_STATUS_LC = 3) ∧ cascadeOk ((State.advance wh
      x_EngineAndComparators_75).shadow 2) (axSecs x_EngineAndComparators_74) = true ∧ (State.advance wh
      x_EngineAndComparators_75).hasAx (((State.advance wh x_EngineAndComparators_75).shadow 2).u8 0) = true) ∧
    ((State.advance wh x_EngineAndComparators_77).refuse mk (Reg.CLE_AX_CTRL 2) 1 = none ∧ (State.advance wh
      x_EngineAndComparators_77).axRec 2 = some x_EngineAndComparators_76 ∧ ((State.advance wh
      x_EngineAndComparators_77).axState 2 ≠ 0 ∧ (State.advance wh x_EngineAndComparators_77).fld F.KEY_STATUS_LC ≠ 1 ∧
      (State.advance wh x_EngineAndComparators_77).fld F.KEY_STATUS_LC ≠ 3 ∨ cascadeOk ((State.advance wh
      x_EngineAndComparators_77).shadow 2) (axSecs x_EngineAndComparators_76) = false ∨ (State.advance wh
      x_EngineAndComparators_77).hasAx (((State.advance wh x_EngineAndComparators_77).shadow 2).u8 0) = false)) ∧
    (State.advance wh x_EngineAndComparators_78).refuse mk (Reg.CLE_AX_CTRL 2) 2 = none ∧
    ((State.advance wh lc1).refuseTab mk 2 255 = none ∧ finite32 1065353216 = true ∧ 255 < 256 ∧ 255 < ((State.advance
      wh lc1).axis 2).fric.length ∧ satCount [real32D 1065353216] = 0) ∧
    ((State.advance wh lc1).refuseTab mk 2 256 = none ∧ finite32 1065353216 = true ∧ 256 ≤ 256 ∧ 256 - 256 <
      ((State.advance wh lc1).axis 2).cog.length ∧ satCount [real32D 1065353216] = 0) ∧
    ((State.advance wh mi).good Dom.cle = true ∧ (State.advance wh mi).hasAx 2 = true ∧ ((State.advance wh mi).axis
      2).mism = some (0, 5, 6) ∧ (Verdict.neither = Verdict.agrees ∨ Verdict.neither = Verdict.neither)) ∧
    ((State.advance wh x_EngineAndComparators_80).good Dom.cle = true ∧ (State.advance wh
      x_EngineAndComparators_80).hasAx 2 = true ∧ ((State.advance wh x_EngineAndComparators_80).axis 2).mism = none ∧
      (State.advance wh x_EngineAndComparators_80).engMode = 1 ∧ Verdict.pipeA ≠ Verdict.agrees ∧ (State.advance wh
      x_EngineAndComparators_80).fenced 0 = true) ∧
    ((State.advance wh x_EngineAndComparators_81).good Dom.cle = true ∧ (State.advance wh
      x_EngineAndComparators_81).hasAx 2 = true ∧ ((State.advance wh x_EngineAndComparators_81).axis 2).mism = none ∧
      (State.advance wh x_EngineAndComparators_81).engMode = 1 ∧ Verdict.neither ≠ Verdict.agrees ∧ (State.advance wh
      x_EngineAndComparators_81).fenced 0 = false) ∧
    ((State.advance wh ca2).axRec 2 = some x_EngineAndComparators_82 ∧ (State.advance wh ca2).good Dom.fab = true ∧
      (State.advance wh ca2).ptRec (moCmpbase x_EngineAndComparators_82 + 3) = some cq ∧ ptInternal cq = true ∧
      (List.find? (fun a => a.axis == 2 && a.cmp == 3 && decide (BitVec.toNat a.due ≤ BitVec.toNat (State.advance wh
      ca2).pmNow)) (State.advance wh ca2).cle.acts = some x_EngineAndComparators_83) ∧ qGet ((State.advance wh
      ca2).point (moCmpbase x_EngineAndComparators_82 + 3)).qual qFORCED = false) ∧
    ((State.advance wh x_EngineAndComparators_86).axRec 2 = some x_EngineAndComparators_84 ∧ (State.advance wh
      x_EngineAndComparators_86).good Dom.fab = true ∧ (State.advance wh x_EngineAndComparators_86).ptRec (moCmpbase
      x_EngineAndComparators_84 + 3) = some cq ∧ ptInternal cq = true ∧ (List.find? (fun a => a.axis == 2 && a.cmp == 3
      && decide (BitVec.toNat a.due ≤ BitVec.toNat (State.advance wh x_EngineAndComparators_86).pmNow)) (State.advance
      wh x_EngineAndComparators_86).cle.acts = some x_EngineAndComparators_85) ∧ qGet ((State.advance wh
      x_EngineAndComparators_86).point (moCmpbase x_EngineAndComparators_84 + 3)).qual qFORCED = true) :=
  by constructorm* _ ∧ _ <;> decide +kernel

end WF

/-! ### Metering -/

namespace WG

def me (g en : Nat) : Rec := Rec.build 96 [(0,1,g),(1,1,en),(2,1,1),(4,1,0),(5,1,0),(0x14,1,0),(0x15,1,0),(0x16,1,1),(0x17,1,1),(0x18,1,2),(0x19,1,2),(0x28,4,0x400000),(0x30,4,0x3F800000),(0x40,4,0x400000),(0x48,4,0x3F800000),(0x50,1,0),(0x51,1,0),(0x53,1,1),(0x54,4,1000)]
def ms : State := {(up.wr Reg.PMK_FREQ 50000000) with man := {up.man with cfg := [(17,[me 0 1, me 1 0])]}, pwr := {up.pwr with manDone := true}, mtr := {up.mtr with ended := some (20000000, 5), energy := [(0, 5 * 2^32), (6, 77)], was := [(0, (0x400000, 0)), (32, (0x400000, 0))]}}
def lcs (n : Nat) (s : State) : State := s.setFld F.KEY_STATUS_LC n
def pl (x : Pulse) : State := (ms.setPulse 7 x).wr (Reg.MTR_PULSE_CFG 7) 0x8001E000
def pz (due cnt : Nat) (h : Bool) (rdy : Nat) : Pulse := ⟨5, due, cnt, 0, h, 30, rdy, false⟩
def x_MeteringCycle_30 : State := ms.setFld F.MOD_DOMAINS_GOOD 0xFB
def x_MeterAccessAndPulses_9 : Nat := chAddr 39 + 12
def x_MeterAccessAndPulses_10 : State := lcs 1 ms
def x_MeterAccessAndPulses_13 : Nat := chAddr 0 + 8
def x_MeterAccessAndPulses_14 : State := lcs 2 ms
def x_MeterAccessAndPulses_15 : State := {ms with mtr := {ms.mtr with views := [(5, ⟨2^32*3, true, false⟩), (6, ⟨2, true, false⟩)]}}
def x_MeterAccessAndPulses_16 : State := pl (pz 2 2 false 0)
def x_MeterAccessAndPulses_17 : State := (pl (pz 0 0 false 0)).setFld (F.MTR_PULSE_BACK_BACK 7) 3
def x_MeterAccessAndPulses_18 : State := pl (pz 2 2 true 0)
def x_MeterAccessAndPulses_20 : Pulse := {pz 3 4 false 0 with base := 9}
def x_MeterAccessAndPulses_23 : State := pl (pz 2 2 true 1030000000)
def x_MeterAccessAndPulses_31 : State := {ms with mtr := {ms.mtr with views := [(1, ⟨2^32*3, true, false⟩)]}}

/-- `Obligations.MeteringCycleCompletes`: its hypotheses are met, clause by clause. -/
theorem witness_MeteringCycleCompletes :
    ((State.advance wh ms).mtr.ended.isSome = true ∧ (State.advance wh ms).on Dom.mtr = true ∧ (State.advance wh
      ms).pwr.pfail = false ∧ (State.advance wh ms).pwr.manDone = true ∧ (State.advance wh ms).good Dom.pmm = true) ∧
    (State.advance wh up).mtr.ended = none :=
  by constructorm* _ ∧ _ <;> decide +kernel

/-- `Obligations.MeteringCycle`: its hypotheses are met, clause by clause. -/
theorem witness_MeteringCycle :
    ((State.advance wh ms).mtr.ended = some (20000000, 5) ∧ (State.advance wh ms).on Dom.mtr = true ∧ (State.advance
      wh ms).pwr.pfail = false ∧ (State.advance wh ms).pwr.manDone = true ∧ (State.advance wh ms).good Dom.pmm = true) ∧
    ((State.advance wh x_MeteringCycle_30).mtr.ended = some (20000000, 5) ∧ (State.advance wh x_MeteringCycle_30).on
      Dom.mtr = true ∧ (State.advance wh x_MeteringCycle_30).pwr.pfail = false ∧ (State.advance wh
      x_MeteringCycle_30).pwr.manDone = true ∧ (State.advance wh x_MeteringCycle_30).good Dom.pmm = false) :=
  by constructorm* _ ∧ _ <;> decide +kernel

/-- `Obligations.MeterAccessAndPulses`: its hypotheses are met, clause by clause. -/
theorem witness_MeterAccessAndPulses :
    (trimAddr x_MeterAccessAndPulses_9 = true ∧ (State.advance wh x_MeterAccessAndPulses_10).refuse mk
      x_MeterAccessAndPulses_9 4294967295 = none ∧ ((State.advance wh x_MeterAccessAndPulses_10).lc = lcMAKER ∨
      (State.advance wh x_MeterAccessAndPulses_10).lc = lcSERVICE)) ∧
    (trimAddr x_MeterAccessAndPulses_13 = true ∧ (State.advance wh x_MeterAccessAndPulses_14).refuse mk
      x_MeterAccessAndPulses_13 5 = none ∧ (State.advance wh x_MeterAccessAndPulses_14).lc ≠ lcMAKER ∧ (State.advance wh
      x_MeterAccessAndPulses_14).lc ≠ lcSERVICE) ∧
    (0 < 16 ∧ 5 < 6 ∧ (State.advance wh x_MeterAccessAndPulses_15).longBusy = false ∧ (State.advance wh
      x_MeterAccessAndPulses_15).refuseWordRead ins (Reg.MTR_G_WIN 0 5) = none ∧ (State.advance wh
      x_MeterAccessAndPulses_15).latch.get? (Reg.MTR_G_WIN 0 5) = none ∧ meMode ((State.advance wh
      x_MeterAccessAndPulses_15).meRec 0) 5 = 0) ∧
    (7 < 8 ∧ (State.advance wh x_MeterAccessAndPulses_16).on Dom.mtr = true ∧ ((State.advance wh
      x_MeterAccessAndPulses_16).rd (Reg.MTR_PULSE_CFG 7)).bit 31 = true ∧ ((State.advance wh
      x_MeterAccessAndPulses_16).pulse 7).high = false ∧ ((State.advance wh x_MeterAccessAndPulses_16).pulse 7).readyNs
      ≤ (State.advance wh x_MeterAccessAndPulses_16).ns ∧ ((State.advance wh x_MeterAccessAndPulses_16).pulseSlot
      ((State.advance wh x_MeterAccessAndPulses_16).pulse 7) = true ∨ (State.advance wh x_MeterAccessAndPulses_16).fld
      (F.MTR_PULSE_BACK_BACK 7) ≠ 0) ∧ (State.advance wh x_MeterAccessAndPulses_16).pulseSlot ((State.advance wh
      x_MeterAccessAndPulses_16).pulse 7) = true) ∧
    (7 < 8 ∧ (State.advance wh x_MeterAccessAndPulses_17).on Dom.mtr = true ∧ ((State.advance wh
      x_MeterAccessAndPulses_17).rd (Reg.MTR_PULSE_CFG 7)).bit 31 = true ∧ ((State.advance wh
      x_MeterAccessAndPulses_17).pulse 7).high = false ∧ ((State.advance wh x_MeterAccessAndPulses_17).pulse 7).readyNs
      ≤ (State.advance wh x_MeterAccessAndPulses_17).ns ∧ ((State.advance wh x_MeterAccessAndPulses_17).pulseSlot
      ((State.advance wh x_MeterAccessAndPulses_17).pulse 7) = true ∨ (State.advance wh x_MeterAccessAndPulses_17).fld
      (F.MTR_PULSE_BACK_BACK 7) ≠ 0) ∧ (State.advance wh x_MeterAccessAndPulses_17).pulseSlot ((State.advance wh
      x_MeterAccessAndPulses_17).pulse 7) = false) ∧
    (7 < 8 ∧ (State.advance wh x_MeterAccessAndPulses_18).on Dom.mtr = true ∧ ((State.advance wh
      x_MeterAccessAndPulses_18).rd (Reg.MTR_PULSE_CFG 7)).bit 31 = true ∧ (((State.advance wh
      x_MeterAccessAndPulses_18).pulse 7).high = true ∨ (State.advance wh x_MeterAccessAndPulses_18).ns <
      ((State.advance wh x_MeterAccessAndPulses_18).pulse 7).readyNs) ∧ (State.advance wh
      x_MeterAccessAndPulses_18).pulseSlot ((State.advance wh x_MeterAccessAndPulses_18).pulse 7) = true ∧
      (State.advance wh x_MeterAccessAndPulses_18).fld (F.MTR_PULSE_BACK_BACK 7) < 65535) ∧
    (x_MeterAccessAndPulses_20.count = 4 ∧ x_MeterAccessAndPulses_20.due = 4 - 1 ∧ 0 < 1 ∧ 1 < 4 ∧ BitVec.toNat
      x_MeterAccessAndPulses_20.base + 2 ^ 20 ≤ 2 ^ 64) ∧
    ((State.advance wh x_MeterAccessAndPulses_23).pulse 7).over (State.advance wh x_MeterAccessAndPulses_23).ns = true ∧
    (0 < 16 ∧ 1 < 6 ∧ (State.advance wh x_MeterAccessAndPulses_31).longBusy = false ∧ (State.advance wh
      x_MeterAccessAndPulses_31).refuseWordRead ins (Reg.MTR_G_WIN 0 1) = none ∧ (State.advance wh
      x_MeterAccessAndPulses_31).latch.get? (Reg.MTR_G_WIN 0 1) = none ∧ meMode ((State.advance wh
      x_MeterAccessAndPulses_31).meRec 0) 1 ≠ 0) :=
  by constructorm* _ ∧ _ <;> decide +kernel

end WG

/-! ### The demand governor -/

namespace WH

def sA : Rec := Rec.build 64 [(0,2,0),(8,1,2)]
def sM : Rec := Rec.build 64 [(0,2,2047),(2,1,3),(3,1,1),(8,1,2),(9,1,1)]
def p0 : Rec := Rec.build 64 [(0,4,0),(4,2,0),(7,1,2),(0x0C,4,3)]
def p1 : Rec := Rec.build 64 [(0,4,1),(4,2,0),(7,1,2),(9,1,1),(0x0C,4,4)]
def p2 : Rec := Rec.build 64 [(0,4,2),(4,2,0xFFFF),(9,1,2)]
def p3 : Rec := Rec.build 64 [(0,4,3),(4,2,2047),(7,1,2),(0x0C,4,9)]
def pE : Rec := Rec.build 64 [(0,4,4),(4,2,0),(7,1,3),(0x0C,4,5)]
def fx : State := (({up with man := {up.man with cfg := [(7,[p0,p1,p2,p3,pE]),(8,[sA,sM])]}, net := {up.net with ports := [(0, Rec.build 64 [(1,1,1)])]}}).setFld (F.FPT_STA_STATE 0) 2).setFld (F.FPT_STA_STATE 2047) 2
def fr (l : Nat) : Rec := Rec.build 64 [(0,1,1),(1,1,0),(2,1,1),(3,1,15),(4,4,l),(8,2,50),(10,2,50),(12,2,60),(14,1,3),(15,1,2),(16,4,0x44FA0000)]
def ld (dim req out inh : Nat) : Rec := Rec.build 64 [(0,1,2),(1,1,0),(2,1,dim),(4,4,req),(8,4,out),(12,4,inh),(16,4,0x43FA0000),(20,4,0x43FA0000),(24,1,0),(25,1,4),(32,2,10),(34,2,10)]
def gv (m l : Nat) : State := let s := (fx.setFld F.GOV_CTRL_MODE m).wr Reg.PMK_FREQ 50000000
  let s := {s with man := {s.man with cfg := s.man.cfg.put 18 [fr l, ld 0 1 0 0xFFFFFFFF, ld 1 3 4 2]}, clk := {s.clk with cycle := 100}}
  {s with fab := {s.fab with points := [(1, {Point.new with value := 1}), (3, {Point.new with value := 0x42480000})]}, pms := {s.pms with frMux := 0x10001}}
def e0 (s : State) (m n : Nat) : EvLoad := theLoad ((s.evaluate m (fr 0x44FA0000)).1.drop n).head?
def gh : State := let s := gv 1 0x44FA0000; {s with fab := {s.fab with points := s.fab.points.put 2 {Point.new with value := 1}}}
def gm : State := let s := gv 1 0x44FA0000; s.setLoad 0 {Load.new with offPm := some (s.advance wh).pmNow}
def qq (lv old : Rat) (k : Nat) : GSw := ⟨0, 0, old, lv, k, false, 0, BitVec.ofNat 64 (120 * 2^20), 0, 500, 500⟩
def gq (lv old : Rat) : State := let s := gv 1 0x44FA0000; {s with gov := {s.gov with queue := [qq lv old 1]}}
def x_GovernorEvaluates_0 : State := gv 0 0x44FA0000
def x_GovernorEvaluates_1 : Rec := fr 0x44FA0000
def x_GovernorEvaluates_2 : State := gv 1 0x44FA0000
def x_GovernorEvaluates_52 : State := (gv 0 0x44FA0000).setFld F.MOD_DOMAINS_GOOD 0xFB
def x_GovernorEvaluates_53 : Rec := fr 0x44FA0000
def x_GovernorEvaluates_54 : State := (gv 1 0x44FA0000).setFld F.MOD_DOMAINS_GOOD 0xFB
def x_GrantsAndSwitchings_7 : State := (gv 1 0).advance wh
def x_GrantsAndSwitchings_8 : Rec := fr 0x44FA0000
def x_GrantsAndSwitchings_9 : EvLoad := e0 ((gv 1 0).advance wh) 1 0
def x_GrantsAndSwitchings_16 : State := (gh).advance wh
def x_GrantsAndSwitchings_17 : Rec := fr 0x44FA0000
def x_GrantsAndSwitchings_18 : EvLoad := e0 (gh.advance wh) 1 0
def x_GrantsAndSwitchings_19 : State := (gm).advance wh
def x_GrantsAndSwitchings_20 : Rec := fr 0x44FA0000
def x_GrantsAndSwitchings_21 : EvLoad := e0 (gm.advance wh) 1 1
def x_GrantsAndSwitchings_22 : State := (gh).advance wh
def x_GrantsAndSwitchings_23 : Rec := fr 0x44FA0000
def x_GrantsAndSwitchings_24 : EvLoad := e0 (gh.advance wh) 2 0
def x_GrantsAndSwitchings_28 : State := (gh).advance wh
def x_GrantsAndSwitchings_29 : Rec := fr 0x44FA0000
def x_GrantsAndSwitchings_30 : EvLoad := e0 (gh.advance wh) 2 1
def x_GrantsAndSwitchings_36 : Rec := ld 0 1 0 0xFFFFFFFF
def x_GrantsAndSwitchings_37 : GSw := qq 100 0 1
def x_GrantsAndSwitchings_38 : State := gq 100 0
def x_GrantsAndSwitchings_39 : Rec := ld 0 1 0 0xFFFFFFFF
def x_GrantsAndSwitchings_40 : GSw := qq 0 100 1
def x_GrantsAndSwitchings_41 : State := gq 0 100
def x_GrantsAndSwitchings_42 : Rec := ld 0 1 0 0xFFFFFFFF
def x_GrantsAndSwitchings_43 : GSw := qq 100 0 1
def x_GrantsAndSwitchings_44 : State := (gq 100 0).setFld (F.FPT_STA_STATE 0) 3
def x_GrantsAndSwitchings_48 : State := {gq 100 0 with pms := {(gq 100 0).pms with frMux := 0}}
def x_GrantsAndSwitchings_50 : State := gv 2 5
def x_GrantsAndSwitchings_51 : State := gv 2 5
def x_GrantsAndSwitchings_55 : State := (gv 1 5).setFld F.MOD_DOMAINS_GOOD 0xFB

/-- `Obligations.GovernorEvaluates`: its hypotheses are met, clause by clause. -/
theorem witness_GovernorEvaluates :
    ((State.advance wh x_GovernorEvaluates_0).good Dom.mtr = true ∧ (State.advance wh x_GovernorEvaluates_0).good
      Dom.fab = true ∧ (State.advance wh x_GovernorEvaluates_0).laneUp = true ∧ (State.advance wh
      x_GovernorEvaluates_0).armed = true ∧ (State.advance wh x_GovernorEvaluates_0).recs 18 ≠ [] ∧ (State.advance wh
      x_GovernorEvaluates_0).clk.cycle.toNat % 10 = 0 ∧ (State.advance wh x_GovernorEvaluates_0).gov.evalCycle ≠ some
      (State.advance wh x_GovernorEvaluates_0).clk.cycle.toNat ∧ (State.advance wh x_GovernorEvaluates_0).pwr.pfail =
      false ∧ (State.advance wh x_GovernorEvaluates_0).fld F.GOV_CTRL_MODE = 0 ∧ (State.advance wh
      x_GovernorEvaluates_0).good Dom.pmm = true) ∧
    ((State.advance wh x_GovernorEvaluates_2).good Dom.mtr = true ∧ (State.advance wh x_GovernorEvaluates_2).good
      Dom.fab = true ∧ (State.advance wh x_GovernorEvaluates_2).laneUp = true ∧ (State.advance wh
      x_GovernorEvaluates_2).armed = true ∧ (State.advance wh x_GovernorEvaluates_2).clk.cycle.toNat % 10 = 0 ∧
      (State.advance wh x_GovernorEvaluates_2).gov.evalCycle ≠ some (State.advance wh
      x_GovernorEvaluates_2).clk.cycle.toNat ∧ (State.advance wh x_GovernorEvaluates_2).pwr.pfail = false ∧
      (State.advance wh x_GovernorEvaluates_2).fld F.GOV_CTRL_MODE ≠ 0 ∧ (State.advance wh
      x_GovernorEvaluates_2).gov.fresh = none ∧ (State.advance wh x_GovernorEvaluates_2).govFdrs =
      [x_GovernorEvaluates_1] ∧ gvFeeder x_GovernorEvaluates_1 < 16 ∧ ((List.map (fun l => ldOut l.2) (State.advance wh
      x_GovernorEvaluates_2).govLoads).Nodup) ∧ (State.advance wh x_GovernorEvaluates_2).govLoads.length ≤ 4080 ∧
      (State.advance wh x_GovernorEvaluates_2).good Dom.pmm = true) ∧
    ((State.advance wh x_GovernorEvaluates_52).good Dom.mtr = true ∧ (State.advance wh x_GovernorEvaluates_52).good
      Dom.fab = true ∧ (State.advance wh x_GovernorEvaluates_52).laneUp = true ∧ (State.advance wh
      x_GovernorEvaluates_52).armed = true ∧ (State.advance wh x_GovernorEvaluates_52).recs 18 ≠ [] ∧ (State.advance wh
      x_GovernorEvaluates_52).clk.cycle.toNat % 10 = 0 ∧ (State.advance wh x_GovernorEvaluates_52).gov.evalCycle ≠ some
      (State.advance wh x_GovernorEvaluates_52).clk.cycle.toNat ∧ (State.advance wh x_GovernorEvaluates_52).pwr.pfail =
      false ∧ (State.advance wh x_GovernorEvaluates_52).fld F.GOV_CTRL_MODE = 0 ∧ (State.advance wh
      x_GovernorEvaluates_52).good Dom.pmm = false) ∧
    ((State.advance wh x_GovernorEvaluates_54).good Dom.mtr = true ∧ (State.advance wh x_GovernorEvaluates_54).good
      Dom.fab = true ∧ (State.advance wh x_GovernorEvaluates_54).laneUp = true ∧ (State.advance wh
      x_GovernorEvaluates_54).armed = true ∧ (State.advance wh x_GovernorEvaluates_54).clk.cycle.toNat % 10 = 0 ∧
      (State.advance wh x_GovernorEvaluates_54).gov.evalCycle ≠ some (State.advance wh
      x_GovernorEvaluates_54).clk.cycle.toNat ∧ (State.advance wh x_GovernorEvaluates_54).pwr.pfail = false ∧
      (State.advance wh x_GovernorEvaluates_54).fld F.GOV_CTRL_MODE ≠ 0 ∧ (State.advance wh
      x_GovernorEvaluates_54).gov.fresh = none ∧ (State.advance wh x_GovernorEvaluates_54).govFdrs =
      [x_GovernorEvaluates_53] ∧ gvFeeder x_GovernorEvaluates_53 < 16 ∧ ((List.map (fun l => ldOut l.2) (State.advance
      wh x_GovernorEvaluates_54).govLoads).Nodup) ∧ (State.advance wh x_GovernorEvaluates_54).govLoads.length ≤ 4080 ∧
      (State.advance wh x_GovernorEvaluates_54).good Dom.pmm = false) :=
  by constructorm* _ ∧ _ <;> decide +kernel

/-- `Obligations.GrantsAndSwitchings`: its hypotheses are met, clause by clause. -/
theorem witness_GrantsAndSwitchings :
    (x_GrantsAndSwitchings_9 ∈ (x_GrantsAndSwitchings_7.evaluate 1 x_GrantsAndSwitchings_8).1 ∧ (match ldInh
      x_GrantsAndSwitchings_9.r with | some p => !(x_GrantsAndSwitchings_7.point p).value == 0 | none => false) = false
      ∧ x_GrantsAndSwitchings_7.granted (ldOut x_GrantsAndSwitchings_9.r) < x_GrantsAndSwitchings_7.request
      x_GrantsAndSwitchings_9.n x_GrantsAndSwitchings_9.r ∧ x_GrantsAndSwitchings_7.minoffRuns x_GrantsAndSwitchings_9.r
      = false) ∧
    (x_GrantsAndSwitchings_18 ∈ (x_GrantsAndSwitchings_16.evaluate 1 x_GrantsAndSwitchings_17).1 ∧ (match ldInh
      x_GrantsAndSwitchings_18.r with | some p => !(x_GrantsAndSwitchings_16.point p).value == 0 | none => false) =
      true) ∧
    (x_GrantsAndSwitchings_21 ∈ (x_GrantsAndSwitchings_19.evaluate 1 x_GrantsAndSwitchings_20).1 ∧ (match ldInh
      x_GrantsAndSwitchings_21.r with | some p => !(x_GrantsAndSwitchings_19.point p).value == 0 | none => false) =
      false ∧ x_GrantsAndSwitchings_19.granted (ldOut x_GrantsAndSwitchings_21.r) < x_GrantsAndSwitchings_19.request
      x_GrantsAndSwitchings_21.n x_GrantsAndSwitchings_21.r ∧ x_GrantsAndSwitchings_19.minoffRuns
      x_GrantsAndSwitchings_21.r = true) ∧
    (x_GrantsAndSwitchings_24 ∈ (x_GrantsAndSwitchings_22.evaluate 2 x_GrantsAndSwitchings_23).1 ∧
      x_GrantsAndSwitchings_24.inh = false) ∧
    (x_GrantsAndSwitchings_30 ∈ (x_GrantsAndSwitchings_28.evaluate 2 x_GrantsAndSwitchings_29).1 ∧
      x_GrantsAndSwitchings_30.inh = true ∧ 0 ≤ ldDimmin x_GrantsAndSwitchings_30.r ∧ 0 ≤ ldGuarlvl
      x_GrantsAndSwitchings_30.r) ∧
    ((List.find? (fun l => l.1 == 0) (State.advance wh x_GrantsAndSwitchings_38).govLoads = some (0,
      x_GrantsAndSwitchings_36)) ∧ (List.find? (fun q => q.outpt == ldOut x_GrantsAndSwitchings_36) (State.advance wh
      x_GrantsAndSwitchings_38).gov.queue = some x_GrantsAndSwitchings_37) ∧ (State.advance wh
      x_GrantsAndSwitchings_38).ptRec x_GrantsAndSwitchings_37.outpt = some p0 ∧ (State.advance wh
      x_GrantsAndSwitchings_38).staRec (ptStation p0) = some sA ∧ (State.advance wh x_GrantsAndSwitchings_38).good
      Dom.fab = true ∧ (State.advance wh x_GrantsAndSwitchings_38).good Dom.mtr = true ∧ (State.advance wh
      x_GrantsAndSwitchings_38).pms.frMux ≠ 0 ∧ BitVec.toNat (State.advance wh x_GrantsAndSwitchings_38).pmNow + 2 ^ 20
      ≤ BitVec.toNat x_GrantsAndSwitchings_37.target ∧ (State.advance wh x_GrantsAndSwitchings_38).sendsNow
      x_GrantsAndSwitchings_37 = true ∧ (State.advance wh x_GrantsAndSwitchings_38).stationTakes
      x_GrantsAndSwitchings_37 = true ∧ x_GrantsAndSwitchings_37.level ≠ 0 ∧ x_GrantsAndSwitchings_37.old = 0) ∧
    ((List.find? (fun l => l.1 == 0) (State.advance wh x_GrantsAndSwitchings_41).govLoads = some (0,
      x_GrantsAndSwitchings_39)) ∧ (List.find? (fun q => q.outpt == ldOut x_GrantsAndSwitchings_39) (State.advance wh
      x_GrantsAndSwitchings_41).gov.queue = some x_GrantsAndSwitchings_40) ∧ (State.advance wh
      x_GrantsAndSwitchings_41).ptRec x_GrantsAndSwitchings_40.outpt = some p0 ∧ (State.advance wh
      x_GrantsAndSwitchings_41).staRec (ptStation p0) = some sA ∧ (State.advance wh x_GrantsAndSwitchings_41).good
      Dom.fab = true ∧ (State.advance wh x_GrantsAndSwitchings_41).good Dom.mtr = true ∧ (State.advance wh
      x_GrantsAndSwitchings_41).pms.frMux ≠ 0 ∧ BitVec.toNat (State.advance wh x_GrantsAndSwitchings_41).pmNow + 2 ^ 20
      ≤ BitVec.toNat x_GrantsAndSwitchings_40.target ∧ (State.advance wh x_GrantsAndSwitchings_41).sendsNow
      x_GrantsAndSwitchings_40 = true ∧ (State.advance wh x_GrantsAndSwitchings_41).stationTakes
      x_GrantsAndSwitchings_40 = true ∧ x_GrantsAndSwitchings_40.level = 0) ∧
    ((List.find? (fun l => l.1 == 0) (State.advance wh x_GrantsAndSwitchings_44).govLoads = some (0,
      x_GrantsAndSwitchings_42)) ∧ (List.find? (fun q => q.outpt == ldOut x_GrantsAndSwitchings_42) (State.advance wh
      x_GrantsAndSwitchings_44).gov.queue = some x_GrantsAndSwitchings_43) ∧ (State.advance wh
      x_GrantsAndSwitchings_44).ptRec x_GrantsAndSwitchings_43.outpt = some p0 ∧ ((State.advance wh
      x_GrantsAndSwitchings_44).staState (ptStation p0) ≠ saONLINE ∨ 16 ≤ (List.filter (fun t => decide ((State.advance
      wh x_GrantsAndSwitchings_44).pmNow < t)) ((State.advance wh x_GrantsAndSwitchings_44).sta (ptStation
      p0)).tpms).length)) ∧
    (State.advance wh x_GrantsAndSwitchings_48).pms.frMux = 0 ∧
    (2 < 3 ∧ (State.advance wh x_GrantsAndSwitchings_50).refuse ins Reg.GOV_CTRL (n2w 2) = none ∧ 2 = (State.advance
      wh x_GrantsAndSwitchings_50).fld F.GOV_CTRL_MODE) ∧
    (State.advance wh x_GrantsAndSwitchings_51).refuse ins Reg.GOV_CTRL 3 = none ∧
    (2 < 3 ∧ (State.advance wh x_GrantsAndSwitchings_55).refuse ins Reg.GOV_CTRL (n2w 2) = none ∧ 2 ≠ (State.advance
      wh x_GrantsAndSwitchings_55).fld F.GOV_CTRL_MODE ∧ (State.advance wh x_GrantsAndSwitchings_55).good Dom.pmm =
      false) :=
  by constructorm* _ ∧ _ <;> decide +kernel

end WH

/-! ### Lanes and pairs -/

namespace WI

def eu : State := (({up with pms := {up.pms with epoch := ⟨.valid 1 7, .blank⟩, frMux := 0x701, frCle := 0x701, frPulse := 0x701}}.wr Reg.PMS_FRANK 0x701).setFld F.PMS_STATUS_HOLDER 1)
def eg : State := eu
def tv : State := nx (.faultLineReport wh .a .selfTest 900000000 55) eg
def ch (s : State) : Change := s.pms.change.getD ⟨0,0,0,0,0,0,false,(0,0)⟩
def tv3 : State := {tv with pms := {tv.pms with epoch := ⟨.valid 1 0xFFFFFF, .blank⟩}}
def ho0 : State := (((eg.setFld (F.MOD_IMG_SLOT0_STATE 1) 3)).setFld F.KEY_STATUS_LC 2)
def ho : State := nx (.pmsHandover wh mk 1) ho0
def td : State := {eg with pms := {eg.pms with testDue := [(2, 5)]}}
def tt : State := nx (.spareTestStart wh) td
def hb : State := nx (.laneBootDone (la 9) true) ho
def pa (r : Nat) : State := eg.setFld F.PMS_PAIRSTAT_ROLE r
def pp (r : Nat) (f : Pair → Pair) : State := let s := pa r; {s with pms := {s.pms with pair := f s.pms.pair}}
def ptn : State := ((pp 2 fun p => {p with heardNs := 990000000}).setFld F.PMS_STATUS_ACTIVE 0).setFld (F.PMS_LANE_STATE 0) 0
def ps1 : State := nx (.leaseRequestReceived wh ⟨7, true, 5⟩) ptn
def ps2 : State := nx (.laneBootDone (la 5) true) ps1
def ps3 : State := nx (.pairStreamReceive (la 12) (.handover [])) (nx (.grantReceived (la 9) 3) ps2)
def pr : State := nx (.postmasterRestart (la 20) 1) eg
def prl : State := nx (.faultLineReport (la 25) .a .heartbeat 1 2) pr
def wi (h : Nat) : State := (pp 4 fun p => {p with heardNs := h}).setFld F.PMS_PAIRCFG_WITNESS 1
def ckb : Ckpt := ⟨0, 0x701, 77, 8, [(3,5)], [(0,3)], 9, 8, 7⟩
def sl5 : CkSlots := ⟨⟨.valid 1 ckb, .blank⟩, ⟨.blank, .blank⟩⟩
def pj : State := (((eg.wr Reg.MOD_MAN_REV 5).wr Reg.PMS_PAIR_PEER 1).wr Reg.PMS_PAIR_WIT 2).setFld (F.MOD_MAN_SLOT_STATE 0) 3
def noImg : State := (List.range 4).foldl (fun s n => s.setFld (F.MOD_IMG_SLOT0_STATE n) 1) tv
def x_LaneFailure_0 : State := {eg with pms := {eg.pms with hbNs := 999999999}}
def x_LaneFailure_1 : State := {eg with pms := {eg.pms with restart := some (1, 5)}}
def x_LaneFailure_16 : When := la 9
def x_LaneFailure_20 : When := la 9
def x_LaneFailure_21 : Change := ⟨0,0,5,6,7,0,false,(0,0)⟩
def x_LaneFailure_22 : State := {tt with pms := {tt.pms with change := some ⟨0,0,5,6,7,0,false,(0,0)⟩}}
def x_LaneFailure_25 : State := (eg.setFld F.PMS_STATUS_NOCOVER 1).setFld F.PMS_STATUS_NOCAUSE 2
def x_LaneFailure_26 : State := (tv.setFld F.PMS_STATUS_NOCOVER 1).setFld F.PMS_STATUS_NOCAUSE 4
def x_LaneFailure_88 : State := (ho0.setFld (F.MOD_IMG_SLOT0_STATE 1) 1)
def x_TakeoverEnds_2 : When := la 9
def x_TakeoverEnds_3 : Change := ch tv
def x_TakeoverEnds_4 : When := la 9
def x_TakeoverEnds_5 : Change := ch tv
def x_TakeoverEnds_6 : State := tv.setFld F.MOD_DOMAINS_GOOD (tv.fld F.MOD_DOMAINS_GOOD - 4)
def x_TakeoverEnds_7 : When := la 9
def x_TakeoverEnds_8 : Change := ch tv
def x_TakeoverEnds_9 : When := la 9
def x_TakeoverEnds_10 : Change := ch ho
def x_TakeoverEnds_11 : When := la 9
def x_TakeoverEnds_12 : Change := ch tv
def x_TakeoverEnds_89 : When := la 9
def x_TakeoverEnds_90 : Change := ch tv
def x_HandoverAndRestart_27 : When := la 20
def x_HandoverAndRestart_28 : Change := ch hb
def x_HandoverAndRestart_29 : When := la 20
def x_HandoverAndRestart_30 : State := (pp 1 fun p => {p with swap := true, peerReady := true}).setFld F.PMS_STATUS_PHASE 3
def x_HandoverAndRestart_31 : When := la 20
def x_HandoverAndRestart_32 : State := (pp 1 fun p => {p with swap := true}).setFld F.PMS_STATUS_PHASE 3
def x_HandoverAndRestart_33 : When := la 20
def x_HandoverAndRestart_34 : Change := ch ps3
def x_HandoverAndRestart_35 : List Rerun := []
def x_HandoverAndRestart_36 : When := la 20
def x_HandoverAndRestart_39 : When := la 30
def x_HandoverAndRestart_40 : When := la 30
def x_PairedModules_41 : State := pp 1 fun p => {p with sent := [(3, 5), (4, 990000000)]}
def x_PairedModules_42 : Nat × Nat := (4, 990000000)
def x_PairedModules_43 : State := pp 1 fun p => {p with sent := [(3, 5), (4, 990000000)]}
def x_PairedModules_44 : LeaseFrom := .partner true 5
def x_PairedModules_45 : Nat × Nat := (4, 990000000)
def x_PairedModules_46 : State := pp 1 fun p => {p with sent := [(3, 5), (4, 990000000)], confNo := 9}
def x_PairedModules_47 : LeaseFrom := .partner true 5
def x_PairedModules_48 : Nat × Nat := (4, 990000000)
def x_PairedModules_49 : State := pp 1 fun p => {p with sent := [(3, 5), (4, 990000000)], confNo := 3}
def x_PairedModules_52 : State := pp 1 fun p => {p with sent := [(3, 5), (4, 990000000)]}
def x_PairedModules_53 : State := wi 5
def x_PairedModules_56 : State := pp 2 fun p => {p with heardNs := 970000000}
def x_PairedModules_57 : State := pp 2 fun p => {p with heardNs := 970000001}
def x_PairedModules_59 : State := wi 970000000
def x_PairedModules_61 : State := wi 970000001
def x_PairedModules_62 : State := ((pa 1).setFld F.PMS_STATUS_NOCOVER 1).setFld F.PMS_STATUS_NOCAUSE 4
def x_PairedModules_63 : State := pp 1 fun p => {p with block := some 0}
def x_PairedModules_64 : State := pp 1 fun p => {p with confNs := 940000000}
def x_PairedModules_65 : State := pp 1 fun p => {p with confNs := 940000001}
def x_PairedModules_66 : State := (pp 2 fun p => {p with repl := [(5, sl5)]}).setFld F.PMS_STATUS_ACTIVE 0
def x_PairedModules_68 : When := la 9
def x_PairedModules_69 : State := (pa 3).setFld F.PMS_STATUS_ACTIVE 0
def x_PairedModules_71 : State := (pp 2 fun p => {p with repl := [(5, sl5)]})
def x_PairedModules_73 : State := pa 2
def x_PairedModules_75 : State := pa 2
def x_PairedModules_77 : When := la 9
def x_PairedModules_79 : State := pa 2
def x_PairedModules_81 : State := (pa 1).setFld F.PMS_PAIRSTAT_LAG 3
def x_PairedModules_83 : State := (pa 2)
def x_PairedModules_86 : State := pp 1 fun p => {p with witNs := some 990000000, peerNs := some 990000000, lagNs := some 5000000}

/-- `Obligations.LaneFailure`: its hypotheses are met, clause by clause. -/
theorem witness_LaneFailure :
    (State.advance wh eu).laneUp = true ∧
    ((State.advance wh eg).good Dom.ref = true ∧ (State.advance wh eg).goodN (6 + laneNum Lane.a) = true ∧
      (State.advance wh eg).pwr.pfail = false ∧ (State.advance wh eg).pms.restart = none ∧ (State.advance wh
      eg).laneState (laneNum Lane.a) = 4 ∧ (State.advance wh eg).pms.change = none ∧ (State.advance wh eg).retiring =
      false ∧ (State.advance wh eg).laneState (otherLane (laneNum Lane.a)) ≠ 5 ∧ ((State.advance wh eg).flag
      F.PMS_STATUS_NOCOVER = false ∨ (State.advance wh eg).fld F.PMS_STATUS_NOCAUSE ≠ 2) ∧ (State.advance wh
      eg).pms.hbNs + 3000000 ≤ (State.advance wh eg).ns) ∧
    (((State.advance wh eg).laneState (laneNum Lane.a) ≠ 4 ∨ (State.advance wh eg).pms.hbNs + 3000000 ≤ (State.advance
      wh eg).ns) ∧ (State.advance wh eg).laneState (laneNum Lane.a) = 4) ∧
    ((State.advance wh x_LaneFailure_0).laneState (laneNum Lane.a) = 4 ∧ (State.advance wh x_LaneFailure_0).ns <
      (State.advance wh x_LaneFailure_0).pms.hbNs + 3000000) ∧
    ((State.advance wh x_LaneFailure_1).pwr.pfail = false ∧ (State.advance wh x_LaneFailure_1).good Dom.ref = true ∧
      (State.advance wh x_LaneFailure_1).goodN (6 + laneNum Lane.a) = true ∧ (State.advance wh
      x_LaneFailure_1).pms.restart ≠ none) ∧
    (((State.advance wh eg).pwr.pfail = true ∨ (State.advance wh eg).good Dom.ref = false ∨ (State.advance wh
      eg).goodN (6 + laneNum Lane.b) = false) ∧ (State.advance wh eg).pwr.pfail = false ∧ (State.advance wh eg).good
      Dom.ref = true) ∧
    (State.advance wh eu).laneUp = true ∧
    ((List.find? (fun l => (State.advance wh td).testIsDue l && (State.advance wh td).testable l) [1, 2] = some 2) ∧
      (State.advance wh td).good Dom.ref = true ∧ (State.advance wh td).pms.restart = none ∧ (State.advance wh
      td).pwr.pfail = false ∧ (State.advance wh td).drives = true) ∧
    ((State.advance x_LaneFailure_16 tt).laneState (laneNum Lane.b) = 1 ∧ (∀ (c : Change), (State.advance
      x_LaneFailure_16 tt).pms.change = some c → c.incoming ≠ 0)) ∧
    ((State.advance x_LaneFailure_20 x_LaneFailure_22).laneState (laneNum Lane.b) = 1 ∧ (State.advance
      x_LaneFailure_20 x_LaneFailure_22).pms.change = some x_LaneFailure_21 ∧ x_LaneFailure_21.incoming = 0 ∧ 2 ≠ 0) ∧
    ((State.advance wh eg).refuse mk Reg.PMS_CTRL (pmsCmd 2 0) = none ∧ (2 = if (State.advance wh eg).lane = 1 then 2
      else 1) ∧ (State.advance wh eg).pms.change = none ∧ (State.advance wh eg).fld F.PMS_STATUS_PHASE = 0 ∧
      (State.advance wh eg).testable 2 = true) ∧
    ((State.advance wh tv).refuse mk Reg.PMS_CTRL (pmsCmd 2 0) = none ∧ (1 = if (State.advance wh tv).lane = 1 then 2
      else 1) ∧ ((State.advance wh tv).pms.change ≠ none ∨ (State.advance wh tv).fld F.PMS_STATUS_PHASE ≠ 0 ∨
      (State.advance wh tv).testable 1 = false)) ∧
    (1 < 4 ∧ (State.advance wh ho0).refuse mk Reg.PMS_CTRL (pmsCmd 1 1) = none ∧ (State.advance wh ho0).handoverOk 1 =
      true ∧ (State.advance wh ho0).lane ≤ 2) ∧
    ((State.advance wh x_LaneFailure_25).refuse mk Reg.PMS_CTRL (pmsCmd 3 0) = none ∧ ((State.advance wh
      x_LaneFailure_25).fld F.PMS_STATUS_NOCAUSE = 1 ∨ (State.advance wh x_LaneFailure_25).fld F.PMS_STATUS_NOCAUSE = 2)
      ∧ (State.advance wh x_LaneFailure_25).fld F.PMS_STATUS_NOCAUSE ≠ 1) ∧
    ((State.advance wh x_LaneFailure_26).refuse mk Reg.PMS_CTRL (pmsCmd 3 0) = none ∧ (State.advance wh
      x_LaneFailure_26).fld F.PMS_STATUS_NOCAUSE ≠ 1 ∧ (State.advance wh x_LaneFailure_26).fld F.PMS_STATUS_NOCAUSE ≠ 2) ∧
    (1 < 4 ∧ (State.advance wh x_LaneFailure_88).refuse mk Reg.PMS_CTRL (pmsCmd 1 1) = none ∧ (State.advance wh
      x_LaneFailure_88).handoverOk 1 = false) :=
  by constructorm* _ ∧ _ <;> decide +kernel

/-- `Obligations.TakeoverEnds`: its hypotheses are met, clause by clause. -/
theorem witness_TakeoverEnds :
    ((State.advance x_TakeoverEnds_2 tv).pms.change = some x_TakeoverEnds_3 ∧ (x_TakeoverEnds_3.incoming = 1 ∨
      x_TakeoverEnds_3.incoming = 2) ∧ (State.advance x_TakeoverEnds_2 tv).laneState x_TakeoverEnds_3.incoming = 2 ∧
      (State.advance x_TakeoverEnds_2 tv).pms.restart = none ∧ (State.advance x_TakeoverEnds_2 tv).pwr.pfail = false ∧
      (State.advance x_TakeoverEnds_2 tv).pms.romWait = 0 ∧ ((State.advance x_TakeoverEnds_2 tv).fld F.PMS_STATUS_PHASE
      = 1 ∨ (State.advance x_TakeoverEnds_2 tv).fld F.PMS_STATUS_PHASE = 3 ∧ (State.advance x_TakeoverEnds_2
      tv).pairRole = 1) ∧ (State.advance x_TakeoverEnds_2 tv).nextEpoch = some 8 ∧ (State.advance x_TakeoverEnds_2
      tv).good Dom.pmm = true ∧ Settled (State.advance x_TakeoverEnds_2 tv) ∧ (State.advance x_TakeoverEnds_2
      tv).man.arm = none) ∧
    ((State.advance x_TakeoverEnds_4 x_TakeoverEnds_6).pms.change = some x_TakeoverEnds_5 ∧ (x_TakeoverEnds_5.incoming
      = 1 ∨ x_TakeoverEnds_5.incoming = 2) ∧ (State.advance x_TakeoverEnds_4 x_TakeoverEnds_6).laneState
      x_TakeoverEnds_5.incoming = 2 ∧ (State.advance x_TakeoverEnds_4 x_TakeoverEnds_6).pms.restart = none ∧
      (State.advance x_TakeoverEnds_4 x_TakeoverEnds_6).pwr.pfail = false ∧ (State.advance x_TakeoverEnds_4
      x_TakeoverEnds_6).pms.romWait = 0 ∧ ((State.advance x_TakeoverEnds_4 x_TakeoverEnds_6).fld F.PMS_STATUS_PHASE = 1
      ∨ (State.advance x_TakeoverEnds_4 x_TakeoverEnds_6).fld F.PMS_STATUS_PHASE = 3 ∧ (State.advance x_TakeoverEnds_4
      x_TakeoverEnds_6).pairRole = 1) ∧ (State.advance x_TakeoverEnds_4 x_TakeoverEnds_6).good Dom.pmm = false) ∧
    ((State.advance x_TakeoverEnds_7 tv3).pms.change = some x_TakeoverEnds_8 ∧ (x_TakeoverEnds_8.incoming = 1 ∨
      x_TakeoverEnds_8.incoming = 2) ∧ (State.advance x_TakeoverEnds_7 tv3).laneState x_TakeoverEnds_8.incoming = 2 ∧
      (State.advance x_TakeoverEnds_7 tv3).pms.restart = none ∧ (State.advance x_TakeoverEnds_7 tv3).pwr.pfail = false ∧
      (State.advance x_TakeoverEnds_7 tv3).pms.romWait = 0 ∧ ((State.advance x_TakeoverEnds_7 tv3).fld
      F.PMS_STATUS_PHASE = 1 ∨ (State.advance x_TakeoverEnds_7 tv3).fld F.PMS_STATUS_PHASE = 3 ∧ (State.advance
      x_TakeoverEnds_7 tv3).pairRole = 1) ∧ (State.advance x_TakeoverEnds_7 tv3).good Dom.pmm = true ∧ (State.advance
      x_TakeoverEnds_7 tv3).nextEpoch = none) ∧
    ((State.advance x_TakeoverEnds_9 ho).pms.change = some x_TakeoverEnds_10 ∧ (x_TakeoverEnds_10.incoming = 1 ∨
      x_TakeoverEnds_10.incoming = 2) ∧ (State.advance x_TakeoverEnds_9 ho).laneState x_TakeoverEnds_10.incoming = 2 ∧
      (State.advance x_TakeoverEnds_9 ho).pms.restart = none ∧ (State.advance x_TakeoverEnds_9 ho).pwr.pfail = false ∧
      (State.advance x_TakeoverEnds_9 ho).pms.romWait = 0 ∧ (State.advance x_TakeoverEnds_9 ho).fld F.PMS_STATUS_PHASE ≠
      1 ∧ ((State.advance x_TakeoverEnds_9 ho).fld F.PMS_STATUS_PHASE = 3 → (State.advance x_TakeoverEnds_9 ho).pairRole
      ≠ 1)) ∧
    ((State.advance x_TakeoverEnds_11 tv).pms.change = some x_TakeoverEnds_12 ∧ x_TakeoverEnds_12.incoming = laneNum
      Lane.b ∧ (State.advance x_TakeoverEnds_11 tv).laneState x_TakeoverEnds_12.incoming = 2 ∧ (State.advance
      x_TakeoverEnds_11 tv).pms.restart = none ∧ (State.advance x_TakeoverEnds_11 tv).pwr.pfail = false ∧ (State.advance
      x_TakeoverEnds_11 tv).pms.romWait = 0 ∧ (State.advance x_TakeoverEnds_11 tv).imgTable = true ∧ (State.advance
      x_TakeoverEnds_11 tv).good Dom.ref = true ∧ (State.advance x_TakeoverEnds_11 tv).goodN (6 + laneNum Lane.b) =
      true) ∧
    ((State.advance x_TakeoverEnds_89 noImg).pms.change = some x_TakeoverEnds_90 ∧ x_TakeoverEnds_90.incoming =
      laneNum Lane.b ∧ (State.advance x_TakeoverEnds_89 noImg).laneState x_TakeoverEnds_90.incoming = 2 ∧ (State.advance
      x_TakeoverEnds_89 noImg).pms.restart = none ∧ (State.advance x_TakeoverEnds_89 noImg).pwr.pfail = false ∧
      (State.advance x_TakeoverEnds_89 noImg).pms.romWait = 0 ∧ (State.advance x_TakeoverEnds_89 noImg).imgTable =
      false) :=
  by constructorm* _ ∧ _ <;> (try unfold Settled) <;> decide +kernel

/-- `Obligations.HandoverAndRestart`: its hypotheses are met, clause by clause. -/
theorem witness_HandoverAndRestart :
    (((State.advance x_HandoverAndRestart_27 hb).pms.restart = none ∧ (State.advance x_HandoverAndRestart_27
      hb).pwr.pfail = false ∧ (State.advance x_HandoverAndRestart_27 hb).laneUp = true ∧ (State.advance
      x_HandoverAndRestart_27 hb).handoverDue = true ∧ (State.advance x_HandoverAndRestart_27 hb).pms.change = some
      x_HandoverAndRestart_28 ∧ (State.advance x_HandoverAndRestart_27 hb).laneState x_HandoverAndRestart_28.incoming =
      3 ∧ (State.advance x_HandoverAndRestart_27 hb).pairRole ≠ 2 ∧ (x_HandoverAndRestart_28.incoming = 1 ∨
      x_HandoverAndRestart_28.incoming = 2) ∧ x_HandoverAndRestart_28.outgoing = otherLane
      x_HandoverAndRestart_28.incoming ∧ (State.advance x_HandoverAndRestart_27 hb).nextEpoch = some 8 ∧ (State.advance
      x_HandoverAndRestart_27 hb).pms.epoch.use? ≠ none ∧ (State.advance x_HandoverAndRestart_27 hb).good Dom.pmm = true
      ∧ Settled (State.advance x_HandoverAndRestart_27 hb) ∧ (State.advance x_HandoverAndRestart_27 hb).prog.fwPend =
      []) ∧
    ((State.advance x_HandoverAndRestart_29 x_HandoverAndRestart_30).pms.restart = none ∧ (State.advance
      x_HandoverAndRestart_29 x_HandoverAndRestart_30).pwr.pfail = false ∧ (State.advance x_HandoverAndRestart_29
      x_HandoverAndRestart_30).laneUp = true ∧ (State.advance x_HandoverAndRestart_29
      x_HandoverAndRestart_30).handoverDue = true ∧ (State.advance x_HandoverAndRestart_29
      x_HandoverAndRestart_30).pms.change = none ∧ (State.advance x_HandoverAndRestart_29
      x_HandoverAndRestart_30).pms.pair.swap = true ∧ (State.advance x_HandoverAndRestart_29
      x_HandoverAndRestart_30).pms.pair.peerReady = true) ∧
    ((State.advance x_HandoverAndRestart_31 x_HandoverAndRestart_32).pms.restart = none ∧ (State.advance
      x_HandoverAndRestart_31 x_HandoverAndRestart_32).pwr.pfail = false ∧ (State.advance x_HandoverAndRestart_31
      x_HandoverAndRestart_32).laneUp = true ∧ (State.advance x_HandoverAndRestart_31
      x_HandoverAndRestart_32).handoverDue = true ∧ (State.advance x_HandoverAndRestart_31
      x_HandoverAndRestart_32).pms.change = none ∧ (State.advance x_HandoverAndRestart_31
      x_HandoverAndRestart_32).pms.pair.swap = true ∧ (State.advance x_HandoverAndRestart_31
      x_HandoverAndRestart_32).pms.pair.peerReady = false) ∧
    ((State.advance x_HandoverAndRestart_33 ps3).pms.restart = none ∧ (State.advance x_HandoverAndRestart_33
      ps3).pwr.pfail = false ∧ (State.advance x_HandoverAndRestart_33 ps3).swapLane? = some x_HandoverAndRestart_34 ∧
      (x_HandoverAndRestart_34.incoming = 1 ∨ x_HandoverAndRestart_34.incoming = 2) ∧ (State.advance
      x_HandoverAndRestart_33 ps3).pms.pair.grant = some 3 ∧ (State.advance x_HandoverAndRestart_33 ps3).pms.pair.again
      = some x_HandoverAndRestart_35 ∧ (State.advance x_HandoverAndRestart_33 ps3).pms.epoch.use? = some (1, 7) ∧
      epochIn (7 + 1) 3 = some 12288 ∧ (State.advance x_HandoverAndRestart_33 ps3).good Dom.pmm = true ∧ Settled
      (State.advance x_HandoverAndRestart_33 ps3)) ∧
    ((State.advance x_HandoverAndRestart_36 eg).good Dom.ref = true ∧ (State.advance x_HandoverAndRestart_36
      eg).pms.restart = none ∧ (State.advance x_HandoverAndRestart_36 eg).pwr.pfail = false ∧ 1 ≤ 1 ∧ 1 ≤ 3 ∧
      (State.advance x_HandoverAndRestart_36 eg).ctr.long = none) ∧
    ((State.advance x_HandoverAndRestart_39 pr).pms.restart = some (1, 1000000020) ∧ (State.advance
      x_HandoverAndRestart_39 pr).good Dom.ref = true ∧ (State.advance x_HandoverAndRestart_39 pr).pmHashOk
      ((State.advance x_HandoverAndRestart_39 pr).fld F.MOD_IMG_USE_PM) = true ∧ (State.advance x_HandoverAndRestart_39
      pr).pms.latch = [] ∧ ((State.advance x_HandoverAndRestart_39 pr).laneUp = false ∨ (State.advance
      x_HandoverAndRestart_39 pr).frankAgrees = true) ∧ (State.advance x_HandoverAndRestart_39 pr).fld
      F.PMS_STATUS_PHASE ≠ 1 ∧ (State.advance x_HandoverAndRestart_39 pr).man.arm = none) ∧
    ((State.advance x_HandoverAndRestart_40 prl).pms.restart = some (1, 1000000020) ∧ (State.advance
      x_HandoverAndRestart_40 prl).good Dom.ref = true ∧ (State.advance x_HandoverAndRestart_40 prl).pmHashOk
      ((State.advance x_HandoverAndRestart_40 prl).fld F.MOD_IMG_USE_PM) = true ∧ (State.advance x_HandoverAndRestart_40
      prl).pms.latch = [(1, 1, 1, 2)] ∧ (1 = 1 ∨ 1 = 2) ∧ (State.advance x_HandoverAndRestart_40 prl).laneState 1 = 4 ∧
      (State.advance x_HandoverAndRestart_40 prl).retiring = false ∧ ((State.advance x_HandoverAndRestart_40 prl).laneUp
      = false ∨ (State.advance x_HandoverAndRestart_40 prl).frankAgrees = true) ∧ (State.advance x_HandoverAndRestart_40
      prl).pms.change = none ∧ (State.advance x_HandoverAndRestart_40 prl).laneState (otherLane 1) ≠ 5)) ∧
    (∀ (n : Nat), ((State.advance x_HandoverAndRestart_27 hb).task n).phase ≠ TPhase.committing) ∧
    (∀ (n : Nat), ((State.advance x_HandoverAndRestart_29 x_HandoverAndRestart_30).task n).phase ≠ TPhase.committing) ∧
    (∀ (n : Nat), ((State.advance x_HandoverAndRestart_31 x_HandoverAndRestart_32).task n).phase ≠ TPhase.committing) :=
  ⟨by constructorm* _ ∧ _ <;> (try unfold Settled) <;> decide +kernel,
   State.task_all (P := fun k => k.phase ≠ TPhase.committing) (by decide) (by decide +kernel),
   State.task_all (P := fun k => k.phase ≠ TPhase.committing) (by decide) (by decide +kernel),
   State.task_all (P := fun k => k.phase ≠ TPhase.committing) (by decide) (by decide +kernel)⟩

/-- `Obligations.PairedModules`: its hypotheses are met, clause by clause. -/
theorem witness_PairedModules :
    ((State.advance wh x_PairedModules_41).good Dom.ref = true ∧ (State.advance wh x_PairedModules_41).pms.restart =
      none ∧ (State.advance wh x_PairedModules_41).pairRole = 1) ∧
    ((LeaseFrom.witness = LeaseFrom.witness ∨ LeaseFrom.witness = LeaseFrom.partner false 0) ∧ (State.advance wh
      x_PairedModules_43).good Dom.ref = true ∧ (State.advance wh x_PairedModules_43).pms.restart = none ∧
      (State.advance wh x_PairedModules_43).pairRole = 1 ∧ (List.find? (fun e => e.1 == 4 && decide ((State.advance wh
      x_PairedModules_43).ns ≤ e.2 + 40000000)) (State.advance wh x_PairedModules_43).pms.pair.sent = some
      x_PairedModules_42) ∧ (LeaseFrom.witness = LeaseFrom.partner false 0 → false = true ∧ false = true) ∧
      (State.advance wh x_PairedModules_43).pms.pair.confNo < 4) ∧
    ((x_PairedModules_44 = LeaseFrom.witness ∨ x_PairedModules_44 = LeaseFrom.partner true 5) ∧ (State.advance wh
      x_PairedModules_46).good Dom.ref = true ∧ (State.advance wh x_PairedModules_46).pms.restart = none ∧
      (State.advance wh x_PairedModules_46).pairRole = 1 ∧ (List.find? (fun e => e.1 == 4 && decide ((State.advance wh
      x_PairedModules_46).ns ≤ e.2 + 40000000)) (State.advance wh x_PairedModules_46).pms.pair.sent = some
      x_PairedModules_45) ∧ (x_PairedModules_44 = LeaseFrom.partner true 5 → true = true ∧ true = true) ∧ 4 ≤
      (State.advance wh x_PairedModules_46).pms.pair.confNo ∧ x_PairedModules_44 = LeaseFrom.partner true 5) ∧
    ((x_PairedModules_47 = LeaseFrom.witness ∨ x_PairedModules_47 = LeaseFrom.partner true 5) ∧ (State.advance wh
      x_PairedModules_49).good Dom.ref = true ∧ (State.advance wh x_PairedModules_49).pms.restart = none ∧
      (State.advance wh x_PairedModules_49).pairRole = 1 ∧ (List.find? (fun e => e.1 == 4 && decide ((State.advance wh
      x_PairedModules_49).ns ≤ e.2 + 40000000)) (State.advance wh x_PairedModules_49).pms.pair.sent = some
      x_PairedModules_48) ∧ x_PairedModules_47 = LeaseFrom.partner true 5 ∧ (true = false ∨ false = false)) ∧
    (∀ e ∈ (State.advance wh x_PairedModules_52).pms.pair.sent, e.1 ≠ 3 ∨ e.2 + 40000000 < (State.advance wh
      x_PairedModules_52).ns) ∧
    ((State.advance wh x_PairedModules_53).good Dom.ref = true ∧ (State.advance wh x_PairedModules_53).pms.restart =
      none ∧ (State.advance wh x_PairedModules_53).pairRole ≠ 2 ∧ (State.advance wh x_PairedModules_53).flag
      F.PMS_PAIRCFG_WITNESS = true) ∧
    ((State.advance wh ptn).good Dom.ref = true ∧ (State.advance wh ptn).pms.restart = none ∧ (State.advance wh
      ptn).pairRole = 2 ∧ (State.advance wh ptn).pwr.pfail = false ∧ (State.advance wh ptn).pms.change = none ∧
      (State.advance wh ptn).laneState 1 ≠ 5 ∧ (State.advance wh ptn).laneState 2 ≠ 5) ∧
    ((State.advance wh ptn).good Dom.ref = true ∧ (State.advance wh ptn).pms.restart = none ∧ (State.advance wh
      ptn).pairRole = 2 ∧ (State.advance wh ptn).pwr.pfail = false ∧ (!false) = (State.advance wh
      ptn).pms.change.isNone) ∧
    ((State.advance wh x_PairedModules_56).good Dom.ref = true ∧ (State.advance wh x_PairedModules_56).pms.restart =
      none ∧ (State.advance wh x_PairedModules_56).pairRole = 2 ∧ ((State.advance wh
      x_PairedModules_56).pms.pair.heardNs + 30000000 ≤ (State.advance wh x_PairedModules_56).ns ∨ (State.advance wh
      x_PairedModules_56).swapLane?.isSome = true ∧ (State.advance wh x_PairedModules_56).pms.pair.grant = none)) ∧
    ((State.advance wh x_PairedModules_57).good Dom.ref = true ∧ (State.advance wh x_PairedModules_57).pms.restart =
      none ∧ (State.advance wh x_PairedModules_57).pairRole = 2 ∧ (State.advance wh x_PairedModules_57).ns <
      (State.advance wh x_PairedModules_57).pms.pair.heardNs + 30000000 ∧ (State.advance wh
      x_PairedModules_57).swapLane? = none) ∧
    ((State.advance wh x_PairedModules_59).good Dom.ref = true ∧ (State.advance wh x_PairedModules_59).pms.restart =
      none ∧ (State.advance wh x_PairedModules_59).flag F.PMS_PAIRCFG_WITNESS = true ∧ (State.advance wh
      x_PairedModules_59).good Dom.pmm = true ∧ Settled (State.advance wh x_PairedModules_59) ∧ (false = true ∨
      (State.advance wh x_PairedModules_59).pms.pair.heardNs + 30000000 ≤ (State.advance wh x_PairedModules_59).ns)) ∧
    ((State.advance wh x_PairedModules_61).good Dom.ref = true ∧ (State.advance wh x_PairedModules_61).pms.restart =
      none ∧ (State.advance wh x_PairedModules_61).flag F.PMS_PAIRCFG_WITNESS = true ∧ (State.advance wh
      x_PairedModules_61).good Dom.pmm = true ∧ Settled (State.advance wh x_PairedModules_61) ∧ (State.advance wh
      x_PairedModules_61).ns < (State.advance wh x_PairedModules_61).pms.pair.heardNs + 30000000) ∧
    ((State.advance wh x_PairedModules_62).good Dom.ref = true ∧ (State.advance wh x_PairedModules_62).pms.restart =
      none ∧ (State.advance wh x_PairedModules_62).paired = true ∧ (∀ (c : Change), (State.advance wh
      x_PairedModules_62).pms.change = some c → c.ready = false) ∧ ((State.advance wh x_PairedModules_62).pms.pair.block
      = none ∨ (State.advance wh x_PairedModules_62).nextEpoch = none) ∧ (State.advance wh x_PairedModules_62).fld
      F.PMS_STATUS_NOCAUSE = 4) ∧
    ((State.advance wh x_PairedModules_63).good Dom.ref = true ∧ (State.advance wh x_PairedModules_63).pms.restart =
      none ∧ (State.advance wh x_PairedModules_63).paired = true ∧ (∀ (c : Change), (State.advance wh
      x_PairedModules_63).pms.change = some c → c.ready = false) ∧ (State.advance wh
      x_PairedModules_63).pms.pair.block.isSome = true ∧ (State.advance wh x_PairedModules_63).nextEpoch.isSome = true) ∧
    ((State.advance wh x_PairedModules_64).good Dom.ref = true ∧ (State.advance wh x_PairedModules_64).pairRole = 1 ∧
      (State.advance wh x_PairedModules_64).pms.pair.confNs + 60000000 ≤ (State.advance wh x_PairedModules_64).ns ∧
      (State.advance wh x_PairedModules_64).good Dom.net = true ∧ (State.advance wh x_PairedModules_64).good Dom.cle =
      true ∧ (State.advance wh x_PairedModules_64).good Dom.mtr = true) ∧
    ((State.advance wh x_PairedModules_65).good Dom.ref = true ∧ (State.advance wh x_PairedModules_65).pairRole = 1 ∧
      (State.advance wh x_PairedModules_65).ns < (State.advance wh x_PairedModules_65).pms.pair.confNs + 60000000) ∧
    ((State.advance wh x_PairedModules_66).good Dom.ref = true ∧ (State.advance wh x_PairedModules_66).pms.restart =
      none ∧ (State.advance wh x_PairedModules_66).pairRole = 2 ∧ (State.advance wh x_PairedModules_66).pms.change =
      none ∧ (List.map Prod.fst (State.advance wh x_PairedModules_66).pms.pair.repl).Nodup ∧ (State.advance wh
      x_PairedModules_66).laneState 1 ≠ 5 ∧ (State.advance wh x_PairedModules_66).laneState 2 ≠ 5) ∧
    ((State.advance x_PairedModules_68 ps2).good Dom.ref = true ∧ (State.advance x_PairedModules_68 ps2).pms.restart =
      none ∧ (State.advance x_PairedModules_68 ps2).swapLane?.isSome = true ∧ (State.advance x_PairedModules_68 ps2).ns
      < (State.advance x_PairedModules_68 ps2).pms.pair.heardNs + 30000000) ∧
    ((State.advance wh x_PairedModules_69).good Dom.ref = true ∧ (State.advance wh x_PairedModules_69).pms.restart =
      none ∧ (State.advance wh x_PairedModules_69).pairRole = 3) ∧
    ((State.advance wh x_PairedModules_71).good Dom.ref = true ∧ (State.advance wh x_PairedModules_71).pairRole = 2 ∧
      (State.advance wh x_PairedModules_71).good Dom.pmm = true) ∧
    ((State.advance wh x_PairedModules_73).good Dom.ref = true ∧ (State.advance wh x_PairedModules_73).pairRole = 2) ∧
    ((State.advance wh x_PairedModules_75).good Dom.ref = true ∧ (State.advance wh x_PairedModules_75).pairRole = 2 ∧
      (State.advance wh x_PairedModules_75).good Dom.pmm = true) ∧
    ((State.advance x_PairedModules_77 ps2).good Dom.ref = true ∧ (State.advance x_PairedModules_77 ps2).pairRole = 2
      ∧ (State.advance x_PairedModules_77 ps2).swapLane?.isSome = true) ∧
    ((State.advance wh x_PairedModules_79).good Dom.ref = true ∧ (State.advance wh x_PairedModules_79).pairRole = 2 ∧
      (State.advance wh x_PairedModules_79).swapLane? = none) ∧
    ((State.advance wh x_PairedModules_81).good Dom.ref = true ∧ (State.advance wh x_PairedModules_81).pairRole = 1) ∧
    ((State.advance wh pj).refuse mk Reg.PMS_CTRL (pmsCmd 4 0) = none ∧ mk.role = Role.maker ∧ (State.advance wh
      pj).armed = true ∧ (State.advance wh pj).rd Reg.MOD_MAN_REV = 5 ∧ (State.advance wh pj).armedSlot = some 0 ∧ n2w
      ((State.advance wh pj).manSite 0) = 0 ∧ (State.advance wh pj).rd Reg.PMS_PAIR_PEER ≠ 0 ∧ (State.advance wh pj).rd
      Reg.PMS_PAIR_WIT ≠ 0 ∧ (State.advance wh pj).paired = false) ∧
    ((State.advance wh pj).refuse mk Reg.PMS_CTRL (pmsCmd 4 0) = none ∧ mk.role = Role.maker ∧ (State.advance wh
      pj).armed = true ∧ (State.advance wh pj).rd Reg.MOD_MAN_REV = 5 ∧ (State.advance wh pj).armedSlot = some 0 ∧ n2w
      ((State.advance wh pj).manSite 0) = 0 ∧ (State.advance wh pj).rd Reg.PMS_PAIR_PEER ≠ 0 ∧ (State.advance wh pj).rd
      Reg.PMS_PAIR_WIT ≠ 0 ∧ (State.advance wh pj).paired = false) ∧
    ((State.advance wh x_PairedModules_83).refuse mk Reg.PMS_CTRL (pmsCmd 5 0) = none ∧ mk.role = Role.maker ∧
      ((State.advance wh x_PairedModules_83).pms.change = none ∨ (State.advance wh x_PairedModules_83).pairRole ≠ 2)) ∧
    ((State.advance wh x_PairedModules_86).refuse mk Reg.PMS_CTRL (pmsCmd 6 0) = none ∧ mk.role = Role.maker ∧
      (State.advance wh x_PairedModules_86).pairRole = 1 ∧ (State.advance wh x_PairedModules_86).recent (State.advance
      wh x_PairedModules_86).pms.pair.witNs = true ∧ (State.advance wh x_PairedModules_86).recent (State.advance wh
      x_PairedModules_86).pms.pair.peerNs = true ∧ (∀ (n : Nat), (State.advance wh x_PairedModules_86).pms.pair.lagNs =
      some n → (State.advance wh x_PairedModules_86).ns < n + 1000000000) ∧ (State.advance wh
      x_PairedModules_86).pms.change = none ∧ (State.advance wh x_PairedModules_86).laneUp = true) ∧
    ins.role ≠ Role.maker :=
  by constructorm* _ ∧ _ <;> (try unfold Settled) <;> decide +kernel

end WI

/-! ### The safety unit -/

namespace WJ

def sp : List Byte := Rec.build 0x800 [(0x10,1,1),(0x14,2,500),(0x20,1,1),(0x24,2,500),(0x26,2,5),(0x100,1,2),(0x104,2,500),
  (0x110,1,3),(0x111,1,0),(0x112,1,0),(0x118,4,100),(0x11C,4,100),
  (0x130,1,7),(0x132,1,0),(0x138,4,100),
  (0x150,1,5),(0x158,4,100),(0x160,2,1),
  (0x2F0,1,1),(0x2F1,1,0),(0x2F2,1,1),(0x2F4,1,15),
  (0x310,1,1),(0x312,2,0x8000),(0x320,1,3),(0x322,2,1)]
def sf (st ps : Nat) : State := let s : State := {up with saf := {up.saf with own := sp, stored := sp}}
  let s := ((s.setFld F.SAF_SEAL_SW 0xFF).setFld F.SAF_STATUS_STATE st)
  let s := [0,1,15].foldl (fun s n => s.setFld (F.SAF_PAIR_PSTATE n) ps) s
  [0,1,2,15].foldl (fun s n => s.setFld (F.SAF_FUNC_STATE n) 1) s
def so (f : Nat) (st : Nat) (x : SafFunc) (s : State) : State := (s.setFld (F.SAF_FUNC_STATE f) st).setSafFunc f x
def pq (f : SafPair → SafPair) (n : Nat) (s : State) : State := s.setSafPair n (f (s.safPair n))
def on (s : State) : State := (s.setFlag (F.SAF_OUT_ON 0) true).setFlag (F.SAF_OUT_RB 0) true
def ss : State := let s := sf 1 1; {s with saf := {s.saf with latch := ⟨.valid 1 (0,[]), .blank⟩, inStart := true}}
def pfl : State := let s := sf 4 1; {s with pwr := {s.pwr with pfail := true}}
def x_SafetyInputsAndFaults_1 : State := sf 4 1
def x_SafetyInputsAndFaults_2 : State := sf 4 2
def x_SafetyInputsAndFaults_3 : State := pq (fun p => {p with missA := 1}) 0 (sf 4 1)
def x_SafetyInputsAndFaults_4 : State := pq (fun p => {p with missB := 1}) 1 (sf 4 1)
def x_SafetyInputsAndFaults_6 : State := pq (fun p => {p with missB := 1}) 15 (sf 3 2)
def x_SafetyInputsAndFaults_7 : State := pq (fun p => {p with disc := some 5}) 0 (sf 4 3)
def x_SafetyInputsAndFaults_9 : State := pq (fun p => {p with degNs := some 5}) 1 (sf 4 4)
def x_SafetyInputsAndFaults_11 : State := on (sf 4 1)
def x_SafetyInputsAndFaults_13 : State := on (sf 4 1)
def x_SafetySealsAndDiagnostics_16 : State := sf 4 1
def x_SafetySealsAndDiagnostics_19 : State := so 0 2 ⟨some 5, none⟩ (sf 4 1)
def x_SafetySealsAndDiagnostics_20 : State := so 0 3 ⟨some 5, some 6⟩ (sf 4 1)
def x_SafetySealsAndDiagnostics_21 : State := so 2 4 ⟨none, some 6⟩ (sf 4 1)
def x_SafetySealsAndDiagnostics_23 : State := so 1 2 ⟨none, some 6⟩ (sf 4 1)
def x_SafetySealsAndDiagnostics_24 : SafStart := ⟨true, 0xFF⟩
def x_SafetySealsAndDiagnostics_30 : SafStart := ⟨false, 0xFF⟩
def x_SafetySealsAndDiagnostics_31 : SafStart := ⟨true, 0xFF⟩
def x_SafetySealsAndDiagnostics_32 : State := ss.setFld F.SAF_STATUS_STATE 5
def x_SafetySealsAndDiagnostics_33 : State := sf 4 1
def x_SafetySealsAndDiagnostics_39 : State := on (sf 4 1)
def x_SafetyConfirmAndClear_40 : State := sf 4 1
def x_SafetyConfirmAndClear_41 : State := let s := sf 4 1; {s with saf := {s.saf with lockNs := some 2000000000}}
def x_SafetyConfirmAndClear_42 : State := sf 4 1
def x_SafetyConfirmAndClear_43 : State := pq (fun p => {p with agreeNs := some 0}) 1 (sf 4 4)
def x_SafetyConfirmAndClear_44 : State := pq (fun p => {p with agreeNs := some 0}) 1 (sf 4 1)
def x_SafetyConfirmAndClear_46 : State := let s := (sf 5 1).setFld F.SAF_STATUS_LCAUSE 1; {s with saf := {s.saf with passed := [.rom,.ram,.alu]}}
def x_SafetyConfirmAndClear_47 : State := (sf 5 1)

/-- `Obligations.SafetyInputsAndFaults`: its hypotheses are met, clause by clause. -/
theorem witness_SafetyInputsAndFaults :
    ((State.advance wh x_SafetyInputsAndFaults_1).safReads = true ∧ 15 < 16 ∧ (State.advance wh
      x_SafetyInputsAndFaults_1).pairState 15 ≠ 0 ∧ false = inDemand (sfUse ((State.advance wh
      x_SafetyInputsAndFaults_1).sfPairRec 15)) false true ∧ true = inDemand (sfUse ((State.advance wh
      x_SafetyInputsAndFaults_1).sfPairRec 15)) true true ∧ (State.advance wh x_SafetyInputsAndFaults_1).pairState 15 =
      1 ∧ ((State.advance wh x_SafetyInputsAndFaults_1).pairState 15 = 1 ∨ (State.advance wh
      x_SafetyInputsAndFaults_1).pairState 15 = 2) ∧ false ≠ true) ∧
    ((State.advance wh x_SafetyInputsAndFaults_2).safReads = true ∧ 0 < 16 ∧ (State.advance wh
      x_SafetyInputsAndFaults_2).pairState 0 ≠ 0 ∧ false = inDemand (sfUse ((State.advance wh
      x_SafetyInputsAndFaults_2).sfPairRec 0)) false true ∧ false = inDemand (sfUse ((State.advance wh
      x_SafetyInputsAndFaults_2).sfPairRec 0)) true true ∧ (State.advance wh x_SafetyInputsAndFaults_2).pairState 0 = 2
      ∧ ((State.advance wh x_SafetyInputsAndFaults_2).pairState 0 = 1 ∨ (State.advance wh
      x_SafetyInputsAndFaults_2).pairState 0 = 2)) ∧
    ((State.advance wh x_SafetyInputsAndFaults_3).safReads = true ∧ 0 < 16 ∧ sfUse ((State.advance wh
      x_SafetyInputsAndFaults_3).sfPairRec 0) ∈ [1, 2] ∧ ((State.advance wh x_SafetyInputsAndFaults_3).pairState 0 = 1 ∨
      (State.advance wh x_SafetyInputsAndFaults_3).pairState 0 = 2) ∧ ((if false = true then ((State.advance wh
      x_SafetyInputsAndFaults_3).safPair 0).missB else ((State.advance wh x_SafetyInputsAndFaults_3).safPair 0).missA) =
      1) ∧ sfDegtime ((State.advance wh x_SafetyInputsAndFaults_3).sfPairRec 0) = 0 ∧ (State.advance wh
      x_SafetyInputsAndFaults_3).safState ≠ 0 ∧ (State.advance wh x_SafetyInputsAndFaults_3).safState ≠ 5) ∧
    ((State.advance wh x_SafetyInputsAndFaults_4).safReads = true ∧ 1 < 16 ∧ sfUse ((State.advance wh
      x_SafetyInputsAndFaults_4).sfPairRec 1) ∈ [1, 2] ∧ ((State.advance wh x_SafetyInputsAndFaults_4).pairState 1 = 1 ∨
      (State.advance wh x_SafetyInputsAndFaults_4).pairState 1 = 2) ∧ ((if true = true then ((State.advance wh
      x_SafetyInputsAndFaults_4).safPair 1).missB else ((State.advance wh x_SafetyInputsAndFaults_4).safPair 1).missA) =
      1) ∧ sfDegtime ((State.advance wh x_SafetyInputsAndFaults_4).sfPairRec 1) ≠ 0) ∧
    ((State.advance wh x_SafetyInputsAndFaults_6).safReads = true ∧ 15 < 16 ∧ sfUse ((State.advance wh
      x_SafetyInputsAndFaults_6).sfPairRec 15) ∈ [1, 2]) ∧
    ((State.advance wh x_SafetyInputsAndFaults_7).safReads = true ∧ 0 < 16 ∧ (State.advance wh
      x_SafetyInputsAndFaults_7).pairState 0 = 3 ∧ (State.advance wh x_SafetyInputsAndFaults_7).ranOut ((State.advance
      wh x_SafetyInputsAndFaults_7).safPair 0).disc = true ∧ ((State.advance wh x_SafetyInputsAndFaults_7).safPair 0).ra
      = false) ∧
    ((State.advance wh x_SafetyInputsAndFaults_9).safReads = true ∧ 1 < 16 ∧ ((State.advance wh
      x_SafetyInputsAndFaults_9).pairState 1 = 4 ∨ (State.advance wh x_SafetyInputsAndFaults_9).pairState 1 = 5) ∧
      (State.advance wh x_SafetyInputsAndFaults_9).ranOut ((State.advance wh x_SafetyInputsAndFaults_9).safPair 1).degNs
      = true ∧ (State.advance wh x_SafetyInputsAndFaults_9).safState ≠ 0 ∧ (State.advance wh
      x_SafetyInputsAndFaults_9).safState ≠ 5) ∧
    ((State.advance wh x_SafetyInputsAndFaults_11).safReads = true ∧ 0 < 8 ∧ (State.advance wh
      x_SafetyInputsAndFaults_11).flag (F.SAF_OUT_ON 0) = true ∧ (State.advance wh x_SafetyInputsAndFaults_11).safState
      ≠ 0 ∧ (State.advance wh x_SafetyInputsAndFaults_11).safState ≠ 5) ∧
    ((State.advance wh x_SafetyInputsAndFaults_13).safRuns = true ∧ 0 < 8 ∧ (State.advance wh
      x_SafetyInputsAndFaults_13).safState ≠ 0 ∧ (State.advance wh x_SafetyInputsAndFaults_13).safState ≠ 5) :=
  by constructorm* _ ∧ _ <;> decide +kernel

/-- `Obligations.SafetySealsAndDiagnostics`: its hypotheses are met, clause by clause. -/
theorem witness_SafetySealsAndDiagnostics :
    ((State.advance wh x_SafetySealsAndDiagnostics_16).safReads = true ∧ (State.advance wh
      x_SafetySealsAndDiagnostics_16).fld F.SAF_SEAL_SW ≠ (254 : Nat)) ∧
    (((State.advance wh x_SafetySealsAndDiagnostics_19).funcTimer 0 3 = true) ∧ (State.advance wh
      x_SafetySealsAndDiagnostics_19).ranOut ((State.advance wh x_SafetySealsAndDiagnostics_19).safFunc 0).run = true ∧
      ((State.advance wh x_SafetySealsAndDiagnostics_19).funcState 0 ≠ 1)) ∧
    (((State.advance wh x_SafetySealsAndDiagnostics_20).funcTimer 0 3 = true) ∧ (State.advance wh
      x_SafetySealsAndDiagnostics_20).ranOut ((State.advance wh x_SafetySealsAndDiagnostics_20).safFunc 0).wait = true ∧
      ((State.advance wh x_SafetySealsAndDiagnostics_20).funcState 0 = 3) ∧ (State.advance wh
      x_SafetySealsAndDiagnostics_20).safState = 4 ∧ (State.advance wh x_SafetySealsAndDiagnostics_20).seal (2 + sfGroup
      ((State.advance wh x_SafetySealsAndDiagnostics_20).sfFuncRec 0)) = true ∧ (State.advance wh
      x_SafetySealsAndDiagnostics_20).permits ((State.advance wh x_SafetySealsAndDiagnostics_20).sfFuncRec 0) = true) ∧
    (((State.advance wh x_SafetySealsAndDiagnostics_21).funcTimer 2 5 = true) ∧ (State.advance wh
      x_SafetySealsAndDiagnostics_21).ranOut ((State.advance wh x_SafetySealsAndDiagnostics_21).safFunc 2).wait = true ∧
      ((State.advance wh x_SafetySealsAndDiagnostics_21).funcState 2 = 4)) ∧
    (((State.advance wh x_SafetySealsAndDiagnostics_23).funcTimer 1 7 = true) ∧ (State.advance wh
      x_SafetySealsAndDiagnostics_23).ranOut ((State.advance wh x_SafetySealsAndDiagnostics_23).safFunc 1).wait = true ∧
      ((State.advance wh x_SafetySealsAndDiagnostics_23).funcState 1 ≠ 1)) ∧
    ((State.advance wh ss).safRuns = true ∧ (State.advance wh ss).saf.inStart = true ∧ (State.advance wh ss).safState
      = 1 ∧ (State.advance wh ss).saf.wdog = false ∧ (State.advance wh ss).saf.latch.get (7, []) = (0, []) ∧
      x_SafetySealsAndDiagnostics_24.testsOk = true) ∧
    ((State.advance wh ss).safRuns = true ∧ (State.advance wh ss).saf.inStart = true ∧ (State.advance wh ss).safState
      = 1 ∧ x_SafetySealsAndDiagnostics_30.testsOk = false ∧ (∀ e ∈ ((State.advance wh ss).saf.latch.get (7, [])).2, e.1
      < 16)) ∧
    ((State.advance wh x_SafetySealsAndDiagnostics_32).safRuns = true ∧ (State.advance wh
      x_SafetySealsAndDiagnostics_32).saf.inStart = true ∧ (State.advance wh x_SafetySealsAndDiagnostics_32).safState =
      5 ∧ (State.advance wh x_SafetySealsAndDiagnostics_32).saf.wdog = false ∧ (State.advance wh
      x_SafetySealsAndDiagnostics_32).saf.latch.get (7, []) = (0, []) ∧ x_SafetySealsAndDiagnostics_31.testsOk = true) ∧
    ((State.advance wh x_SafetySealsAndDiagnostics_33).safRuns = true ∧ (State.advance wh
      x_SafetySealsAndDiagnostics_33).safState ≠ 0 ∧ (State.advance wh x_SafetySealsAndDiagnostics_33).safState ≠ 5) ∧
    (16000 ≤ 16000 ∧ 16000 ≤ 34000) ∧
    ((State.advance wh pfl).safRuns = true ∧ 15999 < 16000 ∧ (State.advance wh pfl).pwr.pfail = true) ∧
    ((State.advance wh pfl).safRuns = true ∧ 15999 < 16000 ∧ (State.advance wh pfl).pwr.pfail = true) ∧
    ((State.advance wh pfl).safRuns = true ∧ (State.advance wh pfl).safState ≠ 0 ∧ (State.advance wh pfl).safState ≠ 5
      ∧ (34000 < 34001 ∨ false = true ∧ 16000 ≤ 34001 ∨ 34001 < 16000 ∧ (State.advance wh pfl).pwr.pfail = false)) ∧
    (State.advance wh x_SafetySealsAndDiagnostics_39).safRuns = true :=
  by constructorm* _ ∧ _ <;> decide +kernel

/-- `Obligations.SafetyConfirmAndClear`: its hypotheses are met, clause by clause. -/
theorem witness_SafetyConfirmAndClear :
    ((State.advance wh x_SafetyConfirmAndClear_40).refuse ins Reg.SAF_CONFIRM 5 = none ∧ ins.role = Role.installer ∧
      (State.advance wh x_SafetyConfirmAndClear_40).confirmLocked = false ∧ (State.advance wh
      x_SafetyConfirmAndClear_40).safReads = true) ∧
    ((State.advance wh x_SafetyConfirmAndClear_41).refuse ins Reg.SAF_CONFIRM 5 = none ∧ ins.role = Role.installer ∧
      ((State.advance wh x_SafetyConfirmAndClear_41).confirmLocked = true ∨ (State.advance wh
      x_SafetyConfirmAndClear_41).safReads = false)) ∧
    (State.advance wh x_SafetyConfirmAndClear_42).confirmLocked = false ∧
    (1 < 16 ∧ (1 = 15 → (State.advance wh x_SafetyConfirmAndClear_43).mayClearLatch = false) ∧ (State.advance wh
      x_SafetyConfirmAndClear_43).refuse ins Reg.SAF_CTRL (n2w (1 * 256 + 1)) = none ∧ (State.advance wh
      x_SafetyConfirmAndClear_43).safReads = true ∧ (State.advance wh x_SafetyConfirmAndClear_43).mayClearPair 1 = true) ∧
    (1 < 16 ∧ (1 = 15 → (State.advance wh x_SafetyConfirmAndClear_44).mayClearLatch = false) ∧ (State.advance wh
      x_SafetyConfirmAndClear_44).refuse ins Reg.SAF_CTRL (n2w (1 * 256 + 1)) = none ∧ (State.advance wh
      x_SafetyConfirmAndClear_44).safReads = true ∧ (State.advance wh x_SafetyConfirmAndClear_44).mayClearPair 1 =
      false) ∧
    ((State.advance wh x_SafetyConfirmAndClear_46).refuse ins Reg.SAF_CTRL 3841 = none ∧ (State.advance wh
      x_SafetyConfirmAndClear_46).safReads = true ∧ (State.advance wh x_SafetyConfirmAndClear_46).mayClearLatch = true) ∧
    ((State.advance wh x_SafetyConfirmAndClear_47).refuse ins Reg.SAF_CTRL 3841 = none ∧ (State.advance wh
      x_SafetyConfirmAndClear_47).safReads = true ∧ (State.advance wh x_SafetyConfirmAndClear_47).mayClearLatch = false
      ∧ (State.advance wh x_SafetyConfirmAndClear_47).mayClearPair 15 = false) :=
  by constructorm* _ ∧ _ <;> decide +kernel

end WJ

/-! ### Persistent memory -/

namespace WK

def cellA : CellWrite := ⟨0x40, [(0, 0xAA), (1, 0xBB)]⟩
def jn (l : List JEntry) : State := {up with pm := {up.pm with journal := l}}
def e1 : JEntry := ⟨7, 1, 1, 0, .bytes [(1, 5)], true⟩
def e2 : JEntry := ⟨8, 2, 2, 145, .bytes [(1, 9), (64, 6)], false⟩
def e3 : JEntry := ⟨9, 1, 1, 307, .bytes [(64, 7)], false⟩
def fwx : Fw := ⟨0, 2, 1, 5, 6, 7, 1, []⟩
def tr (r w b : Nat) (x : Xfer) : TReq := ⟨r, w, x, b, 5, 5⟩
def lv (n : Nat) : State := up.setFld F.PMC_STATUS_LEVEL n
def lop (l : Nat) : State := (lv 1).startLong 7 ins (.protect l)
def tw (a b : TSlot Nat) : Twin Nat := ⟨a, b⟩
def pf : State := {(((up.wr (Reg.PRF_U_CFG 0 3) 0x80000001).wr (Reg.PRF_U_CFG 1 7) 0x80000002)) with perf := {up.perf with cnt := [(3, 77), (15, 5)]}}
def ab (l : List TReq) : Arb := {reqs := l, last := [], owner := none, free := 3, wb := 0, wbAt := 0, waits := [], starves := [], counts := []}
def x_RegistryGroups_0 : List CellWrite := [cellA]
def x_RegistryGroups_1 : List CellWrite := [cellA]
def x_RegistryGroups_2 : State := {up with pm := {up.pm with waiting := [⟨7, 0, 1, 1, .bytes [(5,5)]⟩]}}
def x_RegistryGroups_3 : List CellWrite := List.replicate 65 cellA
def x_RegistryGroups_5 : List JEntry := [e1]
def x_RegistryGroups_6 : List JEntry := [e3]
def x_RegistryGroups_7 : List (Nat × Byte) := [(1, 9), (64, 6)]
def x_RegistryGroups_8 : State := jn [e1, e2, e3]
def x_RegistryGroups_9 : List JEntry := [e1]
def x_RegistryGroups_10 : List JEntry := [e3]
def x_RegistryGroups_11 : JEntry := {e2 with load := .epoch 5}
def x_RegistryGroups_12 : State := jn [e1, {e2 with load := .epoch 5}, e3]
def x_RegistryGroups_41 : List JEntry := [e1]
def x_RegistryGroups_42 : List JEntry := [e3]
def x_RegistryGroups_43 : JEntry := {e2 with load := .header 64}
def x_RegistryGroups_44 : List Word := [1,2,3,4,5]
def x_RegistryGroups_45 : List (Fw × List Word) := []
def x_RegistryGroups_46 : State := let s := jn [e1, {e2 with load := .header 64}, e3]; {s with prog := {s.prog with fwPend := [(fwx, [1,2,3,4,5])]}}
def x_RegistryGroups_47 : List JEntry := [e1]
def x_RegistryGroups_48 : List JEntry := [e3]
def x_RegistryGroups_49 : JEntry := {e2 with load := .header 64}
def x_RegistryGroups_50 : List Word := []
def x_RegistryGroups_51 : List (Fw × List Word) := [(fwx,[])]
def x_RegistryGroups_52 : State := let s := jn [e1, {e2 with load := .header 64}, e3]; {s with prog := {s.prog with fwPend := [(fwx, []), (fwx,[])]}}
def x_RegistryGroups_53 : List JEntry := [e2, e3]
def x_RegistryGroups_54 : List (Nat × Byte) := [(1, 5)]
def x_RegistryGroups_55 : State := jn [e1, e2, e3]
def x_StorageUpkeep_59 : List Nat := [0x1234, 0x88888, 0xFFFFFFFF]
def x_StorageUpkeep_61 : State := lv 1
def x_StorageUpkeep_64 : State := lv 1
def x_StorageUpkeep_65 : LongOp := (lop 2).ctr.long.getD ⟨0,0,0,0,0,.manArm 0⟩
def x_StorageUpkeep_66 : State := lop 2
def x_StorageUpkeep_67 : Twin Nat := tw (.valid 3 1) (.valid 7 2)
def x_StorageUpkeep_68 : Twin Nat := tw (.valid 7 1) (.valid 7 2)
def x_StorageUpkeep_69 : Twin Nat := tw .blank .blank
def x_StorageUpkeep_71 : Twin Nat := tw (.valid 7 1) (.valid 7 2)
def x_StorageUpkeep_74 : State := {up with evr := {up.evr with dropping := true}}
def x_StorageUpkeep_75 : Twin Nat := tw (.invalid none) (.invalid none)
def x_StorageUpkeep_76 : Twin Nat := tw (.valid 7 1) (.valid 6 2)
def x_StorageUpkeep_77 : State := up.wr Reg.ARB_STARVLIM 499
def x_StorageUpkeep_78 : State := (up.wr Reg.ARB_STARVLIM 500).wr (Reg.ARB_RANK_WAIT 7) 600
def x_StorageUpkeep_80 : State := pf.setFld F.PRF_STATUS_SNAPBUSY 1
def x_StorageUpkeep_81 : State := pf.setFld F.PRF_STATUS_SNAPBUSY 1
def x_StorageUpkeep_82 : Arb := ab [tr 3 0 500 .read, tr 2 1 100 .read]
def x_StorageUpkeep_83 : TReq := tr 2 1 100 .read
def x_StorageUpkeep_84 : Arb := ab [tr 3 0 500 .read]
def x_StorageUpkeep_85 : TReq := tr 3 0 500 .read

/-- `Obligations.RegistryGroups`: its hypotheses are met, clause by clause. -/
theorem witness_RegistryGroups :
    (((State.advance wh up).good Dom.pmm = true ∧ groupOk x_RegistryGroups_0 = true ∧ groupOutside x_RegistryGroups_0
      = none ∧ 7 < 8 ∧ (State.advance wh up).pm.waiting = [] ∧ (State.advance wh up).pm.fill + entryLen
      x_RegistryGroups_0.length (cellBytes x_RegistryGroups_0).length ≤ journalSize) ∧
    ((State.advance wh x_RegistryGroups_2).good Dom.pmm = true ∧ groupOk x_RegistryGroups_1 = true ∧ groupOutside
      x_RegistryGroups_1 = none ∧ 7 < 8 ∧ ((State.advance wh x_RegistryGroups_2).pm.waiting ≠ [] ∨ journalSize <
      (State.advance wh x_RegistryGroups_2).pm.fill + entryLen x_RegistryGroups_1.length (cellBytes
      x_RegistryGroups_1).length)) ∧
    (groupOutside x_RegistryGroups_3 = none ∧ (64 < x_RegistryGroups_3.length ∨ 4096 < (cellBytes
      x_RegistryGroups_3).length)) ∧
    ((State.advance wh x_RegistryGroups_8).good Dom.pmm = true ∧ (State.advance wh x_RegistryGroups_8).pm.journal =
      x_RegistryGroups_5 ++ e2 :: x_RegistryGroups_6 ∧ (∀ x ∈ x_RegistryGroups_5, x.durable = true) ∧ e2.durable = false
      ∧ (∀ x ∈ x_RegistryGroups_6, x.durable = false) ∧ e2.load = Payload.bytes x_RegistryGroups_7) ∧
    ((State.advance wh x_RegistryGroups_12).good Dom.pmm = true ∧ (State.advance wh x_RegistryGroups_12).pm.journal =
      x_RegistryGroups_9 ++ x_RegistryGroups_11 :: x_RegistryGroups_10 ∧ (∀ x ∈ x_RegistryGroups_9, x.durable = true) ∧
      x_RegistryGroups_11.durable = false) ∧
    ((State.advance wh x_RegistryGroups_46).good Dom.pmm = true ∧ (State.advance wh x_RegistryGroups_46).pm.journal =
      x_RegistryGroups_41 ++ x_RegistryGroups_43 :: x_RegistryGroups_42 ∧ (∀ x ∈ x_RegistryGroups_41, x.durable = true)
      ∧ x_RegistryGroups_43.durable = false ∧ x_RegistryGroups_43.load = Payload.header 64 ∧ (State.advance wh
      x_RegistryGroups_46).prog.fwPend = (fwx, x_RegistryGroups_44) :: x_RegistryGroups_45 ∧ x_RegistryGroups_44 ≠ []) ∧
    ((State.advance wh x_RegistryGroups_52).good Dom.pmm = true ∧ (State.advance wh x_RegistryGroups_52).pm.journal =
      x_RegistryGroups_47 ++ x_RegistryGroups_49 :: x_RegistryGroups_48 ∧ (∀ x ∈ x_RegistryGroups_47, x.durable = true)
      ∧ x_RegistryGroups_49.durable = false ∧ x_RegistryGroups_49.load = Payload.header 64 ∧ (State.advance wh
      x_RegistryGroups_52).prog.fwPend = (fwx, x_RegistryGroups_50) :: x_RegistryGroups_51 ∧ x_RegistryGroups_50 = []) ∧
    ((State.advance wh x_RegistryGroups_55).good Dom.pmm = true ∧ (State.advance wh x_RegistryGroups_55).pm.journal =
      e1 :: x_RegistryGroups_53 ∧ e1.durable = true ∧ e1.load = Payload.bytes x_RegistryGroups_54 ∧ (State.advance wh
      x_RegistryGroups_55).pm.waiting = [])) ∧
    (∀ (n : Nat), x_RegistryGroups_11.load ≠ Payload.header n) :=
  ⟨by constructorm* _ ∧ _ <;> decide +kernel,
   by intro n; exact nofun⟩

/-- `Obligations.StorageUpkeep`: its hypotheses are met, clause by clause. -/
theorem witness_StorageUpkeep :
    (((State.advance wh up).good Dom.pmm = true ∧ (∀ o ∈ x_StorageUpkeep_59, o < 2 ^ 32)) ∧
    (2 < 4 ∧ (State.advance wh x_StorageUpkeep_61).refuse ins Reg.PMC_PROTCTL (n2w 2) = none ∧ (2 < (State.advance wh
      x_StorageUpkeep_61).fld F.PMC_STATUS_LEVEL → ins.role = Role.maker) ∧ (2 = 3 → (State.advance wh
      x_StorageUpkeep_61).mode = 0 ∧ (State.advance wh x_StorageUpkeep_61).fld (F.PMS_LANE_STATE (if (State.advance wh
      x_StorageUpkeep_61).lane = 1 then 1 else 0)) ∈ [0, 1, 5])) ∧
    (0 < (State.advance wh x_StorageUpkeep_64).fld F.PMC_STATUS_LEVEL ∧ ins.role ≠ Role.maker) ∧
    ((State.advance wh x_StorageUpkeep_66).good Dom.ref = true ∧ (State.advance wh x_StorageUpkeep_66).pwr.pfail =
      false ∧ (State.advance wh x_StorageUpkeep_66).pms.restart = none ∧ (State.advance wh x_StorageUpkeep_66).ctr.long
      = some x_StorageUpkeep_65 ∧ x_StorageUpkeep_65.work = LongWork.protect 2 ∧ x_StorageUpkeep_65.kind = 7 ∧ 2 < 4 ∧
      (State.advance wh x_StorageUpkeep_66).good Dom.pmm = true ∧ Settled (State.advance wh x_StorageUpkeep_66)) ∧
    (x_StorageUpkeep_67.a = TSlot.valid 3 1 ∧ x_StorageUpkeep_67.b = TSlot.valid 7 2 ∧ 3 < 7) ∧
    (x_StorageUpkeep_68.a = TSlot.valid 7 1 ∧ x_StorageUpkeep_68.b = TSlot.valid 7 2 ∧ 7 ≤ 7) ∧
    (up.recRec 36880 = none ∧ up.recRec 36881 = none ∧ up.evr.buf.length < 960 ∧ x_StorageUpkeep_71.conflict = true) ∧
    (x_StorageUpkeep_74.recRec 36880 = none ∧ x_StorageUpkeep_74.recRec 36881 = none ∧
      x_StorageUpkeep_74.evr.buf.length < 960 ∧ x_StorageUpkeep_75.lost = true ∧ x_StorageUpkeep_75.conflict = false) ∧
    (up.recRec 36880 = none ∧ up.recRec 36881 = none ∧ up.evr.buf.length < 960 ∧ x_StorageUpkeep_76.conflict = false ∧
      x_StorageUpkeep_76.lost = false) ∧
    ((State.advance wh x_StorageUpkeep_77).good Dom.pmm = true ∧ 7 < 8 ∧ 500 < 2 ^ 32 ∧ BitVec.toNat ((State.advance
      wh x_StorageUpkeep_77).rd Reg.ARB_STARVLIM) < 500) ∧
    ((State.advance wh x_StorageUpkeep_78).good Dom.pmm = true ∧ 7 < 8 ∧ 500 < 2 ^ 32 ∧ 500 ≤ BitVec.toNat
      ((State.advance wh x_StorageUpkeep_78).rd Reg.ARB_STARVLIM)) ∧
    ((State.advance wh pf).refuse ins Reg.PRF_CTRL 1 = none ∧ (State.advance wh pf).flag F.PRF_STATUS_SNAPBUSY =
      false) ∧
    ((State.advance wh x_StorageUpkeep_80).refuse ins Reg.PRF_CTRL 1 = none ∧ (State.advance wh
      x_StorageUpkeep_80).flag F.PRF_STATUS_SNAPBUSY = true) ∧
    (State.advance wh x_StorageUpkeep_81).flag F.PRF_STATUS_SNAPBUSY = true ∧
    x_StorageUpkeep_82.choose = some (5, 6, x_StorageUpkeep_83) ∧
    x_StorageUpkeep_84.reqs = [x_StorageUpkeep_85]) ∧
    (∀ (n c : Nat), x_StorageUpkeep_69.a ≠ TSlot.valid n c) ∧
    (∀ (n c : Nat), x_StorageUpkeep_69.b ≠ TSlot.valid n c) :=
  ⟨by constructorm* _ ∧ _ <;> (try unfold Settled) <;> decide +kernel,
   by intro n c; exact nofun,
   by intro n c; exact nofun⟩

end WK

/-! ### Port groups -/

namespace WL

def pg (use st : Nat) : State := ((up.setFld (F.FPT_PG_STATUS_USE 3) use).setFld (F.FPT_PG_STATUS_STATE 3) st)
def canObj : CanObj := ⟨objCfg false false 0 false true false, 5, 0, 0, 0, List.replicate 64 0⟩
def canM : CanObj := {canObj with cfg := objCfg false true 5 false true false}
def canT : CanObj := {canObj with cfg := objCfg true false 0 false true false, flags := 8}
def fr1 : CanFrame := ⟨77, none, 0x123, false, false, false, false, false, 8, [1,2,3,4,5,6,7,8]⟩
def cs : State := (pg 1 2).setCan 3 {Can.new with objs := [canT, canObj], std := [stdElem 0x100 0x200 1 1]}
def csF : State := ((cs.setFld F.MOD_DOMAINS_GOOD 0xEF).setFld (F.FPT_PG_CANERR_RXERR 3) 200).setCan 3 {cs.can 3 with objs := [canT, {canObj with flags := 1}]}
def mbr (n dir : Nat) : Rec := Rec.build 64 [(0,1,n),(1,1,3),(2,1,1),(4,2,16),(6,2,64),(8,4,0x1000),(12,4,0x2000),(16,1,dir)]
def cm : State := let s : State := {cs with man := {cs.man with cfg := [(5, [mbr 5 0])]}}
  ((s.setCan 3 {cs.can 3 with objs := [canT, canM]}).sramPut 0x1000 (leBytes 16 (0x200 + 2^31))).wr (Reg.MBG_TAIL 5) 4
def cw (c : Nat × Postmark) (s : State) : State := s.setCan 3 {s.can 3 with cur := some c}
def canMT : CanObj := {canT with cfg := objCfg true true 5 false true false}
def cmt : State := let s : State := {cs with man := {cs.man with cfg := [(5, [mbr 5 1])]}}
  (cw (0, 5) (s.setCan 3 {s.can 3 with objs := [canMT, canObj]})).setMb 5 ⟨0, [⟨2, 0, 0, 0, true⟩], none⟩
def pu (f mode : Nat) : Rec := Rec.build 64 [(1,1,2),(4,4,10000),(8,1,f),(9,1,mode),(10,1,2),(11,1,3),(14,1,5),(15,1,127),(16,1,1)]
def us (f mode dir : Nat) : State := let s : State := { pg 2 2 with man := {up.man with cfg := up.man.cfg.put 5 [mbr 5 dir]}, net := {(pg 2 2).net with ports := [(3, pu f mode)]} }
  (s.sramPut 0x1020 (leBytes 16 (0x200 + 2^31 + 4 * 2^32))).sramPut 0x2000 [1, 3, 0, 9]
def tx2 (f : Word) : TxD := ⟨2, f, 0, 0, false⟩
def us1 : State := (us 0 0 1).setMb 5 ⟨0, [tx2 0], none⟩
def uu (f : Uart → Uart) (s : State) : State := s.setUart 3 (f (s.uart 3))
def chr (gap b : Nat) (stop : BitVec 3) : UartChar := ⟨gap, (List.range 8).map (fun i => if b / 2 ^ i % 2 == 1 then 6#3 else 1#3) ++ [stop]⟩
def mok : List UartChar := [1, 3, 0, 0, 0, 1, 0x84, 0x0A].map fun b => chr 0 b 7
def ds : State := (pg 3 2)
def dst : Rec := Rec.build 64 [(0,2,5),(2,1,6),(3,1,3),(8,1,2)]
def dp : Rec := Rec.build 64 [(0,4,6),(4,2,5),(7,1,2),(9,1,1),(0x0C,4,4)]
def dsd : State := ({ds with ns := Config.daliSettle 2, man := {ds.man with cfg := [(7,[dp]),(8, [dst])]}, fab := {ds.fab with points := [(6, {Point.new with value := 1, qual := 0})]}}).setFld (F.FPT_STA_STATE 5) 2
def dd (f : Dali → Dali) (s : State) : State := s.setDali 3 (f (s.dali 3))
def frm (f : Word) (s : State) : State := {s with pms := {s.pms with frMux := f}}
def nxt (w : DaliSend) (s : State) : DaliTx := ((s.daliNext 3 5 w).getD ⟨0, false, 0, 0, none, false, false, none, false⟩)
def dTw : DaliTx := ⟨0x0105, false, 2, 0, none, false, true, none, false⟩
def dss : State := dd (fun d => {d with assigned := some 3}) (dsd.setFlag (F.FPT_PG_DALISTAT_SEARCH 3) true)
def dbo (n : Nat) (s : State) : State := dd (fun d => {d with tx := some dTw, repeats := n, backoff := true}) s
def dIn : DaliTx := {dTw with twice := false}
def sC : Rec := Rec.build 64 [(0,2,9),(2,1,0),(3,1,3),(4,4,5),(8,1,2)]
def canS : CanObj := {canT with data := [3, 0x11, 7, 0] ++ List.replicate 60 0}
def csS (l : List OutMsg) : State := let s : State := {cs with man := {cs.man with cfg := [(8,[sC])]}, pms := {cs.pms with frMux := 0x10001}}
  let s := s.setCan 3 {s.can 3 with objs := [canS]}
  s.setSta 9 {s.sta 9 with out := l}
def x_CanFrames_0 : State := cs.setFld (F.FPT_PG_STATUS_STATE 3) 3
def x_CanFrames_1 : Rec := mbr 5 0
def x_CanFrames_2 : CanFrame := {fr1 with remote := true}
def x_CanFrames_3 : CanFrame := {fr1 with id := 0x300}
def x_CanFrames_6 : State := cs.setFld (F.FPT_PG_STATUS_STATE 3) 3
def x_CanFrames_7 : When := la 3
def x_CanFrames_8 : State := cw (0, 5) cs
def x_CanFrames_11 : When := la 3
def x_CanFrames_12 : Rec := mbr 5 1
def x_CanFrames_13 : TxD := ⟨2, 0, 0, 0, true⟩
def x_CanFrames_14 : When := la 3
def x_CanFrames_15 : State := cw (0, 5) cs
def x_CanFrames_76 : State := csS []
def x_BusPorts_18 : State := (((pg 1 4).setCan 3 {cs.can 3 with borec := true}).setFld (F.FPT_PG_CANERR_TXERR 3) 255)
def x_BusPorts_20 : State := pg 1 4
def x_BusPorts_21 : State := pg 1 2
def x_BusPorts_22 : State := pg 2 2
def x_BusPorts_23 : State := (((pg 1 2).setFld (F.FPT_PG_CANCTRL_RESTR 3) 1).setCan 3 {cs.can 3 with restrBy := some (1,2)})
def x_BusPorts_25 : List Byte := [1, 3, 0, 9]
def x_BusPorts_26 : Rec := mbr 5 1
def x_BusPorts_27 : TxD := tx2 0
def x_BusPorts_28 : List TxD := []
def x_BusPorts_29 : List Byte := [1, 3, 1]
def x_BusPorts_30 : Rec := mbr 5 1
def x_BusPorts_31 : TxD := tx2 0
def x_BusPorts_32 : List TxD := []
def x_BusPorts_34 : Rec := mbr 5 1
def x_BusPorts_35 : TxD := tx2 1
def x_BusPorts_36 : List TxD := []
def x_BusPorts_37 : State := (us 0 0 1).setMb 5 ⟨0, [tx2 1], none⟩
def x_BusPorts_39 : State := uu (fun u => {u with deNs := 1000000001}) us1
def x_BusPorts_47 : State := uu (fun u => {u with token := some 0, next := some 7}) (us 0 1 1)
def x_BusPorts_48 : State := us 0 0 0
def x_BusPorts_49 : State := uu (fun u => {u with deNs := 999999999}) (us 0 0 0)
def x_BusPorts_50 : List UartChar := mok.take 7
def x_BusPorts_51 : State := us 0 0 0
def x_BusPorts_56 : State := us 2 0 0
def x_BusPorts_60 : DaliSend := .other false 0x0105 true
def x_BusPorts_61 : State := frm 1 dsd
def x_BusPorts_65 : DaliTx := nxt .searchEnd dss
def x_BusPorts_66 : State := dbo 1 dsd
def x_BusPorts_67 : State := dbo 2 dsd
def x_BusPorts_68 : State := frm 1 (dbo 2 dsd)
def x_BusPorts_69 : State := dd (fun d => {d with tx := some dIn}) dsd
def x_BusPorts_72 : State := ds.setFld (F.FPT_PG_STATUS_STATE 3) 5
def x_BusPorts_73 : State := ds.setFld F.PMS_STATUS_ACTIVE 0
def x_BusPorts_74 : State := (ds.setFld F.TSK_STATUS_MODE 1).setFld F.KEY_STATUS_LC 2
def x_BusPorts_75 : State := (ds.setFld F.TSK_STATUS_MODE 1).setFld F.KEY_STATUS_LC 1

theorem all_getElem {α : Type} {l : List α} {P : Nat → α → Prop} (h : ∀ p ∈ l.zipIdx, P p.2 p.1) (j : Nat) (y : α)
    (hj : l[j]? = some y) : P j y :=
  h (y, j) (List.mem_zipIdx_iff_getElem?.2 hj)

theorem settled_of_ns {s : State} {w : When} {g p : Nat} (h0 : ((s.advance w).dali g).endNs = 0)
    (h : s.ns = Config.daliSettle p) : (s.advance w).daliSettled g p = true := by
  rw [State.daliSettled, h0]
  simp [State.advance, h]

/-- `Obligations.CanFrames`: its hypotheses are met, clause by clause. -/
theorem witness_CanFrames :
    (((State.advance wh cs).portLive 3 useCAN = true ∧ ((State.advance wh cs).portRuns 3 = true ∨ (State.advance wh
      cs).portState 3 = psRESTRICTED) ∧ fr1.err = none ∧ fr1.remote = false ∧ (fr1.fdf = true → cmFDFR ((State.advance
      wh cs).portRec 3) = true) ∧ ((State.advance wh cs).can 3).filter fr1 = some 1 ∧ 1 < ((State.advance wh cs).can
      3).objs.length ∧ objMB (((State.advance wh cs).can 3).objs.getD 1 CanObj.off) = false ∧ (State.advance wh
      cs).portState 3 ≠ psRESTRICTED ∧ (State.advance wh cs).canRec 3 ≤ 127) ∧
    ((State.advance wh x_CanFrames_0).portLive 3 useCAN = true ∧ ((State.advance wh x_CanFrames_0).portRuns 3 = true ∨
      (State.advance wh x_CanFrames_0).portState 3 = psRESTRICTED) ∧ fr1.err = none ∧ fr1.remote = false ∧ (fr1.fdf =
      true → cmFDFR ((State.advance wh x_CanFrames_0).portRec 3) = true) ∧ ((State.advance wh x_CanFrames_0).can
      3).filter fr1 = some 1 ∧ 1 < ((State.advance wh x_CanFrames_0).can 3).objs.length ∧ objMB (((State.advance wh
      x_CanFrames_0).can 3).objs.getD 1 CanObj.off) = false ∧ (State.advance wh x_CanFrames_0).portState 3 =
      psRESTRICTED) ∧
    ((State.advance wh csF).portLive 3 useCAN = true ∧ ((State.advance wh csF).portRuns 3 = true ∨ (State.advance wh
      csF).portState 3 = psRESTRICTED) ∧ fr1.err = none ∧ fr1.remote = false ∧ (fr1.fdf = true → cmFDFR ((State.advance
      wh csF).portRec 3) = true) ∧ ((State.advance wh csF).can 3).filter fr1 = some 1 ∧ 1 < ((State.advance wh csF).can
      3).objs.length ∧ objMB (((State.advance wh csF).can 3).objs.getD 1 CanObj.off) = false ∧ (State.advance wh
      csF).portState 3 ≠ psRESTRICTED ∧ 127 < (State.advance wh csF).canRec 3) ∧
    ((State.advance wh cm).portLive 3 useCAN = true ∧ ((State.advance wh cm).portRuns 3 = true ∨ (State.advance wh
      cm).portState 3 = psRESTRICTED) ∧ fr1.err = none ∧ fr1.remote = false ∧ (fr1.fdf = true → cmFDFR ((State.advance
      wh cm).portRec 3) = true) ∧ ((State.advance wh cm).can 3).filter fr1 = some 1 ∧ objMB (((State.advance wh cm).can
      3).objs.getD 1 CanObj.off) = true ∧ (((State.advance wh cm).can 3).objs.getD 1 CanObj.off).flag obFRESH = false ∧
      (State.advance wh cm).mbRec (objMbNum (((State.advance wh cm).can 3).objs.getD 1 CanObj.off)) = some x_CanFrames_1
      ∧ BitVec.toNat ((State.advance wh cm).rd (Reg.MBG_HEAD (objMbNum (((State.advance wh cm).can 3).objs.getD 1
      CanObj.off)))) < mbEntries x_CanFrames_1 ∧ (State.advance wh cm).rd (Reg.MBG_HEAD (objMbNum (((State.advance wh
      cm).can 3).objs.getD 1 CanObj.off))) ≠ (State.advance wh cm).rd (Reg.MBG_TAIL (objMbNum (((State.advance wh
      cm).can 3).objs.getD 1 CanObj.off))) ∧ (min (canLens.getD fr1.dlc 64) (if fr1.fdf = true then 64 else 8) ≤ mbBufsz
      x_CanFrames_1) ∧ (fr1.data.length = min (canLens.getD fr1.dlc 64) (if fr1.fdf = true then 64 else 8)) ∧ deOwn
      ((State.advance wh cm).desc x_CanFrames_1 (BitVec.toNat ((State.advance wh cm).rd (Reg.MBG_HEAD (objMbNum
      (((State.advance wh cm).can 3).objs.getD 1 CanObj.off)))))) = true ∧ (deBuf ((State.advance wh cm).desc
      x_CanFrames_1 (BitVec.toNat ((State.advance wh cm).rd (Reg.MBG_HEAD (objMbNum (((State.advance wh cm).can
      3).objs.getD 1 CanObj.off)))))) + min (canLens.getD fr1.dlc 64) (if fr1.fdf = true then 64 else 8) ≤ mbRing
      x_CanFrames_1 ∨ mbRing x_CanFrames_1 + 16 * mbEntries x_CanFrames_1 ≤ deBuf ((State.advance wh cm).desc
      x_CanFrames_1 (BitVec.toNat ((State.advance wh cm).rd (Reg.MBG_HEAD (objMbNum (((State.advance wh cm).can
      3).objs.getD 1 CanObj.off)))))))) ∧
    ((State.advance wh cs).portLive 3 useCAN = true ∧ ((State.advance wh cs).portRuns 3 = true ∨ (State.advance wh
      cs).portState 3 = psRESTRICTED) ∧ x_CanFrames_2.err = none ∧ x_CanFrames_2.remote = true) ∧
    ((State.advance wh cs).portLive 3 useCAN = true ∧ ((State.advance wh cs).portRuns 3 = true ∨ (State.advance wh
      cs).portState 3 = psRESTRICTED) ∧ x_CanFrames_3.err = none ∧ x_CanFrames_3.remote = false ∧ (x_CanFrames_3.fdf =
      true → cmFDFR ((State.advance wh cs).portRec 3) = true) ∧ ((State.advance wh cs).can 3).filter x_CanFrames_3 =
      none) ∧
    ((State.advance wh cs).portLive 3 useCAN = true ∧ ((State.advance wh cs).portRuns 3 = true ∨ (State.advance wh
      cs).portState 3 = psRESTRICTED) ∧ (State.advance wh cs).portState 3 ≠ psRESTRICTED) ∧
    ((State.advance wh x_CanFrames_6).portLive 3 useCAN = true ∧ ((State.advance wh x_CanFrames_6).portRuns 3 = true ∨
      (State.advance wh x_CanFrames_6).portState 3 = psRESTRICTED) ∧ (State.advance wh x_CanFrames_6).portState 3 =
      psRESTRICTED) ∧
    ((State.advance wh cs).canMayStart 3 = true ∧ ((State.advance wh cs).can 3).cur = none ∧ (∀ y ∈ ((State.advance wh
      cs).can 3).objs, objMB y = false) ∧ (segOutput canT.data = false ∨ segFrank canT.data = (State.advance wh
      cs).pms.frMux)) ∧
    ((State.advance x_CanFrames_7 x_CanFrames_8).good Dom.net = true ∧ (State.advance x_CanFrames_7
      x_CanFrames_8).portUse 3 = useCAN ∧ 3 < 24 ∧ ((State.advance x_CanFrames_7 x_CanFrames_8).can 3).cur = some (0, 5)
      ∧ ((State.advance x_CanFrames_7 x_CanFrames_8).can 3).objs[0]? = some canT ∧ objMB canT = false ∧ (State.advance
      x_CanFrames_7 x_CanFrames_8).portState 3 ≠ psRESTRICTED ∧ ((State.advance x_CanFrames_7 x_CanFrames_8).can
      3).segs.getD 0 [] = []) ∧
    ((State.advance x_CanFrames_11 cmt).good Dom.net = true ∧ (State.advance x_CanFrames_11 cmt).portUse 3 = useCAN ∧
      3 < 24 ∧ ((State.advance x_CanFrames_11 cmt).can 3).cur = some (0, 5) ∧ ((State.advance x_CanFrames_11 cmt).can
      3).objs[0]? = some canMT ∧ objMB canMT = true ∧ (State.advance x_CanFrames_11 cmt).mbRec (objMbNum canMT) = some
      x_CanFrames_12 ∧ ((State.advance x_CanFrames_11 cmt).mb (objMbNum canMT)).tx = [x_CanFrames_13]) ∧
    ((State.advance x_CanFrames_14 x_CanFrames_15).good Dom.net = true ∧ (State.advance x_CanFrames_14
      x_CanFrames_15).portUse 3 = useCAN ∧ 3 < 24 ∧ ((State.advance x_CanFrames_14 x_CanFrames_15).can 3).cur = some (0,
      5) ∧ ((State.advance x_CanFrames_14 x_CanFrames_15).can 3).objs[0]? = some canT ∧ objMB canT = false) ∧
    ((State.advance wh x_CanFrames_76).canMayStart 3 = true ∧ ((State.advance wh x_CanFrames_76).can 3).cur = none ∧
      (∀ y ∈ ((State.advance wh x_CanFrames_76).can 3).objs, objMB y = false) ∧ segOutput canS.data = true ∧ segFrank
      canS.data ≠ (State.advance wh x_CanFrames_76).pms.frMux ∧ (State.advance wh x_CanFrames_76).canStationOf 3 canS =
      some 9)) ∧
    ((State.advance wh cs).can 3).Sends 0 canT ∧
    ((State.advance wh x_CanFrames_76).can 3).Sends 0 canS :=
  ⟨by constructorm* _ ∧ _ <;> decide +kernel,
   ⟨by decide +kernel, by decide +kernel, by decide +kernel, by decide +kernel, fun j y h0 h => all_getElem (P := fun j y => j ≠ 0 → objEN y = true → objTX y = true → y.flag obTXWAIT = true → BitVec.toNat canT.id < BitVec.toNat y.id ∨ canT.id = y.id ∧ 0 < j) (by decide +kernel) j y h h0⟩,
   ⟨by decide +kernel, by decide +kernel, by decide +kernel, by decide +kernel, fun j y h0 h => all_getElem (P := fun j y => j ≠ 0 → objEN y = true → objTX y = true → y.flag obTXWAIT = true → BitVec.toNat canS.id < BitVec.toNat y.id ∨ canS.id = y.id ∧ 0 < j) (by decide +kernel) j y h h0⟩⟩

/-- `Obligations.BusPorts`: its hypotheses are met, clause by clause. -/
theorem witness_BusPorts :
    (((State.advance wh cs).portLive 3 useCAN = true ∧ (State.advance wh cs).portRuns 3 = true ∧ (∀ y ∈
      ((State.advance wh cs).can 3).objs, objTX y = true → objMB y = true → y.flag obTXWAIT = false)) ∧
    (3 < 24 ∧ (State.advance wh x_BusPorts_18).good Dom.net = true ∧ (State.advance wh x_BusPorts_18).portUse 3 =
      useCAN ∧ (State.advance wh x_BusPorts_18).portState 3 = psBUSOFF ∧ (cmAUTOREC ((State.advance wh
      x_BusPorts_18).portRec 3) = true ∨ ((State.advance wh x_BusPorts_18).can 3).borec = true)) ∧
    (3 < 24 ∧ (State.advance wh x_BusPorts_20).refusePort ins (Reg.FPT_PG_CANCTRL 3) 3 useCAN (2 + ((State.advance wh
      x_BusPorts_20).rd (Reg.FPT_PG_CANCTRL 3)).setBits 31 1 0) = none ∧ (State.advance wh x_BusPorts_20).portState 3 =
      psBUSOFF ∧ (State.advance wh x_BusPorts_20).refusePort ins (Reg.FPT_PG_CANCTRL 3) 3 useCAN (n2w (b2n true)) = none
      ∧ (State.advance wh x_BusPorts_20).refuse ins (Reg.FPT_PG_CANCTRL 3) (n2w (b2n true)) = none) ∧
    (3 < 24 ∧ (State.advance wh x_BusPorts_21).refusePort ins (Reg.FPT_PG_CANCTRL 3) 3 useCAN (2 + ((State.advance wh
      x_BusPorts_21).rd (Reg.FPT_PG_CANCTRL 3)).setBits 31 1 0) = none ∧ (State.advance wh x_BusPorts_21).portState 3 ≠
      psBUSOFF ∧ (State.advance wh x_BusPorts_21).refusePort ins (Reg.FPT_PG_CANCTRL 3) 3 useCAN (n2w (b2n true)) = none
      ∧ (State.advance wh x_BusPorts_21).refuse ins (Reg.FPT_PG_CANCTRL 3) (n2w (b2n true)) = none) ∧
    (3 < 24 ∧ (State.advance wh x_BusPorts_22).refuse ins (Reg.FPT_PG_CANCTRL 3) (n2w (b2n true)) = none ∧
      (State.advance wh x_BusPorts_22).portUse 3 ≠ useCAN) ∧
    (3 < 24 ∧ (State.advance wh x_BusPorts_23).good Dom.net = true ∧ (State.advance wh x_BusPorts_23).quiescing 3 =
      false ∧ ((State.advance wh x_BusPorts_23).portState 3 = psRUN ∨ (State.advance wh x_BusPorts_23).portState 3 =
      psRESTRICTED) ∧ ((State.advance wh x_BusPorts_23).can 3).restrBy = some (1, 2)) ∧
    ((State.advance wh us1).portLive 3 useUART = true ∧ (State.advance wh us1).portRuns 3 = true ∧ (State.advance wh
      us1).laneUp = true ∧ utMSTP ((State.advance wh us1).portRec 3) = false ∧ ((State.advance wh us1).uart 3).deNs ≤
      (State.advance wh us1).ns ∧ ((State.advance wh us1).uart 3).askedTo ≤ (State.advance wh us1).ns ∧ 5 < 128 ∧
      (State.advance wh us1).portMb 3 1 = some (5, x_BusPorts_26) ∧ ((State.advance wh us1).mb 5).tx = x_BusPorts_27 ::
      x_BusPorts_28 ∧ deLen ((State.advance wh us1).desc x_BusPorts_26 x_BusPorts_27.idx) ≤ mbBufsz x_BusPorts_26 ∧
      (mbOwner x_BusPorts_26 = 0 ∨ x_BusPorts_27.frank = (State.advance wh us1).pms.frMux) ∧ (∀ y ∈ x_BusPorts_28, y.idx
      ≠ x_BusPorts_27.idx) ∧ (∀ i < x_BusPorts_25.length, i < deLen ((State.advance wh us1).desc x_BusPorts_26
      x_BusPorts_27.idx) → x_BusPorts_25.getD i 0 = ((State.advance wh us1).sramBytes (deBuf ((State.advance wh
      us1).desc x_BusPorts_26 x_BusPorts_27.idx)) (deLen ((State.advance wh us1).desc x_BusPorts_26
      x_BusPorts_27.idx))).getD i 0)) ∧
    ((State.advance wh us1).portLive 3 useUART = true ∧ (State.advance wh us1).portRuns 3 = true ∧ (State.advance wh
      us1).laneUp = true ∧ utMSTP ((State.advance wh us1).portRec 3) = false ∧ ((State.advance wh us1).uart 3).deNs ≤
      (State.advance wh us1).ns ∧ ((State.advance wh us1).uart 3).askedTo ≤ (State.advance wh us1).ns ∧ 5 < 128 ∧
      (State.advance wh us1).portMb 3 1 = some (5, x_BusPorts_30) ∧ ((State.advance wh us1).mb 5).tx = x_BusPorts_31 ::
      x_BusPorts_32 ∧ deLen ((State.advance wh us1).desc x_BusPorts_30 x_BusPorts_31.idx) ≤ mbBufsz x_BusPorts_30 ∧
      (mbOwner x_BusPorts_30 = 0 ∨ x_BusPorts_31.frank = (State.advance wh us1).pms.frMux) ∧ (∀ y ∈ x_BusPorts_32, y.idx
      ≠ x_BusPorts_31.idx) ∧ (¬∀ i < x_BusPorts_29.length, i < deLen ((State.advance wh us1).desc x_BusPorts_30
      x_BusPorts_31.idx) → x_BusPorts_29.getD i 0 = ((State.advance wh us1).sramBytes (deBuf ((State.advance wh
      us1).desc x_BusPorts_30 x_BusPorts_31.idx)) (deLen ((State.advance wh us1).desc x_BusPorts_30
      x_BusPorts_31.idx))).getD i 0)) ∧
    ((State.advance wh x_BusPorts_37).portLive 3 useUART = true ∧ (State.advance wh x_BusPorts_37).portRuns 3 = true ∧
      (State.advance wh x_BusPorts_37).laneUp = true ∧ utMSTP ((State.advance wh x_BusPorts_37).portRec 3) = false ∧
      ((State.advance wh x_BusPorts_37).uart 3).deNs ≤ (State.advance wh x_BusPorts_37).ns ∧ ((State.advance wh
      x_BusPorts_37).uart 3).askedTo ≤ (State.advance wh x_BusPorts_37).ns ∧ 5 < 128 ∧ (State.advance wh
      x_BusPorts_37).portMb 3 1 = some (5, x_BusPorts_34) ∧ ((State.advance wh x_BusPorts_37).mb 5).tx = x_BusPorts_35
      :: x_BusPorts_36 ∧ mbOwner x_BusPorts_34 ≠ 0 ∧ x_BusPorts_35.frank ≠ (State.advance wh x_BusPorts_37).pms.frMux) ∧
    (((State.advance wh x_BusPorts_39).ns < ((State.advance wh x_BusPorts_39).uart 3).deNs ∨ utMSTP ((State.advance wh
      x_BusPorts_39).portRec 3) = false ∧ (State.advance wh x_BusPorts_39).ns < ((State.advance wh x_BusPorts_39).uart
      3).askedTo ∨ utMSTP ((State.advance wh x_BusPorts_39).portRec 3) = true ∧ (State.advance wh x_BusPorts_39).ns <
      ((State.advance wh x_BusPorts_39).uart 3).rxNs + utBitNs ((State.advance wh x_BusPorts_39).portRec 3) 40)) ∧
    ((State.advance wh x_BusPorts_47).portLive 3 useUART = true ∧ (State.advance wh x_BusPorts_47).portRuns 3 = true ∧
      (State.advance wh x_BusPorts_47).laneUp = true ∧ utMSTP ((State.advance wh x_BusPorts_47).portRec 3) = true ∧
      ((State.advance wh x_BusPorts_47).uart 3).deNs ≤ (State.advance wh x_BusPorts_47).ns ∧ ((State.advance wh
      x_BusPorts_47).uart 3).rxNs + utBitNs ((State.advance wh x_BusPorts_47).portRec 3) 40 ≤ (State.advance wh
      x_BusPorts_47).ns ∧ (((State.advance wh x_BusPorts_47).uart 3).reply = true ∨ ((State.advance wh
      x_BusPorts_47).uart 3).token = some 0 ∧ ((State.advance wh x_BusPorts_47).uart 3).next ≠ none) ∧ ((State.advance
      wh x_BusPorts_47).uart 3).reply = false) ∧
    ((State.advance wh x_BusPorts_48).portLive 3 useUART = true ∧ (State.advance wh x_BusPorts_48).portRuns 3 = true ∧
      (((State.advance wh x_BusPorts_48).uart 3).deNs + List.foldl (fun n c => n + c.gap + utCharNs ((State.advance wh
      x_BusPorts_48).portRec 3)) 0 mok ≤ (State.advance wh x_BusPorts_48).ns) ∧ utFrames ((State.advance wh
      x_BusPorts_48).portRec 3) mok = [mok] ∧ (¬(0 < (List.filter (fun d => d.2.1) (List.map (utChar ((State.advance wh
      x_BusPorts_48).portRec 3)) mok)).length + (List.filter (fun d => d.2.2) (List.map (utChar ((State.advance wh
      x_BusPorts_48).portRec 3)) mok)).length ∨ (if utMSTP ((State.advance wh x_BusPorts_48).portRec 3) = true then
      mstpFrame (List.map (fun x => x.1) (List.map (utChar ((State.advance wh x_BusPorts_48).portRec 3)) mok)) else
      List.map (fun x => x.1) (List.map (utChar ((State.advance wh x_BusPorts_48).portRec 3)) mok)) = [] ∨ utMSTP
      ((State.advance wh x_BusPorts_48).portRec 3) = false ∧ ∃ c ∈ List.drop 1 mok, utInnerNs ((State.advance wh
      x_BusPorts_48).portRec 3) < c.gap)) ∧ (utCrcOk ((State.advance wh x_BusPorts_48).portRec 3) (if utMSTP
      ((State.advance wh x_BusPorts_48).portRec 3) = true then mstpFrame (List.map (fun x => x.1) (List.map (utChar
      ((State.advance wh x_BusPorts_48).portRec 3)) mok)) else List.map (fun x => x.1) (List.map (utChar ((State.advance
      wh x_BusPorts_48).portRec 3)) mok)) = true)) ∧
    ((State.advance wh x_BusPorts_49).portLive 3 useUART = true ∧ (State.advance wh x_BusPorts_49).portRuns 3 = true ∧
      ((State.advance wh x_BusPorts_49).ns < ((State.advance wh x_BusPorts_49).uart 3).deNs + List.foldl (fun n c => n +
      c.gap + utCharNs ((State.advance wh x_BusPorts_49).portRec 3)) 0 mok)) ∧
    ((State.advance wh x_BusPorts_51).portLive 3 useUART = true ∧ (State.advance wh x_BusPorts_51).portRuns 3 = true ∧
      (((State.advance wh x_BusPorts_51).uart 3).deNs + List.foldl (fun n c => n + c.gap + utCharNs ((State.advance wh
      x_BusPorts_51).portRec 3)) 0 x_BusPorts_50 ≤ (State.advance wh x_BusPorts_51).ns) ∧ utFrames ((State.advance wh
      x_BusPorts_51).portRec 3) x_BusPorts_50 = [x_BusPorts_50] ∧ (¬(0 < (List.filter (fun d => d.2.1) (List.map (utChar
      ((State.advance wh x_BusPorts_51).portRec 3)) x_BusPorts_50)).length + (List.filter (fun d => d.2.2) (List.map
      (utChar ((State.advance wh x_BusPorts_51).portRec 3)) x_BusPorts_50)).length ∨ (if utMSTP ((State.advance wh
      x_BusPorts_51).portRec 3) = true then mstpFrame (List.map (fun x => x.1) (List.map (utChar ((State.advance wh
      x_BusPorts_51).portRec 3)) x_BusPorts_50)) else List.map (fun x => x.1) (List.map (utChar ((State.advance wh
      x_BusPorts_51).portRec 3)) x_BusPorts_50)) = [] ∨ utMSTP ((State.advance wh x_BusPorts_51).portRec 3) = false ∧ ∃
      c ∈ List.drop 1 x_BusPorts_50, utInnerNs ((State.advance wh x_BusPorts_51).portRec 3) < c.gap)) ∧ (utCrcOk
      ((State.advance wh x_BusPorts_51).portRec 3) (if utMSTP ((State.advance wh x_BusPorts_51).portRec 3) = true then
      mstpFrame (List.map (fun x => x.1) (List.map (utChar ((State.advance wh x_BusPorts_51).portRec 3)) x_BusPorts_50))
      else List.map (fun x => x.1) (List.map (utChar ((State.advance wh x_BusPorts_51).portRec 3)) x_BusPorts_50)) =
      false)) ∧
    ((State.advance wh x_BusPorts_56).portLive 3 useUART = true ∧ (State.advance wh x_BusPorts_56).portRuns 3 = true ∧
      (((State.advance wh x_BusPorts_56).uart 3).deNs + List.foldl (fun n c => n + c.gap + utCharNs ((State.advance wh
      x_BusPorts_56).portRec 3)) 0 mok ≤ (State.advance wh x_BusPorts_56).ns) ∧ utFrames ((State.advance wh
      x_BusPorts_56).portRec 3) mok = [mok] ∧ (0 < (List.filter (fun d => d.2.1) (List.map (utChar ((State.advance wh
      x_BusPorts_56).portRec 3)) mok)).length + (List.filter (fun d => d.2.2) (List.map (utChar ((State.advance wh
      x_BusPorts_56).portRec 3)) mok)).length ∨ (if utMSTP ((State.advance wh x_BusPorts_56).portRec 3) = true then
      mstpFrame (List.map (fun x => x.1) (List.map (utChar ((State.advance wh x_BusPorts_56).portRec 3)) mok)) else
      List.map (fun x => x.1) (List.map (utChar ((State.advance wh x_BusPorts_56).portRec 3)) mok)) = [] ∨ utMSTP
      ((State.advance wh x_BusPorts_56).portRec 3) = false ∧ ∃ c ∈ List.drop 1 mok, utInnerNs ((State.advance wh
      x_BusPorts_56).portRec 3) < c.gap)) ∧
    ((State.advance wh x_BusPorts_61).portLive 3 useDALI = true ∧ (State.advance wh x_BusPorts_61).portRuns 3 = true ∧
      (State.advance wh x_BusPorts_61).good Dom.fab = true ∧ (State.advance wh x_BusPorts_61).laneServes = true ∧
      ((State.advance wh x_BusPorts_61).dali 3).backoff = false ∧ (∀ (y : DaliTx), ((State.advance wh
      x_BusPorts_61).dali 3).tx = some y → y.twice = false) ∧ (State.advance wh x_BusPorts_61).daliStation 3 = some (5,
      dst) ∧ (State.advance wh x_BusPorts_61).daliNext 3 5 x_BusPorts_60 = some dTw ∧ dTw.frank ≠ (State.advance wh
      x_BusPorts_61).pms.frMux) ∧
    ((State.advance wh dss).portLive 3 useDALI = true ∧ (State.advance wh dss).portRuns 3 = true ∧ (State.advance wh
      dss).good Dom.fab = true ∧ (State.advance wh dss).laneServes = true ∧ ((State.advance wh dss).dali 3).backoff =
      false ∧ (∀ (y : DaliTx), ((State.advance wh dss).dali 3).tx = some y → y.twice = false) ∧ (State.advance wh
      dss).daliStation 3 = some (5, dst) ∧ (State.advance wh dss).daliNext 3 5 DaliSend.searchEnd = some x_BusPorts_65 ∧
      x_BusPorts_65.frank = (State.advance wh dss).pms.frMux ∧ x_BusPorts_65.last = true) ∧
    ((State.advance wh x_BusPorts_66).portLive 3 useDALI = true ∧ (State.advance wh x_BusPorts_66).portRuns 3 = true ∧
      ((State.advance wh x_BusPorts_66).dali 3).backoff = true ∧ ((State.advance wh x_BusPorts_66).dali 3).tx = some dTw
      ∧ dTw.frank = (State.advance wh x_BusPorts_66).pms.frMux ∧ ((State.advance wh x_BusPorts_66).dali 3).repeats < 2) ∧
    ((State.advance wh x_BusPorts_67).portLive 3 useDALI = true ∧ (State.advance wh x_BusPorts_67).portRuns 3 = true ∧
      ((State.advance wh x_BusPorts_67).dali 3).backoff = true ∧ ((State.advance wh x_BusPorts_67).dali 3).tx = some dTw
      ∧ dTw.frank = (State.advance wh x_BusPorts_67).pms.frMux ∧ 2 ≤ ((State.advance wh x_BusPorts_67).dali 3).repeats) ∧
    ((State.advance wh x_BusPorts_68).portLive 3 useDALI = true ∧ (State.advance wh x_BusPorts_68).portRuns 3 = true ∧
      ((State.advance wh x_BusPorts_68).dali 3).backoff = true ∧ ((State.advance wh x_BusPorts_68).dali 3).tx = some dTw
      ∧ dTw.frank ≠ (State.advance wh x_BusPorts_68).pms.frMux) ∧
    ((State.advance wh x_BusPorts_69).portLive 3 useDALI = true ∧ (State.advance wh x_BusPorts_69).good Dom.fab = true
      ∧ ((State.advance wh x_BusPorts_69).dali 3).backoff = false ∧ ((State.advance wh x_BusPorts_69).dali 3).tx = some
      dIn ∧ dIn.twice = false ∧ (State.advance wh x_BusPorts_69).daliStation 3 = some (5, dst)) ∧
    ((State.advance wh dss).portLive 3 useDALI = true ∧ (State.advance wh dss).good Dom.fab = true ∧ (State.advance wh
      dss).laneServes = true ∧ (State.advance wh dss).flag (F.FPT_PG_DALISTAT_SEARCH 3) = true) ∧
    ((State.advance wh ds).portLive 3 useDALI = true ∧ (State.advance wh ds).portRuns 3 = true) ∧
    ((State.advance wh x_BusPorts_72).portLive 3 useDALI = true ∧ (State.advance wh x_BusPorts_72).portState 3 =
      psNOPOWER) ∧
    (3 < 24 ∧ (State.advance wh ds).refusePort ins (Reg.FPT_PG_DALICTRL 3) 3 useDALI 0 = none ∧ Word.bits 0 1 0 ≠ 1) ∧
    (3 < 24 ∧ (State.advance wh x_BusPorts_73).refusePort ins (Reg.FPT_PG_DALICTRL 3) 3 useDALI 1 = none ∧ Word.bits 1
      1 0 = 1 ∧ ((State.advance wh x_BusPorts_73).mode ≠ 1 ∨ (State.advance wh x_BusPorts_73).lc = lcMAKER ∨
      (State.advance wh x_BusPorts_73).lc = lcSERVICE) ∧ ((State.advance wh x_BusPorts_73).laneServes = false ∨
      (State.advance wh x_BusPorts_73).portState 3 ≠ psRUN)) ∧
    (3 < 24 ∧ (State.advance wh x_BusPorts_74).refusePort ins (Reg.FPT_PG_DALICTRL 3) 3 useDALI 1 = none ∧ Word.bits 1
      1 0 = 1 ∧ (State.advance wh x_BusPorts_74).mode = 1 ∧ (State.advance wh x_BusPorts_74).lc ≠ lcMAKER ∧
      (State.advance wh x_BusPorts_74).lc ≠ lcSERVICE) ∧
    (3 < 24 ∧ (State.advance wh x_BusPorts_75).refusePort mk (Reg.FPT_PG_DALICTRL 3) 3 useDALI 1 = none ∧ Word.bits 1
      1 0 = 1 ∧ (State.advance wh x_BusPorts_75).mode = 1 ∧ ((State.advance wh x_BusPorts_75).mode ≠ 1 ∨ (State.advance
      wh x_BusPorts_75).lc = lcMAKER ∨ (State.advance wh x_BusPorts_75).lc = lcSERVICE) ∧ (State.advance wh
      x_BusPorts_75).laneServes = true ∧ (State.advance wh x_BusPorts_75).portState 3 = psRUN)) ∧
    (State.advance wh x_BusPorts_61).daliSettled 3 dTw.prio = true ∧
    (State.advance wh dss).daliSettled 3 x_BusPorts_65.prio = true :=
  ⟨by constructorm* _ ∧ _ <;> decide +kernel,
   by rw [(by decide +kernel : dTw.prio = 2)]; exact settled_of_ns (by decide +kernel) rfl,
   by rw [(by decide +kernel : x_BusPorts_65.prio = 2)]; exact settled_of_ns (by decide +kernel) rfl⟩

end WL

/-! ### Frame MACs -/

namespace WM

def nw (idle : Nat) : Rec := Rec.build 256 ([(0,1,0),(1,1,9),(0x0C,2,100),(0x0E,2,200),(0x10,6,0x112233445566),(0x16,1,1)] ++ (List.range 8).map fun q => (0x90 + 8*q, 4, idle))
def mbr (d : Nat) (n : Nat) : Rec := Rec.build 64 [(0,1,n),(1,1,0x80),(2,1,1),(4,2,16),(6,2,2048),(8,4,0x1000),(12,4,0x2000),(16,1,d),(0x11,1,3)]
def ms : State := { (up.setFld (F.ETH_STATUS_LINK 0) 1).setFld (F.ETH_STATUS_RATE 0) 2 with man := {up.man with cfg := (up.man.cfg.put 4 [nw 0]).put 5 [mbr 1 5, mbr 0 6, mbr 0 7]}, pms := {up.pms with frMux := 0x701} }
def f1 : EthFrame := ⟨leBytes 6 0x112233445566, 64, true, none, 0x800, none, none, 0, List.replicate 64 7⟩
def mtt : State := (ms.sramPut 0x1000 (leBytes 16 (0x200 + 2^31))).wr (Reg.MBG_TAIL 6) 4
def tx : TxD := ⟨0, 0x701, 0, 0, false⟩
def ms1 := (ms.sramPut 0x1000 (leBytes 16 (0x200 + 2^31+ 2^29 + 64 * 2^32))).setMb 5 ⟨0, [tx], none⟩
def mbo : Rec := (mbr 1 5).set 3 1
def msS : State := {ms1 with man := {ms1.man with cfg := ms1.man.cfg.put 5 [mbo]}}
def x_MacFrames_0 : EthFrame := {f1 with fcsOk := false}
def x_MacFrames_1 : Rec := nw 0
def x_MacFrames_2 : EthFrame := {f1 with dest := leBytes 6 0x112233445568}
def x_MacFrames_3 : Rec := nw 0
def x_MacFrames_4 : EthFrame := {f1 with dest := pauseAddr, pauseOp := some (1,5)}
def x_MacFrames_5 : Rec := nw 0
def x_MacFrames_10 : Rec := nw 0
def x_MacFrames_11 : Rec := mbr 0 6
def x_MacFrames_12 : Rec := nw 0
def x_MacFrames_13 : Rec := mbr 0 6
def x_MacFrames_14 : Rec := nw 0
def x_MacFrames_15 : State := {mtt with man := {mtt.man with cfg := mtt.man.cfg.put 5 []}}
def x_MacFrames_16 : State := (ms.setMac 0 ⟨some 5, none, []⟩)
def x_MacFrames_17 : Rec := nw 0
def x_MacFrames_18 : Rec := mbr 1 5
def x_MacFrames_21 : Rec := nw 0
def x_MacFrames_22 : TxD := {tx with frank := 5}
def x_MacFrames_23 : State := msS.setMb 5 ⟨0, [{tx with frank := 5}], none⟩
def x_MacFrames_24 : Rec := nw 0
def x_MacFrames_25 : State := ms1.setMac 0 ⟨some 2000000000, none, []⟩
def x_MacFrames_28 : Rec := nw 0
def x_MacFrames_29 : Rec := mbr 1 5
def x_MacFrames_30 : MacTx := ⟨5,0,0,77,[1,2]⟩
def x_MacFrames_31 : State := (ms1.setMac 0 ⟨none, some ⟨5,0,0,77,[1,2]⟩, []⟩)
def x_MacFrames_35 : Rec := mbr 1 5
def x_MacFrames_36 : List (BitVec 128) := [5,6,7]
def x_MacFrames_37 : Rec := mbr 0 6
def x_MacFrames_38 : List (BitVec 128) := [5,6,7]

/-- `Obligations.MacFrames`: its hypotheses are met, clause by clause. -/
theorem witness_MacFrames :
    (0 < 7 ∧ (State.advance wh ms).macLive 0 = some x_MacFrames_1 ∧ 64 ≤ x_MacFrames_0.len ∧ (x_MacFrames_0.len ≤ if
      x_MacFrames_0.tag.isSome = true then 1522 else 1518) ∧ x_MacFrames_0.fcsOk = false) ∧
    (0 < 7 ∧ (State.advance wh ms).macLive 0 = some x_MacFrames_3 ∧ 64 ≤ x_MacFrames_2.len ∧ (x_MacFrames_2.len ≤ if
      x_MacFrames_2.tag.isSome = true then 1522 else 1518) ∧ x_MacFrames_2.fcsOk = true ∧ x_MacFrames_2.pauseOp = none ∧
      macAccepts x_MacFrames_3 x_MacFrames_2.dest = false) ∧
    (0 < 7 ∧ (State.advance wh ms).macLive 0 = some x_MacFrames_5 ∧ 64 ≤ x_MacFrames_4.len ∧ (x_MacFrames_4.len ≤ if
      x_MacFrames_4.tag.isSome = true then 1522 else 1518) ∧ x_MacFrames_4.fcsOk = true ∧ x_MacFrames_4.dest =
      pauseAddr) ∧
    (0 < 7 ∧ (State.advance wh ms).macLive 0 = some x_MacFrames_10 ∧ 64 ≤ f1.len ∧ (f1.len ≤ if f1.tag.isSome = true
      then 1522 else 1518) ∧ f1.fcsOk = true ∧ f1.pauseOp = none ∧ macAccepts x_MacFrames_10 f1.dest = true ∧ f1.udpPort
      ≠ some 47300 ∧ f1.udpPort ≠ some Config.pairPort ∧ x_MacFrames_11 ∈ (State.advance wh ms).recs 5 ∧ mbPort
      x_MacFrames_11 = macPort 0 ∧ mbDir x_MacFrames_11 = 0 ∧ mbMatches x_MacFrames_11 f1 = true ∧ (∀ c ∈ (State.advance
      wh ms).recs 5, c ≠ x_MacFrames_11 → mbPort c = macPort 0 → mbDir c = 0 → mbMatches c f1 = true → x_MacFrames_11.u8
      0 < c.u8 0) ∧ (State.advance wh ms).rd (Reg.MBG_HEAD (x_MacFrames_11.u8 0)) = (State.advance wh ms).rd
      (Reg.MBG_TAIL (x_MacFrames_11.u8 0))) ∧
    (0 < 7 ∧ (State.advance wh mtt).macLive 0 = some x_MacFrames_12 ∧ 64 ≤ f1.len ∧ (f1.len ≤ if f1.tag.isSome = true
      then 1522 else 1518) ∧ f1.fcsOk = true ∧ f1.pauseOp = none ∧ macAccepts x_MacFrames_12 f1.dest = true ∧ f1.udpPort
      ≠ some 47300 ∧ f1.udpPort ≠ some Config.pairPort ∧ x_MacFrames_13 ∈ (State.advance wh mtt).recs 5 ∧ mbPort
      x_MacFrames_13 = macPort 0 ∧ mbDir x_MacFrames_13 = 0 ∧ mbMatches x_MacFrames_13 f1 = true ∧ (∀ c ∈ (State.advance
      wh mtt).recs 5, c ≠ x_MacFrames_13 → mbPort c = macPort 0 → mbDir c = 0 → mbMatches c f1 = true →
      x_MacFrames_13.u8 0 < c.u8 0) ∧ (State.advance wh mtt).rd (Reg.MBG_HEAD (x_MacFrames_13.u8 0)) ≠ (State.advance wh
      mtt).rd (Reg.MBG_TAIL (x_MacFrames_13.u8 0)) ∧ BitVec.toNat ((State.advance wh mtt).rd (Reg.MBG_HEAD
      (x_MacFrames_13.u8 0))) < mbEntries x_MacFrames_13 ∧ f1.tag = none ∧ f1.len ≤ mbBufsz x_MacFrames_13 ∧
      f1.data.length = f1.len ∧ deOwn ((State.advance wh mtt).desc x_MacFrames_13 (BitVec.toNat ((State.advance wh
      mtt).rd (Reg.MBG_HEAD (x_MacFrames_13.u8 0))))) = true ∧ (deBuf ((State.advance wh mtt).desc x_MacFrames_13
      (BitVec.toNat ((State.advance wh mtt).rd (Reg.MBG_HEAD (x_MacFrames_13.u8 0))))) + f1.len ≤ mbRing x_MacFrames_13
      ∨ mbRing x_MacFrames_13 + 16 * mbEntries x_MacFrames_13 ≤ deBuf ((State.advance wh mtt).desc x_MacFrames_13
      (BitVec.toNat ((State.advance wh mtt).rd (Reg.MBG_HEAD (x_MacFrames_13.u8 0))))))) ∧
    (0 < 7 ∧ (State.advance wh x_MacFrames_15).macLive 0 = some x_MacFrames_14 ∧ 64 ≤ f1.len ∧ (f1.len ≤ if
      f1.tag.isSome = true then 1522 else 1518) ∧ f1.fcsOk = true ∧ f1.pauseOp = none ∧ macAccepts x_MacFrames_14
      f1.dest = true ∧ f1.udpPort ≠ some 47300 ∧ f1.udpPort ≠ some Config.pairPort ∧ (∀ b ∈ (State.advance wh
      x_MacFrames_15).recs 5, mbPort b = macPort 0 → mbDir b = 0 → mbMatches b f1 = false)) ∧
    (0 < 7 ∧ ((State.advance wh x_MacFrames_16).mac 0).pausedTo = some 5 ∧ 5 ≤ (State.advance wh x_MacFrames_16).ns) ∧
    (0 < 7 ∧ (State.advance wh ms1).macLive 0 = some x_MacFrames_17 ∧ (∀ q < 8, nwIdle x_MacFrames_17 q = 0) ∧
      ((State.advance wh ms1).mac 0).cur = none ∧ (∀ (e : Nat), ((State.advance wh ms1).mac 0).pausedTo = some e → e ≤
      (State.advance wh ms1).ns) ∧ (5, x_MacFrames_18, tx) ∈ (State.advance wh ms1).macHeads 0 ∧ (∀ h ∈ (State.advance
      wh ms1).macHeads 0, h ≠ (5, x_MacFrames_18, tx) → deQueue ((State.advance wh ms1).desc h.2.1 h.2.2.idx) < deQueue
      ((State.advance wh ms1).desc x_MacFrames_18 tx.idx) ∨ deQueue ((State.advance wh ms1).desc h.2.1 h.2.2.idx) =
      deQueue ((State.advance wh ms1).desc x_MacFrames_18 tx.idx) ∧ tx.seq < h.2.2.seq) ∧ (State.advance wh
      ms1).txIsStale 0 x_MacFrames_18 tx = false ∧ deLen ((State.advance wh ms1).desc x_MacFrames_18 tx.idx) ≤ mbBufsz
      x_MacFrames_18 ∧ ((deLen ((State.advance wh ms1).desc x_MacFrames_18 tx.idx) + if deTag ((State.advance wh
      ms1).desc x_MacFrames_18 tx.idx) = true then 4 else 0) ≤ 1522)) ∧
    (0 < 7 ∧ (State.advance wh x_MacFrames_23).macLive 0 = some x_MacFrames_21 ∧ ((State.advance wh
      x_MacFrames_23).mac 0).cur = none ∧ (∀ (e : Nat), ((State.advance wh x_MacFrames_23).mac 0).pausedTo = some e → e ≤
      (State.advance wh x_MacFrames_23).ns) ∧ ((State.advance wh x_MacFrames_23).settle 0).macNext 0 = some (5, mbo,
      x_MacFrames_22) ∧ mbOwner mbo ≠ 0 ∧ x_MacFrames_22.frank ≠ (State.advance wh x_MacFrames_23).pms.frMux) ∧
    (0 < 7 ∧ (State.advance wh x_MacFrames_25).macLive 0 = some x_MacFrames_24 ∧ (((State.advance wh
      x_MacFrames_25).mac 0).cur = none ∧ ((State.advance wh x_MacFrames_25).mac 0).pausedTo = some 2000000000 ∧
      (State.advance wh x_MacFrames_25).ns < 2000000000 ∨ ((State.advance wh x_MacFrames_25).mac 0).cur ≠ none)) ∧
    (0 < 7 ∧ (State.advance wh x_MacFrames_31).good Dom.net = true ∧ ((State.advance wh x_MacFrames_31).mac 0).cur =
      some x_MacFrames_30 ∧ (State.advance wh x_MacFrames_31).mbRec x_MacFrames_30.mb = some x_MacFrames_29 ∧
      (State.advance wh x_MacFrames_31).netRec 0 = some x_MacFrames_28 ∧ deTs ((State.advance wh x_MacFrames_31).desc
      x_MacFrames_29 x_MacFrames_30.idx) = true ∧ mbOwner x_MacFrames_29 ≠ 0) ∧
    (0 < 7 ∧ (State.advance wh ms1).good Dom.net = true ∧ 3 < 4 ∧ ((∃ r, (State.advance wh ms1).netRec 0 = some r ∧
      r.bit 1 0 = true) ∨ (State.advance wh ms1).netRec 0 = none ∧ 0 = 6)) ∧
    (5 < 128 ∧ (State.advance wh ms1).mbRec 5 = some x_MacFrames_35 ∧ (State.advance wh ms1).good Dom.net = true ∧
      (mbOwner x_MacFrames_35 = 0 ∨ (State.advance wh ms1).laneUp = true) ∧ x_MacFrames_36.length ≤ (State.advance wh
      ms1).mbRoom 5 x_MacFrames_35 ∧ BitVec.toNat ((State.advance wh ms1).rd (Reg.MBG_TAIL 5)) < mbEntries
      x_MacFrames_35 ∧ (24 ≤ mbPort x_MacFrames_35 ∨ (State.advance wh ms1).portUse (mbPort x_MacFrames_35) ≠ useCAN) ∧
      mbDir x_MacFrames_35 = 1) ∧
    (6 < 128 ∧ (State.advance wh ms1).mbRec 6 = some x_MacFrames_37 ∧ (State.advance wh ms1).good Dom.net = true ∧
      (mbOwner x_MacFrames_37 = 0 ∨ (State.advance wh ms1).laneUp = true) ∧ x_MacFrames_38.length ≤ (State.advance wh
      ms1).mbRoom 6 x_MacFrames_37 ∧ BitVec.toNat ((State.advance wh ms1).rd (Reg.MBG_TAIL 6)) < mbEntries
      x_MacFrames_37 ∧ (24 ≤ mbPort x_MacFrames_37 ∨ (State.advance wh ms1).portUse (mbPort x_MacFrames_37) ≠ useCAN) ∧
      mbDir x_MacFrames_37 ≠ 1) :=
  by constructorm* _ ∧ _ <;> decide +kernel

end WM

/-! ### The Counter -/

namespace WN

def kl : State := (((up.wr (Reg.KEY_SLOT0 1) (n2w (1 + 1 * 16 + 0x1F00 + 0x70000))).setFld F.KEY_STATUS_LC 2).wr (Reg.KEY_SLOT1 1) 1)
def fr (sess seq : Nat) : Sys2Proof.Frame := ⟨1, sess, seq, true, true, .spi, 0, 0⟩
def h0 : State := nx (.ctrHello wh (fr 0 0) 0 5) kl
def rd1 : Instr := .ctrRead wh (fr 1 1) 0 1
def idq : State := {kl with ctr := {kl.ctr with queue := [.ctrIdent wh (fr 0 0), rd1]}}
def lt (n : Nat) : When := ⟨1000000000 + n * 1000000, 7, 5⟩
def x0 (s : State) : Session := theSession (s.ctr.sessions.map (·.2)).head?
def sx (op : Bool) (seq last : Nat) (st : Option Answer) : Session := ⟨1, 0, .maker, 0, op, .spi, 0, 0, seq, st, last, 60, 15, 0, []⟩
def ws (x : Session) : State := {kl with ns := x.lastNs, ctr := {kl.ctr with sessions := [(0, x)], nextSession := 2}}
def h1 : State := ws (sx false 0 1000000000 none)
def o1 : State := ws (sx true 1 1002000000 (some ⟨0, [0x00020002], true⟩))
def o2 : State := ws (sx true 2 1004000000 (some ⟨0, [0], true⟩))
def o3 : State := o2.startLong 8 mk (.imgVerify 1 0)
def x_CounterFrames_0 : Sys2Proof.Frame := fr 0 0
def x_CounterFrames_1 : Sys2Proof.Frame := fr 0 0
def x_CounterFrames_2 : Binding := ⟨.maker, 0, 15, 0, 0, 0, 60⟩
def x_CounterFrames_3 : Sys2Proof.Frame := fr 0 0
def x_CounterFrames_4 : State := kl.wr (Reg.KEY_SLOT0 1) 0
def x_CounterFrames_9 : State := {kl with ctr := {kl.ctr with lockout := [(5, 9), (7, 1000000000)]}}
def x_CounterFrames_10 : State := {kl with ctr := {kl.ctr with lockout := [(7, 1000000001)]}}
def x_CounterFrames_11 : Sys2Proof.Frame := fr 1 1
def x_CounterFrames_12 : List Word := [0]
def x_CounterFrames_13 : State := kl.setFld F.MOD_DOMAINS_GOOD 0
def x_CounterFrames_14 : Sys2Proof.Frame := {fr 1 1 with ver := 2}
def x_CounterFrames_15 : List Word := [0]
def x_CounterFrames_16 : Instr := .ctrRead wh {fr 1 1 with ver := 2} 0 1
def x_CounterFrames_17 : Sys2Proof.Frame := fr 1 1
def x_CounterFrames_18 : List Word := [0]
def x_CounterFrames_19 : State := {kl with ctr := {kl.ctr with txEnd := 2000000000}}
def x_CounterFrames_20 : Sys2Proof.Frame := fr 1 1
def x_CounterFrames_21 : List Word := [0]
def x_CounterFrames_22 : State := {kl with ctr := {kl.ctr with txEnd := 2000000000, queue := List.replicate 8 rd1}}
def x_CounterFrames_23 : When := la 5
def x_CounterFrames_24 : Sys2Proof.Frame := fr 0 0
def x_CounterFrames_25 : List Instr := [rd1]
def x_CounterFrames_26 : When := la 5
def x_CounterFrames_27 : When := la 5
def x_CounterSessions_29 : When := lt 2
def x_CounterSessions_30 : Sys2Proof.Frame := fr 1 1
def x_CounterSessions_31 : Session := x0 h1
def x_CounterSessions_32 : When := lt 4
def x_CounterSessions_33 : Sys2Proof.Frame := fr 1 2
def x_CounterSessions_34 : Session := x0 o1
def x_CounterSessions_35 : When := lt 4
def x_CounterSessions_36 : Sys2Proof.Frame := fr 1 2
def x_CounterSessions_37 : Session := x0 o1
def x_CounterSessions_38 : State := {o1 with keys := {o1.keys with winBy := 1, win := [1,2]}}
def x_CounterSessions_39 : When := ⟨3000000000, 7, 5⟩
def x_CounterSessions_40 : Session := x0 h1
def x_CounterSessions_43 : When := ⟨61002000000, 7, 5⟩
def x_CounterSessions_44 : Session := x0 o1
def x_CounterSessions_47 : When := lt 4
def x_CounterSessions_48 : Session := x0 o1
def x_CounterRequests_49 : When := lt 4
def x_CounterRequests_50 : Sys2Proof.Frame := fr 1 2
def x_CounterRequests_51 : Session := x0 o1
def x_CounterRequests_55 : When := lt 4
def x_CounterRequests_56 : Sys2Proof.Frame := fr 1 2
def x_CounterRequests_57 : RegDesc := rdOf Reg.PWR_LADCFG
def x_CounterRequests_58 : Session := x0 o1
def x_CounterRequests_59 : When := lt 4
def x_CounterRequests_60 : Sys2Proof.Frame := fr 1 2
def x_CounterRequests_61 : RegDesc := rdOf Reg.PWR_LADCFG
def x_CounterRequests_62 : Session := x0 o1
def x_CounterRequests_63 : State := {o1 with evr := {o1.evr with buf := List.replicate 1024 ⟨none, 5, 0, 0, 0, 0, 0, 0, 0, 0, 0, [1,2], 0⟩}}
def x_CounterRequests_64 : When := lt 6
def x_CounterRequests_65 : Sys2Proof.Frame := fr 1 2
def x_CounterRequests_66 : List Word := List.replicate 64 0
def x_CounterRequests_67 : Session := x0 o2
def x_CounterRequests_69 : When := lt 6
def x_CounterRequests_70 : Sys2Proof.Frame := fr 1 1
def x_CounterRequests_71 : List Word := List.replicate 64 0
def x_CounterRequests_72 : Session := x0 o2
def x_CounterRequests_74 : When := lt 6
def x_CounterRequests_75 : Sys2Proof.Frame := fr 1 3
def x_CounterRequests_76 : List Word := List.replicate 64 0
def x_CounterRequests_77 : Session := x0 o2
def x_CounterRequests_79 : When := lt 6
def x_CounterRequests_80 : Sys2Proof.Frame := fr 2 3
def x_CounterRequests_81 : List Word := List.replicate 64 0
def x_CounterRequests_82 : Instr := .ctrRead (lt 6) (fr 2 3) 5 64

/-- `Obligations.CounterFrames`: its hypotheses are met, clause by clause. -/
theorem witness_CounterFrames :
    ((CtrTakes (State.advance wh kl) x_CounterFrames_0 ∧ (State.advance wh kl).longBusy = false ∧ (State.advance wh
      kl).ctr.aborted = none ∧ x_CounterFrames_0.tp = Transport.spi) ∧
    (CtrTakes (State.advance wh kl) x_CounterFrames_1 ∧ (State.advance wh kl).longBusy = false ∧ (State.advance wh
      kl).ctr.aborted = none ∧ SessionsOk (State.advance wh kl) ∧ 0 < 256 ∧ (State.advance wh kl).locked 0 = false ∧
      (State.advance wh kl).helloCheck x_CounterFrames_1 0 = none ∧ (State.advance wh kl).binding 0 = some
      x_CounterFrames_2 ∧ (State.advance wh kl).freeEntry = some 0) ∧
    (CtrTakes (State.advance wh x_CounterFrames_4) x_CounterFrames_3 ∧ (State.advance wh x_CounterFrames_4).longBusy =
      false ∧ (State.advance wh x_CounterFrames_4).ctr.aborted = none ∧ 1 < 256) ∧
    (State.advance wh x_CounterFrames_9).locked 7 = false ∧
    (State.advance wh x_CounterFrames_10).locked 7 = true ∧
    (1 ≤ 1 ∧ 1 ≤ 64 ∧ x_CounterFrames_12.length = 1 ∧ (rd1 = Instr.ctrIdent wh x_CounterFrames_11 ∨ rd1 =
      Instr.ctrHello wh x_CounterFrames_11 0 0 ∨ rd1 = Instr.ctrOpen wh x_CounterFrames_11 ∨ rd1 = Instr.ctrClose wh
      x_CounterFrames_11 ∨ rd1 = Instr.ctrRead wh x_CounterFrames_11 0 1 ∨ rd1 = Instr.ctrWrite wh x_CounterFrames_11 0
      x_CounterFrames_12) ∧ (State.advance wh x_CounterFrames_13).reachable x_CounterFrames_11.tp = false) ∧
    (1 ≤ 1 ∧ 1 ≤ 64 ∧ x_CounterFrames_15.length = 1 ∧ (x_CounterFrames_16 = Instr.ctrIdent wh x_CounterFrames_14 ∨
      x_CounterFrames_16 = Instr.ctrHello wh x_CounterFrames_14 0 0 ∨ x_CounterFrames_16 = Instr.ctrOpen wh
      x_CounterFrames_14 ∨ x_CounterFrames_16 = Instr.ctrClose wh x_CounterFrames_14 ∨ x_CounterFrames_16 =
      Instr.ctrRead wh x_CounterFrames_14 0 1 ∨ x_CounterFrames_16 = Instr.ctrWrite wh x_CounterFrames_14 0
      x_CounterFrames_15) ∧ (State.advance wh kl).reachable x_CounterFrames_14.tp = true ∧ (State.advance wh kl).takes
      x_CounterFrames_14 true = false) ∧
    (1 ≤ 1 ∧ 1 ≤ 64 ∧ x_CounterFrames_18.length = 1 ∧ (rd1 = Instr.ctrIdent wh x_CounterFrames_17 ∨ rd1 =
      Instr.ctrHello wh x_CounterFrames_17 0 0 ∨ rd1 = Instr.ctrOpen wh x_CounterFrames_17 ∨ rd1 = Instr.ctrClose wh
      x_CounterFrames_17 ∨ rd1 = Instr.ctrRead wh x_CounterFrames_17 0 1 ∨ rd1 = Instr.ctrWrite wh x_CounterFrames_17 0
      x_CounterFrames_18) ∧ (State.advance wh x_CounterFrames_19).reachable x_CounterFrames_17.tp = true ∧
      (State.advance wh x_CounterFrames_19).takes x_CounterFrames_17 true = true ∧ (State.advance wh
      x_CounterFrames_19).txBusy = true ∧ (State.advance wh x_CounterFrames_19).ctr.queue.length < 8) ∧
    (1 ≤ 1 ∧ 1 ≤ 64 ∧ x_CounterFrames_21.length = 1 ∧ (rd1 = Instr.ctrIdent wh x_CounterFrames_20 ∨ rd1 =
      Instr.ctrHello wh x_CounterFrames_20 0 0 ∨ rd1 = Instr.ctrOpen wh x_CounterFrames_20 ∨ rd1 = Instr.ctrClose wh
      x_CounterFrames_20 ∨ rd1 = Instr.ctrRead wh x_CounterFrames_20 0 1 ∨ rd1 = Instr.ctrWrite wh x_CounterFrames_20 0
      x_CounterFrames_21) ∧ (State.advance wh x_CounterFrames_22).reachable x_CounterFrames_20.tp = true ∧
      (State.advance wh x_CounterFrames_22).takes x_CounterFrames_20 true = true ∧ (State.advance wh
      x_CounterFrames_22).txBusy = true ∧ 8 ≤ (State.advance wh x_CounterFrames_22).ctr.queue.length) ∧
    ((State.advance x_CounterFrames_23 idq).good Dom.ref = true ∧ (State.advance x_CounterFrames_23 idq).pwr.rstLow =
      false ∧ (State.advance x_CounterFrames_23 idq).pwr.pfail = false ∧ (State.advance x_CounterFrames_23 idq).longBusy
      = false ∧ (State.advance x_CounterFrames_23 idq).ctr.aborted = none ∧ (State.advance x_CounterFrames_23
      idq).ctr.queue = Instr.ctrIdent wh x_CounterFrames_24 :: x_CounterFrames_25) ∧
    (State.advance x_CounterFrames_26 kl).ctr.queue = [] ∧
    ((State.advance x_CounterFrames_27 h0).good Dom.ref = true ∧ (State.advance x_CounterFrames_27 h0).ctr.spi ≠
      none)) ∧
    ((State.advance wh x_CounterFrames_4).locked 1 = true ∨ ∃ c, (State.advance wh x_CounterFrames_4).helloCheck
      x_CounterFrames_3 1 = some c) :=
  ⟨by constructorm* _ ∧ _ <;> (try unfold SessionsOk) <;> (try unfold CtrTakes) <;> decide +kernel,
   Or.inr ⟨3, by decide +kernel⟩⟩

/-- `Obligations.CounterSessions`: its hypotheses are met, clause by clause. -/
theorem witness_CounterSessions :
    (CtrTakes (State.advance x_CounterSessions_29 h1) x_CounterSessions_30 ∧ (State.advance x_CounterSessions_29
      h1).longBusy = false ∧ (State.advance x_CounterSessions_29 h1).ctr.aborted = none ∧ SessionsOk (State.advance
      x_CounterSessions_29 h1) ∧ (State.advance x_CounterSessions_29 h1).authOf x_CounterSessions_30 = some (0,
      x_CounterSessions_31) ∧ x_CounterSessions_31.opened = false ∧ x_CounterSessions_31.seq = 0 ∧
      x_CounterSessions_30.seq = 1) ∧
    (Asks (State.advance x_CounterSessions_32 o1) x_CounterSessions_33 0 x_CounterSessions_34 ∧ (State.advance
      x_CounterSessions_32 o1).keys.winBy ≠ x_CounterSessions_34.num) ∧
    (Asks (State.advance x_CounterSessions_35 x_CounterSessions_38) x_CounterSessions_36 0 x_CounterSessions_37 ∧
      (State.advance x_CounterSessions_35 x_CounterSessions_38).keys.winBy = x_CounterSessions_37.num) ∧
    (SessionsOk (State.advance x_CounterSessions_39 h1) ∧ (State.advance x_CounterSessions_39 h1).sessOf 1 = some (0,
      x_CounterSessions_40) ∧ x_CounterSessions_40.opened = false ∧ x_CounterSessions_40.lastNs + 2000000000 ≤
      (State.advance x_CounterSessions_39 h1).ns ∧ (x_CounterSessions_40.opened = false ∨ (State.advance
      x_CounterSessions_39 h1).ns < x_CounterSessions_40.lastNs + x_CounterSessions_40.idle * 1000000000)) ∧
    (SessionsOk (State.advance x_CounterSessions_43 o1) ∧ (State.advance x_CounterSessions_43 o1).sessOf 1 = some (0,
      x_CounterSessions_44) ∧ (x_CounterSessions_44.opened = true ∨ (State.advance x_CounterSessions_43 o1).ns <
      x_CounterSessions_44.lastNs + 2000000000) ∧ x_CounterSessions_44.opened = true ∧ x_CounterSessions_44.lastNs +
      x_CounterSessions_44.idle * 1000000000 ≤ (State.advance x_CounterSessions_43 o1).ns) ∧
    (SessionsOk (State.advance x_CounterSessions_47 o1) ∧ (State.advance x_CounterSessions_47 o1).sessOf 1 = some (0,
      x_CounterSessions_48) ∧ (State.advance x_CounterSessions_47 o1).refuse mk Reg.CTR_KILL (n2w 1) = none) :=
  by constructorm* _ ∧ _ <;> (try unfold Asks) <;> (try unfold SessionsOk) <;> (try unfold CtrTakes) <;> decide +kernel

/-- `Obligations.CounterRequests`: its hypotheses are met, clause by clause. -/
theorem witness_CounterRequests :
    (Asks (State.advance x_CounterRequests_49 o1) x_CounterRequests_50 0 x_CounterRequests_51 ∧ isLo Reg.PWR_LADCFG =
      false ∧ isCal Reg.PWR_LADCFG = false ∧ blockOf Reg.PWR_LADCFG ≠ some Blk.ctr ∧ Reg.PWR_LADCFG ≠ Reg.PMK_COR_SEQ ∧
      Reg.PWR_LADCFG ≠ Reg.EVR_HIGHFILL ∧ isQuad Reg.PWR_LADCFG = false ∧ (¬(1056768 ≤ Reg.PWR_LADCFG ∧ Reg.PWR_LADCFG <
      1060864)) ∧ (State.advance x_CounterRequests_49 o1).refuseWordRead x_CounterRequests_51.who Reg.PWR_LADCFG = none
      ∧ (State.advance x_CounterRequests_49 o1).latch.get? Reg.PWR_LADCFG = none) ∧
    (Asks (State.advance x_CounterRequests_55 o1) x_CounterRequests_56 0 x_CounterRequests_58 ∧ ownRow Reg.PWR_LADCFG
      = false ∧ findReg Reg.PWR_LADCFG = some x_CounterRequests_57 ∧ (State.advance x_CounterRequests_55 o1).refuse
      x_CounterRequests_58.who Reg.PWR_LADCFG 32 = none ∧ (State.advance x_CounterRequests_55 o1).valueBad
      Reg.PWR_LADCFG 32 = false ∧ (State.advance x_CounterRequests_55 o1).evr.room 57345 = true) ∧
    (Asks (State.advance x_CounterRequests_59 x_CounterRequests_63) x_CounterRequests_60 0 x_CounterRequests_62 ∧
      ownRow Reg.PWR_LADCFG = false ∧ findReg Reg.PWR_LADCFG = some x_CounterRequests_61 ∧ (State.advance
      x_CounterRequests_59 x_CounterRequests_63).refuse x_CounterRequests_62.who Reg.PWR_LADCFG 32 = none ∧
      (State.advance x_CounterRequests_59 x_CounterRequests_63).valueBad Reg.PWR_LADCFG 32 = false ∧ (State.advance
      x_CounterRequests_59 x_CounterRequests_63).evr.room 57345 = false) ∧
    (CtrTakes (State.advance x_CounterRequests_64 o2) x_CounterRequests_65 ∧ SessionsOk (State.advance
      x_CounterRequests_64 o2) ∧ (State.advance x_CounterRequests_64 o2).longBusy = false ∧ (State.advance
      x_CounterRequests_64 o2).authOf x_CounterRequests_65 = some (0, x_CounterRequests_67) ∧
      x_CounterRequests_67.opened = true ∧ 1 ≤ 64 ∧ 64 ≤ 64 ∧ x_CounterRequests_66.length = 64 ∧
      x_CounterRequests_67.seq = x_CounterRequests_65.seq) ∧
    (CtrTakes (State.advance x_CounterRequests_69 o2) x_CounterRequests_70 ∧ SessionsOk (State.advance
      x_CounterRequests_69 o2) ∧ (State.advance x_CounterRequests_69 o2).longBusy = false ∧ (State.advance
      x_CounterRequests_69 o2).authOf x_CounterRequests_70 = some (0, x_CounterRequests_72) ∧
      x_CounterRequests_72.opened = true ∧ 1 ≤ 64 ∧ 64 ≤ 64 ∧ x_CounterRequests_71.length = 64 ∧
      x_CounterRequests_70.seq < x_CounterRequests_72.seq) ∧
    (CtrTakes (State.advance x_CounterRequests_74 o3) x_CounterRequests_75 ∧ SessionsOk (State.advance
      x_CounterRequests_74 o3) ∧ (State.advance x_CounterRequests_74 o3).ctr.long = some (theLong o3.ctr.long) ∧
      (State.advance x_CounterRequests_74 o3).authOf x_CounterRequests_75 = some (0, x_CounterRequests_77) ∧
      x_CounterRequests_77.opened = true ∧ x_CounterRequests_77.seq < x_CounterRequests_75.seq ∧ 1 ≤ 64 ∧ 64 ≤ 64 ∧
      x_CounterRequests_76.length = 64) ∧
    (CtrTakes (State.advance x_CounterRequests_79 o2) x_CounterRequests_80 ∧ (State.advance x_CounterRequests_79
      o2).longBusy = false ∧ (State.advance x_CounterRequests_79 o2).authOf x_CounterRequests_80 = none ∧ 1 ≤ 64 ∧ 64 ≤
      64 ∧ x_CounterRequests_81.length = 64 ∧ (x_CounterRequests_82 = Instr.ctrRead x_CounterRequests_79
      x_CounterRequests_80 5 64 ∨ x_CounterRequests_82 = Instr.ctrWrite x_CounterRequests_79 x_CounterRequests_80 5
      x_CounterRequests_81 ∨ x_CounterRequests_82 = Instr.ctrClose x_CounterRequests_79 x_CounterRequests_80)) :=
  by constructorm* _ ∧ _ <;> (try unfold Asks) <;> (try unfold SessionsOk) <;> (try unfold CtrTakes) <;> decide +kernel

end WN

/-! ### Keys and tamper -/

namespace WP

def ks (lc : Nat) : State := (up.setFld F.KEY_STATUS_LC lc)
def ksl (n kind : Nat) (s : State) : State := s.wr (Reg.KEY_SLOT0 n) (n2w (1 + kind * 16 + 0x1F00 + 0x70000))
def lost : State := let s := (((ksl 4 6 (ksl 3 6 (ks 1))).setFld (F.KEY_SLOT0_STATE 3) 2)); {s with keys := {s.keys with store := [(3,[1,2]),(4,[5])]}}
def kw (c : Nat) : State := ((((ks 1).wr (Reg.KEY_LOADATTR 0) 0x70040).setKeys {up.keys with win := [1,2,3]}).startLong 4 mk (.keyWrite 5 c))
def tm : State := let s := (ksl 3 6 (ksl 4 4 (ks 2))); s
def wk (n : Nat) (k : Nat) : State := (ksl n k (ks 2)).wr (Reg.KEY_SLOT1 n) 1
def x_KeyCommands_0 : State := ks 1
def x_KeyCommands_1 : State := (ks 1).setFld F.MOD_DOMAINS_GOOD 0xFB
def x_KeyCommands_3 : State := (ksl 3 4 (ks 4))
def x_KeyCommands_4 : State := (ksl 3 6 (ks 1)).wr (Reg.KEY_SLOT1 3) 1
def x_KeyCommands_5 : State := (ks 1)
def x_KeyCommands_6 : State := lost.setFld F.KEY_STATUS_ROOTOK 0
def x_KeyCommands_7 : State := lost.setFld F.KEY_STATUS_ROOTOK 1
def x_KeyCommands_8 : State := ks 1
def x_KeyCommands_9 : State := (ks 1).setFld F.TSK_STATUS_MODE 1
def x_KeyCommands_10 : When := {wh with ns := 20000000000}
def x_KeyCommands_11 : State := {ks 1 with keys := {up.keys with win := [1], winNs := 10000000000}}
def x_KeyCommands_12 : When := {wh with ns := 19999999999}
def x_KeyCommands_13 : State := {ks 1 with keys := {up.keys with win := [1], winNs := 10000000000}}
def x_KeyCommands_14 : State := {ks 1 with keys := {up.keys with zero := some (3,false)}}
def x_KeyCommands_18 : State := kw 6
def x_LifeCycle_19 : State := ks 0
def x_LifeCycle_20 : State := ksl 0 1 (ksl 1 1 (ks 1))
def x_LifeCycle_21 : State := ks 1
def x_LifeCycle_22 : State := ks 2
def x_LifeCycle_23 : State := ks 3
def x_LifeCycle_24 : State := ks 2
def x_LifeCycle_25 : State := ks 3
def x_LifeCycle_26 : State := ks 2
def x_LifeCycle_27 : State := ks 0
def x_LifeCycle_28 : State := {ks 3 with keys := {up.keys with svcEnd := some 5}}
def x_LifeCycle_29 : State := {ks 3 with keys := {up.keys with svcEnd := some 2000000000}}
def x_TamperAndWorkingKey_30 : State := tm.setFld F.MOD_DOMAINS_GOOD 0
def x_TamperAndWorkingKey_32 : State := wk 3 6
def x_TamperAndWorkingKey_33 : State := wk 3 6
def x_TamperAndWorkingKey_34 : State := wk 4 6
def x_TamperAndWorkingKey_35 : State := (wk 3 6).setKeys {up.keys with wk := some ⟨.lna,3,0,true⟩}
def x_TamperAndWorkingKey_36 : WkReq := ⟨.lna,3,0,true⟩
def x_TamperAndWorkingKey_37 : State := (wk 3 6).setKeys {up.keys with wk := some ⟨.lna,3,0,true⟩}

/-- `Obligations.KeyCommands`: its hypotheses are met, clause by clause. -/
theorem witness_KeyCommands :
    (31 < 32 ∧ mk.role = Role.maker ∧ (State.advance wh x_KeyCommands_0).refuse mk Reg.KEY_CTRL (keyWord 1 31 0) =
      none ∧ (State.advance wh x_KeyCommands_0).refuse mk Reg.KEY_CTRL (keyWord 2 31 0) = none ∧ 1 ≤ (State.advance wh
      x_KeyCommands_0).lc ∧ (State.advance wh x_KeyCommands_0).lc ≤ 3 ∧ Settled (State.advance wh x_KeyCommands_0) ∧
      (State.advance wh x_KeyCommands_0).good Dom.pmm = true) ∧
    (31 < 32 ∧ mk.role = Role.maker ∧ (State.advance wh x_KeyCommands_1).refuse mk Reg.KEY_CTRL (keyWord 1 31 0) =
      none ∧ (State.advance wh x_KeyCommands_1).refuse mk Reg.KEY_CTRL (keyWord 2 31 0) = none ∧ 1 ≤ (State.advance wh
      x_KeyCommands_1).lc ∧ (State.advance wh x_KeyCommands_1).lc ≤ 3 ∧ Settled (State.advance wh x_KeyCommands_1) ∧
      (State.advance wh x_KeyCommands_1).good Dom.pmm = false) ∧
    (3 < 32 ∧ mk.role = Role.maker ∧ (State.advance wh x_KeyCommands_3).refuse mk Reg.KEY_CTRL (keyWord 1 3 0) = none
      ∧ (State.advance wh x_KeyCommands_3).refuse mk Reg.KEY_CTRL (keyWord 2 3 0) = none ∧ 1 ≤ (State.advance wh
      x_KeyCommands_3).lc ∧ ((State.advance wh x_KeyCommands_3).lc = 0 ∨ (State.advance wh x_KeyCommands_3).lc = 4)) ∧
    (3 < 32 ∧ ins.im = true ∧ (State.advance wh x_KeyCommands_4).refuse ins Reg.KEY_CTRL (keyWord 3 3 0) = none ∧
      (State.advance wh x_KeyCommands_4).keyUsable 3 6 2 0 = true) ∧
    (3 < 32 ∧ mk.im = true ∧ (State.advance wh x_KeyCommands_5).refuse mk Reg.KEY_CTRL (keyWord 3 3 0) = none ∧
      (State.advance wh x_KeyCommands_5).keyUsable 3 6 2 0 = false) ∧
    (mk.role = Role.maker ∧ (State.advance wh x_KeyCommands_6).refuse mk Reg.KEY_CTRL (keyWord 4 0 0) = none ∧
      (State.advance wh x_KeyCommands_6).keys.active = [] ∧ 1 ≤ (State.advance wh x_KeyCommands_6).lc ∧ (State.advance
      wh x_KeyCommands_6).lc ≤ 3 ∧ (State.advance wh x_KeyCommands_6).rootOk = false ∧ Settled (State.advance wh
      x_KeyCommands_6)) ∧
    (mk.role = Role.maker ∧ (State.advance wh x_KeyCommands_7).refuse mk Reg.KEY_CTRL (keyWord 4 0 0) = none ∧
      (State.advance wh x_KeyCommands_7).keys.active = [] ∧ 1 ≤ (State.advance wh x_KeyCommands_7).lc ∧ (State.advance
      wh x_KeyCommands_7).lc ≤ 3 ∧ ((State.advance wh x_KeyCommands_7).keys.active ≠ [] ∨ (State.advance wh
      x_KeyCommands_7).lc = 0 ∨ (State.advance wh x_KeyCommands_7).lc = 4 ∨ (State.advance wh x_KeyCommands_7).rootOk =
      true)) ∧
    (mk.role = Role.maker ∧ 7 < 8 ∧ (State.advance wh x_KeyCommands_8).refuse mk Reg.KEY_CTRL (keyWord 5 0 7) = none ∧
      (7 / 4 % 2 = 1 → (State.advance wh x_KeyCommands_8).mode = 0) ∧ 7 / 4 % 2 = 1) ∧
    (mk.role = Role.maker ∧ 7 < 8 ∧ (State.advance wh x_KeyCommands_9).refuse mk Reg.KEY_CTRL (keyWord 5 0 7) = none ∧
      7 / 4 % 2 = 1 ∧ (State.advance wh x_KeyCommands_9).mode ≠ 0) ∧
    (State.advance x_KeyCommands_10 x_KeyCommands_11).keys.winNs + 10000000000 ≤ (State.advance x_KeyCommands_10
      x_KeyCommands_11).ns ∧
    (State.advance x_KeyCommands_12 x_KeyCommands_13).ns < (State.advance x_KeyCommands_12
      x_KeyCommands_13).keys.winNs + 10000000000 ∧
    ((State.advance wh x_KeyCommands_14).keys.zero = some (3, false) ∧ (State.advance wh x_KeyCommands_14).good
      Dom.pmm = true ∧ (State.advance wh x_KeyCommands_14).ctr.long = none) ∧
    ((State.advance wh x_KeyCommands_18).good Dom.ref = true ∧ (State.advance wh x_KeyCommands_18).pwr.pfail = false ∧
      (State.advance wh x_KeyCommands_18).pms.restart = none ∧ (State.advance wh x_KeyCommands_18).ctr.long = some
      (theLong (kw 6).ctr.long) ∧ (theLong (kw 6).ctr.long).work = LongWork.keyWrite 5 6 ∧ (theLong (kw
      6).ctr.long).kind = 4 ∧ 5 < 32 ∧ Settled (State.advance wh x_KeyCommands_18) ∧ 6 ≠ 0) :=
  by constructorm* _ ∧ _ <;> (try unfold Settled) <;> decide +kernel

/-- `Obligations.LifeCycle`: its hypotheses are met, clause by clause. -/
theorem witness_LifeCycle :
    (mk.role = Role.maker ∧ (State.advance wh x_LifeCycle_19).refuse mk Reg.KEY_LCCTRL (n2w ((State.advance wh
      x_LifeCycle_19).fld F.KEY_LCCTRL_SVCHOURS * 256 + 1)) = none ∧ (State.advance wh x_LifeCycle_19).lc = 0 ∧ Settled
      (State.advance wh x_LifeCycle_19)) ∧
    (mk.role = Role.maker ∧ (State.advance wh x_LifeCycle_20).refuse mk Reg.KEY_LCCTRL (n2w ((State.advance wh
      x_LifeCycle_20).fld F.KEY_LCCTRL_SVCHOURS * 256 + 1)) = none ∧ (State.advance wh x_LifeCycle_20).lc = 1 ∧
      (State.advance wh x_LifeCycle_20).keyState 0 = ksVALID ∧ (State.advance wh x_LifeCycle_20).keyState 1 = ksVALID) ∧
    (mk.role = Role.maker ∧ (State.advance wh x_LifeCycle_21).refuse mk Reg.KEY_LCCTRL (n2w ((State.advance wh
      x_LifeCycle_21).fld F.KEY_LCCTRL_SVCHOURS * 256 + 1)) = none ∧ (State.advance wh x_LifeCycle_21).lc = 1 ∧ (2 ≤
      (State.advance wh x_LifeCycle_21).lc ∨ (State.advance wh x_LifeCycle_21).lc = 1 ∧ ((State.advance wh
      x_LifeCycle_21).keyState 0 ≠ ksVALID ∨ (State.advance wh x_LifeCycle_21).keyState 1 ≠ ksVALID))) ∧
    (mk.im = true ∧ (State.advance wh x_LifeCycle_22).refuse mk Reg.KEY_LCCTRL (n2w ((State.advance wh
      x_LifeCycle_22).fld F.KEY_LCCTRL_SVCHOURS * 256 + 2)) = none ∧ (State.advance wh x_LifeCycle_22).lc = 2) ∧
    (ins.im = true ∧ (State.advance wh x_LifeCycle_23).refuse ins Reg.KEY_LCCTRL (n2w ((State.advance wh
      x_LifeCycle_23).fld F.KEY_LCCTRL_SVCHOURS * 256 + 2)) = none ∧ (State.advance wh x_LifeCycle_23).lc ≠ 2) ∧
    (mk.im = true ∧ (State.advance wh x_LifeCycle_24).refuse mk Reg.KEY_LCCTRL (n2w ((State.advance wh
      x_LifeCycle_24).fld F.KEY_LCCTRL_SVCHOURS * 256 + 3)) = none ∧ (State.advance wh x_LifeCycle_24).lc ≠ 3) ∧
    (ins.im = true ∧ (State.advance wh x_LifeCycle_25).refuse ins Reg.KEY_LCCTRL (n2w ((State.advance wh
      x_LifeCycle_25).fld F.KEY_LCCTRL_SVCHOURS * 256 + 3)) = none ∧ (State.advance wh x_LifeCycle_25).lc = 3) ∧
    (mk.role = Role.maker ∧ (State.advance wh x_LifeCycle_26).refuse mk Reg.KEY_LCCTRL (n2w ((State.advance wh
      x_LifeCycle_26).fld F.KEY_LCCTRL_SVCHOURS * 256 + 4)) = none ∧ 1 ≤ (State.advance wh x_LifeCycle_26).lc ∧
      (State.advance wh x_LifeCycle_26).lc ≤ 3 ∧ (State.advance wh x_LifeCycle_26).mode = 0) ∧
    (mk.role = Role.maker ∧ (State.advance wh x_LifeCycle_27).refuse mk Reg.KEY_LCCTRL (n2w ((State.advance wh
      x_LifeCycle_27).fld F.KEY_LCCTRL_SVCHOURS * 256 + 4)) = none ∧ ((State.advance wh x_LifeCycle_27).lc = 0 ∨
      (State.advance wh x_LifeCycle_27).lc = 4 ∨ (State.advance wh x_LifeCycle_27).mode ≠ 0)) ∧
    ((State.advance wh x_LifeCycle_28).keys.svcEnd = some 5 ∧ (State.advance wh x_LifeCycle_28).lc = 3 ∧ 5 ≤
      (State.advance wh x_LifeCycle_28).ns) ∧
    ((State.advance wh x_LifeCycle_29).keys.svcEnd = some 2000000000 ∧ (State.advance wh x_LifeCycle_29).lc = 3 ∧
      (State.advance wh x_LifeCycle_29).ns < 2000000000) :=
  by constructorm* _ ∧ _ <;> (try unfold Settled) <;> decide +kernel

/-- `Obligations.TamperAndWorkingKey`: its hypotheses are met, clause by clause. -/
theorem witness_TamperAndWorkingKey :
    ((State.advance wh tm).watched Tamper.mesh = true ∧ (State.advance wh tm).ctr.long = none ∧ (State.advance wh
      tm).good Dom.ref = true ∧ SessionsOk (State.advance wh tm)) ∧
    ((State.advance wh x_TamperAndWorkingKey_30).watched Tamper.mesh = true ∧ (State.advance wh
      x_TamperAndWorkingKey_30).ctr.long = none ∧ (State.advance wh x_TamperAndWorkingKey_30).good Dom.ref = false) ∧
    (State.advance wh tm).watched Tamper.loopA = false ∧
    ((State.advance wh x_TamperAndWorkingKey_32).good Dom.ref = true ∧ 3 < 32 ∧ 0 < 64 ∧ (State.advance wh
      x_TamperAndWorkingKey_32).keys.wk = none ∧ (State.advance wh x_TamperAndWorkingKey_32).keyUsable 3 ((State.advance
      wh x_TamperAndWorkingKey_32).keyKind 3) (Master.bit Master.lna) 0 = true ∧ secretKind ((State.advance wh
      x_TamperAndWorkingKey_32).keyKind 3) = true ∧ (Master.lna = Master.lna ∨ Master.lna = Master.lnb)) ∧
    ((State.advance wh x_TamperAndWorkingKey_33).good Dom.ref = true ∧ 3 < 32 ∧ 0 < 64 ∧ (State.advance wh
      x_TamperAndWorkingKey_33).keys.wk = none ∧ (State.advance wh x_TamperAndWorkingKey_33).keyUsable 3 ((State.advance
      wh x_TamperAndWorkingKey_33).keyKind 3) (Master.bit Master.lna) 0 = true ∧ (true = true ∨ secretKind
      ((State.advance wh x_TamperAndWorkingKey_33).keyKind 3) = false)) ∧
    ((State.advance wh x_TamperAndWorkingKey_34).good Dom.ref = true ∧ 3 < 32 ∧ 1 < 64 ∧ (State.advance wh
      x_TamperAndWorkingKey_34).keys.wk = none ∧ (State.advance wh x_TamperAndWorkingKey_34).keyUsable 3 ((State.advance
      wh x_TamperAndWorkingKey_34).keyKind 3) (Master.bit Master.lna) 1 = false ∧ (State.advance wh
      x_TamperAndWorkingKey_34).keys.denyNs = none ∧ (Master.lna = Master.lna ∨ Master.lna = Master.lnb)) ∧
    ((State.advance wh x_TamperAndWorkingKey_35).good Dom.ref = true ∧ 3 < 32 ∧ 0 < 64 ∧ (State.advance wh
      x_TamperAndWorkingKey_35).keys.wk ≠ none) ∧
    ((State.advance wh x_TamperAndWorkingKey_37).keys.wk = some x_TamperAndWorkingKey_36 ∧ (State.advance wh
      x_TamperAndWorkingKey_37).keys.wait = []) :=
  by constructorm* _ ∧ _ <;> (try unfold SessionsOk) <;> decide +kernel

end WP

/-! ### Images and the recorder -/

namespace WQ

def si (s : State) (n st : Nat) : State := s.setFld (F.MOD_IMG_SLOT0_STATE n) st
def dh (op : List Byte) (rl : Nat) (b : Bool) : List Byte := leBytes 4 0x4C445453 ++ leBytes 4 1 ++ leBytes 4 rl ++ leBytes 4 (64 + op.length) ++ (if b then sha256 [] else sha256 [1]) ++ List.replicate 16 0 ++ op
def dm (op : List Byte) (rl : Nat) (b : Bool) : State := let s := si (si up 0 3) 2 3; {s with pm := {s.pm with home := Mem.setBytes s.pm.home deltaBase (dh op rl b)}}
def vf (r : Nat) : State := (up.startLong 8 mk (.imgVerify 1 r))
def base0 : State := dm [2,4,0,0,9,8,7,6,0,0,0,0] 4 true
def bld (s : State) : State := nx (.imgApply wh mk 2 1) s
def dop : State := dm [2,4,0,0,9,8,7,6] 4 true
def rc : State := {(si up 1 3).setFld F.MOD_IMG_USE_RECOV 1 with pwr := {up.pwr with recovery := true}}
def er (q : Option Nat) : EvRec := ⟨q, 5, 0, 0, 0, 0, 0, 0, 0, 0, 0, [1,2], 0⟩
def rr (l : List EvRec) : State := {up with evr := {up.evr with run := true, buf := l}}
def x_ImageSlotsAndDelta_0 : State := {up with pms := {up.pms with restart := some (1,5)}}
def x_ImageSlotsAndDelta_4 : State := vf 3
def x_ImageSlotsAndDelta_7 : State := si up 1 3
def x_ImageSlotsAndDelta_8 : State := si up 0 3
def x_ImageSlotsAndDelta_9 : List Word := [5, 6]
def x_ImageSlotsAndDelta_10 : List Word := [5, 6]
def x_ImageSlotsAndDelta_11 : State := dm [] 0 false
def x_ImageSlotsAndDelta_12 : State := si up 2 3
def x_ImageSlotsAndDelta_13 : State := si base0 2 1
def x_ImageSlotsAndDelta_14 : When := la 5
def x_ImageSlotsAndDelta_16 : List Byte := [9,8,7,6]
def x_ImageSlotsAndDelta_17 : State := bld base0
def x_ImageSlotsAndDelta_18 : When := la 5
def x_ImageSlotsAndDelta_20 : State := bld dop
def x_ImageSlotsAndDelta_21 : When := la 5
def x_ImageSlotsAndDelta_22 : State := {bld base0 with ctr := up.ctr}
def x_ImageSwitches_23 : State := (si up 1 3)
def x_ImageSwitches_24 : State := (si up 1 1)
def x_ImageSwitches_25 : State := (si up 1 3)
def x_ImageSwitches_26 : State := si rc 1 1
def x_RecorderRing_27 : EvRec := er (some 5)
def x_RecorderRing_28 : State := rr [er (some 5)]
def x_RecorderRing_29 : EvRec := er (some 0xFFFFFFFF)
def x_RecorderRing_30 : State := rr [er (some 0xFFFFFFFF)]
def x_RecorderRing_31 : State := rr [er (some 5), er (some 6)]
def x_RecorderRing_32 : EvRec := {er (some 5) with code := 0x3001}
def x_RecorderRing_33 : EvRec := {er (some 6) with code := 0x1008}
def x_RecorderRing_34 : State := rr [{er (some 5) with code := 0x3001}, {er (some 6) with code := 0x1008}]
def x_RecorderRing_38 : State := {up with evr := {up.evr with resumed := false, saved := ⟨.valid 3 7, .blank⟩, buf := [er none, er none]}}
def x_RecorderRing_39 : State := {up with evr := {up.evr with resumed := true}}

/-- `Obligations.ImageSlotsAndDelta`: its hypotheses are met, clause by clause. -/
theorem witness_ImageSlotsAndDelta :
    (1 < 4 ∧ (State.advance wh up).refuse mk Reg.MOD_IMG_CTRL (imgCmd 1 1 0) = none ∧ (State.advance wh up).pmWorks =
      true) ∧
    (1 < 4 ∧ (State.advance wh x_ImageSlotsAndDelta_0).refuse mk Reg.MOD_IMG_CTRL (imgCmd 1 1 0) = none ∧
      (State.advance wh x_ImageSlotsAndDelta_0).pmWorks = false) ∧
    ((State.advance wh x_ImageSlotsAndDelta_4).good Dom.ref = true ∧ (State.advance wh
      x_ImageSlotsAndDelta_4).pwr.pfail = false ∧ (State.advance wh x_ImageSlotsAndDelta_4).ctr.long = some (theLong (vf
      3).ctr.long) ∧ (theLong (vf 3).ctr.long).work = LongWork.imgVerify 1 3 ∧ (theLong (vf 3).ctr.long).kind = 8 ∧ 1 <
      4 ∧ 3 < 8 ∧ 3 ≠ 0 ∧ (State.advance wh x_ImageSlotsAndDelta_4).good Dom.pmm = true) ∧
    (1 < 4 ∧ (State.advance wh x_ImageSlotsAndDelta_7).refuse mk Reg.MOD_IMG_CTRL (imgCmd 4 1 0) = none ∧
      (State.advance wh x_ImageSlotsAndDelta_7).imgInUse 1 = false ∧ (State.advance wh x_ImageSlotsAndDelta_7).imgState
      1 ≠ 2) ∧
    (0 < 4 ∧ (State.advance wh x_ImageSlotsAndDelta_8).refuse mk Reg.MOD_IMG_CTRL (imgCmd 4 0 0) = none ∧
      ((State.advance wh x_ImageSlotsAndDelta_8).imgInUse 0 = true ∨ (State.advance wh x_ImageSlotsAndDelta_8).imgState
      0 = 2)) ∧
    (3 < 4 ∧ 67108856 % 4 = 0 ∧ x_ImageSlotsAndDelta_9 ≠ [] ∧ 67108856 + 4 * x_ImageSlotsAndDelta_9.length ≤ 67108864
      ∧ (State.advance wh up).longBusy = false ∧ mk.role = Role.maker ∧ (State.advance wh up).on Dom.pmm = true ∧
      (State.advance wh up).imgInUse 3 = false ∧ (State.advance wh up).imgState 3 ≠ 2) ∧
    (0 < 4 ∧ 8 % 4 = 0 ∧ x_ImageSlotsAndDelta_10 ≠ [] ∧ 8 + 4 * x_ImageSlotsAndDelta_10.length ≤ 67108864 ∧
      (State.advance wh up).longBusy = false ∧ mk.role = Role.maker ∧ (State.advance wh up).on Dom.pmm = true ∧
      ((State.advance wh up).imgInUse 0 = true ∨ (State.advance wh up).imgState 0 = 2)) ∧
    (2 < 4 ∧ 1 < 4 ∧ (State.advance wh base0).refuse mk Reg.MOD_IMG_CTRL (imgCmd 2 2 1) = none ∧ (State.advance wh
      base0).pwr.recovery = false ∧ (State.advance wh base0).pmWorks = true ∧ (State.advance wh base0).imgState 2 = 3 ∧
      2 ≠ 1 ∧ (State.advance wh base0).imgInUse 1 = false ∧ (State.advance wh base0).imgState 1 ≠ 2 ∧ (State.advance wh
      base0).handoverImg 1 = false ∧ Settled (State.advance wh base0) ∧ (State.advance wh base0).deltaHeader = true ∧
      (State.advance wh base0).deltaOnBase 2 = true) ∧
    (2 < 4 ∧ 1 < 4 ∧ (State.advance wh x_ImageSlotsAndDelta_11).refuse mk Reg.MOD_IMG_CTRL (imgCmd 2 2 1) = none ∧
      (State.advance wh x_ImageSlotsAndDelta_11).pwr.recovery = false ∧ (State.advance wh
      x_ImageSlotsAndDelta_11).pmWorks = true ∧ (State.advance wh x_ImageSlotsAndDelta_11).imgState 2 = 3 ∧ 2 ≠ 1 ∧
      (State.advance wh x_ImageSlotsAndDelta_11).imgInUse 1 = false ∧ (State.advance wh
      x_ImageSlotsAndDelta_11).imgState 1 ≠ 2 ∧ (State.advance wh x_ImageSlotsAndDelta_11).handoverImg 1 = false ∧
      Settled (State.advance wh x_ImageSlotsAndDelta_11) ∧ (State.advance wh x_ImageSlotsAndDelta_11).deltaHeader = true
      ∧ (State.advance wh x_ImageSlotsAndDelta_11).deltaOnBase 2 = false) ∧
    (2 < 4 ∧ 1 < 4 ∧ (State.advance wh x_ImageSlotsAndDelta_12).refuse mk Reg.MOD_IMG_CTRL (imgCmd 2 2 1) = none ∧
      (State.advance wh x_ImageSlotsAndDelta_12).pwr.recovery = false ∧ (State.advance wh
      x_ImageSlotsAndDelta_12).pmWorks = true ∧ (State.advance wh x_ImageSlotsAndDelta_12).imgState 2 = 3 ∧ 2 ≠ 1 ∧
      (State.advance wh x_ImageSlotsAndDelta_12).imgInUse 1 = false ∧ (State.advance wh
      x_ImageSlotsAndDelta_12).imgState 1 ≠ 2 ∧ (State.advance wh x_ImageSlotsAndDelta_12).handoverImg 1 = false ∧
      Settled (State.advance wh x_ImageSlotsAndDelta_12) ∧ (State.advance wh x_ImageSlotsAndDelta_12).deltaHeader =
      false) ∧
    (2 < 4 ∧ 1 < 4 ∧ (State.advance wh x_ImageSlotsAndDelta_13).refuse mk Reg.MOD_IMG_CTRL (imgCmd 2 2 1) = none ∧
      ((State.advance wh x_ImageSlotsAndDelta_13).pmWorks = false ∨ (State.advance wh x_ImageSlotsAndDelta_13).imgState
      2 ≠ 3 ∨ 2 = 1 ∨ (State.advance wh x_ImageSlotsAndDelta_13).imgInUse 1 = true ∨ (State.advance wh
      x_ImageSlotsAndDelta_13).imgState 1 = 2)) ∧
    ((State.advance x_ImageSlotsAndDelta_14 x_ImageSlotsAndDelta_17).good Dom.ref = true ∧ (State.advance
      x_ImageSlotsAndDelta_14 x_ImageSlotsAndDelta_17).pwr.pfail = false ∧ (State.advance x_ImageSlotsAndDelta_14
      x_ImageSlotsAndDelta_17).ctr.long = some (theLong (bld base0).ctr.long) ∧ (theLong (bld base0).ctr.long).work =
      LongWork.delta 2 1 ∧ (theLong (bld base0).ctr.long).kind = 2 ∧ 2 < 4 ∧ 1 < 4 ∧ 2 ≠ 1 ∧ (State.advance
      x_ImageSlotsAndDelta_14 x_ImageSlotsAndDelta_17).imgState 1 = 2 ∧ (State.advance x_ImageSlotsAndDelta_14
      x_ImageSlotsAndDelta_17).deltaOnBase 2 = true ∧ (State.advance x_ImageSlotsAndDelta_14
      x_ImageSlotsAndDelta_17).deltaResult 2 = some x_ImageSlotsAndDelta_16 ∧ x_ImageSlotsAndDelta_16.length ≤ imgMax ∧
      Settled (State.advance x_ImageSlotsAndDelta_14 x_ImageSlotsAndDelta_17) ∧ (State.advance x_ImageSlotsAndDelta_14
      x_ImageSlotsAndDelta_17).pm.fill ≤ 16000000) ∧
    ((State.advance x_ImageSlotsAndDelta_18 x_ImageSlotsAndDelta_20).good Dom.ref = true ∧ (State.advance
      x_ImageSlotsAndDelta_18 x_ImageSlotsAndDelta_20).pwr.pfail = false ∧ (State.advance x_ImageSlotsAndDelta_18
      x_ImageSlotsAndDelta_20).ctr.long = some (theLong (bld dop).ctr.long) ∧ (theLong (bld dop).ctr.long).work =
      LongWork.delta 2 1 ∧ (theLong (bld dop).ctr.long).kind = 2 ∧ 2 < 4 ∧ 1 < 4 ∧ (State.advance
      x_ImageSlotsAndDelta_18 x_ImageSlotsAndDelta_20).imgState 1 = 2 ∧ ((State.advance x_ImageSlotsAndDelta_18
      x_ImageSlotsAndDelta_20).deltaOnBase 2 = false ∨ (State.advance x_ImageSlotsAndDelta_18
      x_ImageSlotsAndDelta_20).deltaResult 2 = none)) ∧
    ((State.advance x_ImageSlotsAndDelta_21 x_ImageSlotsAndDelta_22).img.delta = some (2, 1) ∧ (State.advance
      x_ImageSlotsAndDelta_21 x_ImageSlotsAndDelta_22).pmWorks = true ∧ (State.advance x_ImageSlotsAndDelta_21
      x_ImageSlotsAndDelta_22).ctr.long = none) :=
  by constructorm* _ ∧ _ <;> (try unfold Settled) <;> decide +kernel

/-- `Obligations.ImageSwitches`: its hypotheses are met, clause by clause. -/
theorem witness_ImageSwitches :
    (1 < 4 ∧ (State.advance wh x_ImageSwitches_23).refuse mk Reg.MOD_IMG_CTRL (imgCmd 3 1 0) = none ∧ (State.advance
      wh x_ImageSwitches_23).pwr.recovery = false ∧ (State.advance wh x_ImageSwitches_23).imgState 1 = 3 ∧
      (State.advance wh x_ImageSwitches_23).pms.change = none ∧ (State.advance wh x_ImageSwitches_23).fld
      F.PMS_STATUS_PHASE = 0 ∧ (State.advance wh x_ImageSwitches_23).pms.restart = none ∧ (State.advance wh
      x_ImageSwitches_23).ctr.long = none ∧ (State.advance wh x_ImageSwitches_23).fld F.MOD_IMG_USE_PM ≠ 1) ∧
    (1 < 4 ∧ (State.advance wh x_ImageSwitches_24).refuse mk Reg.MOD_IMG_CTRL (imgCmd 3 1 0) = none ∧ (State.advance
      wh x_ImageSwitches_24).pwr.recovery = false ∧ ((State.advance wh x_ImageSwitches_24).imgState 1 ≠ 3 ∨
      (State.advance wh x_ImageSwitches_24).pms.change ≠ none ∨ (State.advance wh x_ImageSwitches_24).fld
      F.PMS_STATUS_PHASE ≠ 0 ∨ (State.advance wh x_ImageSwitches_24).pms.restart ≠ none)) ∧
    ((State.advance wh x_ImageSwitches_25).refuse mk Reg.MOD_IMG_CTRL (imgCmd 5 0 0) = none ∧ (State.advance wh
      x_ImageSwitches_25).pwr.recovery = false ∧ (State.advance wh x_ImageSwitches_25).ctr.long = none) ∧
    ((State.advance wh rc).refuse mk Reg.MOD_IMG_CTRL (imgCmd 5 0 0) = none ∧ (State.advance wh rc).pwr.recovery =
      true) ∧
    (1 < 4 ∧ (State.advance wh rc).refuse mk Reg.MOD_IMG_CTRL (imgCmd 6 1 0) = none ∧ (State.advance wh
      rc).pwr.recovery = true ∧ (State.advance wh rc).imgState 1 = 3 ∧ (State.advance wh rc).pwr.recovStrap = false ∧
      (State.advance wh rc).img.pm.get? 1 = none ∧ (State.advance wh rc).ctr.long = none) ∧
    (1 < 4 ∧ (State.advance wh x_ImageSwitches_26).refuse mk Reg.MOD_IMG_CTRL (imgCmd 6 1 0) = none ∧ ((State.advance
      wh x_ImageSwitches_26).pwr.recovery = false ∨ (State.advance wh x_ImageSwitches_26).imgState 1 ≠ 3) ∧
      (State.advance wh x_ImageSwitches_26).pwr.recovery = true) :=
  by constructorm* _ ∧ _ <;> decide +kernel

/-- `Obligations.RecorderRing`: its hypotheses are met, clause by clause. -/
theorem witness_RecorderRing :
    ((State.advance wh x_RecorderRing_28).evr.run = true ∧ (State.advance wh x_RecorderRing_28).good Dom.pmm = true ∧
      (State.advance wh x_RecorderRing_28).pwr.pfail = false ∧ (State.advance wh x_RecorderRing_28).fld
      F.PWR_STATUS_RUNG ≤ 1 ∧ (State.advance wh x_RecorderRing_28).evr.buf = [x_RecorderRing_27] ∧ x_RecorderRing_27.seq
      = some 5 ∧ 5 < 2 ^ 32 ∧ x_RecorderRing_27.snap.length ≤ 16 ∧ (State.advance wh x_RecorderRing_28).evr.dropping =
      false ∧ (5 + 1) % 4096 ≠ 0) ∧
    ((State.advance wh x_RecorderRing_30).evr.run = true ∧ (State.advance wh x_RecorderRing_30).good Dom.pmm = true ∧
      (State.advance wh x_RecorderRing_30).pwr.pfail = false ∧ (State.advance wh x_RecorderRing_30).fld
      F.PWR_STATUS_RUNG ≤ 1 ∧ (State.advance wh x_RecorderRing_30).evr.buf = [x_RecorderRing_29] ∧ x_RecorderRing_29.seq
      = some 4294967295 ∧ 4294967295 < 2 ^ 32 ∧ x_RecorderRing_29.snap.length ≤ 16 ∧ (State.advance wh
      x_RecorderRing_30).evr.dropping = false ∧ (4294967295 + 1) % 4096 = 0) ∧
    ((State.advance wh x_RecorderRing_31).evr.run = true ∧ (State.advance wh x_RecorderRing_31).good Dom.pmm = true ∧
      (State.advance wh x_RecorderRing_31).pwr.pfail = false ∧ (State.advance wh x_RecorderRing_31).fld
      F.PWR_STATUS_RUNG ≤ 1 ∧ (State.advance wh x_RecorderRing_31).evr.dropping = false ∧ (∀ r ∈ (State.advance wh
      x_RecorderRing_31).evr.buf, r.seq.isSome = true)) ∧
    ((State.advance wh x_RecorderRing_34).evr.run = true ∧ (State.advance wh x_RecorderRing_34).good Dom.pmm = true ∧
      (State.advance wh x_RecorderRing_34).pwr.pfail = false ∧ (State.advance wh x_RecorderRing_34).fld
      F.PWR_STATUS_RUNG ≤ 1 ∧ (State.advance wh x_RecorderRing_34).evr.buf = [x_RecorderRing_32, x_RecorderRing_33] ∧
      x_RecorderRing_32.seq = some 5 ∧ x_RecorderRing_33.seq = some 6 ∧ 5 % ringSlots ≠ 6 % ringSlots ∧
      x_RecorderRing_32.pm = x_RecorderRing_33.pm ∧ x_RecorderRing_32.snap.length ≤ 16 ∧ x_RecorderRing_33.snap.length ≤
      16) ∧
    ((State.advance wh x_RecorderRing_38).good Dom.pmm = true ∧ (State.advance wh x_RecorderRing_38).evr.resumed =
      false ∧ (State.advance wh x_RecorderRing_38).evr.saved.use? = some (3, 7) ∧ (State.advance wh
      x_RecorderRing_38).evr.saved.conflict = false ∧ (State.advance wh x_RecorderRing_38).evr.saved.lost = false) ∧
    (State.advance wh x_RecorderRing_39).evr.resumed = true :=
  by constructorm* _ ∧ _ <;> decide +kernel

end WQ

/-! ### Rules stated whole -/

namespace WR

def u1 (m : Nat) : State := (up.setFld F.TSK_STATUS_MODE m)
def pc (c : Word) (v : Nat) : State := let s := up.wr (Reg.PRF_U_CFG 3 7) c; {s with perf := {s.perf with cnt := [(31, v)]}}
def x_UnlistedProgramCommands_0 : State := u1 1
def x_UnlistedProgramCommands_1 : State := u1 0
def x_UnlistedProgramCommands_2 : State := u1 2
def x_UnlistedProgramCommands_3 : State := u1 2
def x_ImageNotVerified_4 : State := u1 2
def x_ImageNotVerified_5 : State := u1 2
def x_CounterModes_8 : State := pc 0x80000001 (2^48-3)
def x_CounterModes_9 : Nat := 2^48-3
def x_CounterModes_10 : State := pc 0xC0000001 (2^48-3)
def x_CounterModes_11 : Nat := 2^48-3
def x_CounterModes_12 : State := (pc 0xC0000001 (2^48-3)).wr (Reg.PRF_U_STATUS 3) 0xFF
def x_CounterModes_13 : Nat := 2^48-3
def x_CounterModes_14 : State := (pc 0xC0000001 (2^48-3)).wr (Reg.PRF_U_STATUS 3) 0xFF

/-- `Obligations.UnlistedProgramCommands`: its hypotheses are met, clause by clause. -/
theorem witness_UnlistedProgramCommands :
    (((State.advance wh x_UnlistedProgramCommands_0).mode = 1 ∧ (State.advance wh x_UnlistedProgramCommands_0).refuse
      ins Reg.TSK_CTRL (tskCmd 3 0 false) = none ∧ 5 < 64 ∧ (State.advance wh x_UnlistedProgramCommands_0).refuse ins
      Reg.TSK_CTRL (tskCmd 4 5 false) = none ∧ (State.advance wh x_UnlistedProgramCommands_0).refuse ins Reg.TSK_CTRL
      (tskCmd 5 0 true) = none ∧ (State.advance wh x_UnlistedProgramCommands_0).refuse ins Reg.TSK_CTRL (tskCmd 6 0
      true) = none) ∧
    ((State.advance wh x_UnlistedProgramCommands_1).mode = 0 ∧ (State.advance wh x_UnlistedProgramCommands_1).refuse
      ins Reg.TSK_CTRL (tskCmd 1 0 false) = none ∧ (State.advance wh x_UnlistedProgramCommands_1).refuse ins
      Reg.TSK_CTRL (tskCmd 2 0 false) = none ∧ (State.advance wh x_UnlistedProgramCommands_1).refuse ins Reg.TSK_CTRL
      (tskCmd 3 0 false) = none ∧ 5 < 64 ∧ (State.advance wh x_UnlistedProgramCommands_1).refuse ins Reg.TSK_CTRL
      (tskCmd 4 5 false) = none) ∧
    ((State.advance wh x_UnlistedProgramCommands_2).mode = 2 ∧ (State.advance wh x_UnlistedProgramCommands_2).refuse
      ins Reg.TSK_CTRL (tskCmd 2 0 false) = none) ∧
    (((State.advance wh x_UnlistedProgramCommands_3).program.none? = true ∨ (State.advance wh
      x_UnlistedProgramCommands_3).armed = false) ∧ (State.advance wh x_UnlistedProgramCommands_3).refuse ins
      Reg.TSK_CTRL (tskCmd 5 0 true) = none ∧ (State.advance wh x_UnlistedProgramCommands_3).refuse ins Reg.TSK_CTRL
      (tskCmd 6 0 true) = none)) ∧
    Unexpired (State.advance wh x_UnlistedProgramCommands_2) :=
  ⟨by constructorm* _ ∧ _ <;> decide +kernel,
   State.wdogDue_of_small (by decide +kernel)⟩

/-- `Obligations.ImageNotVerified`: its hypotheses are met, clause by clause. -/
theorem witness_ImageNotVerified :
    (3 < 4 ∧ (State.advance wh x_ImageNotVerified_4).refuse ins Reg.PMS_CTRL (pmsCmd 1 3) = none ∧ ((State.advance wh
      x_ImageNotVerified_4).imgState 3 ≠ 3 ∨ BitVec.toNat ((State.advance wh x_ImageNotVerified_4).rd (Reg.MOD_IMG_SLOT1
      3)) < (State.advance wh x_ImageNotVerified_4).minImg)) ∧
    (3 < 4 ∧ (State.advance wh x_ImageNotVerified_5).refuse mk Reg.MOD_IMG_CTRL (imgCmd 3 3 0) = none ∧ (State.advance
      wh x_ImageNotVerified_5).pwr.recovery = false ∧ ((State.advance wh x_ImageNotVerified_5).imgState 3 ≠ 3 ∨
      (State.advance wh x_ImageNotVerified_5).pms.change ≠ none ∨ (State.advance wh x_ImageNotVerified_5).fld
      F.PMS_STATUS_PHASE ≠ 0)) :=
  by constructorm* _ ∧ _ <;> decide +kernel

/-- `Obligations.CounterModes`: its hypotheses are met, clause by clause. -/
theorem witness_CounterModes :
    (3 < 4 ∧ 7 < 8 ∧ x_CounterModes_9 = x_CounterModes_8.perf.cnt.getD (8 * 3 + 7) 0 ∧ x_CounterModes_9 < 2 ^ 48 ∧ 2 ^
      48 ≤ x_CounterModes_9 + 3 ∧ (x_CounterModes_8.rd (Reg.PRF_U_CFG 3 7)).bit 30 = false) ∧
    (3 < 4 ∧ 7 < 8 ∧ x_CounterModes_11 = x_CounterModes_10.perf.cnt.getD (8 * 3 + 7) 0 ∧ x_CounterModes_11 < 2 ^ 48 ∧
      2 ^ 48 ≤ x_CounterModes_11 + 5 ∧ (x_CounterModes_10.rd (Reg.PRF_U_CFG 3 7)).bit 30 = true) ∧
    (3 < 4 ∧ 7 < 8 ∧ x_CounterModes_13 = x_CounterModes_12.perf.cnt.getD (8 * 3 + 7) 0 ∧ x_CounterModes_13 < 2 ^ 48 ∧
      x_CounterModes_13 + 1 < 2 ^ 48 ∧ (x_CounterModes_12.rd (Reg.PRF_U_STATUS 3)).bit 7 = true) ∧
    (3 < 4 ∧ (State.advance wh x_CounterModes_14).refuse ins (Reg.PRF_U_STATUS 3) 129 = none) :=
  by constructorm* _ ∧ _ <;> decide +kernel

end WR

/-! ### Starts, the ladder, supply and the rest -/

namespace WT

def offd : State := {State.reset with pwr := {State.reset.pwr with dom := State.reset.pwr.dom.put 1 .off, started := false}}
def bk : State := {offd with pwr := {offd.pwr with backup := some 1}}
def rs : State := {offd with pwr := {offd.pwr with dom := offd.pwr.dom.put 1 .starting, started := true, tries := [(1,2)]}}
def rl := nx (.rstNLow wh) up
def s1 := nx (.vinValid wh false) offd
def s2 : State := let s : State := s1.setDom 2 DomSt.good 0; {s with ns := 1006000000, pwr := {s.pwr with lastStartNs := 1006000000}}
def s3 := nx (.domainStart (la 12000000) .mtr 0) s2
def s3' : State := {s3 with pwr := {s3.pwr with manDone := true}}
def s4 := nx (.domainStart (la 18000000) .fab 0) s3'
def s5 := nx (.domainStart (la 24000000) .cle 0) s4
def s1b := nx (.domainGoodTimeout (la 6000000) .pmm) s1
def s1c := nx (.domainRetry (la 110000000) .pmm) s1b
def ds := nx (.pwrRungCmd wh ins 2) (up.setFld F.TSK_STATUS_MODE 1)
def mv (n : Nat) : Move := ⟨1, 1, 1, 2, [], n⟩
def at_ (r : Nat) (m : Move) : State := {(up.setFld F.PWR_STATUS_TARGET r).setFld F.PWR_STATUS_MOVING 1 with pwr := {up.pwr with move := some m, dom := [(0,.good),(1,.good),(2,.good),(3,.good),(4,.good),(5,.good),(6,.good),(7,.good)]}}
def mc : Move := ⟨1, 1, 1, 2, [1], 1000000001⟩
def axrec : Rec := List.replicate 64 0
def ax (m : Move) : State := let s := (at_ 2 m); {s with man := {s.man with cfg := [(14,[axrec])]}}
def axs (m : Move) : State := ((ax m).setFld (F.CLE_AX_STATUS_STATE 0) 3)
def mc2 : Move := {mc with step := 2, waitNs := 5}
def low (r : Nat) : State := nx (.descentContinue wh) (at_ r (mv 0))
def lost : State := {up.setFld F.PWR_LADCFG_RUNG1 4 with pwr := {up.pwr with lostNs := some 5}}
def pp : State := {up with pwr := {up.pwr with postponed := some 4}}
def x_ModuleStarts_1 : State := bk.setFlag F.BAK_PWRON_STATE false
def x_ModuleStarts_3 : State := {rl with pwr := {rl.pwr with started := false}}
def x_ModuleStarts_5 : When := la 5
def x_ModuleStarts_6 : State := nx (.pfailDetect wh 16000 false) up
def x_DomainStarts_8 : When := la 12000000
def x_DomainStarts_14 : When := la 5
def x_DomainStarts_15 : When := la 6000000
def x_DomainStarts_16 : When := la 120000000
def x_DomainStarts_17 : When := la 36000000
def x_DomainStarts_18 : State := {s5 with pwr := {s5.pwr with tries := [(6,1)]}}
def x_DomainStarts_21 : When := la 106000000
def x_DomainStarts_22 : When := la 105999999
def x_PowerLadder_23 : State := up.setFld F.TSK_STATUS_MODE 1
def x_PowerLadder_32 : Move := mv 0
def x_PowerLadder_33 : State := at_ 6 (mv 0)
def x_PowerLadder_36 : State := at_ 6 mc
def x_PowerLadder_37 : When := la 5
def x_PowerLadder_38 : State := axs mc
def x_PowerLadder_41 : When := la 5
def x_PowerLadder_42 : State := axs mc2
def x_PowerLadder_43 : When := la 59000000005
def x_PowerLadder_44 : State := axs mc2
def x_PowerLadder_49 : When := la 5
def x_PowerLadder_50 : State := (low 4).setFld ⟨Reg.PWR_WAKE, 31, 0⟩ 31
def x_PowerLadder_57 : When := la 5
def x_PowerLadder_58 : State := low 4
def x_SupplyPolicy_59 : State := up.setFld F.PWR_LADCFG_SUPSRC 2
def x_SupplyPolicy_61 : State := lost.startLong 4 mk (.keyWrite 1 0)
def x_SupplyPolicy_62 : State := pp.startLong 4 mk (.keyWrite 1 0)
def x_SupplyPolicy_63 : State := up.setFld F.PWR_STATUS_SUPLOST 1
def x_SupplyPolicy_64 : State := ((low 4).setFld F.PWR_STATUS_SUPLOST 1).setFld F.PWR_WAKE_SUPPLY 1

/-- `Obligations.ModuleStarts`: its hypotheses are met, clause by clause. -/
theorem witness_ModuleStarts :
    ((State.advance wh bk).canonical = true ∧ (State.advance wh bk).pwr.rstLow = false ∧ (State.advance wh bk).domSt 1
      = DomSt.off ∧ ((State.advance wh bk).pwr.backup = none ∨ (State.advance wh bk).flag F.BAK_PWRON_STATE = true ∨
      (State.advance wh bk).pwr.next ≠ 0) ∧ (State.advance wh bk).pwr.next < 8 ∧ (State.advance wh bk).pwr.backup.isSome
      = true) ∧
    ((State.advance wh x_ModuleStarts_1).canonical = true ∧ (State.advance wh x_ModuleStarts_1).pwr.rstLow = false ∧
      (State.advance wh x_ModuleStarts_1).domSt 1 = DomSt.off ∧ (State.advance wh x_ModuleStarts_1).pwr.backup.isSome =
      true ∧ (State.advance wh x_ModuleStarts_1).flag F.BAK_PWRON_STATE = false ∧ (State.advance wh
      x_ModuleStarts_1).pwr.next = 0) ∧
    ((State.advance wh State.reset).pwr.rstLow = true ∨ (State.advance wh State.reset).domSt 1 ≠ DomSt.off) ∧
    ((State.advance wh rs).canonical = true ∧ (State.advance wh rs).mayStart 1 = true ∧ (State.advance wh rs).pwr.next
      < 8 ∧ 2 ≤ (State.advance wh rs).pwr.tries.getD 1 0) ∧
    ((State.advance wh up).refuse mk Reg.PWR_CTRL 2 = none ∧ mk.role = Role.maker ∧ (State.advance wh up).canonical =
      true) ∧
    (State.advance wh up).canonical = true ∧
    ((State.advance wh rl).canonical = true ∧ (State.advance wh rl).pwr.rstLow = true ∧ (State.advance wh
      rl).pwr.started = true) ∧
    ((State.advance wh x_ModuleStarts_3).canonical = true ∧ (State.advance wh x_ModuleStarts_3).pwr.rstLow = true ∧
      (State.advance wh x_ModuleStarts_3).pwr.started = false) ∧
    ((State.advance wh up).good Dom.pmm = true ∧ (State.advance wh up).pwr.pfail = false) ∧
    (State.advance wh up).canonical = true ∧
    ((State.advance wh up).good Dom.ref = true ∧ (State.advance wh up).pwr.pfail = false ∧ (State.advance wh
      up).pwr.rstLow = false ∧ (false = true ∨ 16499 < 16500) ∧ (State.advance wh up).good Dom.pmm = true ∧
      (State.advance wh up).good Dom.mtr = true ∧ (State.advance wh up).pm.fill ≤ 8000000 ∧ (State.advance wh
      up).evr.buf.length ≤ 960) ∧
    ((State.advance x_ModuleStarts_5 x_ModuleStarts_6).pwr.pfail = true ∧ (State.advance x_ModuleStarts_5
      x_ModuleStarts_6).good Dom.ref = true) ∧
    ((State.advance wh rl).good Dom.ref = false ∨ (State.advance wh rl).pwr.pfail = true ∨ (State.advance wh
      rl).pwr.rstLow = true) :=
  by constructorm* _ ∧ _ <;> decide +kernel

/-- `Obligations.DomainStarts`: its hypotheses are met, clause by clause. -/
theorem witness_DomainStarts :
    (2 ≤ Dom.mtr.idx ∧ Dom.mtr.idx ≤ 6 ∧ (State.advance x_DomainStarts_8 s2).mayStart Dom.mtr.idx = true ∧
      (State.advance x_DomainStarts_8 s2).domSt Dom.mtr.idx ≠ DomSt.retention ∧ (State.advance x_DomainStarts_8
      s2).domSt 3 ≠ DomSt.good) ∧
    (State.advance x_DomainStarts_14 s1).mayStart Dom.fab.idx = false ∧
    (2 ≤ Dom.pmm.idx ∧ Dom.pmm.idx ≤ 6 ∧ (State.advance x_DomainStarts_15 s1).mayStart Dom.pmm.idx = true ∧
      (State.advance x_DomainStarts_15 s1).domSt Dom.pmm.idx ≠ DomSt.good ∧ (State.advance x_DomainStarts_15 s1).domSt
      Dom.pmm.idx ≠ DomSt.retention ∧ (State.advance x_DomainStarts_15 s1).pwr.tries.getD Dom.pmm.idx 0 = 0) ∧
    (2 ≤ Dom.pmm.idx ∧ Dom.pmm.idx ≤ 6 ∧ (State.advance x_DomainStarts_16 s1c).mayStart Dom.pmm.idx = true ∧
      (State.advance x_DomainStarts_16 s1c).domSt Dom.pmm.idx ≠ DomSt.good ∧ (State.advance x_DomainStarts_16 s1c).domSt
      Dom.pmm.idx ≠ DomSt.retention ∧ 1 ≤ (State.advance x_DomainStarts_16 s1c).pwr.tries.getD Dom.pmm.idx 0 ∧
      Dom.pmm.idx ≤ 4) ∧
    (2 ≤ Dom.net.idx ∧ Dom.net.idx ≤ 6 ∧ (State.advance x_DomainStarts_17 x_DomainStarts_18).mayStart Dom.net.idx =
      true ∧ (State.advance x_DomainStarts_17 x_DomainStarts_18).domSt Dom.net.idx ≠ DomSt.good ∧ (State.advance
      x_DomainStarts_17 x_DomainStarts_18).domSt Dom.net.idx ≠ DomSt.retention ∧ 1 ≤ (State.advance x_DomainStarts_17
      x_DomainStarts_18).pwr.tries.getD Dom.net.idx 0 ∧ (State.advance x_DomainStarts_17 x_DomainStarts_18).good Dom.pmm
      = true) ∧
    ((State.advance x_DomainStarts_21 s1b).domSt Dom.pmm.idx = DomSt.retry ∧ (((State.advance x_DomainStarts_21
      s1b).pwr.lastStartNs + if Dom.pmm = Dom.ref ∧ 2 ≤ (State.advance x_DomainStarts_21 s1b).pwr.tries.getD 1 0 then
      1000000000 else 100000000) ≤ (State.advance x_DomainStarts_21 s1b).ns)) ∧
    ((State.advance x_DomainStarts_22 s1b).domSt Dom.pmm.idx = DomSt.retry ∧ (State.advance x_DomainStarts_22 s1b).ns
      < (State.advance x_DomainStarts_22 s1b).pwr.lastStartNs + 100000000) :=
  by constructorm* _ ∧ _ <;> decide +kernel

/-- `Obligations.PowerLadder`: its hypotheses are met, clause by clause. -/
theorem witness_PowerLadder :
    (7 < 8 ∧ (State.advance wh up).refuse ins Reg.PWR_CTRL (n2w (1 + 7 * 256)) = none ∧ (7 = 1 ∨ 7 = 7 ∨ 7 = 6 ∧
      (State.advance wh up).rd Reg.PWR_WAKE = 0 ∨ (State.advance wh up).changing = true) ∧ 7 ≠ 1) ∧
    (0 < 8 ∧ (State.advance wh up).refuse ins Reg.PWR_CTRL (n2w (1 + 0 * 256)) = none ∧ 0 ≠ 1 ∧ 0 ≠ 7 ∧ (¬(0 = 6 ∧
      (State.advance wh up).rd Reg.PWR_WAKE = 0)) ∧ (State.advance wh up).changing = false ∧ (State.advance wh up).fld
      F.PWR_STATUS_RUNG = 0 ∧ (State.advance wh up).pwr.move = none) ∧
    (2 < 8 ∧ (State.advance wh x_PowerLadder_23).refuse ins Reg.PWR_CTRL (n2w (1 + 2 * 256)) = none ∧ 2 ≠ 1 ∧ 2 ≠ 7 ∧
      (¬(2 = 6 ∧ (State.advance wh x_PowerLadder_23).rd Reg.PWR_WAKE = 0)) ∧ (State.advance wh
      x_PowerLadder_23).changing = false ∧ 2 ≠ 0 ∧ ((State.advance wh x_PowerLadder_23).fld F.PWR_STATUS_RUNG ≠ 2 ∨
      (State.advance wh x_PowerLadder_23).pwr.move ≠ none) ∧ (State.advance wh x_PowerLadder_23).pwr.move = none ∧
      (State.advance wh x_PowerLadder_23).laneUp = true ∧ (State.advance wh x_PowerLadder_23).mode ≠ 0) ∧
    (0 < 8 ∧ (State.advance wh ds).refuse ins Reg.PWR_CTRL (n2w (1 + 0 * 256)) = none ∧ 0 ≠ 1 ∧ 0 ≠ 7 ∧ (¬(0 = 6 ∧
      (State.advance wh ds).rd Reg.PWR_WAKE = 0)) ∧ (State.advance wh ds).changing = false ∧ (State.advance wh ds).fld
      F.PWR_STATUS_RUNG = 0 ∧ ((State.advance wh ds).fld F.PWR_STATUS_RUNG ≠ 0 ∨ (State.advance wh ds).pwr.move ≠ none)
      ∧ (State.advance wh ds).fld F.PWR_STATUS_RUNG ≤ 4) ∧
    ((State.advance wh x_PowerLadder_33).pwr.move = some x_PowerLadder_32 ∧ (State.advance wh
      x_PowerLadder_33).pwr.pfail = false ∧ (x_PowerLadder_32.step = 2 ∨ x_PowerLadder_32.step = 1 ∧
      (x_PowerLadder_32.classes = [] ∨ x_PowerLadder_32.waitNs ≤ (State.advance wh x_PowerLadder_33).ns)) ∧
      (State.advance wh x_PowerLadder_33).axesOn = [] ∧ (State.advance wh x_PowerLadder_33).fld F.PWR_STATUS_TARGET = 6
      → Settled (State.advance wh x_PowerLadder_33) ∧ 4 ≤ (State.advance wh x_PowerLadder_33).fld F.PWR_STATUS_TARGET ∧
      5 ≤ (State.advance wh x_PowerLadder_33).fld F.PWR_STATUS_TARGET ∧ (State.advance wh x_PowerLadder_33).fld
      F.PWR_STATUS_TARGET = 6 ∧ x_PowerLadder_32.step = 1 ∧ (x_PowerLadder_32.classes = [] ∨ x_PowerLadder_32.waitNs ≤
      (State.advance wh x_PowerLadder_33).ns)) ∧
    ((State.advance wh x_PowerLadder_36).pwr.move = some mc ∧ (State.advance wh x_PowerLadder_36).pwr.pfail = false ∧
      mc.step = 1 ∧ (mc.step = 1 ∧ mc.classes ≠ [] ∧ (State.advance wh x_PowerLadder_36).ns < mc.waitNs ∨ mc.step = 2 ∧
      (State.advance wh x_PowerLadder_36).axesOn ≠ [])) ∧
    ((State.advance x_PowerLadder_37 x_PowerLadder_38).pwr.move = some mc ∧ (State.advance x_PowerLadder_37
      x_PowerLadder_38).pwr.pfail = false ∧ (mc.step = 2 ∨ mc.step = 1 ∧ (mc.classes = [] ∨ mc.waitNs ≤ (State.advance
      x_PowerLadder_37 x_PowerLadder_38).ns)) ∧ mc.step = 1 ∧ (mc.classes = [] ∨ mc.waitNs ≤ (State.advance
      x_PowerLadder_37 x_PowerLadder_38).ns) ∧ (State.advance x_PowerLadder_37 x_PowerLadder_38).axesOn ≠ []) ∧
    ((State.advance x_PowerLadder_41 x_PowerLadder_42).pwr.move = some mc2 ∧ mc2.step = 2 ∧ (State.advance
      x_PowerLadder_41 x_PowerLadder_42).axesOn ≠ [] ∧ (State.advance x_PowerLadder_41 x_PowerLadder_42).ns < mc2.waitNs
      + 60000000000) ∧
    ((State.advance x_PowerLadder_43 x_PowerLadder_44).pwr.move = some mc2 ∧ mc2.step = 2 ∧ (State.advance
      x_PowerLadder_43 x_PowerLadder_44).axesOn ≠ [] ∧ mc2.waitNs + 60000000000 ≤ (State.advance x_PowerLadder_43
      x_PowerLadder_44).ns) ∧
    (2 ≤ (State.advance x_PowerLadder_49 x_PowerLadder_50).fld F.PWR_STATUS_RUNG ∧ (State.advance x_PowerLadder_49
      x_PowerLadder_50).fld F.PWR_STATUS_RUNG ≤ 5 ∧ ((State.advance x_PowerLadder_49 x_PowerLadder_50).rd
      Reg.PWR_WAKE).bit (wakeBit Wake.wakePin) = true ∧ (Wake.wakePin = Wake.spi → (State.advance x_PowerLadder_49
      x_PowerLadder_50).fld F.PWR_STATUS_RUNG = 4) ∧ (State.advance x_PowerLadder_49 x_PowerLadder_50).pwr.rstLow =
      false ∧ (State.advance x_PowerLadder_49 x_PowerLadder_50).pwr.pfail = false ∧ (State.advance x_PowerLadder_49
      x_PowerLadder_50).pwr.move = none ∧ (State.advance x_PowerLadder_49 x_PowerLadder_50).domSt 1 = DomSt.retention ∧
      (State.advance x_PowerLadder_49 x_PowerLadder_50).fld F.PWR_STATUS_RUNG ≤ 4) ∧
    (2 ≤ (State.advance x_PowerLadder_57 x_PowerLadder_58).fld F.PWR_STATUS_RUNG ∧ (State.advance x_PowerLadder_57
      x_PowerLadder_58).fld F.PWR_STATUS_RUNG ≤ 5 ∧ ((State.advance x_PowerLadder_57 x_PowerLadder_58).rd
      Reg.PWR_WAKE).bit (wakeBit Wake.supply) = false) :=
  by constructorm* _ ∧ _ <;> (try unfold Settled) <;> decide +kernel

/-- `Obligations.SupplyPolicy`: its hypotheses are met, clause by clause. -/
theorem witness_SupplyPolicy :
    ((State.advance wh x_SupplyPolicy_59).good Dom.ref = true ∧ (State.advance wh x_SupplyPolicy_59).flag
      F.PWR_STATUS_SUPLOST = false ∧ ((State.advance wh x_SupplyPolicy_59).fld F.PWR_LADCFG_SUPSRC = 2 ∨ (State.advance
      wh x_SupplyPolicy_59).fld F.PWR_LADCFG_SUPSRC = 1 ∧ (State.advance wh x_SupplyPolicy_59).fld F.PMK_STATUS_STATE ≠
      1 ∧ (State.advance wh x_SupplyPolicy_59).fld F.PMK_STATUS_LOSS = 1)) ∧
    ((State.advance wh lost).pwr.lostNs = some 5 ∧ (4 = if false = true then (State.advance wh lost).fld
      F.PWR_LADCFG_RUNG2 else (State.advance wh lost).fld F.PWR_LADCFG_RUNG1) ∧ (5 + (if false = true then
      (State.advance wh lost).fld F.PWR_LADCFG_DLY2 else (State.advance wh lost).fld F.PWR_LADCFG_DLY1) * 60000000000 ≤
      (State.advance wh lost).ns) ∧ (State.advance wh lost).pwr.stage = 0 ∧ (State.advance wh lost).pwr.pfail = false ∧
      (State.advance wh lost).pwr.move = none ∧ (State.advance wh lost).fld F.PWR_STATUS_RUNG < 4 ∧ (State.advance wh
      lost).longBusy = false ∧ (State.advance wh lost).changing = false) ∧
    ((State.advance wh lost).pwr.lostNs = some 5 ∧ (0 = if true = true then (State.advance wh lost).fld
      F.PWR_LADCFG_RUNG2 else (State.advance wh lost).fld F.PWR_LADCFG_RUNG1) ∧ (5 + (if true = true then (State.advance
      wh lost).fld F.PWR_LADCFG_DLY2 else (State.advance wh lost).fld F.PWR_LADCFG_DLY1) * 60000000000 ≤ (State.advance
      wh lost).ns) ∧ (State.advance wh lost).pwr.stage = 0 ∧ (State.advance wh lost).pwr.pfail = false ∧ (State.advance
      wh lost).pwr.move = none ∧ 0 ≤ (State.advance wh lost).fld F.PWR_STATUS_RUNG) ∧
    ((State.advance wh x_SupplyPolicy_61).pwr.lostNs = some 5 ∧ (4 = if false = true then (State.advance wh
      x_SupplyPolicy_61).fld F.PWR_LADCFG_RUNG2 else (State.advance wh x_SupplyPolicy_61).fld F.PWR_LADCFG_RUNG1) ∧ (5 +
      (if false = true then (State.advance wh x_SupplyPolicy_61).fld F.PWR_LADCFG_DLY2 else (State.advance wh
      x_SupplyPolicy_61).fld F.PWR_LADCFG_DLY1) * 60000000000 ≤ (State.advance wh x_SupplyPolicy_61).ns) ∧
      (State.advance wh x_SupplyPolicy_61).pwr.stage = 0 ∧ (State.advance wh x_SupplyPolicy_61).pwr.pfail = false ∧
      (State.advance wh x_SupplyPolicy_61).pwr.move = none ∧ (State.advance wh x_SupplyPolicy_61).fld F.PWR_STATUS_RUNG
      < 4 ∧ ((State.advance wh x_SupplyPolicy_61).longBusy = true ∨ (State.advance wh x_SupplyPolicy_61).changing =
      true)) ∧
    ((State.advance wh pp).pwr.postponed = some 4 ∧ 4 < 8 ∧ (State.advance wh pp).pwr.pfail = false ∧ (State.advance
      wh pp).longBusy = false ∧ (State.advance wh pp).changing = false) ∧
    ((State.advance wh x_SupplyPolicy_62).pwr.postponed = some 4 ∧ 4 < 8 ∧ (State.advance wh
      x_SupplyPolicy_62).pwr.pfail = false ∧ ((State.advance wh x_SupplyPolicy_62).longBusy = true ∨ (State.advance wh
      x_SupplyPolicy_62).changing = true)) ∧
    ((State.advance wh x_SupplyPolicy_63).flag F.PWR_STATUS_SUPLOST = true ∧ (State.advance wh
      x_SupplyPolicy_63).domSt 1 ≠ DomSt.off ∧ (State.advance wh x_SupplyPolicy_63).flag F.PWR_WAKE_SUPPLY = false) ∧
    ((State.advance wh x_SupplyPolicy_64).flag F.PWR_STATUS_SUPLOST = true ∧ (State.advance wh
      x_SupplyPolicy_64).domSt 1 ≠ DomSt.off ∧ (State.advance wh x_SupplyPolicy_64).flag F.PWR_WAKE_SUPPLY = true ∧
      (State.advance wh x_SupplyPolicy_64).fld F.PWR_STATUS_RUNG ≠ 0 ∧ (State.advance wh x_SupplyPolicy_64).pwr.move =
      none) ∧
    ((State.advance wh up).good Dom.ref = true ∧ (State.advance wh up).pwr.thermArmed = true ∧ 950 ≤ 950) ∧
    ((State.advance wh up).good Dom.ref = true ∧ (State.advance wh up).pwr.thermArmed = true ∧ ((State.advance wh
      up).pwr.thermArmed = false ∨ 949 < 950)) ∧
    (State.advance wh up).good Dom.ref = true :=
  by constructorm* _ ∧ _ <;> decide +kernel

end WT

end Sys2Proof.Tests
end

/-! PROOFS. A Counter write into a manifest slot (R74): the store, the slots and the persistent memory window, and the
obligation `ManifestSlotWrite`. -/

namespace Sys2Proof.Machine

/-! ## Bytes written one after the other -/

theorem length_leBytes (n v : Nat) : (leBytes n v).length = n := by
  induction n generalizing v with
  | zero => rfl
  | succ n ih => rw [leBytes, List.length_cons, ih]

/-- Two writes, the second where the first ends, are one write. -/
theorem Mem.setBytes_append (m : Mem) (a : Nat) (bs cs : List Byte) :
    Mem.setBytes m a (bs ++ cs) = Mem.setBytes (Mem.setBytes m a bs) (a + bs.length) cs := by
  induction bs generalizing m a with
  | nil => rfl
  | cons b bs ih =>
    rw [List.cons_append, Mem.setBytes, ih, Mem.setBytes, List.length_cons, Nat.add_assoc, Nat.add_comm 1]

theorem length_wordBytes (data : List Word) : (wordBytes data).length = 4 * data.length := by
  induction data with
  | nil => rfl
  | cons v data ih =>
    rw [wordBytes, List.flatMap_cons, List.length_append, length_leBytes, List.length_cons, ← wordBytes, ih]
    omega

theorem wordBytes_concat (data : List Word) (v : Word) :
    wordBytes (data ++ [v]) = wordBytes data ++ leBytes 4 v.toNat := by
  rw [wordBytes, List.flatMap_append, List.flatMap_singleton, ← wordBytes]

/-! ## Operations on the register file and the store alone -/

/-- From `s` to `t` nothing changes but register words, persistent memory, the arbiter and the counts of written bytes. -/
def StoreOnly (s t : State) : Prop := ∃ m a p r, t = { s with pm := m, arb := a, perf := p, regs := r }

theorem StoreOnly.refl (s : State) : StoreOnly s s := ⟨_, _, _, _, rfl⟩

theorem StoreOnly.trans {s t u : State} (h1 : StoreOnly s t) (h2 : StoreOnly t u) : StoreOnly s u := by
  obtain ⟨_, _, _, _, rfl⟩ := h1
  obtain ⟨_, _, _, _, rfl⟩ := h2
  exact ⟨_, _, _, _, rfl⟩

theorem StoreOnly.setFld (s : State) (f : Fld) (v : Nat) : StoreOnly s (s.setFld f v) := ⟨_, _, _, _, rfl⟩

theorem StoreOnly.setFlag (s : State) (f : Fld) (b : Bool) : StoreOnly s (s.setFlag f b) := StoreOnly.setFld s f (b2n b)

theorem StoreOnly.frame_answer {s t : State} (h : StoreOnly s t) (code : Nat) (data : List Word) :
    Frame [.regs, .pm, .ctr, .perf, .arb] s (t.answer code data) := by
  obtain ⟨_, _, _, _, rfl⟩ := h
  unfold Frame
  simp

/-! ## The module's own records, and the slot words -/

theorem State.persist_storeOnly (s : State) (rank cells data : Nat) (load : Payload) (who : Nat) :
    StoreOnly s (s.persist rank cells data load who) := by
  unfold State.persist
  split
  · obtain ⟨m, a, p, r, h, _⟩ := s.submitGroup_eq rank cells data load who
    exact ⟨m, a, p, r, h⟩
  · exact StoreOnly.refl s

theorem State.persist_home (s : State) (rank cells data : Nat) (load : Payload) (who : Nat) :
    (s.persist rank cells data load who).pm.home = s.pm.home := by
  unfold State.persist
  split
  · exact s.submitGroup_home rank cells data load who
  · rfl

theorem State.persist_kept (s : State) (rank cells data : Nat) (load : Payload) (who : Nat) :
    RegsKept [Reg.PMC_JFILL] s (s.persist rank cells data load who) := by
  unfold State.persist
  split
  · exact s.submitGroup_kept rank cells data load who
  · exact RegsKept.refl _ s

theorem State.showSlots_kept (s : State) : RegsKept [Reg.MOD_MAN_STATUS] s s.showSlots := by
  unfold State.showSlots
  exact ((((RegsKept.refl _ s).setFlag _ (by simp)).setFld _ (by simp)).setFlag _ (by simp)).setFld _ (by simp)

@[simp] theorem State.showSlots_pm (s : State) : s.showSlots.pm = s.pm := by
  simp only [State.showSlots, State.setFld_pm, State.setFlag_pm]

theorem State.showSlots_storeOnly (s : State) : StoreOnly s s.showSlots := by
  unfold State.showSlots
  exact (((StoreOnly.setFlag _ _ _).trans (StoreOnly.setFld _ _ _)).trans (StoreOnly.setFlag _ _ _)).trans
    (StoreOnly.setFld _ _ _)

@[simp] theorem State.slotState_answer (s : State) (code : Nat) (data : List Word) (n : Nat) :
    (s.answer code data).slotState n = s.slotState n := State.fld_of_regs (s.answer_regs code data) _

theorem State.setSlot_storeOnly (s : State) (n st : Nat) : StoreOnly s (s.setSlot n st) := by
  unfold State.setSlot State.saveSlots
  exact ((StoreOnly.setFld s _ st).trans (State.persist_storeOnly _ _ _ _ _ _)).trans (State.showSlots_storeOnly _)

theorem State.setSlot_home (s : State) (n st : Nat) : (s.setSlot n st).pm.home = s.pm.home := by
  rw [State.setSlot, State.showSlots_pm, State.saveSlots, State.persist_home, State.setFld_pm]

/-- After its slot's STATE is stored, the rest of `setSlot` writes MOD_MAN_STATUS and PMC_JFILL alone. -/
theorem State.setSlot_kept_after (s : State) (n st : Nat) :
    RegsKept [Reg.MOD_MAN_STATUS, Reg.PMC_JFILL] (s.setFld (F.MOD_MAN_SLOT_STATE n) st) (s.setSlot n st) := by
  unfold State.setSlot State.saveSlots
  exact ((State.persist_kept _ _ _ _ _ _).mono (by simp)).trans ((State.showSlots_kept _).mono (by simp))

theorem State.setSlot_kept (s : State) (n st : Nat) :
    RegsKept [Reg.MOD_MAN_SLOT n, Reg.MOD_MAN_STATUS, Reg.PMC_JFILL] s (s.setSlot n st) :=
  ((RegsKept.refl _ s).setFld _ (by simp)).trans ((s.setSlot_kept_after n st).mono (by simp))

theorem State.slotState_setSlot (s : State) {n st : Nat} (hn : n < 4) (hst : st < 8) :
    (s.setSlot n st).slotState n = st := by
  have kept : (s.setSlot n st).rd (Reg.MOD_MAN_SLOT n) = (s.setFld (F.MOD_MAN_SLOT_STATE n) st).rd (Reg.MOD_MAN_SLOT n) :=
    s.setSlot_kept_after n st _ (by simp [Reg.MOD_MAN_SLOT, Reg.MOD_MAN_STATUS, Reg.PMC_JFILL]; omega)
  have stored : (s.setFld (F.MOD_MAN_SLOT_STATE n) st).fld (F.MOD_MAN_SLOT_STATE n) = st := by
    rw [State.fld_setFld_same _ _ (by simp) (by simp)]
    exact Nat.mod_eq_of_lt hst
  rwa [State.slotState, State.fld, kept]

/-! ## Words written into a manifest slot -/

theorem regionOf_slotBase {n i : Nat} (hn : n < 4) (hi : i < 0x8000000) : regionOf (slotBase n + i) = .manifest n := by
  have hdiv : (slotBase n + i - 0x80000000) / 0x8000000 = n := by unfold slotBase; omega
  have hlo : 0x80000000 ≤ slotBase n + i := by unfold slotBase; omega
  have hhi : slotBase n + i < 0xA0000000 := by unfold slotBase; omega
  unfold regionOf
  repeat rw [if_neg (by omega)]
  rw [if_pos hhi, hdiv]

/-- The bytes `bs` go into the array at `a`, in manifest slot `n`: `t` holds them in their home cells, and beside the words
that show the slots and the journal's fill no register word changes. -/
structure SlotBytes (n a : Nat) (bs : List Byte) (s t : State) : Prop where
  home : t.pm.home = Mem.setBytes s.pm.home a bs
  regs : RegsKept [Reg.MOD_MAN_SLOT n, Reg.MOD_MAN_STATUS, Reg.PMC_JFILL] s t
  rest : StoreOnly s t

theorem SlotBytes.refl (n a : Nat) (s : State) : SlotBytes n a [] s s := ⟨rfl, RegsKept.refl _ s, StoreOnly.refl s⟩

theorem SlotBytes.append {n a : Nat} {bs cs : List Byte} {s t u : State} (h1 : SlotBytes n a bs s t)
    (h2 : SlotBytes n (a + bs.length) cs t u) : SlotBytes n a (bs ++ cs) s u :=
  ⟨by rw [h2.home, h1.home, Mem.setBytes_append], h1.regs.trans h2.regs, h1.rest.trans h2.rest⟩

/-- One word into a manifest slot: its bytes, and the slot is LOADED (R74). -/
theorem State.winWord_manifest (s : State) {n o : Nat} (v : Word) (hn : n < 4) (ho : regionOf o = .manifest n) :
    SlotBytes n o (leBytes 4 v.toNat) s (s.winWord o v) ∧ (s.winWord o v).slotState n = slLOADED := by
  have put : SlotBytes n o (leBytes 4 v.toNat) s ((s.pmPut o (leBytes 4 v.toNat)).trunk 7 3 4) :=
    ⟨rfl, RegsKept.of_regs rfl, ⟨_, _, _, _, rfl⟩⟩
  unfold State.winWord
  simp only [ho]
  split
  case isTrue h => exact ⟨put, by simpa using h⟩
  case isFalse h =>
    refine ⟨⟨?_, ?_, ?_⟩, State.slotState_setSlot _ hn (by decide)⟩
    · rw [State.setSlot_home, put.home]
    · exact put.regs.trans (State.setSlot_kept _ n slLOADED)
    · exact put.rest.trans (State.setSlot_storeOnly _ n slLOADED)

/-- The first `k` of consecutive words into a manifest slot, and the slot is LOADED from the first one on. -/
theorem State.winWords_manifest (s : State) {n o : Nat} (data : List Word) (hn : n < 4)
    (ho : ∀ i < data.length, regionOf (o + 4 * i) = .manifest n) {k : Nat} (hk : k ≤ data.length) :
    SlotBytes n o (wordBytes (data.take k)) s ((List.range k).foldl (fun s i => s.winWord (o + 4 * i) (data.getD i 0)) s) ∧
      (0 < k → ((List.range k).foldl (fun s i => s.winWord (o + 4 * i) (data.getD i 0)) s).slotState n = slLOADED) := by
  induction k with
  | zero => exact ⟨SlotBytes.refl n o s, fun h => absurd h (by omega)⟩
  | succ k ih =>
    obtain ⟨before, _⟩ := ih (by omega)
    have taken : data.take (k + 1) = data.take k ++ [data.getD k 0] := by
      rw [List.getD_eq_getElem _ _ hk, List.take_concat_get']
    have place : (wordBytes (data.take k)).length = 4 * k := by
      rw [length_wordBytes, List.length_take_of_le (by omega)]
    rw [List.range_succ, List.foldl_concat, taken, wordBytes_concat]
    obtain ⟨word, loaded⟩ := State.winWord_manifest _ (data.getD k 0) hn (ho k hk)
    exact ⟨before.append (by rw [place]; exact word), fun _ => loaded⟩

/-- Consecutive words into a manifest slot (R74). -/
theorem State.winPut_manifest (s : State) {n o : Nat} {data : List Word} (hn : n < 4) (hd : data ≠ [])
    (ho : ∀ i < data.length, regionOf (o + 4 * i) = .manifest n) :
    SlotBytes n o (wordBytes data) s (s.winPut o data) ∧ (s.winPut o data).slotState n = slLOADED := by
  have pos : 0 < data.length := List.length_pos_iff.2 hd
  obtain ⟨bytes, loaded⟩ := s.winWords_manifest data hn ho le_rfl
  have region : regionOf o = .manifest n := ho 0 pos
  rw [List.take_length] at bytes
  rw [State.winPut, region, if_neg (by simp)]
  exact ⟨bytes, loaded pos⟩

/-! ## What refuses a write into a manifest slot -/

/-- Block protect in a manifest slot: an ARMED or FALLBACK slot within the protected range (R397, R398). -/
theorem State.protects_manifest (s : State) {n o : Nat} (ho : regionOf o = .manifest n) :
    s.protects o = (protRange (s.fld F.PMC_STATUS_LEVEL) o && (s.slotState n == slARMED || s.slotState n == slFALLBACK)) := by
  unfold State.protects
  simp only [ho]
  rfl

theorem Region.manifest_writable {n : Nat} {who : Who} (h : who.im = true) :
    (Region.manifest n).writable who.role = true := h

theorem Who.role_ne_tenant_of_im {who : Who} (h : who.im = true) : (who.role == .tenant) = false := by
  unfold Who.im at h
  revert h
  cases who.role <;> decide

/-- With the window open to an installer or maker, only the state of a manifest slot refuses a word: ARMED and FALLBACK are
PROTECTED (R74). -/
theorem State.refuseWinWrite_manifest {s : State} {who : Who} {n o : Nat} (ho : regionOf o = .manifest n)
    (him : who.im = true) (hon : s.on .pmm = true) (hrec : s.pwr.recovery = false) :
    s.refuseWinWrite who o = if s.slotState n = slARMED ∨ s.slotState n = slFALLBACK then some ansPROTECTED else none := by
  unfold State.refuseWinWrite
  rw [s.protects_manifest ho]
  simp only [ho, Who.role_ne_tenant_of_im him, Region.manifest_writable him, hon, hrec]
  by_cases h : s.slotState n = slARMED ∨ s.slotState n = slFALLBACK <;> simp [h]

theorem State.refuseWin_none {s : State} {who : Who} {o n : Nat} (h : ∀ i < n, s.refuseWinWrite who (o + 4 * i) = none) :
    s.refuseWin who o n = none := by
  rw [State.refuseWin, List.findSome?_eq_none_iff]
  intro i hi
  rw [h i (List.mem_range.1 hi), Option.map_none]

/-- The first word refused is the first refusal. -/
theorem State.refuseWin_first {s : State} {who : Who} {o n c : Nat} (hn : 0 < n) (h : s.refuseWinWrite who o = some c) :
    s.refuseWin who o n = some (c, o) := by
  obtain ⟨n, rfl⟩ := Nat.exists_eq_succ_of_ne_zero hn.ne'
  rw [State.refuseWin, List.range_succ_eq_map, List.findSome?_cons, Nat.mul_zero, Nat.add_zero, h, Option.map_some]

/-- An aligned write that no word refuses, with no long operation in progress. -/
theorem State.winWrite_of_none {s : State} {who : Who} {o : Nat} {data : List Word} (hbusy : s.longBusy = false)
    (ha : o % 4 = 0) (h : s.refuseWin who o data.length = none) :
    s.winWrite who o data = (s.winPut o data).answer ansOK := by
  unfold State.winWrite
  simp [hbusy, ha, h]

/-- An aligned write that one of its words refuses, with no long operation in progress. -/
theorem State.winWrite_of_some {s : State} {who : Who} {o c a : Nat} {data : List Word} (hbusy : s.longBusy = false)
    (ha : o % 4 = 0) (h : s.refuseWin who o data.length = some (c, a)) :
    s.winWrite who o data = (if s.protects a && c == ansPROTECTED then s.recordProt a else s).answer c := by
  unfold State.winWrite
  simp [hbusy, ha, h]

/-- A refusal, recorded or not, changes the recorder, the free values and the answer alone. -/
theorem State.frame_refusal (s : State) (b : Bool) (a c : Nat) (data : List Word) :
    Frame [.evr, .free, .ctr] s ((if b then s.recordProt a else s).answer c data) := by
  unfold Frame
  cases b <;> simp [State.recordProt]

/-! ## MAN_SLOT_WRITE (R74) -/

section
variable {w : When} {who : Who} {n o : Nat} {data : List Word} {s₀ s : State}

theorem slotBase_aligned (hao : o % 4 = 0) : (slotBase n + o) % 4 = 0 := by
  unfold slotBase; omega

theorem regionOf_slotWords (hn : n < 4) (hlen : o + 4 * data.length ≤ 0x8000000) :
    ∀ i < data.length, regionOf (slotBase n + o + 4 * i) = .manifest n := fun i hi => by
  rw [Nat.add_assoc]
  exact regionOf_slotBase hn (by omega)

/-- A write within slot `n` goes through the window at the slot's place in the array. -/
theorem exec_manSlotWrite (hs : s = s₀.advance w) (hn : n < 4) (hd : data ≠ [])
    (hlen : o + 4 * data.length ≤ 0x8000000) :
    exec (.manSlotWrite w who n o data) s₀ = .next (s.winWrite who (slotBase n + o) data) := by
  have pos : 0 < data.length := List.length_pos_iff.2 hd
  have unfolded : exec (.manSlotWrite w who n o data) s₀ =
      .next ((s₀.advance w).winWrite who (slotBase (n % 4) + o % 0x8000000) data) := rfl
  rw [unfolded, ← hs, Nat.mod_eq_of_lt hn, Nat.mod_eq_of_lt (by omega : o < 0x8000000)]

theorem State.winWrite_slot_loaded (hn : n < 4) (hao : o % 4 = 0)
    (hlen : o + 4 * data.length ≤ 0x8000000) (hbusy : s.longBusy = false) (him : who.im = true) (hon : s.on .pmm = true)
    (hrec : s.pwr.recovery = false) (harm : s.slotState n ≠ slARMED) (hfb : s.slotState n ≠ slFALLBACK) :
    s.winWrite who (slotBase n + o) data = (s.winPut (slotBase n + o) data).answer ansOK := by
  refine State.winWrite_of_none hbusy (slotBase_aligned hao) (State.refuseWin_none fun i hi => ?_)
  rw [State.refuseWinWrite_manifest (regionOf_slotWords hn hlen i hi) him hon hrec, if_neg (by simp [harm, hfb])]

theorem State.winWrite_slot_protected (hn : n < 4) (hao : o % 4 = 0) (hd : data ≠ [])
    (hlen : o + 4 * data.length ≤ 0x8000000) (hbusy : s.longBusy = false) (him : who.im = true) (hon : s.on .pmm = true)
    (hrec : s.pwr.recovery = false) (hst : s.slotState n = slARMED ∨ s.slotState n = slFALLBACK) :
    ∃ (b : Bool) (a : Nat), s.winWrite who (slotBase n + o) data = (if b then s.recordProt a else s).answer ansPROTECTED := by
  have pos : 0 < data.length := List.length_pos_iff.2 hd
  have first := State.refuseWinWrite_manifest (regionOf_slotWords hn hlen 0 pos) him hon hrec
  rw [if_pos hst] at first
  exact ⟨_, _, State.winWrite_of_some hbusy (slotBase_aligned hao) (State.refuseWin_first pos first)⟩

end

/-- Settles O11: the words of the write all lie in the slot's region, where only the slot's own state refuses them. -/
theorem manifestSlotWrite : Obligations.ManifestSlotWrite := by
  unfold Obligations.ManifestSlotWrite
  refine ⟨?_, ?_, ?_⟩
  · intro w who n o data s₀ s hs hn hao hd hlen hbusy him hon hrec harm hfb
    obtain ⟨bytes, loaded⟩ := s.winPut_manifest hn hd (regionOf_slotWords hn hlen)
    refine ⟨(s.winPut (slotBase n + o) data).answer ansOK, ?_, State.answer_answered _ _ _,
      (State.slotState_answer _ _ _ _).trans loaded, ?_, ?_,
      bytes.regs.trans (RegsKept.of_regs (State.answer_regs _ _ _)), bytes.rest.frame_answer _ _⟩
    · rw [exec_manSlotWrite hs hn hd hlen,
        State.winWrite_slot_loaded hn hao hlen hbusy him hon hrec harm hfb]
    · intro i hi
      have inside : i < (wordBytes data).length := by rwa [length_wordBytes]
      rw [State.answer_pm, bytes.home, Mem.byte_setBytes_same _ _ _ _ inside]
      exact (List.getD_eq_getElem _ _ inside).symm
    · intro a outside
      rw [← length_wordBytes] at outside
      rw [State.answer_pm, bytes.home, Mem.byte_setBytes_other _ _ _ outside]
  · intro w who n o data s₀ s hs hn hao hd hlen hbusy him hon hrec hst
    obtain ⟨b, a, refused⟩ := State.winWrite_slot_protected hn hao hd hlen hbusy him hon hrec hst
    refine ⟨_, by rw [exec_manSlotWrite hs hn hd hlen, refused], State.answer_answered _ _ _, ?_, ?_, ?_,
      State.frame_refusal s b a _ _⟩
    all_goals cases b <;> simp [State.recordProt]
  · intro s n i hn hi
    rw [s.protects_manifest (regionOf_slotBase hn hi)]
    constructor
    · intro hst
      simp [slARMED, slFALLBACK, hst]
    · intro harm hfb
      simp [slARMED, slFALLBACK, harm, hfb]

end Sys2Proof.Machine

/-! PROOFS. Program commands that R164 does not list for the current mode (R165): what a command of TSK_CTRL answers when it
is not listed, when the watchdogs let STOP and HOLD through, and the obligation `UnlistedProgramCommands`. -/

namespace Sys2Proof.Machine

section
variable {w : When} {who : Who} {h : Bool} {n : Nat} {s₀ s : State}

/-! ## A command of TSK_CTRL that is not listed -/

/-- A command that nothing refuses, but that the state does not list, is answered BADSTATE and changes nothing (R165). -/
theorem State.tskCommand_unlisted {v : Word} {ok : State → Bool} {f : State → State}
    (href : s.refuse who Reg.TSK_CTRL v = none) (hok : ok s = false) :
    s.tskCommand who v ok f = s.answer ansBADSTATE := by
  rw [State.tskCommand, href]
  exact if_neg (ne_true_of_eq_false hok)

/-! ## Watchdogs that are not due -/

/-- In STOP no watchdog is due: it counts in RUN, and in HOLD for a stepped cycle (R161). -/
theorem State.unexpired_of_stopped (hm : s.mode = 0) : Unexpired s := fun t => by
  unfold State.wdogDue
  cases s.taskRec t with
  | none => rfl
  | some r => simp [hm, modeRUN, modeHOLD]

theorem State.wdogFirst_of_unexpired (hu : Unexpired s) : s.wdogFirst = s := by
  have none_due : (s.taskNums.find? fun t => s.wdogDue t) = none :=
    List.find?_eq_none.2 fun t _ => ne_true_of_eq_false (hu t)
  rw [State.wdogFirst, none_due]
  exact ite_self s

/-! ## The six commands of R164, each where it is not listed -/

/-- STOP is listed for every mode but STOP. -/
theorem exec_programStop_unlisted (hs : s = s₀.advance w) (hm : s.mode = 0)
    (href : s.refuse who Reg.TSK_CTRL (tskCmd 1 0 false) = none) :
    exec (.programStop w who) s₀ = .next (s.answer ansBADSTATE) := by
  have unfolded : exec (.programStop w who) s₀ = .next ((s₀.advance w).cmdStop who) := rfl
  rw [unfolded, ← hs, State.cmdStop, State.wdogFirst_of_unexpired (State.unexpired_of_stopped hm),
    State.tskCommand_unlisted href (by simp [hm, modeSTOP])]

/-- HOLD is listed for RUN alone. -/
theorem exec_programHold_unlisted (hs : s = s₀.advance w) (hm : s.mode ≠ 1) (hu : Unexpired s)
    (href : s.refuse who Reg.TSK_CTRL (tskCmd 2 0 false) = none) :
    exec (.programHold w who) s₀ = .next (s.answer ansBADSTATE) := by
  have unfolded : exec (.programHold w who) s₀ = .next ((s₀.advance w).cmdHold who) := rfl
  rw [unfolded, ← hs, State.cmdHold, State.wdogFirst_of_unexpired hu,
    State.tskCommand_unlisted href (by simp [hm, modeRUN])]

/-- RESUME is listed for HOLD alone. -/
theorem exec_programResume_unlisted (hs : s = s₀.advance w) (hm : s.mode ≠ 2)
    (href : s.refuse who Reg.TSK_CTRL (tskCmd 3 0 false) = none) :
    exec (.programResume w who) s₀ = .next (s.answer ansBADSTATE) := by
  have unfolded : exec (.programResume w who) s₀ = .next ((s₀.advance w).cmdResume who) := rfl
  rw [unfolded, ← hs, State.cmdResume, State.tskCommand_unlisted href (by simp [hm, modeHOLD])]

/-- STEP is listed for HOLD alone. -/
theorem exec_programStep_unlisted (hs : s = s₀.advance w) (hm : s.mode ≠ 2) (hn : n < 64)
    (href : s.refuse who Reg.TSK_CTRL (tskCmd 4 n false) = none) :
    exec (.programStep w who n) s₀ = .next (s.answer ansBADSTATE) := by
  have unfolded : exec (.programStep w who n) s₀ = .next ((s₀.advance w).cmdStep who (n % 64)) := rfl
  rw [unfolded, ← hs, Nat.mod_eq_of_lt hn, State.cmdStep, State.tskCommand_unlisted href (by simp [hm, modeHOLD])]

/-- WARM (kind 1) and COLD (kind 2) are listed for STOP and HOLD, with a manifest with TASKS armed. -/
theorem State.cmdRestart_unlisted {kind : Nat} (hl : s.mode = 1 ∨ s.program.none? = true ∨ s.armed = false)
    (href : s.refuse who Reg.TSK_CTRL (tskCmd (4 + kind) 0 h) = none) :
    s.cmdRestart who kind h = s.answer ansBADSTATE := by
  refine State.tskCommand_unlisted href ?_
  rcases hl with running | none_in_force | unarmed
  · simp [running, modeRUN]
  · simp [none_in_force]
  · simp [unarmed]

theorem exec_programWarm_unlisted (hs : s = s₀.advance w) (hl : s.mode = 1 ∨ s.program.none? = true ∨ s.armed = false)
    (href : s.refuse who Reg.TSK_CTRL (tskCmd 5 0 h) = none) :
    exec (.programWarm w who h) s₀ = .next (s.answer ansBADSTATE) := by
  have unfolded : exec (.programWarm w who h) s₀ = .next ((s₀.advance w).cmdRestart who 1 h) := rfl
  rw [unfolded, ← hs, State.cmdRestart_unlisted (kind := 1) hl href]

theorem exec_programCold_unlisted (hs : s = s₀.advance w) (hl : s.mode = 1 ∨ s.program.none? = true ∨ s.armed = false)
    (href : s.refuse who Reg.TSK_CTRL (tskCmd 6 0 h) = none) :
    exec (.programCold w who h) s₀ = .next (s.answer ansBADSTATE) := by
  have unfolded : exec (.programCold w who h) s₀ = .next ((s₀.advance w).cmdRestart who 2 h) := rfl
  rw [unfolded, ← hs, State.cmdRestart_unlisted (kind := 2) hl href]

end

/-- Settles O55: mode by mode, each command that R164 does not list there fails its own check of the state, and with no
watchdog due nothing goes before it. -/
theorem unlistedProgramCommands : Obligations.UnlistedProgramCommands := by
  unfold Obligations.UnlistedProgramCommands
  refine ⟨?inRun, ?inStop, ?inHold, ?withoutProgram⟩
  case inRun =>
    intro w who h n s₀ s hs running
    have not_held : s.mode ≠ 2 := by omega
    exact ⟨exec_programResume_unlisted hs not_held, exec_programStep_unlisted hs not_held,
      exec_programWarm_unlisted hs (.inl running), exec_programCold_unlisted hs (.inl running)⟩
  case inStop =>
    intro w who n s₀ s hs stopped
    have not_held : s.mode ≠ 2 := by omega
    exact ⟨exec_programStop_unlisted hs stopped,
      exec_programHold_unlisted hs (by omega) (State.unexpired_of_stopped stopped),
      exec_programResume_unlisted hs not_held, exec_programStep_unlisted hs not_held⟩
  case inHold =>
    intro w who s₀ s hs held hu
    exact exec_programHold_unlisted hs (by omega) hu
  case withoutProgram =>
    intro w who h s₀ s hs none_armed
    exact ⟨exec_programWarm_unlisted hs (.inr none_armed), exec_programCold_unlisted hs (.inr none_armed)⟩

end Sys2Proof.Machine

/-! PROOFS. The performance counters' modes (R414): bits of register words, one counter's count and its sticky OVF bit, the
write that clears OVF, and the obligation `CounterModes`. -/

namespace Sys2Proof

/-! ## Single bits of words and numbers -/

theorem Word.bit_eq_testBit (w : Word) (i : Nat) : w.bit i = w.toNat.testBit i := by
  rw [Word.bit, Word.bits, Nat.testBit_eq_decide_div_mod_eq, Nat.add_sub_cancel_left, pow_one]
  rfl

/-- A bit of a field's value is the word's bit at its place. -/
theorem Word.testBit_bits (w : Word) {hi lo i : Nat} (hl : lo ≤ i) (hh : i ≤ hi) :
    (w.bits hi lo).testBit (i - lo) = w.bit i := by
  rw [Word.bit_eq_testBit, Word.bits, Nat.testBit_mod_two_pow, Nat.testBit_div_two_pow, Nat.sub_add_cancel hl,
    decide_eq_true (show i - lo < hi + 1 - lo by omega), Bool.true_and]

/-- A bit within a field, after a store into the field. -/
theorem Word.bit_setBits (w : Word) {hi lo i : Nat} (v : Nat) (hl : lo ≤ i) (hh : i ≤ hi) (h32 : hi < 32) :
    (w.setBits hi lo v).bit i = v.testBit (i - lo) := by
  rw [← Word.testBit_bits _ hl hh, Word.bits_setBits_same w v (hl.trans hh) h32, Nat.testBit_mod_two_pow,
    decide_eq_true (show i - lo < hi + 1 - lo by omega), Bool.true_and]

theorem Machine.testBit_putBit (v n i : Nat) (b : Bool) :
    (Machine.putBit v n b).testBit i = if i = n then b else v.testBit i := by
  have parts : Machine.putBit v n b = 2 ^ n * (2 ^ 1 * (v / 2 ^ (n + 1)) + b2n b) + v % 2 ^ n := by
    rw [Machine.putBit]; ring
  have small : b2n b < 2 ^ 1 := by cases b <;> decide
  rw [parts, Nat.testBit_two_pow_mul_add _ (Nat.mod_lt _ (by positivity))]
  rcases lt_trichotomy i n with below | rfl | above
  · rw [if_pos below, if_neg below.ne, Nat.testBit_mod_two_pow, decide_eq_true below, Bool.true_and]
  · rw [if_neg (lt_irrefl i), if_pos rfl, Nat.sub_self, Nat.testBit_two_pow_mul_add _ small]
    cases b <;> rfl
  · rw [if_neg (by omega), if_neg above.ne', Nat.testBit_two_pow_mul_add _ small, if_neg (by omega),
      Nat.testBit_div_two_pow]
    congr 1
    omega

/-- Clearing the bits that are written with 1, in a value of `w` bits (W1C of R6). -/
theorem testBit_land_xor_ones (old v : Nat) {w i : Nat} (hi : i < w) :
    (Nat.land old (Nat.xor v (2 ^ w - 1))).testBit i = (old.testBit i && !v.testBit i) := by
  have ones : (2 ^ w - 1).testBit i = true := by rw [Nat.testBit_two_pow_sub_one, decide_eq_true hi]
  calc (old &&& (v ^^^ (2 ^ w - 1))).testBit i
      = (old.testBit i && (v.testBit i ^^ (2 ^ w - 1).testBit i)) := by rw [Nat.testBit_and, Nat.testBit_xor]
    _ = (old.testBit i && !v.testBit i) := by rw [ones, Bool.xor_true]

end Sys2Proof

namespace Sys2Proof.Machine

/-! ## One counter's count and its OVF bit -/

/-- Counter `i` of unit `u` holds `v`. -/
def State.putCount (s : State) (u i v : Nat) : State :=
  { s with perf := { s.perf with cnt := s.perf.cnt.put (8 * u + i) v } }

/-- The sticky OVF bit of counter `i` of unit `u` is set. -/
def State.setOvf (s : State) (u i : Nat) : State :=
  s.setFld (F.PRF_U_STATUS_OVF u) (putBit (s.fld (F.PRF_U_STATUS_OVF u)) i true)

/-- What a count that passed 2^48 - 1 leaves: SAT stops there, WRAP keeps the residue. -/
def overCount (sat : Bool) (v : Nat) : Nat := if sat then 2 ^ 48 - 1 else v % 2 ^ 48

section
variable (s : State) (u i : Nat)

@[simp] theorem State.putCount_regs (v : Nat) : (s.putCount u i v).regs = s.regs := rfl

theorem State.cnt_putCount_same (v : Nat) : (s.putCount u i v).perf.cnt.getD (8 * u + i) 0 = v := by
  rw [State.putCount, Tab.getD, Tab.get?_put_same, Option.getD_some]

theorem State.cnt_putCount_other (v : Nat) {k : Nat} (hk : k ≠ 8 * u + i) :
    (s.putCount u i v).perf.cnt.getD k 0 = s.perf.cnt.getD k 0 := by
  rw [State.putCount, Tab.getD, Tab.get?_put_other _ _ hk, Tab.getD]

@[simp] theorem State.setOvf_perf : (s.setOvf u i).perf = s.perf := by rw [State.setOvf, State.setFld_perf]

theorem State.setOvf_kept : RegsKept [Reg.PRF_U_STATUS u] s (s.setOvf u i) :=
  (RegsKept.refl _ s).setFld _ (by simp)

theorem State.bit_setOvf {j : Nat} (hj : j < 8) :
    ((s.setOvf u i).rd (Reg.PRF_U_STATUS u)).bit j = (decide (j = i) || (s.rd (Reg.PRF_U_STATUS u)).bit j) := by
  have old : (s.fld (F.PRF_U_STATUS_OVF u)).testBit j = (s.rd (Reg.PRF_U_STATUS u)).bit j :=
    Word.testBit_bits _ (Nat.zero_le j) (Nat.le_of_lt_succ hj)
  rw [State.setOvf, State.setFld, State.rd_wr_same,
    Word.bit_setBits _ _ (Nat.zero_le j) (Nat.le_of_lt_succ hj) (by decide : 7 < 32), Nat.sub_zero, testBit_putBit, old]
  by_cases here : j = i <;> simp [here]

end

/-! ## `perfAdd`, below 2^48 and from there on -/

section
variable (s : State) (u i n : Nat)

theorem State.perfAdd_below (h : s.perf.cnt.getD (8 * u + i) 0 + n < 2 ^ 48) :
    s.perfAdd u i n = s.putCount u i (s.perf.cnt.getD (8 * u + i) 0 + n) := by
  simp only [State.perfAdd, decide_eq_false (Nat.not_le.2 h), Bool.false_eq_true, if_false]
  rfl

theorem State.perfAdd_over (h : 2 ^ 48 ≤ s.perf.cnt.getD (8 * u + i) 0 + n) :
    s.perfAdd u i n = (s.putCount u i (overCount ((s.rd (Reg.PRF_U_CFG u i)).bit 30)
      (s.perf.cnt.getD (8 * u + i) 0 + n))).setOvf u i := by
  simp only [State.perfAdd, decide_eq_true h, if_true]
  rfl

/-- The two ways in which a count can go. -/
theorem State.perfAdd_cases :
    (∃ v, s.perfAdd u i n = s.putCount u i v) ∨ ∃ v, s.perfAdd u i n = (s.putCount u i v).setOvf u i :=
  (lt_or_ge _ _).imp (fun h => ⟨_, s.perfAdd_below u i n h⟩) fun h => ⟨_, s.perfAdd_over u i n h⟩

theorem State.cnt_perfAdd_over (h : 2 ^ 48 ≤ s.perf.cnt.getD (8 * u + i) 0 + n) :
    (s.perfAdd u i n).perf.cnt.getD (8 * u + i) 0 =
      overCount ((s.rd (Reg.PRF_U_CFG u i)).bit 30) (s.perf.cnt.getD (8 * u + i) 0 + n) := by
  rw [s.perfAdd_over u i n h, State.setOvf_perf, State.cnt_putCount_same]

theorem State.ovf_perfAdd_over (hi : i < 8) (h : 2 ^ 48 ≤ s.perf.cnt.getD (8 * u + i) 0 + n) :
    ((s.perfAdd u i n).rd (Reg.PRF_U_STATUS u)).bit i = true := by
  rw [s.perfAdd_over u i n h, State.bit_setOvf _ _ _ hi, decide_eq_true rfl, Bool.true_or]

/-- A count sets its own counter's OVF bit at most, and clears none. -/
theorem State.ovf_perfAdd_kept {j : Nat} (hj : j < 8)
    (h : j ≠ i ∨ (s.rd (Reg.PRF_U_STATUS u)).bit j = true) :
    ((s.perfAdd u i n).rd (Reg.PRF_U_STATUS u)).bit j = (s.rd (Reg.PRF_U_STATUS u)).bit j := by
  rcases s.perfAdd_cases u i n with ⟨v, e⟩ | ⟨v, e⟩
  · rw [e, State.rd_of_regs (s.putCount_regs u i v)]
  · rw [e, State.bit_setOvf _ _ _ hj, State.rd_of_regs (s.putCount_regs u i v)]
    rcases h with other | set
    · rw [decide_eq_false other, Bool.false_or]
    · rw [set, Bool.or_true]

theorem State.cnt_perfAdd_other {k : Nat} (hk : k ≠ 8 * u + i) :
    (s.perfAdd u i n).perf.cnt.getD k 0 = s.perf.cnt.getD k 0 := by
  rcases s.perfAdd_cases u i n with ⟨v, e⟩ | ⟨v, e⟩
  · rw [e, State.cnt_putCount_other _ _ _ _ hk]
  · rw [e, State.setOvf_perf, State.cnt_putCount_other _ _ _ _ hk]

theorem State.perfAdd_kept : RegsKept [Reg.PRF_U_STATUS u] s (s.perfAdd u i n) := by
  rcases s.perfAdd_cases u i n with ⟨v, e⟩ | ⟨v, e⟩
  · rw [e]; exact RegsKept.of_regs rfl
  · rw [e]; exact (RegsKept.of_regs (s.putCount_regs u i v)).trans (State.setOvf_kept _ u i)

theorem State.frame_perfAdd : Frame [.regs, .perf] s (s.perfAdd u i n) := by
  unfold Frame
  rcases s.perfAdd_cases u i n with ⟨v, e⟩ | ⟨v, e⟩ <;> simp [e, State.putCount, State.setOvf]

end

/-! ## Plain register writes -/

section
variable {s : State} {who : Who} {a : Nat} {d : RegDesc} {v : Word}

/-- A write that nothing refuses passes the check of roles (R7). -/
theorem State.mayWrite_of_refuse_none (hd : findReg a = some d) (href : s.refuse who a v = none) :
    d.mayWrite who.role (s.peek a) v = true := by
  by_contra denied
  simp only [State.refuse, hd, Bool.eq_false_iff.2 denied, Bool.not_false, Bool.true_or, if_true] at href
  split_ifs at href

/-- A write that nothing refuses, of a register that no unit acts on, is stored by R6 and R7. -/
theorem State.plainWrite_stored (hd : findReg a = some d) (hc : canonAddr a = a)
    (href : s.refuse who a v = none) (hv : s.valueBad a v = false) :
    s.plainWrite who a v = (s.wr a (d.store who.role (s.rd a) v)).answer ansOK := by
  simp [State.plainWrite, href, hv, hd, hc]

end

/-! ## Words of the PRF block that no unit acts on -/

section
variable {s : State} {who : Who} {a : Nat} {v : Word} (hlo : 0x90000 ≤ a) (hhi : a < 0xA0000)
include hlo hhi

theorem blockOf_prf : blockOf a = some .prf := by
  unfold blockOf
  repeat rw [if_neg (by omega)]
  rw [if_pos hhi]

theorem canonAddr_prf : canonAddr a = a := by
  rw [canonAddr, if_neg (by omega)]

theorem ne_of_prf {b : Nat} (hb : b < 0x90000 ∨ 0xA0000 ≤ b) : a ≠ b := by omega

theorem State.valueBad_prf : s.valueBad a v = false := by
  have below : ¬0x400100 ≤ a := by omega
  simp (disch := decide) [State.valueBad, ne_of_prf hlo hhi, below]

/-- A write of a word of PRF that is neither PRF_CTRL nor a counter's configuration is a plain one. -/
theorem State.writeWord_prf (ha : a % 4 = 0) (hctrl : a ≠ Reg.PRF_CTRL)
    (hcfg : ∀ u < 4, ∀ i < 8, a ≠ Reg.PRF_U_CFG u i) (href : s.refuse who a v = none) :
    s.writeWord who a v = s.plainWrite who a v := by
  have not_cfg : ((List.range 4).any fun u => (List.range 8).any fun i => a == Reg.PRF_U_CFG u i) = false := by
    simpa using hcfg
  have before : s.beforeWrite a = s := by
    simp (disch := decide) [State.beforeWrite, ne_of_prf hlo hhi, not_cfg]
  simp (disch := decide) [State.writeWord, State.afterWrite, ha, blockOf_prf hlo hhi, href, before, hctrl,
    ne_of_prf hlo hhi]

/-- Such a word, once stored, is a transfer of rank 0 on the trunk (R403). -/
theorem State.putWord_prf {d : RegDesc} (ha : a % 4 = 0) (hctrl : a ≠ Reg.PRF_CTRL)
    (hcfg : ∀ u < 4, ∀ i < 8, a ≠ Reg.PRF_U_CFG u i) (hd : findReg a = some d) (href : s.refuse who a v = none) :
    s.putWord who a v = ((s.wr a (d.store who.role (s.rd a) v)).answer ansOK).trunk 0 3 4 .write := by
  have stored : s.writeWord who a v = (s.wr a (d.store who.role (s.rd a) v)).answer ansOK := by
    rw [State.writeWord_prf hlo hhi ha hctrl hcfg href,
      State.plainWrite_stored hd (canonAddr_prf hlo hhi) href (State.valueBad_prf hlo hhi)]
  rw [State.putWord, stored, State.regAccess, blockOf_prf hlo hhi]
  rfl

end

/-! ## A write of PRF_Uu_STATUS -/

/-- The table row of PRF_Uu_STATUS (R419). -/
def prfStatusDesc : RegDesc :=
  ⟨"PRF_U_STATUS", 0x90128, 4, 256, 1, 256,
    [⟨8, 8, .ro, [], 0, false⟩, ⟨7, 0, .w1c, [.installer, .maker], 0, false⟩]⟩

section
variable {s₀ s : State} {w : When} {who : Who} {u : Nat} {v : Word}

theorem findReg_prfStatus (hu : u < 4) : findReg (Reg.PRF_U_STATUS u) = some prfStatusDesc := by
  interval_cases u <;> rfl

/-- Only an installer or the maker writes PRF_Uu_STATUS. -/
theorem im_of_prfStatus_mayWrite {r : Role} {old : Word} (h : prfStatusDesc.mayWrite r old v = true) :
    r = .installer ∨ r = .maker := by
  cases r with
  | installer => exact .inl rfl
  | maker => exact .inr rfl
  | operator | tenant => cases h

/-- OVF is W1C: the bits that are written with 1 clear. -/
theorem bit_prfStatus_store {r : Role} (hr : r = .installer ∨ r = .maker) (old : Word) {i : Nat} (hi : i < 8) :
    (prfStatusDesc.store r old v).bit i = (old.bit i && !v.bit i) := by
  have stored : prfStatusDesc.store r old v =
      old.setBits 7 0 (Nat.land (old.bits 7 0) (Nat.xor (v.bits 7 0) (2 ^ 8 - 1))) := by
    rcases hr with rfl | rfl <;> rfl
  have within : ∀ x : Word, (x.bits 7 0).testBit i = x.bit i := fun x => x.testBit_bits (Nat.zero_le i) (by omega)
  rw [stored, Word.bit_setBits _ _ (Nat.zero_le i) (by omega) (by decide), Nat.sub_zero, testBit_land_xor_ones _ _ hi,
    within, within]

/-- The word `v` written into PRF_Uu_STATUS by a role, answered OK, with its transfer on the trunk. -/
def State.writePrfStatus (s : State) (r : Role) (u : Nat) (v : Word) : State :=
  ((s.wr (Reg.PRF_U_STATUS u) (prfStatusDesc.store r (s.rd (Reg.PRF_U_STATUS u)) v)).answer ansOK).trunk 0 3 4 .write

/-- A REGISTER_WRITE of PRF_Uu_STATUS that nothing refuses. -/
theorem exec_prfStatusWrite (hs : s = s₀.advance w) (hu : u < 4) (href : s.refuse who (Reg.PRF_U_STATUS u) v = none) :
    exec (.registerWrite w who (Reg.PRF_U_STATUS u) v) s₀ = .next (s.writePrfStatus who.role u v) := by
  have unfolded : exec (.registerWrite w who (Reg.PRF_U_STATUS u) v) s₀ =
      .next ((s₀.advance w).putWord who (Reg.PRF_U_STATUS u) v) := rfl
  have place : Reg.PRF_U_STATUS u = 0x90128 + 256 * u := rfl
  have not_cfg : ∀ u' < 4, ∀ i < 8, Reg.PRF_U_STATUS u ≠ Reg.PRF_U_CFG u' i := fun u' _ i _ => by
    have cfg : Reg.PRF_U_CFG u' i = 0x90100 + 256 * u' + 4 * i := rfl
    omega
  rw [unfolded, ← hs, State.putWord_prf (by omega) (by omega) (by omega)
    (by rw [place, Reg.PRF_CTRL]; omega) not_cfg (findReg_prfStatus hu) href]
  rfl

theorem State.bit_writePrfStatus {r : Role} (hr : r = .installer ∨ r = .maker) {i : Nat} (hi : i < 8) :
    ((s.writePrfStatus r u v).rd (Reg.PRF_U_STATUS u)).bit i = ((s.rd (Reg.PRF_U_STATUS u)).bit i && !v.bit i) := by
  rw [State.writePrfStatus, State.rd_of_regs (State.trunk_regs ..), State.rd_of_regs (State.answer_regs ..),
    State.rd_wr_same, bit_prfStatus_store hr _ hi]

theorem State.writePrfStatus_answered {r : Role} : (s.writePrfStatus r u v).answered ansOK := by
  rw [State.answered, State.writePrfStatus, State.trunk_ctr]
  rfl

theorem State.writePrfStatus_kept {r : Role} : RegsKept [Reg.PRF_U_STATUS u] s (s.writePrfStatus r u v) :=
  ((RegsKept.refl _ s).wr (prfStatusDesc.store r (s.rd (Reg.PRF_U_STATUS u)) v) (List.mem_singleton_self _)).trans
    (RegsKept.of_regs (by rw [State.writePrfStatus, State.trunk_regs, State.answer_regs]))

theorem State.frame_writePrfStatus {r : Role} : Frame [.regs, .ctr, .perf, .arb] s (s.writePrfStatus r u v) := by
  unfold Frame
  simp [State.writePrfStatus]

end

/-- Settles O57: a count either stays below 2^48 and is stored, or passes it and is stored with its OVF bit set; a write that
nothing refuses comes from a role that OVF lists, so it clears exactly the bits that it writes with 1. -/
theorem counterModes : Obligations.CounterModes := by
  unfold Obligations.CounterModes
  refine ⟨?counting, ?clearing⟩
  case counting =>
    rintro s u i n v - hi rfl -
    refine ⟨fun below => ?_, fun past wrap => ?_, fun past sat => ?_,
      fun j hj other => s.ovf_perfAdd_kept u i n hj (.inl other),
      fun set => (s.ovf_perfAdd_kept u i n hi (.inr set)).trans set,
      fun k hk => s.cnt_perfAdd_other u i n hk, s.perfAdd_kept u i n, s.frame_perfAdd u i n⟩
    · rw [s.perfAdd_below u i n below]
      exact ⟨s.cnt_putCount_same u i _, s.putCount_regs u i _⟩
    · exact ⟨by rw [s.cnt_perfAdd_over u i n past, wrap]; rfl, s.ovf_perfAdd_over u i n hi past⟩
    · exact ⟨by rw [s.cnt_perfAdd_over u i n past, sat]; rfl, s.ovf_perfAdd_over u i n hi past⟩
  case clearing =>
    intro w who u v s₀ s hs hu href
    have listed := im_of_prfStatus_mayWrite (State.mayWrite_of_refuse_none (findReg_prfStatus hu) href)
    exact ⟨_, exec_prfStatusWrite hs hu href, State.writePrfStatus_answered,
      fun i hi => State.bit_writePrfStatus listed hi, State.writePrfStatus_kept, State.frame_writePrfStatus⟩

end Sys2Proof.Machine

/-! PROOFS. Commands on a firmware image that is not fit (R531): what a command of PMS_CTRL answers when its condition fails,
the fields of a command word of MOD_IMG_CTRL, and the obligation `ImageNotVerified`. -/

namespace Sys2Proof.Machine

section
variable {w : When} {who : Who} {s₀ s : State}

/-! ## HANDOVER -/

/-- A command of PMS_CTRL that nothing refuses and that is not for the maker alone, but whose condition fails, is answered
BADSTATE and changes nothing. -/
theorem State.pmsCommand_badstate {cmd img : Nat} {ok : State → Bool} {f : State → State} (hcmd : cmd < 4)
    (href : s.refuse who Reg.PMS_CTRL (pmsCmd cmd img) = none) (hok : ok s = false) :
    s.pmsCommand who cmd img ok f = s.answer ansBADSTATE := by
  rw [State.pmsCommand, href]
  simp [Nat.not_le.2 hcmd, hok]

/-- No handover starts to an image that is not VERIFIED or is older than MINIMG (R66, R531). -/
theorem State.handoverOk_of_unfit {img : Nat}
    (unfit : s.imgState img ≠ 3 ∨ (s.rd (Reg.MOD_IMG_SLOT1 img)).toNat < s.minImg) : s.handoverOk img = false := by
  rw [State.handoverOk]
  rcases unfit with unverified | old
  · rw [beq_eq_false_iff_ne.2 unverified, Bool.and_false, Bool.false_and]
  · rw [decide_eq_false (Nat.not_le.2 old), Bool.and_false]

theorem exec_pmsHandover_unfit {img : Nat} (hs : s = s₀.advance w) (hi : img < 4)
    (href : s.refuse who Reg.PMS_CTRL (pmsCmd 1 img) = none)
    (unfit : s.imgState img ≠ 3 ∨ (s.rd (Reg.MOD_IMG_SLOT1 img)).toNat < s.minImg) :
    exec (.pmsHandover w who img) s₀ = .next (s.answer ansBADSTATE) := by
  have unfolded : exec (.pmsHandover w who img) s₀ = .next ((s₀.advance w).cmdHandover who (img % 4)) := rfl
  rw [unfolded, ← hs, Nat.mod_eq_of_lt hi, State.cmdHandover,
    State.pmsCommand_badstate (by decide : 1 < 4) href (State.handoverOk_of_unfit unfit)]

/-! ## PMSWITCH -/

/-- The number that a command word of MOD_IMG_CTRL holds. -/
theorem toNat_imgCmd {cmd : Nat} (src dst : Nat) (hc : cmd < 16) :
    (imgCmd cmd src dst).toNat = cmd + src % 4 * 256 + dst % 4 * 4096 := by
  rw [imgCmd, n2w, BitVec.toNat_ofNat, Nat.mod_eq_of_lt (by omega)]

theorem imgCmd_bits_cmd {cmd : Nat} (src dst : Nat) (hc : cmd < 16) : (imgCmd cmd src dst).bits 3 0 = cmd := by
  rw [Word.bits, toNat_imgCmd src dst hc]
  omega

theorem imgCmd_bits_src {cmd src : Nat} (dst : Nat) (hc : cmd < 16) (hs : src < 4) :
    (imgCmd cmd src dst).bits 9 8 = src := by
  rw [Word.bits, toNat_imgCmd src dst hc]
  omega

/-- Outside recovery mode the PMSWITCH word that nothing refuses is judged by PMSWITCH alone. -/
theorem State.imgCtrl_pmswitch {src : Nat} (hsrc : src < 4)
    (href : s.refuse who Reg.MOD_IMG_CTRL (imgCmd 3 src 0) = none) (normal : s.pwr.recovery = false) :
    s.imgCtrl who (imgCmd 3 src 0) = s.imgPmswitch who src := by
  rw [State.imgCtrl, href]
  simp [imgCmd_bits_cmd src 0 (by decide : 3 < 16), imgCmd_bits_src 0 (by decide : 3 < 16) hsrc, normal]

/-- The Postmaster does not switch to an image that is not VERIFIED, nor while lanes change (R531). -/
theorem State.imgPmswitch_badstate {src : Nat}
    (barred : s.imgState src ≠ 3 ∨ s.pms.change ≠ none ∨ s.fld F.PMS_STATUS_PHASE ≠ 0) :
    s.imgPmswitch who src = s.answer ansBADSTATE := by
  refine if_pos ?_
  rcases barred with unverified | changing | phase
  · simp [unverified]
  · simp [Option.isSome_iff_ne_none.2 changing]
  · simp [phase]

theorem exec_imgPmswitch_barred {src : Nat} (hs : s = s₀.advance w) (hsrc : src < 4)
    (href : s.refuse who Reg.MOD_IMG_CTRL (imgCmd 3 src 0) = none) (normal : s.pwr.recovery = false)
    (barred : s.imgState src ≠ 3 ∨ s.pms.change ≠ none ∨ s.fld F.PMS_STATUS_PHASE ≠ 0) :
    exec (.imgPmswitch w who src) s₀ = .next (s.answer ansBADSTATE) := by
  have unfolded : exec (.imgPmswitch w who src) s₀ = .next ((s₀.advance w).imgCtrl who (imgCmd 3 src 0)) := rfl
  rw [unfolded, ← hs, State.imgCtrl_pmswitch hsrc href normal, State.imgPmswitch_badstate barred]

end

/-- Settles O56: an unfit image fails HANDOVER's own condition; the word of PMSWITCH decodes to its command and slot, and an
unverified image or a change of lanes fails PMSWITCH's. -/
theorem imageNotVerified : Obligations.ImageNotVerified := by
  unfold Obligations.ImageNotVerified
  exact ⟨fun _ _ _ _ _ hs hi href unfit => exec_pmsHandover_unfit hs hi href unfit,
    fun _ _ _ _ _ hs hsrc href normal barred => exec_imgPmswitch_barred hs hsrc href normal barred⟩

end Sys2Proof.Machine
